-- ==== Sys2Proof/Syntax.lean ====
section
/-! DEFINITION. The commands of the block: one constructor of `Instr` per row of spec/opcode_table.json. The table gives
its rows no operands (`"fields": []`), so the operands are the model's (log entry 1): what the rule of the row says the
command carries, or what only the world outside the block can say (a measured value, the outcome of a transfer). -/

namespace Sys2Proof

/-- The two compute dies. -/
inductive Half where
  | A
  | B
  deriving DecidableEq, Repr, Inhabited

/-- The three dies. -/
inductive Die where
  | A
  | B
  | P
  deriving DecidableEq, Repr, Inhabited

/-- The two worlds of a half (R210). -/
inductive World where
  | opn
  | trusted
  deriving DecidableEq, Repr, Inhabited

/-- What issues a transaction in a half (R210): an application hart, the safety cores, the PCIe port for its physical function (0) or a light
virtual function, the engine of the Function at a page code, or the twin link for an incoming mirror write. Its tag follows from the state. -/
inductive Issuer where
  | hart (n : Fin 8)
  | safety
  | pcie (vf : Nat)
  | engine (code : Nat)
  | mirror
  deriving DecidableEq, Repr, Inhabited

/-- The requester of a host access: the half and what issues the access there. -/
structure Requester where
  half : Half
  by_ : Issuer
  deriving DecidableEq, Repr

/-- The kinds of memory access that a region controller tells apart (R214, WLD_RFAULT0.KIND). -/
inductive AccKind where
  | read
  | write
  | fetch
  | mirror
  deriving DecidableEq, Repr

/-- A display timing (R111): pixel clock, active and total pixels and lines, front porches, sync widths, sync polarities (true active high). -/
structure Timing where
  khz : Nat
  hActive : Nat
  hTotal : Nat
  vActive : Nat
  vTotal : Nat
  hsStart : Nat
  hsWidth : Nat
  hsPol : Bool
  vsStart : Nat
  vsWidth : Nat
  vsPol : Bool
  deriving DecidableEq, Repr, Inhabited

/-- What a sink's DPCD says (R114, R116, R120). `rates` holds codes of SCN_LINK.RATE. -/
structure SinkCaps where
  rates : List Nat
  maxLanes : Nat
  psr2 : Bool
  sinkCrc : Bool
  deriving DecidableEq, Repr, Inhabited

/-- Range limits of a sink: bounds of pixel clock (kHz) and frame rate (Hz) (R117). -/
structure SinkRange where
  khzMin : Nat
  khzMax : Nat
  hzMin : Nat
  hzMax : Nat
  deriving DecidableEq, Repr, Inhabited

/-- The identity and timings read from DisplayID or EDID (R116, R117, R119). -/
structure SinkId where
  manufacturer : Nat
  product : Nat
  serial : Nat
  timings : List Timing
  preferred : Timing
  range : Option SinkRange
  deriving DecidableEq, Repr, Inhabited

/-- The end of one AUX transaction of discovery (R116). -/
inductive AuxResult where
  | failed
  | dpcd (caps : SinkCaps)
  | identity (id : SinkId)
  deriving DecidableEq, Repr

/-- The end of the link status read (R122). -/
inductive LinkRead where
  | failed
  | lost
  | intact
  deriving DecidableEq, Repr

/-- A dirty line of a hart's L1 data cache: the line's address and its 64 bytes (R219). -/
structure CacheLine where
  addr : Nat
  bytes : List Byte
  deriving DecidableEq, Repr, Inhabited

/-- A hart at an instruction boundary, with the dirty lines of its L1 data cache (R219). -/
structure HartPoint where
  hart : Fin 8
  dirty : List CacheLine
  deriving DecidableEq, Repr

/-- An MRET of a hart (R211, R218): whether it returns to M-mode code, and the Open-world enables: the identities of the S file (1) and of the guest
files (2 to 8) that the file and the hart's own enables let through. -/
structure HartReturn extends HartPoint where
  toM : Bool
  openEn : List (Nat × Nat)
  deriving DecidableEq, Repr

/-- A write of hpart (R211): the value, and whether the instruction runs below HS-mode (VS, U or VU). -/
structure HpartValue where
  value : Word
  lower : Bool
  deriving DecidableEq, Repr

/-- What a march found in a row (R256, R257): whether the row is bad, and its words that had an uncorrectable error when they were saved. -/
structure RowFound where
  bad : Bool
  lost : List (Fin 64)
  deriving DecidableEq, Repr

/-- One access at a scratchpad port (R252): who issues it, and whether it is an instruction fetch. -/
structure SpmPort where
  by_ : Issuer
  fetch : Bool
  offset : Nat
  len : Nat
  write : Option (List Byte)
  deriving DecidableEq, Repr

/-- An error found in a word that a port of the scratchpad reads (R254): the port (true E), the word as its byte offset divided by 8, and whether two
bits are wrong. -/
structure SpmErr where
  port : Bool
  word : Nat
  double : Bool
  deriving DecidableEq, Repr

/-- A DRAM request that a requester of R265 without a row of its own issues: who issues it, and whether it is an instruction fetch. -/
structure DramReq where
  by_ : Issuer
  fetch : Bool
  addr : Nat
  write : Option (List Byte)
  deriving DecidableEq, Repr

/-- LOG2 and CPL_TAIL of a mailbox as a read over PCIe returns them (R237). -/
structure MboxRing where
  log2 : Nat
  cplTail : Nat
  deriving DecidableEq, Repr

/-- What a mailbox read over PCIe returns (R237): the ring fields and the 64 bytes of the command. -/
structure MboxRead extends MboxRing where
  cmd : List Byte
  deriving DecidableEq, Repr

/-- A mailbox read over PCIe with the tag of its request (R243). A mailbox in the half's own memory does not look at it. -/
structure BusRead extends MboxRead where
  tag : Nat
  deriving DecidableEq, Repr

/-- How a queue unit is pushed: the 64-bit store, or the write of PUSH_HI with the held low word (R285, R449). -/
inductive QuPush where
  | wide (data : BitVec 64)
  | high (data : Word)
  deriving DecidableEq, Repr

/-- How a queue unit is popped: the 64-bit load, or the read of POP_LO. -/
inductive QuPop where
  | wide
  | low
  deriving DecidableEq, Repr

/-- What the test of one line measures (R310): its raw count driven alone, its reference, the part of the drive that the
worst neighbour receives, the drive, and full scale without drive. -/
structure LineTest where
  count : Nat
  ref : Nat
  coupled : Nat
  drive : Nat
  stuck : Bool
  deriving DecidableEq, Repr

/-- A haptic source of one control sample: the accelerometer reading (`none` when the I3C read failed) and the bridge
current in mA (R318, R321). -/
structure HapSample where
  acc : Option Int
  current : Nat
  deriving DecidableEq, Repr

/-- A Peer Link frame as received, but for its payload (R338, R339): the outcome of the FCS, the EtherType, and the header with the HCRC that it
carries. -/
structure PeerHdr where
  fcsOk : Bool
  etherType : BitVec 16
  major : Nat
  minor : Nat
  typ : Nat
  ackReq : Bool
  all : Bool
  alarm : Bool
  observer : Bool
  hops : Nat
  origin : Nat
  dest : Nat
  seq : Word
  epoch : Word
  domainId : Word
  len : Nat
  hcrc : Word
  deriving DecidableEq, Repr

/-- What the measurement of a headset's microphone line finds (R332). -/
structure HeadsetReading where
  ohms : Nat
  plugged : Bool
  swapped : Bool
  deriving DecidableEq, Repr

/-- What changes at a PCI discovery position (R457). -/
inductive PciEvent where
  | presence
  | trained (device vendor subsystem : Word) (lanes speed vfs : Nat)
  | trainingFailed
  | removed
  deriving DecidableEq, Repr

/-- The wake sources of Night Watch (R367). -/
inductive NightWake where
  | touch
  | wakeN
  | alarm
  deriving DecidableEq, Repr

/-- The wake sources of Dormant, with the code of KAL_WAKE.CAUSE (R412). -/
inductive WakeSource where
  | vin
  | wakeN
  | rtc
  | tamper
  deriving DecidableEq, Repr

/-- What the tests of an Inspection step find (R370): items 0 to 5 of the half under test, and items 12 and 13. Of item 0 the rows with a wrong read, by SPM
and bank, a row again where its spare failed too; of item 1 the rows left unrepaired; of item 2 the channels that failed; of item 3 whether the injected
mismatch was detected; of item 4 the time to Lost in ns; of item 5 the frames that have passed; of item 12 the ICKs whose CRC equals its built-in
value; of item 13 whether the injected difference was detected. -/
structure InspFound where
  rows : List (Fin 4 × (Fin 16 × Nat))
  sramBad : Nat
  trainFail : BitVec 8
  lockstep : Bool
  lostNs : Nat
  frames : Nat
  icks : BitVec 8
  comparator : Bool
  deriving DecidableEq, Repr

/-- A gPTP clock identity order key: the 802.1AS systemIdentity of an announced grandmaster (R348). -/
structure GmIdentity where
  priority1 : Nat
  clockClass : Nat
  clockAccuracy : Nat
  variance : Nat
  priority2 : Nat
  clockId : Nat
  deriving DecidableEq, Repr, Inhabited

/-- A gPTP frame as received: its port and the outcome of the FCS (R356). -/
structure GptpRx where
  port : Fin 2
  fcsOk : Bool
  deriving DecidableEq, Repr

/-- A Sync with its Follow_Up, and the offset to the grandmaster that the servo measures by them, in ns (R350). -/
structure GptpSync where
  rx : GptpRx
  offsetNs : Int
  deriving DecidableEq, Repr

/-- An 802.1AS Announce and the grandmaster that it names (R348). -/
structure GptpAnnounce where
  rx : GptpRx
  gm : GmIdentity
  deriving DecidableEq, Repr

/-- The commands, in the order of spec/opcode_table.json. -/
inductive Instr where
  -- registers, line packets, discovery records
  | registerWrite (rq : Requester) (addr width : Nat) (value : Word)
  | plinthCopyDisagree (group : Word)
  | linePacketArrival (h : Half) (port : Fin 8) (crcOk : Bool)
  | portLineBoundary (port : Fin 8)
  | drecStatusRead (rq : Requester) (plinth : Bool) (page : Nat) (pos : Fin 256)
  -- the Armature loader
  | armWrite (rq : Requester) (slot : Fin 2)
  | armVerify (rq : Requester) (slot : Fin 2)
  | armErase (rq : Requester) (slot : Fin 2)
  | armRearm (rq : Requester) (slot : Fin 2)
  | armRaiseFloor (rq : Requester)
  | armAbort (rq : Requester)
  | armCopyDone
  | loaderCheckDone
  | armEraseDone
  | scrubDue
  | scrubSlotDone
  | rearmChecksDone
  | rearmHandoverIssue (port : Fin 8)
  | rearmQualTimeout (port : Fin 8)
  | rearmStartWindowTimeout
  | plinthSwitch
  -- composition pipes
  | cmpGo (rq : Requester) (pipe : Fin 8)
  | latchLineStart (port : Fin 8)
  | latchMarker (h : Half) (pipe : Fin 8)
  | pipeLineStart (h : Half) (pipe : Fin 8)
  | fetchChunkArrival (h : Half) (pipe : Fin 8)
  | lineClose (h : Half) (pipe : Fin 8)
  | lineCutoff (h : Half) (pipe : Fin 8) (sent : Nat) (stalled : Bool)
  | composeResume (h : Half) (pipe : Fin 8)
  -- display ports
  | portFrameBoundary (port : Fin 8) (domainTimePs : Int)
  | blenDelayExpiry (port : Fin 8)
  | hpdPlug (port : Fin 8)
  | hpdUnplug (port : Fin 8)
  | hpdIrq (port : Fin 8)
  | auxTransactionDone (port : Fin 8) (result : AuxResult)
  | discoveryRetry (port : Fin 8)
  | scnAccept (rq : Requester) (port : Fin 8)
  | scnRetrain (rq : Requester) (port : Fin 8)
  | scnPsrEn (rq : Requester) (port : Fin 8) (enable : Bool)
  | trainAttemptDone (port : Fin 8) (pass : Bool)
  | trainAttemptTimeout (port : Fin 8)
  | linkStatusReadDone (port : Fin 8) (result : LinkRead)
  -- integrity check units
  | ickGo (rq : Requester) (port : Fin 8)
  | ickRelease (rq : Requester) (port : Fin 8)
  | ickSinkNow (rq : Requester) (port : Fin 8)
  | ickLatchAck (h : Half) (port : Fin 8)
  | sinkCheckDue (port : Fin 8)
  | sinkCrcReadDone (port : Fin 8) (reading : Option (Word × Word × Word))
  -- raster engine
  | rcxDoorbell (rq : Requester) (ctx : Fin 64) (tail : Word)
  | compositorStart (h : Half) (latencyUs : Nat)
  | compositorLeave (h : Half)
  | arbitration (h : Half)
  | jobComplete (h : Half) (ctx : Fin 64)
  | fenceComplete (h : Half) (ctx : Fin 64)
  | preemptionPoint (h : Half) (ctx : Fin 64) (group : Fin 4)
  | rcxPrioWrite (rq : Requester) (ctx : Fin 64) (value : Word)
  | rcxSuspend (rq : Requester) (ctx : Fin 64)
  | rcxResume (rq : Requester) (ctx : Fin 64)
  | rasterMemoryAccess (h : Half) (ctx : Fin 64) (group : Fin 4)
  | rasterTierReport (h : Half) (tier : Fin 5)
  | rasterT4Timeout (h : Half)
  -- two halves
  | heartbeatSend (h : Half)
  | heartbeatReceive (h : Half) (late : Nat)
  | heartbeatTimeout (h : Half)
  | resetNotice (h : Half)
  | mirrorWrite (rq : Requester) (addr : Nat) (bytes : List Byte)
  | mirrorWriteApply (h : Half)
  | twnMfence (rq : Requester) (token : Word)
  | mfenceAcknowledge (h : Half)
  | catchupGranuleDone (h : Half)
  | twinLinkDown
  | twinLinkUp
  | twnMirSrcWrite (rq : Requester) (value : Word)
  | mirrorSourceSwap (region : Fin 16)
  | digestCompare (port : Fin 8)
  | pairHandover (rq : Requester) (ports : BitVec 8) (target : Half)
  | pairRejoin (rq : Requester) (ports : BitVec 8)
  | pairCancel (rq : Requester)
  | handoverTimeout (port : Fin 8)
  | autoReturn (port : Fin 8)
  | halfPark (h : Half)
  -- cores and worlds
  | lockstepMismatch (h : Half)
  | hpartWrite (h : Half) (hart : Fin 8) (value : HpartValue)
  | mworldWrite (h : Half) (hart : Fin 8) (value : Word)
  | mModeTrap (h : Half) (at_ : HartPoint)
  | mret (h : Half) (at_ : HartReturn)
  | aplicDelegateWrite (h : Half) (source : Nat) (toOpen : Bool)
  | msiWrite (h : Half) (hart : Fin 8) (by_ : Issuer) (file : Fin 9) (identity : Fin 256)
  | trustedInterrupt (h : Half) (at_ : HartPoint)
  | wldRestart (rq : Requester)
  | trustedClearDone (h : Half)
  | measureImageDone (h : Half)
  | wldExtend (rq : Requester) (mr : Fin 4)
  | watchdogKick (rq : Requester) (kick : Byte)
  | watchdogExpiry (h : Half)
  | wldDbgWrite (rq : Requester) (value : Word)
  | debugHaltRequest (h : Half) (hart : Fin 8)
  | debugPreempt (h : Half) (at_ : HartPoint)
  | fenceI (h : Half) (hart : Fin 8)
  -- display instances
  | instFreeze (rq : Requester) (inst : Fin 64)
  | instThaw (rq : Requester) (inst : Fin 64)
  | instSave (rq : Requester) (inst : Fin 64)
  | instRestore (rq : Requester) (inst : Fin 64)
  | instReset (rq : Requester) (inst : Fin 64)
  | instFace (rq : Requester) (inst : Fin 64) (direct : Bool)
  | thawTwinQuery (h : Half) (inst : Fin 64)
  | insqDoorbell (rq : Requester) (alias_ : Bool) (inst : Fin 64) (tail : Word)
  | hubLayerSet (h : Half) (inst : Fin 64) (tag log2 cplTail : Nat) (cmd : List Byte)
  | hubLayerOff (h : Half) (inst : Fin 64) (tag : Nat) (ring : MboxRing) (cmd : List Byte)
  | hubCommit (h : Half) (inst : Fin 64) (tag : Nat) (read : MboxRead) (nearLatch : Bool)
  | hubNop (h : Half) (inst : Fin 64) (tag : Nat) (read : MboxRead)
  | hubCommitCopy (h : Half) (inst : Fin 64)
  | hubCommitComplete (h : Half) (inst : Fin 64)
  | instanceTimeout (h : Half) (inst : Fin 64)
  | hostGone (h : Half)
  | twinEffect (h : Half) (inst : Fin 64)
  | twinEffectAck (h : Half) (inst : Fin 64)
  -- memories
  | spmAccess (h : Half) (spm : Fin 4) (portF portE : Option SpmPort) (errs : List SpmErr)
  | spmWakeMarch (h : Half) (spm : Fin 4)
  | spmMarchD (rq : Requester) (spm : Fin 4)
  | spmMarchP (rq : Requester) (spm : Fin 4)
  | spmAbort (rq : Requester) (spm : Fin 4)
  | marchRowDone (h : Half) (spm : Fin 4) (bank : Fin 16) (row : Nat) (found : RowFound)
  | marchDone (h : Half) (spm : Fin 4) (badRows : List (Fin 16 × Nat))
  | spmOffClearDone (h : Half) (spm : Fin 4)
  | dramSlot (h : Half) (chan : Fin 8) (arrivals : List DramReq) (busy : BitVec 16)
  | bankIdleClose (h : Half) (chan : Fin 8) (bank : Fin 16)
  | dramTrainingDone (h : Half) (failed : BitVec 8)
  | periodicTraining (h : Half) (dmc : Fin 2) (drift : Bool)
  | refreshDue (h : Half) (chan : Fin 8) (bank : Fin 16) (aboveTwice : Bool)
  | dramZeroFillDone (h : Half) (segment : Option (Fin 8))
  | slotTableSwitch (h : Half)
  | dmcBeWrite (rq : Requester) (n : Fin 2) (value : Word)
  | cvuStart (rq : Requester) (cvu : Fin 4) (ctrl : Word)
  | cvuStop (rq : Requester) (cvu : Fin 4)
  | cvuBlock (h : Half) (cvu : Fin 4)
  | cvuPassEnd (h : Half) (cvu : Fin 4)
  -- crossings and queue units
  | stuckAccessTimeout (rq : Requester) (plinth : Bool) (page offset : Nat) (write : Bool) (data : Word)
  | quPush (rq : Requester) (q : Fin 256) (form : QuPush)
  | quPop (rq : Requester) (q : Fin 256) (form : QuPop)
  | quOpen (rq : Requester) (q : Fin 256)
  | quClose (rq : Requester) (q : Fin 256)
  | quPointerSync (h : Half) (q : Fin 256) (toPopSide : Bool)
  | quSpillTransfer (h : Half) (q : Fin 256) (out : Bool)
  -- touch
  | touchFrameSlot (src : Fin 9) (amplitude : Nat) (saturated : Bool)
  | touchFrameEnd (src : Fin 9) (raw : List (BitVec 16))
  | tafMode (rq : Requester) (sensor : Fin 8) (mode : BitVec 2)
  | tafTest (rq : Requester) (sensor : Fin 8)
  | tafRebase (rq : Requester) (sensor : Fin 8)
  | tceCaptureRef (rq : Requester)
  | tceTest (rq : Requester)
  | tceRebase (rq : Requester)
  | captureRefDone
  | electrodeTestDone (src : Fin 9) (lines : List LineTest)
  | touchDiscoveryTimer (src : Fin 9) (pos : Fin 256)
  | contactStale (src : Fin 9) (id : Fin 256)
  -- haptics and audio
  | hapPlay (rq : Requester) (ch : Fin 8) (effect : Byte)
  | hapStop (rq : Requester) (ch : Fin 8)
  | hapUnlock (rq : Requester) (mask : BitVec 8)
  | hapControlSample (ch : Fin 8) (sample : HapSample) (mw : Nat)
  | hapLoadCheck (ch : Fin 8)
  | hapLoadCheckDone (ch : Fin 8) (milliohm : Nat) (accId : Option Word)
  | audioSample (inputs : List Int)
  | audSwap (rq : Requester)
  | audCopy (rq : Requester)
  | audCopyDone
  | audOverrideWrite (rq : Requester) (cell : Fin 16) (value : Word)
  | headsetPlug (port : Fin 4)
  | headsetMeasureDone (port : Fin 4) (reading : HeadsetReading)
  | headsetUnplug (port : Fin 4)
  | headsetButton (port : Fin 4) (ohms : Option Nat)
  | tdmFrameSlip (port : Fin 4) (dropped : Bool)
  -- peer link and the domain
  | peerAnnounce (p : Fin 2) (hdr : PeerHdr) (moduleId : Nat) (digest : List Byte) (memb : Fin 4) (prio1 : Nat)
  | peerLock (p : Fin 2) (hdr : PeerHdr) (digest : List Byte) (gm : GmIdentity)
  | peerAlarm (p : Fin 2) (hdr : PeerHdr) (payload : List Byte)
  | peerMigrate (p : Fin 2) (hdr : PeerHdr) (xfer : Word) (frag : Nat) (data : List Byte)
  | peerMigDone (p : Fin 2) (hdr : PeerHdr) (xfer : Word) (status : Nat)
  | peerImageReq (p : Fin 2) (hdr : PeerHdr) (digest : List Byte) (blockOffset : Nat)
  | peerImageData (p : Fin 2) (hdr : PeerHdr) (blockOffset : Nat) (data : List Byte) (last : Bool)
  | peerAck (p : Fin 2) (hdr : PeerHdr) (origin : Nat) (seq : Word)
  | announceTimer
  | lockTimer
  | peerRetry (p : Fin 2) (origin : Nat) (seq : Word)
  | peerTimeout (origin : Nat) (seq : Word)
  | currentLockExpiry
  | neighbourTimeout (p : Fin 2)
  | peerPortLink (p : Fin 2) (up : Bool)
  | gptpSync (sync : GptpSync) (ratePpb : Int)
  | holdoverExpiry (port : Fin 8)
  | pcsLockLoss (p : Fin 2)
  | plkEnable (rq : Requester)
  | plkDisable (rq : Requester)
  | plkSend (rq : Requester)
  | plkRxDone (rq : Requester)
  | plkClearq (rq : Requester) (p : Fin 2)
  | plkCancel (rq : Requester)
  | plkNodeWrite (rq : Requester) (value : Word)
  -- modes and life cycle
  | modNight (rq : Requester)
  | modWake (rq : Requester)
  | modInspect (rq : Requester)
  | modDormant (rq : Requester)
  | nightWatchWake (source : NightWake)
  | inspectionStep (found : InspFound)
  | lcsProvision (rq : Requester)
  | lcsService (rq : Requester)
  | lcsRetire (rq : Requester) (confirm : Byte)
  | lcsKeyUpdate (rq : Requester)
  -- resets and bring-up
  | powerOn (vinMv : Nat)
  | porstNAssert
  | strapSample (boot : BitVec 3) (clkmode : BitVec 2)
  | startWindowExpiry
  | failsClear
  | halfResetRequest (h : Half) (cause : Fin 9)
  | halfResetRelease (h : Half)
  | halfApplyDone (h : Half)
  | rstHalfReset (rq : Requester) (target : Half)
  | rstPartReset (rq : Requester) (part : Fin 16)
  | rstFuncReset (rq : Requester) (plinth : Bool) (page : Nat)
  | ndmreset (h : Half)
  | hartreset (h : Half) (hart : Fin 8)
  | svcRead (position : Nat)
  | svcWrite (slot : Fin 2)
  | svcVerify (slot : Fin 2)
  | svcProvision (record : List Byte)
  | svcStart (boot : BitVec 3) (clkmode : BitVec 2)
  | serviceBulkOut (data : List Byte)
  | serviceWriteStall
  | pcieBootLength (len : Nat)
  -- power
  | tierStepDown (vinMv : Nat)
  | tierStepUp (vinMv : Nat)
  | powerLimitStep (cause : Fin 4) (p1s p100 : BitVec 16)
  | powerLimitHoldEnd
  | holdupEntry (hupMv : Nat)
  | parkComplete
  | vioOverload (vio18 : Bool)
  | pwrReqWrite (rq : Requester) (value : Word)
  | shdReqWrite (rq : Requester) (value : Word)
  | domainPowerOnDone (die : Die) (domain : Fin 31)
  | domainSwitchOff (die : Die) (domain : Fin 31)
  | domainShutdownDone (die : Die) (domain : Fin 31)
  | thermalSample (tA tB tP : Int)
  | keepAlivePowerUp (fromVka : Bool)
  | dormantWake (source : WakeSource)
  | rtcAlarm
  | tamperEvent
  | kalInc (rq : Requester) (mask : BitVec 4)
  | kalRtcHiWrite (rq : Requester) (value : Word)
  -- the Patina record
  | patinaMramWrite (n : Nat)
  | patinaScanDone
  | snapshotClose
  | patHostEvent (rq : Requester) (code : BitVec 12)
  | patSnap (rq : Requester)
  | patLock (rq : Requester) (pos : Fin 8)
  | patUnlock (rq : Requester) (pos : Fin 8)
  | patSlotRead (rq : Requester) (index : Fin 64)
  -- package
  | svcAlertClear (rq : Requester)
  | alertClearDelayed
  | serviceAttach (serviceLow : Bool)
  | serviceDetach (vbus serviceLow : Bool)
  | pciPresenceChange (h : Half) (event : PciEvent)
  | porstNRelease (vinMv : Nat)
  | vkaLoss
  -- rows added at the end of the table
  | gptpAnnounce (ann : GptpAnnounce)
  | gptpPdelayReq (rx : GptpRx)
  | pcsTransmitFault (p : Fin 2)
  | lcsOperationDone (deviceKeys : List Byte)
  | pcieBootDataWrite (offset : Nat) (data : List Byte)
  | hupBelow12v
  | vioFaultClear (rq : Requester) (vio18 : Bool)
  deriving DecidableEq, Repr

end Sys2Proof
end

