-- ==== Sys2Proof/Machine/Fields.lean ====
section
/-! DEFINITION. The named fields of the registers, one constant per row of the field tables of spec/ (R4): the offset of the
register in its page, the lowest bit and the width. Registers that repeat (`LY_*`, `PAIR_PORTn`, ...) give the offset of the first; `Fld.at` moves on. -/

namespace Sys2Proof.Machine

/-- A field of a register: offset of the register within its page, lowest bit, width (R3, R4). -/
structure Fld where
  off : Nat
  lsb : Nat
  width : Nat
  deriving DecidableEq, Repr

/-- The same field of the register `d` bytes further on. -/
def Fld.at (f : Fld) (d : Nat) : Fld := { f with off := f.off + d }

namespace F

-- spec/01_module_anatomy.md, R28
def DREC_STATUS_SEQ : Fld := ⟨0xf000, 24, 8⟩
def DREC_STATUS_CHG : Fld := ⟨0xf000, 8, 1⟩
def DREC_STATUS_STATE : Fld := ⟨0xf000, 0, 4⟩
-- spec/02_armature.md, R52
def ARM_CMD_SLOT : Fld := ⟨0x0, 8, 1⟩
def ARM_CMD_OP : Fld := ⟨0x0, 0, 4⟩
def ARM_STATUS_BUSY : Fld := ⟨0x4, 31, 1⟩
def ARM_STATUS_DONE : Fld := ⟨0x4, 30, 1⟩
def ARM_STATUS_OP : Fld := ⟨0x4, 24, 4⟩
def ARM_STATUS_RESULT : Fld := ⟨0x4, 0, 8⟩
def ARM_SRC_PAGE : Fld := ⟨0x8, 0, 32⟩
def ARM_LEN_BLOCKS : Fld := ⟨0xc, 0, 13⟩
-- spec/02_armature.md, R459
def ARM_SLOT_GEN : Fld := ⟨0x10, 16, 16⟩
def ARM_SLOT_STATE : Fld := ⟨0x10, 0, 3⟩
def ARM_ACTIVE_MIXED : Fld := ⟨0x18, 8, 1⟩
def ARM_ACTIVE_PLINTH_SLOT : Fld := ⟨0x18, 4, 1⟩
def ARM_ACTIVE_B_SLOT : Fld := ⟨0x18, 1, 1⟩
def ARM_ACTIVE_A_SLOT : Fld := ⟨0x18, 0, 1⟩
def ARM_FLOOR_FLOOR : Fld := ⟨0x1c, 0, 16⟩
def ARM_DIFF_OFFSET : Fld := ⟨0x20, 0, 25⟩
-- spec/03_layers_and_pixels.md, R80
def CMP_COMMIT_GO : Fld := ⟨0x0, 0, 1⟩
def CMP_STATUS_FRAMES : Fld := ⟨0x4, 16, 16⟩
def CMP_STATUS_LATCHED : Fld := ⟨0x4, 1, 1⟩
def CMP_STATUS_PENDING : Fld := ⟨0x4, 0, 1⟩
def CMP_CTRL_CT_EN : Fld := ⟨0x8, 0, 1⟩
def CMP_OUT_DMODE : Fld := ⟨0xc, 0, 2⟩
def CMP_BG_R : Fld := ⟨0x10, 20, 10⟩
def CMP_BG_G : Fld := ⟨0x10, 10, 10⟩
def CMP_BG_B : Fld := ⟨0x10, 0, 10⟩
def CMP_CT_VAL : Fld := ⟨0x2000, 0, 12⟩
def LY_CTRL_EN : Fld := ⟨0x1000, 31, 1⟩
def LY_CTRL_FILTER : Fld := ⟨0x1000, 28, 1⟩
def LY_CTRL_BLEND : Fld := ⟨0x1000, 26, 2⟩
def LY_CTRL_FORMAT : Fld := ⟨0x1000, 20, 4⟩
def LY_CTRL_GA : Fld := ⟨0x1000, 0, 8⟩
def LY_ADDR_LO_ADDR : Fld := ⟨0x1004, 6, 26⟩
def LY_ADDR_HI_STRIDE : Fld := ⟨0x1008, 16, 16⟩
def LY_ADDR_HI_ADDR : Fld := ⟨0x1008, 0, 16⟩
def LY_PAY_LO_PAY : Fld := ⟨0x100c, 6, 26⟩
def LY_PAY_HI_PAY : Fld := ⟨0x1010, 0, 16⟩
def LY_SRC_POS_SRC_Y : Fld := ⟨0x1014, 16, 14⟩
def LY_SRC_POS_SRC_X : Fld := ⟨0x1014, 0, 14⟩
def LY_SRC_SIZE_SRC_H : Fld := ⟨0x1018, 16, 14⟩
def LY_SRC_SIZE_SRC_W : Fld := ⟨0x1018, 0, 14⟩
def LY_DST_POS_DST_Y : Fld := ⟨0x101c, 16, 12⟩
def LY_DST_POS_DST_X : Fld := ⟨0x101c, 0, 13⟩
def LY_DST_SIZE_DST_H : Fld := ⟨0x1020, 16, 12⟩
def LY_DST_SIZE_DST_W : Fld := ⟨0x1020, 0, 13⟩
def LY_STEP_STEP_Y : Fld := ⟨0x1024, 16, 16⟩
def LY_STEP_STEP_X : Fld := ⟨0x1024, 0, 16⟩
-- spec/04_damask_schedules.md, R109
def CMP_SCHED_BAND : Fld := ⟨0x14, 16, 6⟩
def CMP_SCHED_TIER : Fld := ⟨0x14, 8, 3⟩
def CMP_SCHED_ROLE : Fld := ⟨0x14, 4, 3⟩
def CMP_SCHED_VARIANT : Fld := ⟨0x14, 0, 4⟩
def CMP_FILL_URG : Fld := ⟨0x18, 31, 1⟩
def CMP_FILL_FILL : Fld := ⟨0x18, 0, 13⟩
def CMP_UNDER_COUNT : Fld := ⟨0x1c, 16, 16⟩
def CMP_UNDER_RUN : Fld := ⟨0x1c, 8, 8⟩
def CMP_UNDER_FAULT : Fld := ⟨0x1c, 1, 1⟩
def CMP_UNDER_UNDER : Fld := ⟨0x1c, 0, 1⟩
def CMP_UNDER_AT_FRAME : Fld := ⟨0x20, 16, 16⟩
def CMP_UNDER_AT_LINE : Fld := ⟨0x20, 0, 12⟩
def CMP_FALLBACK_R : Fld := ⟨0x24, 20, 10⟩
def CMP_FALLBACK_G : Fld := ⟨0x24, 10, 10⟩
def CMP_FALLBACK_B : Fld := ⟨0x24, 0, 10⟩
def CMP_WM_WM_HI : Fld := ⟨0x28, 16, 13⟩
def CMP_WM_WM_LO : Fld := ⟨0x28, 0, 13⟩
-- spec/05_ports_and_panels.md, R138
def SCN_CTRL_ACCEPT : Fld := ⟨0x0, 2, 1⟩
def SCN_CTRL_RETRAIN : Fld := ⟨0x0, 1, 1⟩
def SCN_CTRL_PSR_EN : Fld := ⟨0x0, 0, 1⟩
def SCN_STATUS_SUBST : Fld := ⟨0x4, 24, 8⟩
def SCN_STATUS_LINK_LOSS : Fld := ⟨0x4, 11, 1⟩
def SCN_STATUS_TRAIN_FAIL : Fld := ⟨0x4, 10, 1⟩
def SCN_STATUS_HPD_IRQ : Fld := ⟨0x4, 9, 1⟩
def SCN_STATUS_HPD : Fld := ⟨0x4, 8, 1⟩
def SCN_STATUS_PSR : Fld := ⟨0x4, 4, 1⟩
def SCN_STATUS_SRC : Fld := ⟨0x4, 0, 2⟩
def SCN_FRAME_FRAME : Fld := ⟨0x8, 0, 32⟩
def SCN_LINE_LINE : Fld := ⟨0xc, 0, 12⟩
def SCN_CFG_MIN_RATE : Fld := ⟨0x10, 28, 4⟩
def SCN_CFG_PREF_RATE : Fld := ⟨0x10, 24, 4⟩
def SCN_CFG_MIN_LANES : Fld := ⟨0x10, 20, 3⟩
def SCN_CFG_PREF_LANES : Fld := ⟨0x10, 16, 3⟩
def SCN_CFG_DMODE : Fld := ⟨0x10, 10, 2⟩
def SCN_CFG_IDMODE : Fld := ⟨0x10, 8, 2⟩
def SCN_CFG_STATUS : Fld := ⟨0x10, 7, 1⟩
def SCN_CFG_T4 : Fld := ⟨0x10, 6, 1⟩
def SCN_CFG_PSR_ALLOW : Fld := ⟨0x10, 5, 1⟩
def SCN_CFG_LOCK : Fld := ⟨0x10, 4, 1⟩
def SCN_CFG_KIND : Fld := ⟨0x10, 0, 1⟩
def SCN_CFG2_PSR_IDLE : Fld := ⟨0x14, 16, 8⟩
def SCN_CFG2_BL_DELAY : Fld := ⟨0x14, 0, 9⟩
def SCN_PCLK_KHZ : Fld := ⟨0x18, 0, 21⟩
def SCN_HTIM0_H_TOTAL : Fld := ⟨0x1c, 16, 13⟩
def SCN_HTIM0_H_ACTIVE : Fld := ⟨0x1c, 0, 13⟩
def SCN_HTIM1_HS_POL : Fld := ⟨0x20, 31, 1⟩
def SCN_HTIM1_HS_WIDTH : Fld := ⟨0x20, 16, 10⟩
def SCN_HTIM1_HS_START : Fld := ⟨0x20, 0, 11⟩
def SCN_VTIM0_V_TOTAL : Fld := ⟨0x24, 16, 12⟩
def SCN_VTIM0_V_ACTIVE : Fld := ⟨0x24, 0, 12⟩
def SCN_VTIM1_VS_POL : Fld := ⟨0x28, 31, 1⟩
def SCN_VTIM1_VS_WIDTH : Fld := ⟨0x28, 16, 6⟩
def SCN_VTIM1_VS_START : Fld := ⟨0x28, 0, 8⟩
def SCN_LINK_UP : Fld := ⟨0x2c, 31, 1⟩
def SCN_LINK_SINK_CRC : Fld := ⟨0x2c, 30, 1⟩
def SCN_LINK_CODING : Fld := ⟨0x2c, 29, 1⟩
def SCN_LINK_RATE : Fld := ⟨0x2c, 24, 4⟩
def SCN_LINK_LANES : Fld := ⟨0x2c, 16, 3⟩
def SCN_LINK_TRIES : Fld := ⟨0x2c, 8, 8⟩
def SCN_LINK_RESULT : Fld := ⟨0x2c, 0, 4⟩
def SCN_TRIM_TRIM : Fld := ⟨0x30, 0, 10⟩
-- spec/06_display_integrity.md, R155
def ICK_CTRL_SINK_NOW : Fld := ⟨0x0, 2, 1⟩
def ICK_CTRL_RELEASE : Fld := ⟨0x0, 1, 1⟩
def ICK_CTRL_GO : Fld := ⟨0x0, 0, 1⟩
def ICK_STATUS_SINK_MIS : Fld := ⟨0x4, 24, 8⟩
def ICK_STATUS_SINK_FAIL : Fld := ⟨0x4, 7, 1⟩
def ICK_STATUS_DARK : Fld := ⟨0x4, 6, 1⟩
def ICK_STATUS_U_ACTIVE : Fld := ⟨0x4, 3, 1⟩
def ICK_STATUS_S_ACTIVE : Fld := ⟨0x4, 2, 1⟩
def ICK_STATUS_PENDING_U : Fld := ⟨0x4, 1, 1⟩
def ICK_STATUS_PENDING_S : Fld := ⟨0x4, 0, 1⟩
def ICK_MIS_MIS_U : Fld := ⟨0x8, 16, 16⟩
def ICK_MIS_MIS_S : Fld := ⟨0x8, 0, 16⟩
def ICK_FCRC_CRC : Fld := ⟨0xc, 0, 32⟩
def ICK_SINKCFG_SINK_DIV : Fld := ⟨0x10, 8, 8⟩
def ICK_SINKCFG_SINK_THRESH : Fld := ⟨0x10, 4, 4⟩
def ICK_SINKCFG_SINK_REACT : Fld := ⟨0x10, 0, 2⟩
def ICK_STATE_STATE : Fld := ⟨0x40, 0, 6⟩
def ICK_RSTAT_COUNT : Fld := ⟨0x80, 16, 16⟩
def ICK_RSTAT_RUN_U : Fld := ⟨0x80, 12, 4⟩
def ICK_RSTAT_RUN_S : Fld := ⟨0x80, 8, 4⟩
def ICK_RSTAT_MATCH_U : Fld := ⟨0x80, 7, 1⟩
def ICK_RSTAT_MATCH_S : Fld := ⟨0x80, 6, 1⟩
def ICK_RSTAT_ACT : Fld := ⟨0x80, 0, 6⟩
def ICK_CRC_S_CRC : Fld := ⟨0xc0, 0, 32⟩
def ICK_CRC_U_CRC : Fld := ⟨0x100, 0, 32⟩
-- spec/07_raster_engine.md, R183
def RCX_CFG_TIERMASK : Fld := ⟨0x0, 8, 5⟩
def RCX_CFG_KIND : Fld := ⟨0x0, 4, 2⟩
def RCX_CFG_WORLD : Fld := ⟨0x0, 0, 1⟩
def RCX_PRIO_REFUSED : Fld := ⟨0x4, 8, 1⟩
def RCX_PRIO_PRIO : Fld := ⟨0x4, 0, 3⟩
def RCX_CTRL_RESUME : Fld := ⟨0x8, 1, 1⟩
def RCX_CTRL_SUSPEND : Fld := ⟨0x8, 0, 1⟩
def RCX_STATUS_CAUSE : Fld := ⟨0xc, 8, 4⟩
def RCX_STATUS_STATE : Fld := ⟨0xc, 0, 3⟩
def RCX_RING_LO_ADDR : Fld := ⟨0x10, 12, 20⟩
def RCX_RING_HI_LOG2 : Fld := ⟨0x14, 16, 4⟩
def RCX_RING_HI_ADDR : Fld := ⟨0x14, 0, 16⟩
def RCX_TAIL_COUNT : Fld := ⟨0x18, 0, 32⟩
def RCX_HEAD_COUNT : Fld := ⟨0x1c, 0, 32⟩
def RCX_PT_PAGE : Fld := ⟨0x20, 0, 32⟩
def RCX_SAVE_PAGE : Fld := ⟨0x24, 0, 32⟩
def RCX_MISS_PAGE : Fld := ⟨0x28, 0, 32⟩
def RCX_MISS_PTR_DROPPED : Fld := ⟨0x2c, 16, 16⟩
def RCX_MISS_PTR_LOG2 : Fld := ⟨0x2c, 12, 4⟩
def RCX_MISS_PTR_WR : Fld := ⟨0x2c, 0, 12⟩
def RCX_FAULT_ADDR : Fld := ⟨0x30, 0, 32⟩
def GFE_LAT_TIER : Fld := ⟨0x0, 24, 3⟩
def GFE_LAT_MAX_US : Fld := ⟨0x0, 0, 16⟩
-- spec/08_twin_halves.md, R461
def PAIR_CTRL_PORTS : Fld := ⟨0x0, 16, 8⟩
def PAIR_CTRL_TARGET : Fld := ⟨0x0, 8, 1⟩
def PAIR_CTRL_OP : Fld := ⟨0x0, 0, 4⟩
def PAIR_STATUS_BUSY : Fld := ⟨0x4, 31, 1⟩
def PAIR_STATUS_DONE : Fld := ⟨0x4, 30, 1⟩
def PAIR_STATUS_B_STATE : Fld := ⟨0x4, 20, 4⟩
def PAIR_STATUS_A_STATE : Fld := ⟨0x4, 16, 4⟩
def PAIR_STATUS_PAIRING : Fld := ⟨0x4, 8, 2⟩
def PAIR_STATUS_RESULT : Fld := ⟨0x4, 0, 8⟩
def PAIR_CFG_HO_TIMEOUT : Fld := ⟨0x8, 24, 8⟩
def PAIR_CFG_QUAL_FRAMES : Fld := ⟨0x8, 8, 8⟩
def PAIR_CFG_AUTO_RETURN : Fld := ⟨0x8, 0, 1⟩
def PAIR_DIFF_PAGE : Fld := ⟨0xc, 16, 12⟩
def PAIR_DIFF_OFFSET : Fld := ⟨0xc, 0, 16⟩
def PAIR_PORT_FAILOVERS : Fld := ⟨0x40, 16, 16⟩
def PAIR_PORT_QUAL : Fld := ⟨0x40, 15, 1⟩
def PAIR_PORT_ROLE_B : Fld := ⟨0x40, 12, 3⟩
def PAIR_PORT_ROLE_A : Fld := ⟨0x40, 8, 3⟩
def PAIR_PORT_CAUSE : Fld := ⟨0x40, 5, 3⟩
def PAIR_PORT_HOME : Fld := ⟨0x40, 4, 1⟩
def TWN_STATUS_LINK : Fld := ⟨0x0, 31, 1⟩
def TWN_STATUS_SYNC : Fld := ⟨0x0, 30, 1⟩
def TWN_STATUS_DOWN : Fld := ⟨0x0, 29, 1⟩
def TWN_STATUS_DIRTY : Fld := ⟨0x0, 0, 19⟩
def TWN_MIR_SRC_SRC : Fld := ⟨0x4, 0, 16⟩
def TWN_MFENCE_TOKEN : Fld := ⟨0x8, 0, 32⟩
def TWN_MACK_TOKEN : Fld := ⟨0xc, 0, 32⟩
def TWN_MREG_BASE_LO : Fld := ⟨0x100, 16, 16⟩
def TWN_MREG_BASE_HI : Fld := ⟨0x100, 0, 16⟩
def TWN_MREG_SZ_VALID : Fld := ⟨0x104, 31, 1⟩
def TWN_MREG_SZ_SIZE : Fld := ⟨0x104, 0, 17⟩
-- spec/09_cores_and_worlds.md, R211
def MWORLD_MPART : Fld := ⟨0x7c0, 8, 4⟩
def MWORLD_PWORLD : Fld := ⟨0x7c0, 1, 1⟩
def MWORLD_WORLD : Fld := ⟨0x7c0, 0, 1⟩
def HPART_PART : Fld := ⟨0x6c0, 0, 4⟩
-- spec/09_cores_and_worlds.md, R231
def WLD_CTRL_MR : Fld := ⟨0x0, 4, 2⟩
def WLD_CTRL_EXTEND : Fld := ⟨0x0, 1, 1⟩
def WLD_CTRL_RESTART : Fld := ⟨0x0, 0, 1⟩
def WLD_STATUS_BUSY : Fld := ⟨0x4, 31, 1⟩
def WLD_STATUS_DONE : Fld := ⟨0x4, 30, 1⟩
def WLD_STATUS_DBG_PRE : Fld := ⟨0x4, 29, 1⟩
def WLD_STATUS_RESULT : Fld := ⟨0x4, 24, 4⟩
def WLD_STATUS_MSI_DROP : Fld := ⟨0x4, 20, 4⟩
def WLD_STATUS_CAUSE : Fld := ⟨0x4, 16, 4⟩
def WLD_STATUS_RESTARTS : Fld := ⟨0x4, 0, 16⟩
def WLD_CFG_TPARTS : Fld := ⟨0x8, 16, 16⟩
def WLD_CFG_TWAYS : Fld := ⟨0x8, 8, 4⟩
def WLD_CFG_DBG_ALLOW_T : Fld := ⟨0x8, 0, 1⟩
def WLD_RFAULT0_VALID : Fld := ⟨0x10, 31, 1⟩
def WLD_RFAULT0_CTRL : Fld := ⟨0x10, 28, 2⟩
def WLD_RFAULT0_WORLD : Fld := ⟨0x10, 27, 1⟩
def WLD_RFAULT0_PART : Fld := ⟨0x10, 23, 4⟩
def WLD_RFAULT0_KIND : Fld := ⟨0x10, 21, 2⟩
def WLD_RFAULT0_COUNT : Fld := ⟨0x10, 0, 16⟩
def WLD_RFAULT1_ADDR : Fld := ⟨0x14, 0, 32⟩
def WLD_WDOG_KICK : Fld := ⟨0x20, 24, 8⟩
def WLD_WDOG_REMAIN : Fld := ⟨0x20, 0, 24⟩
def WLD_WDCFG_EXPIRIES : Fld := ⟨0x24, 16, 16⟩
def WLD_WDCFG_TIMEOUT : Fld := ⟨0x24, 0, 14⟩
def WLD_DBG_TRU_INV : Fld := ⟨0x30, 3, 1⟩
def WLD_DBG_TRU_NINV : Fld := ⟨0x30, 2, 1⟩
def WLD_DBG_OPEN_INV : Fld := ⟨0x30, 1, 1⟩
def WLD_DBG_OPEN_NINV : Fld := ⟨0x30, 0, 1⟩
def WLD_EXT_D : Fld := ⟨0x40, 0, 32⟩
def WLD_MR_MR : Fld := ⟨0x100, 0, 32⟩
def WLD_RGN0_BASE : Fld := ⟨0x400, 0, 32⟩
def WLD_RGN1_SIZE : Fld := ⟨0x404, 0, 32⟩
def WLD_RGN2_PARTS : Fld := ⟨0x408, 16, 16⟩
def WLD_RGN2_VALID : Fld := ⟨0x408, 7, 1⟩
def WLD_RGN2_WORLD : Fld := ⟨0x408, 4, 2⟩
def WLD_RGN2_XWR : Fld := ⟨0x408, 0, 3⟩
def SAF_STATUS_MISMATCHES : Fld := ⟨0x0, 16, 16⟩
def SAF_STATUS_HELD : Fld := ⟨0x0, 2, 1⟩
def SAF_STATUS_MISMATCH : Fld := ⟨0x0, 1, 1⟩
def SAF_STATUS_RUN : Fld := ⟨0x0, 0, 1⟩
-- spec/10_instances.md, R250
def INST_CTRL_FACE : Fld := ⟨0x0, 8, 1⟩
def INST_CTRL_OP : Fld := ⟨0x0, 0, 4⟩
def INST_STATUS_BUSY : Fld := ⟨0x4, 31, 1⟩
def INST_STATUS_DONE : Fld := ⟨0x4, 30, 1⟩
def INST_STATUS_OP : Fld := ⟨0x4, 24, 4⟩
def INST_STATUS_RESULT : Fld := ⟨0x4, 0, 8⟩
def INST_STATE_REPLAYS : Fld := ⟨0x8, 16, 16⟩
def INST_STATE_CAUSE : Fld := ⟨0x8, 8, 4⟩
def INST_STATE_SEQV : Fld := ⟨0x8, 7, 1⟩
def INST_STATE_IN_STEP : Fld := ⟨0x8, 6, 1⟩
def INST_STATE_FACE : Fld := ⟨0x8, 5, 1⟩
def INST_STATE_STATE : Fld := ⟨0x8, 0, 4⟩
def INST_SEQ_N : Fld := ⟨0xc, 0, 32⟩
def INST_SBLK_LO_ADDR : Fld := ⟨0x10, 12, 20⟩
def INST_SBLK_HI_ADDR : Fld := ⟨0x14, 0, 16⟩
def INST_CFG_TMO : Fld := ⟨0x18, 16, 10⟩
def INST_CFG_TWIN : Fld := ⟨0x18, 15, 1⟩
def INST_CFG_VF : Fld := ⟨0x18, 8, 7⟩
def INST_CFG_TWORLD : Fld := ⟨0x18, 7, 1⟩
def INST_CFG_FACE0 : Fld := ⟨0x18, 6, 1⟩
def INST_CFG_TPART : Fld := ⟨0x18, 0, 4⟩
def INST_MAP_VALID : Fld := ⟨0x40, 31, 1⟩
def INST_MAP_PIPE : Fld := ⟨0x40, 16, 3⟩
def INST_MAP_DESC : Fld := ⟨0x40, 0, 4⟩
def INSQ_MBOX_LO_ADDR : Fld := ⟨0x0, 12, 20⟩
def INSQ_MBOX_HI_BUS : Fld := ⟨0x4, 31, 1⟩
def INSQ_MBOX_HI_ADDR : Fld := ⟨0x4, 0, 16⟩
def INSQ_DOORBELL_COUNT : Fld := ⟨0x8, 0, 32⟩
def INSQ_HEAD_COUNT : Fld := ⟨0xc, 0, 32⟩
-- spec/11_memory.md, R258
def SPM_CTRL_OP : Fld := ⟨0x0, 0, 4⟩
def SPM_STATUS_BUSY : Fld := ⟨0x4, 31, 1⟩
def SPM_STATUS_DONE : Fld := ⟨0x4, 30, 1⟩
def SPM_STATUS_COLL : Fld := ⟨0x4, 29, 1⟩
def SPM_STATUS_UE : Fld := ⟨0x4, 28, 1⟩
def SPM_STATUS_CE : Fld := ⟨0x4, 8, 16⟩
def SPM_STATUS_STATE : Fld := ⟨0x4, 0, 3⟩
def SPM_COLL_VALID : Fld := ⟨0x8, 31, 1⟩
def SPM_COLL_COUNT : Fld := ⟨0x8, 19, 12⟩
def SPM_COLL_WORD : Fld := ⟨0x8, 0, 19⟩
def SPM_REPAIR_USED : Fld := ⟨0x10, 0, 32⟩
def SPM_UNREP_BANK : Fld := ⟨0x18, 0, 16⟩
def SPM_CFG_CLR_OFF : Fld := ⟨0x1c, 0, 1⟩
-- spec/11_memory.md, R269
def DMC_STATUS_READY : Fld := ⟨0x0, 31, 1⟩
def DMC_STATUS_HOT : Fld := ⟨0x0, 30, 1⟩
def DMC_STATUS_DRIFT : Fld := ⟨0x0, 29, 1⟩
def DMC_STATUS_SR : Fld := ⟨0x0, 28, 1⟩
def DMC_STATUS_FILLING : Fld := ⟨0x0, 27, 1⟩
def DMC_STATUS_TABLE : Fld := ⟨0x0, 16, 4⟩
def DMC_STATUS_TRAIN_FAIL : Fld := ⟨0x0, 0, 4⟩
def DMC_BE_PRIO : Fld := ⟨0x10, 0, 32⟩
def DMC_PASR_KEEP : Fld := ⟨0x18, 0, 8⟩
-- spec/11_memory.md, R273
def CVU_CTRL_ALERT : Fld := ⟨0x0, 7, 1⟩
def CVU_CTRL_CMP : Fld := ⟨0x0, 6, 1⟩
def CVU_CTRL_FOLD_SEQ : Fld := ⟨0x0, 5, 1⟩
def CVU_CTRL_FOLD_ADDR : Fld := ⟨0x0, 4, 1⟩
def CVU_CTRL_REPEAT : Fld := ⟨0x0, 3, 1⟩
def CVU_CTRL_STOP : Fld := ⟨0x0, 1, 1⟩
def CVU_CTRL_START : Fld := ⟨0x0, 0, 1⟩
def CVU_STATUS_BUSY : Fld := ⟨0x4, 31, 1⟩
def CVU_STATUS_DONE : Fld := ⟨0x4, 30, 1⟩
def CVU_STATUS_MIS : Fld := ⟨0x4, 29, 1⟩
def CVU_STATUS_REFUSED : Fld := ⟨0x4, 28, 1⟩
def CVU_STATUS_PASSES : Fld := ⟨0x4, 0, 16⟩
def CVU_BASE_LO_ADDR : Fld := ⟨0x8, 6, 26⟩
def CVU_BASE_HI_ADDR : Fld := ⟨0xc, 0, 16⟩
def CVU_LEN_VALUE : Fld := ⟨0x10, 0, 32⟩
def CVU_SEQ0_VALUE : Fld := ⟨0x14, 0, 32⟩
def CVU_RUN_VALUE : Fld := ⟨0x18, 0, 32⟩
def CVU_DONEBLK_VALUE : Fld := ⟨0x1c, 0, 32⟩
def CVU_EXPECT_VALUE : Fld := ⟨0x20, 0, 32⟩
def CVU_RESULT_VALUE : Fld := ⟨0x24, 0, 32⟩
-- spec/12_islands_and_queues.md, R293
def QU_PUSH_LO_DATA : Fld := ⟨0x0, 0, 32⟩
def QU_PUSH_HI_DATA : Fld := ⟨0x4, 0, 32⟩
def QU_POP_LO_DATA : Fld := ⟨0x8, 0, 32⟩
def QU_POP_HI_DATA : Fld := ⟨0xc, 0, 32⟩
def QU_CTRL_CLOSE : Fld := ⟨0x10, 1, 1⟩
def QU_CTRL_OPEN : Fld := ⟨0x10, 0, 1⟩
def QU_STATUS_DROPS : Fld := ⟨0x14, 16, 16⟩
def QU_STATUS_WMI : Fld := ⟨0x14, 6, 1⟩
def QU_STATUS_SPLOST : Fld := ⟨0x14, 5, 1⟩
def QU_STATUS_OVF : Fld := ⟨0x14, 4, 1⟩
def QU_STATUS_PKT : Fld := ⟨0x14, 3, 1⟩
def QU_STATUS_FULL : Fld := ⟨0x14, 2, 1⟩
def QU_STATUS_EMPTY : Fld := ⟨0x14, 1, 1⟩
def QU_STATUS_IDLE : Fld := ⟨0x14, 0, 1⟩
def QU_LVL_P_LEVEL : Fld := ⟨0x18, 0, 17⟩
def QU_LVL_C_LEVEL : Fld := ⟨0x1c, 0, 17⟩
def QU_CFG_SPILL : Fld := ⟨0x20, 0, 14⟩
def QU_SPBASE_BASE : Fld := ⟨0x24, 0, 18⟩
def QU_WM_WM : Fld := ⟨0x28, 0, 17⟩
-- spec/13_touch.md, R314
def TAF_CTRL_MODE : Fld := ⟨0x0, 4, 2⟩
def TAF_CTRL_TEST : Fld := ⟨0x0, 1, 1⟩
def TAF_CTRL_REBASE : Fld := ⟨0x0, 0, 1⟩
def TAF_STATUS_DROPS : Fld := ⟨0x4, 16, 16⟩
def TAF_STATUS_FRUN : Fld := ⟨0x4, 8, 4⟩
def TAF_STATUS_TESTED : Fld := ⟨0x4, 7, 1⟩
def TAF_STATUS_TAS : Fld := ⟨0x4, 6, 1⟩
def TAF_STATUS_SET : Fld := ⟨0x4, 4, 2⟩
def TAF_STATUS_IDLE : Fld := ⟨0x4, 3, 1⟩
def TAF_STATUS_STATE : Fld := ⟨0x4, 0, 3⟩
def TAF_CFG_QB : Fld := ⟨0x8, 24, 8⟩
def TAF_CFG_QA : Fld := ⟨0x8, 16, 8⟩
def TAF_CFG_NSETS : Fld := ⟨0x8, 4, 2⟩
def TAF_CFG_T4 : Fld := ⟨0x8, 3, 1⟩
def TAF_CFG_KIND : Fld := ⟨0x8, 0, 1⟩
def TAF_STALE_STALE_T : Fld := ⟨0xc, 0, 13⟩
def TAF_OPEN_LINE : Fld := ⟨0x100, 0, 32⟩
def TAF_SHORT_LINE : Fld := ⟨0x120, 0, 32⟩
def TCE_CTRL_CAPTURE_REF : Fld := ⟨0x0, 2, 1⟩
def TCE_CTRL_TEST : Fld := ⟨0x0, 1, 1⟩
def TCE_CTRL_REBASE : Fld := ⟨0x0, 0, 1⟩
def TCE_STATUS_REF_GEN : Fld := ⟨0x4, 16, 16⟩
def TCE_STATUS_REF_BUSY : Fld := ⟨0x4, 15, 1⟩
def TCE_STATUS_REF_DONE : Fld := ⟨0x4, 14, 1⟩
def TCE_STATUS_REF_RESULT : Fld := ⟨0x4, 12, 2⟩
def TCE_SCAN_DROPS : Fld := ⟨0x8, 16, 16⟩
def TCE_SCAN_FRUN : Fld := ⟨0x8, 8, 4⟩
def TCE_SCAN_TESTED : Fld := ⟨0x8, 7, 1⟩
def TCE_SCAN_TAS : Fld := ⟨0x8, 6, 1⟩
def TCE_SCAN_SET : Fld := ⟨0x8, 4, 2⟩
def TCE_SCAN_IDLE : Fld := ⟨0x8, 3, 1⟩
def TCE_SCAN_STATE : Fld := ⟨0x8, 0, 3⟩
def TCE_KEY_PRESSED : Fld := ⟨0x100, 0, 32⟩
def TCE_OPEN_KEY : Fld := ⟨0x200, 0, 32⟩
def TCE_SHORT_KEY : Fld := ⟨0x220, 0, 32⟩
-- spec/14_haptics_audio.md, R337
def HAP_PLAY_STOP : Fld := ⟨0x0, 15, 1⟩
def HAP_PLAY_CH : Fld := ⟨0x0, 8, 3⟩
def HAP_PLAY_EFFECT : Fld := ⟨0x0, 0, 8⟩
def HAP_STATUS_DROPS : Fld := ⟨0x4, 24, 8⟩
def HAP_STATUS_FOLDS : Fld := ⟨0x4, 16, 8⟩
def HAP_STATUS_BUSY : Fld := ⟨0x4, 0, 8⟩
def HAP_LOCK_LOCK : Fld := ⟨0x8, 0, 8⟩
def HAP_BOOST_MV : Fld := ⟨0xc, 0, 16⟩
def HAP_CH_EFFECT : Fld := ⟨0x10, 24, 8⟩
def HAP_CH_CAUSE : Fld := ⟨0x10, 16, 4⟩
def HAP_CH_ABORTS : Fld := ⟨0x10, 8, 8⟩
def HAP_CH_STATE : Fld := ⟨0x10, 0, 3⟩
def HAP_CFG_ACC_FS : Fld := ⟨0x40, 24, 8⟩
def HAP_CFG_BRAKE_MAX : Fld := ⟨0x40, 16, 8⟩
def HAP_CFG_CLOSED : Fld := ⟨0x40, 0, 1⟩
def AIO_HS_BTN : Fld := ⟨0x10, 20, 4⟩
def AIO_HS_BTN_CHG : Fld := ⟨0x10, 16, 4⟩
def AIO_HS_BIAS : Fld := ⟨0x10, 7, 1⟩
def AIO_HS_MUTE : Fld := ⟨0x10, 6, 1⟩
def AIO_HS_TYPE : Fld := ⟨0x10, 0, 3⟩
def AUD_CTRL_COPY : Fld := ⟨0x0, 1, 1⟩
def AUD_CTRL_SWAP : Fld := ⟨0x0, 0, 1⟩
def AUD_STATUS_SWAP_PEND : Fld := ⟨0x4, 31, 1⟩
def AUD_STATUS_SWAPPED : Fld := ⟨0x4, 30, 1⟩
def AUD_STATUS_COPYING : Fld := ⟨0x4, 29, 1⟩
def AUD_STATUS_PROG : Fld := ⟨0x4, 24, 2⟩
def AUD_STATUS_BANK : Fld := ⟨0x4, 16, 1⟩
def AUD_CFG_HOLD : Fld := ⟨0x8, 16, 13⟩
def AUD_CFG_RATE : Fld := ⟨0x8, 0, 1⟩
def AUD_OVR_VALUE : Fld := ⟨0x100, 0, 32⟩
def AUD_PARAM_VALUE : Fld := ⟨0x4000, 0, 32⟩
def AUD_METER_CLIP : Fld := ⟨0x200, 31, 1⟩
def AUD_METER_VALUE : Fld := ⟨0x200, 0, 24⟩
def AUD_PEAK_VALUE : Fld := ⟨0x300, 0, 24⟩
-- spec/15_peer_domain.md, R360
def PLK_CTRL_PORT : Fld := ⟨0x0, 8, 1⟩
def PLK_CTRL_OP : Fld := ⟨0x0, 0, 4⟩
def PLK_STATUS_BUSY : Fld := ⟨0x4, 31, 1⟩
def PLK_STATUS_DONE : Fld := ⟨0x4, 30, 1⟩
def PLK_STATUS_RX_FULL : Fld := ⟨0x4, 29, 1⟩
def PLK_STATUS_AUTH : Fld := ⟨0x4, 28, 1⟩
def PLK_STATUS_CAUSE : Fld := ⟨0x4, 24, 4⟩
def PLK_STATUS_TIME : Fld := ⟨0x4, 16, 2⟩
def PLK_STATUS_MEMB : Fld := ⟨0x4, 8, 2⟩
def PLK_STATUS_RESULT : Fld := ⟨0x4, 0, 8⟩
def PLK_NODE_SET : Fld := ⟨0x8, 31, 1⟩
def PLK_NODE_NODE : Fld := ⟨0x8, 0, 18⟩
def PLK_EPOCH_VALUE : Fld := ⟨0xc, 0, 32⟩
def PLK_TOFF_VALUE : Fld := ⟨0x10, 0, 32⟩
def PLK_CFG_QB : Fld := ⟨0x14, 24, 8⟩
def PLK_CFG_QA : Fld := ⟨0x14, 16, 8⟩
def PLK_CFG_T4PORT : Fld := ⟨0x14, 0, 1⟩
def PLK_TXDST_ALL : Fld := ⟨0x18, 31, 1⟩
def PLK_TXDST_TYPE : Fld := ⟨0x18, 24, 4⟩
def PLK_TXDST_NODE : Fld := ⟨0x18, 0, 18⟩
def PLK_RXSRC_NODE : Fld := ⟨0x1c, 0, 18⟩
def PLK_ALQ_FAIL : Fld := ⟨0x20, 16, 8⟩
def PLK_ALQ_DONE : Fld := ⟨0x20, 8, 8⟩
def PLK_ALQ_PEND : Fld := ⟨0x20, 0, 8⟩
def PLK_PORT_TEC : Fld := ⟨0x30, 24, 8⟩
def PLK_PORT_REC : Fld := ⟨0x30, 16, 8⟩
def PLK_PORT_LINK : Fld := ⟨0x30, 3, 1⟩
def PLK_PORT_STATE : Fld := ⟨0x30, 0, 3⟩
def PLK_LOCK_STATE : Fld := ⟨0x40, 30, 2⟩
def PLK_LOCK_ERR : Fld := ⟨0x40, 0, 24⟩
-- spec/16_modes_lifecycle.md, R381
def MOD_CTRL_OP : Fld := ⟨0x0, 0, 4⟩
def MOD_STATUS_BUSY : Fld := ⟨0x4, 31, 1⟩
def MOD_STATUS_DONE : Fld := ⟨0x4, 30, 1⟩
def MOD_STATUS_MODE : Fld := ⟨0x4, 16, 4⟩
def MOD_STATUS_TIER : Fld := ⟨0x4, 8, 3⟩
def MOD_STATUS_RESULT : Fld := ⟨0x4, 0, 8⟩
def LCS_CTRL_CONFIRM : Fld := ⟨0x0, 8, 8⟩
def LCS_CTRL_OP : Fld := ⟨0x0, 0, 4⟩
def LCS_STATUS_BUSY : Fld := ⟨0x4, 31, 1⟩
def LCS_STATUS_DONE : Fld := ⟨0x4, 30, 1⟩
def LCS_STATUS_STATE : Fld := ⟨0x4, 28, 2⟩
def LCS_STATUS_KSLOT : Fld := ⟨0x4, 24, 1⟩
def LCS_STATUS_KEYGEN : Fld := ⟨0x4, 8, 16⟩
def LCS_STATUS_RESULT : Fld := ⟨0x4, 0, 8⟩
def LCS_SRC_PAGE : Fld := ⟨0x8, 0, 32⟩
-- spec/17_reset_bringup.md, R394
def RST_CTRL_PLINTH : Fld := ⟨0x0, 28, 1⟩
def RST_CTRL_PAGE : Fld := ⟨0x0, 16, 12⟩
def RST_CTRL_PART : Fld := ⟨0x0, 12, 4⟩
def RST_CTRL_TARGET : Fld := ⟨0x0, 8, 1⟩
def RST_CTRL_OP : Fld := ⟨0x0, 0, 4⟩
def RST_STATUS_BUSY : Fld := ⟨0x4, 31, 1⟩
def RST_STATUS_DONE : Fld := ⟨0x4, 30, 1⟩
def RST_STATUS_RESULT : Fld := ⟨0x4, 0, 8⟩
def RST_CAUSE_HALF_RESETS : Fld := ⟨0x8, 16, 16⟩
def RST_CAUSE_START : Fld := ⟨0x8, 8, 4⟩
def RST_CAUSE_CAUSE : Fld := ⟨0x8, 0, 4⟩
def RST_STRAP_RSV : Fld := ⟨0xc, 8, 1⟩
def RST_STRAP_CLKMODE : Fld := ⟨0xc, 4, 2⟩
def RST_STRAP_BOOT : Fld := ⟨0xc, 0, 3⟩
def RST_START_MQ_CAUSE : Fld := ⟨0x10, 24, 8⟩
def RST_START_FAILS : Fld := ⟨0x10, 16, 4⟩
def RST_START_WINDOW : Fld := ⟨0x10, 0, 10⟩
def RST_FETCH_D : Fld := ⟨0x40, 0, 32⟩
-- spec/18_power_shedding.md, R415
def PWR_REQ_REQ : Fld := ⟨0x0, 0, 31⟩
def PWR_DSTAT_D : Fld := ⟨0x10, 0, 32⟩
def PWR_THERM_MAX : Fld := ⟨0x20, 24, 8⟩
def PWR_THERM_CAP : Fld := ⟨0x20, 8, 2⟩
def PWR_THERM_TJ : Fld := ⟨0x20, 0, 8⟩
def SHD_STATUS_HUP_OK : Fld := ⟨0x0, 31, 1⟩
def SHD_STATUS_VIO33_F : Fld := ⟨0x0, 30, 1⟩
def SHD_STATUS_VIO18_F : Fld := ⟨0x0, 29, 1⟩
def SHD_STATUS_PLIM : Fld := ⟨0x0, 28, 1⟩
def SHD_STATUS_CHANGES : Fld := ⟨0x0, 8, 8⟩
def SHD_STATUS_VTIER : Fld := ⟨0x0, 4, 3⟩
def SHD_STATUS_TIER : Fld := ⟨0x0, 0, 3⟩
def SHD_VOLT_HUP : Fld := ⟨0x4, 16, 16⟩
def SHD_VOLT_VIN : Fld := ⟨0x4, 0, 16⟩
def SHD_PIN_P100 : Fld := ⟨0x8, 16, 16⟩
def SHD_PIN_P1S : Fld := ⟨0x8, 0, 16⟩
def SHD_REQ_REQ : Fld := ⟨0xc, 0, 22⟩
def SHD_DSTAT_D : Fld := ⟨0x10, 0, 32⟩
def SHD_THERM_MAX : Fld := ⟨0x20, 24, 8⟩
def SHD_THERM_LVL : Fld := ⟨0x20, 8, 2⟩
def SHD_THERM_TJ : Fld := ⟨0x20, 0, 8⟩
def KAL_CTRL_INC : Fld := ⟨0x0, 0, 4⟩
def KAL_WAKE_FRESH : Fld := ⟨0x4, 31, 1⟩
def KAL_WAKE_CAUSE : Fld := ⟨0x4, 16, 4⟩
def KAL_WAKE_TAMPER : Fld := ⟨0x4, 4, 1⟩
def KAL_WAKE_EN : Fld := ⟨0x4, 0, 4⟩
def KAL_RTC_LO_TICK : Fld := ⟨0x8, 0, 32⟩
def KAL_RTC_HI_TICK : Fld := ⟨0xc, 0, 16⟩
def KAL_ALARM_SEC : Fld := ⟨0x10, 0, 32⟩
def KAL_MCNT_COUNT : Fld := ⟨0x20, 0, 32⟩
-- spec/19_patina.md, R431
def PAT_CTRL_CODE : Fld := ⟨0x0, 16, 12⟩
def PAT_CTRL_POS : Fld := ⟨0x0, 8, 3⟩
def PAT_CTRL_OP : Fld := ⟨0x0, 0, 4⟩
def PAT_STATUS_VALID : Fld := ⟨0x4, 24, 8⟩
def PAT_STATUS_LOCKED : Fld := ⟨0x4, 16, 8⟩
def PAT_STATUS_CLOSING : Fld := ⟨0x4, 15, 1⟩
def PAT_STATUS_SCAN : Fld := ⟨0x4, 14, 1⟩
def PAT_STATUS_MISSED : Fld := ⟨0x4, 0, 8⟩
def PAT_DROPS_DROPS : Fld := ⟨0x8, 0, 16⟩
def PAT_SEQ_LO_SEQ : Fld := ⟨0xc, 0, 32⟩
def PAT_SEQ_HI_SEQ : Fld := ⟨0x10, 0, 16⟩
def PAT_RSEL_SLOT : Fld := ⟨0x14, 0, 17⟩
def PAT_HOST_DATA : Fld := ⟨0x40, 0, 32⟩
-- spec/20_package_electrical.md, R439
def SVC_STATUS_SESSIONS : Fld := ⟨0x0, 16, 16⟩
def SVC_STATUS_VBUS : Fld := ⟨0x0, 4, 1⟩
def SVC_STATUS_ATTACHED : Fld := ⟨0x0, 3, 1⟩
def SVC_STATUS_SERVICE : Fld := ⟨0x0, 2, 1⟩
def SVC_STATUS_WAKE : Fld := ⟨0x0, 1, 1⟩
def SVC_STATUS_ALERT : Fld := ⟨0x0, 0, 1⟩
def SVC_ALERT_COUNT : Fld := ⟨0x4, 16, 16⟩
def SVC_ALERT_CLEAR : Fld := ⟨0x4, 0, 1⟩
-- spec/21_register_index.md, R455
def PTN_INFO_VALID : Fld := ⟨0x0, 31, 1⟩
def PTN_INFO_WORLD : Fld := ⟨0x0, 8, 1⟩
def PTN_GRANT_PAGE : Fld := ⟨0x100, 0, 32⟩
def PTN_PGRANT_PAGE : Fld := ⟨0x200, 0, 32⟩
-- spec/21_register_index.md, R456
def INS_STATE_ST : Fld := ⟨0x0, 0, 32⟩
-- spec/21_register_index.md, R457
def PCI_STATUS_LINK : Fld := ⟨0x0, 31, 1⟩
def PCI_STATUS_ROOT : Fld := ⟨0x0, 30, 1⟩
def PCI_STATUS_VFS : Fld := ⟨0x0, 16, 6⟩
def PCI_STATUS_WIDTH : Fld := ⟨0x0, 4, 3⟩
def PCI_STATUS_SPEED : Fld := ⟨0x0, 0, 4⟩

end F

end Sys2Proof.Machine
end

