-- ==== Sys2Proof/Machine/RegTable.lean ====
section
/-! DEFINITION. The register tables of spec/: for each kind of page its registers, with the access code (R5), the reset value
(Reset column; "Image" and "Stored" are 0 until the image or the store gives them, log entry 2) and the reset class (R7) of
every field. A bit that no field names is reserved (R6). -/

namespace Sys2Proof.Machine

/-- Access codes (R5). No field table of the manual uses W1S. -/
inductive Acc where
  | rw | ro | wo | w1c | w1s
  deriving DecidableEq, Repr

/-- Reset classes (R7). -/
inductive Cls where
  | K | M | P | H | T | F | A
  deriving DecidableEq, Repr

/-- One row of a field table. -/
structure FldD where
  lsb : Nat
  width : Nat
  acc : Acc
  reset : Nat
  cls : Cls
  deriving DecidableEq, Repr

/-- One register, or a family of them at `off` plus the multiples of `dims` (stride, count). -/
structure RegD where
  off : Nat
  dims : List (Nat × Nat)
  fields : List FldD
  deriving DecidableEq, Repr

/-- The kinds of register page (R452, R453, R454); `hart` holds the two CSRs of an application hart (R210). -/
inductive PageKind where
  | arm | cmp | scn | ick | rcx | gfe | pair | twn | hart | wld | saf | inst | insq | spm | dmc | cvu | qu | taf | tce | hap | aio | aud | plk | mod | lcs | rst | pwr | shd | kal | pat | svc | ptn | ins | pci
  deriving DecidableEq, Repr

/-- Registers of a discovery record (spec/01 R28). The other three words of a record have no field table. DESIGN CHOICE (log entry 107): they stay until
the position changes again, through every reset; what a read returns are the holding registers, which R30 puts in class F. -/
def regsDrec : List RegD := [
  ⟨0xf000, [(0x10, 256)], [⟨24, 8, .ro, 0, .F⟩, ⟨8, 1, .w1c, 0, .F⟩, ⟨0, 4, .ro, 0, .F⟩]⟩  -- DREC_STATUS
  ]

/-- Registers of a page of kind ARM (spec/02 R459, 02 R52). -/
def regsArm : List RegD := [
  ⟨0x0, [], [⟨8, 1, .wo, 0, .H⟩, ⟨0, 4, .wo, 0, .H⟩]⟩,  -- ARM_CMD
  ⟨0x4, [], [⟨31, 1, .ro, 0, .P⟩, ⟨30, 1, .w1c, 0, .P⟩, ⟨24, 4, .ro, 0, .P⟩, ⟨0, 8, .ro, 0, .P⟩]⟩,  -- ARM_STATUS
  ⟨0x8, [], [⟨0, 32, .rw, 0, .H⟩]⟩,  -- ARM_SRC
  ⟨0xc, [], [⟨0, 13, .rw, 0, .H⟩]⟩,  -- ARM_LEN
  ⟨0x10, [(0x4, 2)], [⟨16, 16, .ro, 0, .P⟩, ⟨0, 3, .ro, 0, .P⟩]⟩,  -- ARM_SLOT
  ⟨0x18, [], [⟨8, 1, .ro, 0, .P⟩, ⟨4, 1, .ro, 0, .P⟩, ⟨1, 1, .ro, 0, .P⟩, ⟨0, 1, .ro, 0, .P⟩]⟩,  -- ARM_ACTIVE
  ⟨0x1c, [], [⟨0, 16, .ro, 0, .M⟩]⟩,  -- ARM_FLOOR
  ⟨0x20, [], [⟨0, 25, .ro, 0, .P⟩]⟩  -- ARM_DIFF
  ]

/-- Registers of a page of kind CMP (spec/03 R80, 04 R109). -/
def regsCmp : List RegD := [
  ⟨0x0, [], [⟨0, 1, .wo, 0, .F⟩]⟩,  -- CMP_COMMIT
  ⟨0x4, [], [⟨16, 16, .ro, 0, .F⟩, ⟨1, 1, .w1c, 0, .F⟩, ⟨0, 1, .ro, 0, .F⟩]⟩,  -- CMP_STATUS
  ⟨0x8, [], [⟨0, 1, .rw, 0, .F⟩]⟩,  -- CMP_CTRL
  ⟨0xc, [], [⟨0, 2, .ro, 0, .A⟩]⟩,  -- CMP_OUT
  ⟨0x10, [], [⟨20, 10, .rw, 0, .F⟩, ⟨10, 10, .rw, 0, .F⟩, ⟨0, 10, .rw, 0, .F⟩]⟩,  -- CMP_BG
  ⟨0x2000, [(0x800, 3), (0x4, 257)], [⟨0, 12, .rw, 0, .F⟩]⟩,  -- CMP_CT
  ⟨0x1000, [(0x40, 16)], [⟨31, 1, .rw, 0, .F⟩, ⟨28, 1, .rw, 0, .F⟩, ⟨26, 2, .rw, 0, .F⟩, ⟨20, 4, .rw, 0, .F⟩, ⟨0, 8, .rw, 0xff, .F⟩]⟩,  -- LY_CTRL
  ⟨0x1004, [(0x40, 16)], [⟨6, 26, .rw, 0, .F⟩]⟩,  -- LY_ADDR_LO
  ⟨0x1008, [(0x40, 16)], [⟨16, 16, .rw, 0, .F⟩, ⟨0, 16, .rw, 0, .F⟩]⟩,  -- LY_ADDR_HI
  ⟨0x100c, [(0x40, 16)], [⟨6, 26, .rw, 0, .F⟩]⟩,  -- LY_PAY_LO
  ⟨0x1010, [(0x40, 16)], [⟨0, 16, .rw, 0, .F⟩]⟩,  -- LY_PAY_HI
  ⟨0x1014, [(0x40, 16)], [⟨16, 14, .rw, 0, .F⟩, ⟨0, 14, .rw, 0, .F⟩]⟩,  -- LY_SRC_POS
  ⟨0x1018, [(0x40, 16)], [⟨16, 14, .rw, 1, .F⟩, ⟨0, 14, .rw, 1, .F⟩]⟩,  -- LY_SRC_SIZE
  ⟨0x101c, [(0x40, 16)], [⟨16, 12, .rw, 0, .F⟩, ⟨0, 13, .rw, 0, .F⟩]⟩,  -- LY_DST_POS
  ⟨0x1020, [(0x40, 16)], [⟨16, 12, .rw, 1, .F⟩, ⟨0, 13, .rw, 1, .F⟩]⟩,  -- LY_DST_SIZE
  ⟨0x1024, [(0x40, 16)], [⟨16, 16, .rw, 0x4000, .F⟩, ⟨0, 16, .rw, 0x4000, .F⟩]⟩,  -- LY_STEP
  ⟨0x14, [], [⟨16, 6, .ro, 0, .F⟩, ⟨8, 3, .ro, 0, .F⟩, ⟨4, 3, .ro, 7, .F⟩, ⟨0, 4, .ro, 0, .F⟩]⟩,  -- CMP_SCHED
  ⟨0x18, [], [⟨31, 1, .ro, 0, .F⟩, ⟨0, 13, .ro, 0, .F⟩]⟩,  -- CMP_FILL
  ⟨0x1c, [], [⟨16, 16, .ro, 0, .F⟩, ⟨8, 8, .ro, 0, .F⟩, ⟨1, 1, .w1c, 0, .F⟩, ⟨0, 1, .w1c, 0, .F⟩]⟩,  -- CMP_UNDER
  ⟨0x20, [], [⟨16, 16, .ro, 0, .F⟩, ⟨0, 12, .ro, 0, .F⟩]⟩,  -- CMP_UNDER_AT
  ⟨0x24, [], [⟨20, 10, .ro, 0, .A⟩, ⟨10, 10, .ro, 0, .A⟩, ⟨0, 10, .ro, 0, .A⟩]⟩,  -- CMP_FALLBACK
  ⟨0x28, [], [⟨16, 13, .ro, 0, .A⟩, ⟨0, 13, .ro, 0, .A⟩]⟩  -- CMP_WM
  ]

/-- Registers of a page of kind SCN (spec/05 R138). -/
def regsScn : List RegD := [
  ⟨0x0, [], [⟨2, 1, .wo, 0, .F⟩, ⟨1, 1, .wo, 0, .F⟩, ⟨0, 1, .rw, 0, .F⟩]⟩,  -- SCN_CTRL
  ⟨0x4, [], [⟨24, 8, .ro, 0, .F⟩, ⟨11, 1, .w1c, 0, .F⟩, ⟨10, 1, .w1c, 0, .F⟩, ⟨9, 1, .w1c, 0, .F⟩, ⟨8, 1, .ro, 0, .F⟩, ⟨4, 1, .ro, 0, .F⟩, ⟨0, 2, .ro, 3, .F⟩]⟩,  -- SCN_STATUS
  ⟨0x8, [], [⟨0, 32, .ro, 0, .P⟩]⟩,  -- SCN_FRAME
  ⟨0xc, [], [⟨0, 12, .ro, 0, .P⟩]⟩,  -- SCN_LINE
  ⟨0x10, [], [⟨28, 4, .ro, 0, .A⟩, ⟨24, 4, .ro, 0, .A⟩, ⟨20, 3, .ro, 0, .A⟩, ⟨16, 3, .ro, 0, .A⟩, ⟨10, 2, .ro, 0, .A⟩, ⟨8, 2, .ro, 0, .A⟩, ⟨7, 1, .ro, 0, .A⟩, ⟨6, 1, .ro, 0, .A⟩, ⟨5, 1, .ro, 0, .A⟩, ⟨4, 1, .ro, 0, .A⟩, ⟨0, 1, .ro, 0, .A⟩]⟩,  -- SCN_CFG
  ⟨0x14, [], [⟨16, 8, .ro, 0, .A⟩, ⟨0, 9, .ro, 0, .A⟩]⟩,  -- SCN_CFG2
  ⟨0x18, [], [⟨0, 21, .ro, 0, .A⟩]⟩,  -- SCN_PCLK
  ⟨0x1c, [], [⟨16, 13, .ro, 0, .A⟩, ⟨0, 13, .ro, 0, .A⟩]⟩,  -- SCN_HTIM0
  ⟨0x20, [], [⟨31, 1, .ro, 0, .A⟩, ⟨16, 10, .ro, 0, .A⟩, ⟨0, 11, .ro, 0, .A⟩]⟩,  -- SCN_HTIM1
  ⟨0x24, [], [⟨16, 12, .ro, 0, .A⟩, ⟨0, 12, .ro, 0, .A⟩]⟩,  -- SCN_VTIM0
  ⟨0x28, [], [⟨31, 1, .ro, 0, .A⟩, ⟨16, 6, .ro, 0, .A⟩, ⟨0, 8, .ro, 0, .A⟩]⟩,  -- SCN_VTIM1
  ⟨0x2c, [], [⟨31, 1, .ro, 0, .F⟩, ⟨30, 1, .ro, 0, .F⟩, ⟨29, 1, .ro, 0, .F⟩, ⟨24, 4, .ro, 0, .F⟩, ⟨16, 3, .ro, 0, .F⟩, ⟨8, 8, .ro, 0, .F⟩, ⟨0, 4, .ro, 0, .F⟩]⟩,  -- SCN_LINK
  ⟨0x30, [], [⟨0, 10, .ro, 0, .P⟩]⟩  -- SCN_TRIM
  ]

/-- Registers of a page of kind ICK (spec/06 R155). -/
def regsIck : List RegD := [
  ⟨0x0, [], [⟨2, 1, .wo, 0, .F⟩, ⟨1, 1, .wo, 0, .F⟩, ⟨0, 1, .wo, 0, .F⟩]⟩,  -- ICK_CTRL
  ⟨0x4, [], [⟨24, 8, .ro, 0, .F⟩, ⟨7, 1, .w1c, 0, .F⟩, ⟨6, 1, .ro, 0, .F⟩, ⟨3, 1, .ro, 0, .F⟩, ⟨2, 1, .ro, 0, .F⟩, ⟨1, 1, .ro, 0, .F⟩, ⟨0, 1, .ro, 0, .F⟩]⟩,  -- ICK_STATUS
  ⟨0x8, [], [⟨16, 16, .w1c, 0, .F⟩, ⟨0, 16, .w1c, 0, .F⟩]⟩,  -- ICK_MIS
  ⟨0xc, [], [⟨0, 32, .ro, 0, .F⟩]⟩,  -- ICK_FCRC
  ⟨0x10, [], [⟨8, 8, .ro, 0, .A⟩, ⟨4, 4, .ro, 0, .A⟩, ⟨0, 2, .ro, 0, .A⟩]⟩,  -- ICK_SINKCFG
  ⟨0x40, [(0x4, 16)], [⟨0, 6, .rw, 0, .F⟩]⟩,  -- ICK_STATE
  ⟨0x80, [(0x4, 16)], [⟨16, 16, .ro, 0, .F⟩, ⟨12, 4, .ro, 0, .F⟩, ⟨8, 4, .ro, 0, .F⟩, ⟨7, 1, .ro, 0, .F⟩, ⟨6, 1, .ro, 0, .F⟩, ⟨0, 6, .ro, 0, .F⟩]⟩,  -- ICK_RSTAT
  ⟨0xc0, [(0x4, 16)], [⟨0, 32, .ro, 0, .F⟩]⟩,  -- ICK_CRC_S
  ⟨0x100, [(0x4, 16)], [⟨0, 32, .ro, 0, .F⟩]⟩  -- ICK_CRC_U
  ]

/-- Registers of a page of kind RCX (spec/07 R183). -/
def regsRcx : List RegD := [
  ⟨0x0, [], [⟨8, 5, .ro, 0, .A⟩, ⟨4, 2, .ro, 0, .A⟩, ⟨0, 1, .ro, 0, .A⟩]⟩,  -- RCX_CFG
  ⟨0x4, [], [⟨8, 1, .w1c, 0, .F⟩, ⟨0, 3, .rw, 0, .F⟩]⟩,  -- RCX_PRIO
  ⟨0x8, [], [⟨1, 1, .wo, 0, .F⟩, ⟨0, 1, .wo, 0, .F⟩]⟩,  -- RCX_CTRL
  ⟨0xc, [], [⟨8, 4, .ro, 0, .F⟩, ⟨0, 3, .ro, 0, .F⟩]⟩,  -- RCX_STATUS
  ⟨0x10, [], [⟨12, 20, .rw, 0, .F⟩]⟩,  -- RCX_RING_LO
  ⟨0x14, [], [⟨16, 4, .rw, 4, .F⟩, ⟨0, 16, .rw, 0, .F⟩]⟩,  -- RCX_RING_HI
  ⟨0x18, [], [⟨0, 32, .rw, 0, .F⟩]⟩,  -- RCX_TAIL
  ⟨0x1c, [], [⟨0, 32, .ro, 0, .F⟩]⟩,  -- RCX_HEAD
  ⟨0x20, [], [⟨0, 32, .rw, 0, .F⟩]⟩,  -- RCX_PT
  ⟨0x24, [], [⟨0, 32, .rw, 0, .F⟩]⟩,  -- RCX_SAVE
  ⟨0x28, [], [⟨0, 32, .rw, 0, .F⟩]⟩,  -- RCX_MISS
  ⟨0x2c, [], [⟨16, 16, .ro, 0, .F⟩, ⟨12, 4, .rw, 0, .F⟩, ⟨0, 12, .ro, 0, .F⟩]⟩,  -- RCX_MISS_PTR
  ⟨0x30, [], [⟨0, 32, .ro, 0, .F⟩]⟩  -- RCX_FAULT
  ]

/-- Registers of a page of kind GFE (spec/07 R183). -/
def regsGfe : List RegD := [
  ⟨0x0, [], [⟨24, 3, .ro, 0, .F⟩, ⟨0, 16, .ro, 0, .F⟩]⟩  -- GFE_LAT
  ]

/-- Registers of a page of kind PAIR (spec/08 R461). -/
def regsPair : List RegD := [
  ⟨0x0, [], [⟨16, 8, .wo, 0, .P⟩, ⟨8, 1, .wo, 0, .P⟩, ⟨0, 4, .wo, 0, .P⟩]⟩,  -- PAIR_CTRL
  ⟨0x4, [], [⟨31, 1, .ro, 0, .P⟩, ⟨30, 1, .w1c, 0, .P⟩, ⟨20, 4, .ro, 0, .P⟩, ⟨16, 4, .ro, 0, .P⟩, ⟨8, 2, .ro, 3, .P⟩, ⟨0, 8, .ro, 0, .P⟩]⟩,  -- PAIR_STATUS
  ⟨0x8, [], [⟨24, 8, .ro, 0, .A⟩, ⟨8, 8, .ro, 0, .A⟩, ⟨0, 1, .ro, 0, .A⟩]⟩,  -- PAIR_CFG
  ⟨0xc, [], [⟨16, 12, .ro, 0, .P⟩, ⟨0, 16, .ro, 0, .P⟩]⟩,  -- PAIR_DIFF
  ⟨0x40, [(0x4, 8)], [⟨16, 16, .ro, 0, .P⟩, ⟨15, 1, .ro, 0, .P⟩, ⟨12, 3, .ro, 7, .P⟩, ⟨8, 3, .ro, 7, .P⟩, ⟨5, 3, .ro, 0, .P⟩, ⟨4, 1, .ro, 0, .A⟩]⟩  -- PAIR_PORT
  ]

/-- Registers of a page of kind TWN (spec/08 R461). -/
def regsTwn : List RegD := [
  ⟨0x0, [], [⟨31, 1, .ro, 0, .H⟩, ⟨30, 1, .ro, 0, .H⟩, ⟨29, 1, .w1c, 0, .H⟩, ⟨0, 19, .ro, 0, .H⟩]⟩,  -- TWN_STATUS
  ⟨0x4, [], [⟨0, 16, .rw, 0, .A⟩]⟩,  -- TWN_MIR_SRC
  ⟨0x8, [], [⟨0, 32, .wo, 0, .H⟩]⟩,  -- TWN_MFENCE
  ⟨0xc, [], [⟨0, 32, .ro, 0, .H⟩]⟩,  -- TWN_MACK
  ⟨0x100, [(0x8, 16)], [⟨16, 16, .ro, 0, .A⟩, ⟨0, 16, .ro, 0, .A⟩]⟩,  -- TWN_MREG
  ⟨0x104, [(0x8, 16)], [⟨31, 1, .ro, 0, .A⟩, ⟨0, 17, .ro, 0, .A⟩]⟩  -- TWN_MREG_SZ
  ]

/-- Registers of a page of kind HART (spec/09 R211). -/
def regsHart : List RegD := [
  ⟨0x7c0, [], [⟨8, 4, .rw, 0, .H⟩, ⟨1, 1, .rw, 1, .H⟩, ⟨0, 1, .ro, 1, .H⟩]⟩,  -- mworld
  ⟨0x6c0, [], [⟨0, 4, .rw, 0, .H⟩]⟩  -- hpart
  ]

/-- Registers of a page of kind WLD (spec/09 R231). -/
def regsWld : List RegD := [
  ⟨0x0, [], [⟨4, 2, .wo, 0, .H⟩, ⟨1, 1, .wo, 0, .H⟩, ⟨0, 1, .wo, 0, .H⟩]⟩,  -- WLD_CTRL
  ⟨0x4, [], [⟨31, 1, .ro, 0, .H⟩, ⟨30, 1, .w1c, 0, .H⟩, ⟨29, 1, .w1c, 0, .H⟩, ⟨24, 4, .ro, 0, .H⟩, ⟨20, 4, .ro, 0, .H⟩, ⟨16, 4, .ro, 0, .H⟩, ⟨0, 16, .ro, 0, .H⟩]⟩,  -- WLD_STATUS
  ⟨0x8, [], [⟨16, 16, .ro, 0, .A⟩, ⟨8, 4, .ro, 0, .A⟩, ⟨0, 1, .ro, 0, .A⟩]⟩,  -- WLD_CFG
  ⟨0x10, [], [⟨31, 1, .w1c, 0, .H⟩, ⟨28, 2, .ro, 0, .H⟩, ⟨27, 1, .ro, 0, .H⟩, ⟨23, 4, .ro, 0, .H⟩, ⟨21, 2, .ro, 0, .H⟩, ⟨0, 16, .ro, 0, .H⟩]⟩,  -- WLD_RFAULT0
  ⟨0x14, [], [⟨0, 32, .ro, 0, .H⟩]⟩,  -- WLD_RFAULT1
  ⟨0x20, [], [⟨24, 8, .wo, 0, .H⟩, ⟨0, 24, .ro, 0, .H⟩]⟩,  -- WLD_WDOG
  ⟨0x24, [], [⟨16, 16, .ro, 0, .P⟩, ⟨0, 14, .ro, 0, .A⟩]⟩,  -- WLD_WDCFG
  ⟨0x30, [], [⟨3, 1, .rw, 0, .H⟩, ⟨2, 1, .rw, 0, .H⟩, ⟨1, 1, .rw, 0, .T⟩, ⟨0, 1, .rw, 0, .T⟩]⟩,  -- WLD_DBG
  ⟨0x40, [(0x4, 12)], [⟨0, 32, .wo, 0, .T⟩]⟩,  -- WLD_EXT
  ⟨0x100, [(0x40, 4), (0x4, 12)], [⟨0, 32, .ro, 0, .H⟩]⟩,  -- WLD_MR m ≤ 3
  ⟨0x200, [(0x40, 4), (0x4, 12)], [⟨0, 32, .ro, 0, .T⟩]⟩,  -- WLD_MR m ≥ 4
  ⟨0x400, [(0x10, 104)], [⟨0, 32, .ro, 0, .A⟩]⟩,  -- WLD_RGN0
  ⟨0x404, [(0x10, 104)], [⟨0, 32, .ro, 0, .A⟩]⟩,  -- WLD_RGN1
  ⟨0x408, [(0x10, 104)], [⟨16, 16, .ro, 0, .A⟩, ⟨7, 1, .ro, 0, .A⟩, ⟨4, 2, .ro, 0, .A⟩, ⟨0, 3, .ro, 0, .A⟩]⟩  -- WLD_RGN2
  ]

/-- Registers of a page of kind SAF (spec/09 R231). -/
def regsSaf : List RegD := [
  ⟨0x0, [], [⟨16, 16, .ro, 0, .H⟩, ⟨2, 1, .ro, 0, .H⟩, ⟨1, 1, .w1c, 0, .H⟩, ⟨0, 1, .ro, 0, .H⟩]⟩  -- SAF_STATUS
  ]

/-- Registers of a page of kind INST (spec/10 R250). -/
def regsInst : List RegD := [
  ⟨0x0, [], [⟨8, 1, .wo, 0, .F⟩, ⟨0, 4, .wo, 0, .F⟩]⟩,  -- INST_CTRL
  ⟨0x4, [], [⟨31, 1, .ro, 0, .F⟩, ⟨30, 1, .w1c, 0, .F⟩, ⟨24, 4, .ro, 0, .F⟩, ⟨0, 8, .ro, 0, .F⟩]⟩,  -- INST_STATUS
  ⟨0x8, [], [⟨16, 16, .ro, 0, .F⟩, ⟨8, 4, .ro, 0, .F⟩, ⟨7, 1, .ro, 0, .F⟩, ⟨6, 1, .ro, 0, .F⟩, ⟨5, 1, .ro, 0, .F⟩, ⟨0, 4, .ro, 0, .F⟩]⟩,  -- INST_STATE
  ⟨0xc, [], [⟨0, 32, .ro, 0, .F⟩]⟩,  -- INST_SEQ
  ⟨0x10, [], [⟨12, 20, .rw, 0, .F⟩]⟩,  -- INST_SBLK_LO
  ⟨0x14, [], [⟨0, 16, .rw, 0, .F⟩]⟩,  -- INST_SBLK_HI
  ⟨0x18, [], [⟨16, 10, .ro, 0, .A⟩, ⟨15, 1, .ro, 0, .A⟩, ⟨8, 7, .ro, 0, .A⟩, ⟨7, 1, .ro, 0, .A⟩, ⟨6, 1, .ro, 0, .A⟩, ⟨0, 4, .ro, 0, .A⟩]⟩,  -- INST_CFG
  ⟨0x40, [(0x4, 16)], [⟨31, 1, .ro, 0, .A⟩, ⟨16, 3, .ro, 0, .A⟩, ⟨0, 4, .ro, 0, .A⟩]⟩  -- INST_MAP
  ]

/-- Registers of a page of kind INSQ (spec/10 R250). -/
def regsInsq : List RegD := [
  ⟨0x0, [], [⟨12, 20, .rw, 0, .F⟩]⟩,  -- INSQ_MBOX_LO
  ⟨0x4, [], [⟨31, 1, .rw, 0, .F⟩, ⟨0, 16, .rw, 0, .F⟩]⟩,  -- INSQ_MBOX_HI
  ⟨0x8, [], [⟨0, 32, .wo, 0, .F⟩]⟩,  -- INSQ_DOORBELL
  ⟨0xc, [], [⟨0, 32, .ro, 0, .F⟩]⟩  -- INSQ_HEAD
  ]

/-- Registers of a page of kind SPM (spec/11 R258). -/
def regsSpm : List RegD := [
  ⟨0x0, [], [⟨0, 4, .wo, 0, .H⟩]⟩,  -- SPM_CTRL
  ⟨0x4, [], [⟨31, 1, .ro, 0, .H⟩, ⟨30, 1, .w1c, 0, .H⟩, ⟨29, 1, .w1c, 0, .H⟩, ⟨28, 1, .w1c, 0, .H⟩, ⟨8, 16, .ro, 0, .H⟩, ⟨0, 3, .ro, 0, .H⟩]⟩,  -- SPM_STATUS
  ⟨0x8, [], [⟨31, 1, .w1c, 0, .H⟩, ⟨19, 12, .ro, 0, .H⟩, ⟨0, 19, .ro, 0, .H⟩]⟩,  -- SPM_COLL
  ⟨0x10, [(0x4, 2)], [⟨0, 32, .ro, 0, .P⟩]⟩,  -- SPM_REPAIR
  ⟨0x18, [], [⟨0, 16, .ro, 0, .P⟩]⟩,  -- SPM_UNREP
  ⟨0x1c, [], [⟨0, 1, .ro, 0, .A⟩]⟩  -- SPM_CFG
  ]

/-- Registers of a page of kind DMC (spec/11 R269). -/
def regsDmc : List RegD := [
  ⟨0x0, [], [⟨31, 1, .ro, 0, .H⟩, ⟨30, 1, .ro, 0, .H⟩, ⟨29, 1, .w1c, 0, .H⟩, ⟨28, 1, .ro, 0, .H⟩, ⟨27, 1, .ro, 0, .H⟩, ⟨16, 4, .ro, 0, .H⟩, ⟨0, 4, .ro, 0, .H⟩]⟩,  -- DMC_STATUS
  ⟨0x10, [(0x4, 2)], [⟨0, 32, .rw, 0, .H⟩]⟩,  -- DMC_BE
  ⟨0x18, [], [⟨0, 8, .rw, 0xff, .H⟩]⟩  -- DMC_PASR
  ]

/-- Registers of a page of kind CVU (spec/11 R273). -/
def regsCvu : List RegD := [
  ⟨0x0, [], [⟨7, 1, .rw, 0, .F⟩, ⟨6, 1, .rw, 0, .F⟩, ⟨5, 1, .rw, 0, .F⟩, ⟨4, 1, .rw, 0, .F⟩, ⟨3, 1, .rw, 0, .F⟩, ⟨1, 1, .wo, 0, .F⟩, ⟨0, 1, .wo, 0, .F⟩]⟩,  -- CVU_CTRL
  ⟨0x4, [], [⟨31, 1, .ro, 0, .F⟩, ⟨30, 1, .w1c, 0, .F⟩, ⟨29, 1, .w1c, 0, .F⟩, ⟨28, 1, .w1c, 0, .F⟩, ⟨0, 16, .ro, 0, .F⟩]⟩,  -- CVU_STATUS
  ⟨0x8, [], [⟨6, 26, .rw, 0, .F⟩]⟩,  -- CVU_BASE_LO
  ⟨0xc, [], [⟨0, 16, .rw, 0, .F⟩]⟩,  -- CVU_BASE_HI
  ⟨0x10, [], [⟨0, 32, .rw, 0, .F⟩]⟩,  -- CVU_LEN
  ⟨0x14, [], [⟨0, 32, .rw, 0, .F⟩]⟩,  -- CVU_SEQ0
  ⟨0x18, [], [⟨0, 32, .rw, 0xffffffff, .F⟩]⟩,  -- CVU_RUN
  ⟨0x1c, [], [⟨0, 32, .ro, 0, .F⟩]⟩,  -- CVU_DONEBLK
  ⟨0x20, [], [⟨0, 32, .rw, 0, .F⟩]⟩,  -- CVU_EXPECT
  ⟨0x24, [], [⟨0, 32, .ro, 0, .F⟩]⟩  -- CVU_RESULT
  ]

/-- Registers of a page of kind QU (spec/12 R293). -/
def regsQu : List RegD := [
  ⟨0x0, [], [⟨0, 32, .wo, 0, .F⟩]⟩,  -- QU_PUSH_LO
  ⟨0x4, [], [⟨0, 32, .wo, 0, .F⟩]⟩,  -- QU_PUSH_HI
  ⟨0x8, [], [⟨0, 32, .ro, 0, .F⟩]⟩,  -- QU_POP_LO
  ⟨0xc, [], [⟨0, 32, .ro, 0, .F⟩]⟩,  -- QU_POP_HI
  ⟨0x10, [], [⟨1, 1, .wo, 0, .F⟩, ⟨0, 1, .wo, 0, .F⟩]⟩,  -- QU_CTRL
  ⟨0x14, [], [⟨16, 16, .ro, 0, .F⟩, ⟨6, 1, .w1c, 0, .F⟩, ⟨5, 1, .w1c, 0, .F⟩, ⟨4, 1, .w1c, 0, .F⟩, ⟨3, 1, .ro, 0, .F⟩, ⟨2, 1, .ro, 0, .F⟩, ⟨1, 1, .ro, 1, .F⟩, ⟨0, 1, .ro, 1, .F⟩]⟩,  -- QU_STATUS
  ⟨0x18, [], [⟨0, 17, .ro, 0, .F⟩]⟩,  -- QU_LVL_P
  ⟨0x1c, [], [⟨0, 17, .ro, 0, .F⟩]⟩,  -- QU_LVL_C
  ⟨0x20, [], [⟨0, 14, .ro, 0, .A⟩]⟩,  -- QU_CFG
  ⟨0x24, [], [⟨0, 18, .ro, 0, .A⟩]⟩,  -- QU_SPBASE
  ⟨0x28, [], [⟨0, 17, .rw, 1, .F⟩]⟩  -- QU_WM
  ]

/-- Registers of a page of kind TAF (spec/13 R314). -/
def regsTaf : List RegD := [
  ⟨0x0, [], [⟨4, 2, .rw, 0, .F⟩, ⟨1, 1, .wo, 0, .F⟩, ⟨0, 1, .wo, 0, .F⟩]⟩,  -- TAF_CTRL
  ⟨0x4, [], [⟨16, 16, .ro, 0, .F⟩, ⟨8, 4, .ro, 0, .F⟩, ⟨7, 1, .w1c, 0, .F⟩, ⟨6, 1, .ro, 0, .F⟩, ⟨4, 2, .ro, 0, .F⟩, ⟨3, 1, .ro, 1, .F⟩, ⟨0, 3, .ro, 0, .F⟩]⟩,  -- TAF_STATUS
  ⟨0x8, [], [⟨24, 8, .ro, 0, .A⟩, ⟨16, 8, .ro, 0, .A⟩, ⟨4, 2, .ro, 0, .A⟩, ⟨3, 1, .ro, 0, .A⟩, ⟨0, 1, .ro, 0, .A⟩]⟩,  -- TAF_CFG
  ⟨0xc, [], [⟨0, 13, .rw, 0x14, .F⟩]⟩,  -- TAF_STALE
  ⟨0x100, [(0x4, 8)], [⟨0, 32, .ro, 0, .F⟩]⟩,  -- TAF_OPEN
  ⟨0x120, [(0x4, 8)], [⟨0, 32, .ro, 0, .F⟩]⟩  -- TAF_SHORT
  ]

/-- Registers of a page of kind TCE (spec/13 R314). -/
def regsTce : List RegD := [
  ⟨0x0, [], [⟨2, 1, .wo, 0, .F⟩, ⟨1, 1, .wo, 0, .F⟩, ⟨0, 1, .wo, 0, .F⟩]⟩,  -- TCE_CTRL
  ⟨0x4, [], [⟨16, 16, .ro, 0, .M⟩, ⟨15, 1, .ro, 0, .F⟩, ⟨14, 1, .w1c, 0, .F⟩, ⟨12, 2, .ro, 0, .F⟩]⟩,  -- TCE_STATUS
  ⟨0x8, [], [⟨16, 16, .ro, 0, .F⟩, ⟨8, 4, .ro, 0, .F⟩, ⟨7, 1, .w1c, 0, .F⟩, ⟨6, 1, .ro, 0, .F⟩, ⟨4, 2, .ro, 0, .F⟩, ⟨3, 1, .ro, 1, .F⟩, ⟨0, 3, .ro, 0, .F⟩]⟩,  -- TCE_SCAN
  ⟨0x100, [(0x4, 8)], [⟨0, 32, .ro, 0, .F⟩]⟩,  -- TCE_KEY
  ⟨0x200, [(0x4, 8)], [⟨0, 32, .ro, 0, .F⟩]⟩,  -- TCE_OPEN
  ⟨0x220, [(0x4, 8)], [⟨0, 32, .ro, 0, .F⟩]⟩  -- TCE_SHORT
  ]

/-- Registers of a page of kind HAP (spec/14 R337). -/
def regsHap : List RegD := [
  ⟨0x0, [], [⟨15, 1, .wo, 0, .F⟩, ⟨8, 3, .wo, 0, .F⟩, ⟨0, 8, .wo, 0, .F⟩]⟩,  -- HAP_PLAY
  ⟨0x4, [], [⟨24, 8, .ro, 0, .F⟩, ⟨16, 8, .ro, 0, .F⟩, ⟨0, 8, .ro, 0, .F⟩]⟩,  -- HAP_STATUS
  ⟨0x8, [], [⟨0, 8, .w1c, 0, .F⟩]⟩,  -- HAP_LOCK
  ⟨0xc, [], [⟨0, 16, .ro, 0, .A⟩]⟩,  -- HAP_BOOST
  ⟨0x10, [(0x4, 8)], [⟨24, 8, .ro, 0, .F⟩, ⟨16, 4, .ro, 0, .F⟩, ⟨8, 8, .ro, 0, .F⟩, ⟨0, 3, .ro, 0, .F⟩]⟩,  -- HAP_CH
  ⟨0x40, [(0x4, 8)], [⟨24, 8, .ro, 0, .A⟩, ⟨16, 8, .ro, 0, .A⟩, ⟨0, 1, .ro, 0, .A⟩]⟩  -- HAP_CFG
  ]

/-- Registers of a page of kind AIO (spec/14 R337). -/
def regsAio : List RegD := [
  ⟨0x10, [(0x4, 4)], [⟨20, 4, .ro, 0, .F⟩, ⟨16, 4, .w1c, 0, .F⟩, ⟨7, 1, .ro, 0, .F⟩, ⟨6, 1, .ro, 1, .F⟩, ⟨0, 3, .ro, 0, .F⟩]⟩  -- AIO_HS
  ]

/-- Registers of a page of kind AUD (spec/14 R337). -/
def regsAud : List RegD := [
  ⟨0x0, [], [⟨1, 1, .wo, 0, .F⟩, ⟨0, 1, .wo, 0, .F⟩]⟩,  -- AUD_CTRL
  ⟨0x4, [], [⟨31, 1, .ro, 0, .F⟩, ⟨30, 1, .w1c, 0, .F⟩, ⟨29, 1, .ro, 0, .F⟩, ⟨24, 2, .ro, 2, .F⟩, ⟨16, 1, .ro, 0, .F⟩]⟩,  -- AUD_STATUS
  ⟨0x8, [], [⟨16, 13, .ro, 0, .A⟩, ⟨0, 1, .ro, 0, .A⟩]⟩,  -- AUD_CFG
  ⟨0x100, [(0x4, 16)], [⟨0, 32, .rw, 0, .A⟩]⟩,  -- AUD_OVR
  ⟨0x4000, [(0x4, 4096)], [⟨0, 32, .rw, 0, .A⟩]⟩,  -- AUD_PARAM
  ⟨0x200, [(0x4, 40)], [⟨31, 1, .w1c, 0, .F⟩, ⟨0, 24, .ro, 0, .F⟩]⟩,  -- AUD_METER
  ⟨0x300, [(0x4, 40)], [⟨0, 24, .ro, 0, .F⟩]⟩  -- AUD_PEAK
  ]

/-- Registers of a page of kind PLK (spec/15 R360). -/
def regsPlk : List RegD := [
  ⟨0x0, [], [⟨8, 1, .wo, 0, .F⟩, ⟨0, 4, .wo, 0, .F⟩]⟩,  -- PLK_CTRL
  ⟨0x4, [], [⟨31, 1, .ro, 0, .F⟩, ⟨30, 1, .w1c, 0, .F⟩, ⟨29, 1, .ro, 0, .F⟩, ⟨28, 1, .ro, 0, .F⟩, ⟨24, 4, .ro, 0, .F⟩, ⟨16, 2, .ro, 0, .F⟩, ⟨8, 2, .ro, 0, .F⟩, ⟨0, 8, .ro, 0, .F⟩]⟩,  -- PLK_STATUS
  ⟨0x8, [], [⟨31, 1, .ro, 0, .M⟩, ⟨0, 18, .rw, 0, .M⟩]⟩,  -- PLK_NODE
  ⟨0xc, [], [⟨0, 32, .ro, 0, .F⟩]⟩,  -- PLK_EPOCH
  ⟨0x10, [], [⟨0, 32, .ro, 0, .F⟩]⟩,  -- PLK_TOFF
  ⟨0x14, [], [⟨24, 8, .rw, 0xff, .P⟩, ⟨16, 8, .rw, 0xff, .P⟩, ⟨0, 1, .rw, 0, .P⟩]⟩,  -- PLK_CFG
  ⟨0x18, [], [⟨31, 1, .rw, 0, .F⟩, ⟨24, 4, .rw, 3, .F⟩, ⟨0, 18, .rw, 0, .F⟩]⟩,  -- PLK_TXDST
  ⟨0x1c, [], [⟨0, 18, .ro, 0, .F⟩]⟩,  -- PLK_RXSRC
  ⟨0x20, [], [⟨16, 8, .w1c, 0, .F⟩, ⟨8, 8, .w1c, 0, .F⟩, ⟨0, 8, .ro, 0, .F⟩]⟩,  -- PLK_ALQ
  ⟨0x30, [(0x4, 2)], [⟨24, 8, .ro, 0, .F⟩, ⟨16, 8, .ro, 0, .F⟩, ⟨3, 1, .ro, 0, .F⟩, ⟨0, 3, .ro, 0, .F⟩]⟩,  -- PLK_PORT
  ⟨0x40, [(0x4, 8)], [⟨30, 2, .ro, 0, .F⟩, ⟨0, 24, .ro, 0, .F⟩]⟩  -- PLK_LOCK
  ]

/-- Registers of a page of kind MOD (spec/16 R381). -/
def regsMod : List RegD := [
  ⟨0x0, [], [⟨0, 4, .wo, 0, .P⟩]⟩,  -- MOD_CTRL
  ⟨0x4, [], [⟨31, 1, .ro, 0, .P⟩, ⟨30, 1, .w1c, 0, .P⟩, ⟨16, 4, .ro, 2, .P⟩, ⟨8, 3, .ro, 0, .P⟩, ⟨0, 8, .ro, 0, .P⟩]⟩  -- MOD_STATUS
  ]

/-- Registers of a page of kind LCS (spec/16 R381). -/
def regsLcs : List RegD := [
  ⟨0x0, [], [⟨8, 8, .wo, 0, .P⟩, ⟨0, 4, .wo, 0, .P⟩]⟩,  -- LCS_CTRL
  ⟨0x4, [], [⟨31, 1, .ro, 0, .P⟩, ⟨30, 1, .w1c, 0, .P⟩, ⟨28, 2, .ro, 0, .M⟩, ⟨24, 1, .ro, 0, .M⟩, ⟨8, 16, .ro, 0, .M⟩, ⟨0, 8, .ro, 0, .P⟩]⟩,  -- LCS_STATUS
  ⟨0x8, [], [⟨0, 32, .rw, 0, .P⟩]⟩  -- LCS_SRC
  ]

/-- Registers of a page of kind RST (spec/17 R394). -/
def regsRst : List RegD := [
  ⟨0x0, [], [⟨28, 1, .wo, 0, .H⟩, ⟨16, 12, .wo, 0, .H⟩, ⟨12, 4, .wo, 0, .H⟩, ⟨8, 1, .wo, 0, .H⟩, ⟨0, 4, .wo, 0, .H⟩]⟩,  -- RST_CTRL
  ⟨0x4, [], [⟨31, 1, .ro, 0, .H⟩, ⟨30, 1, .w1c, 0, .H⟩, ⟨0, 8, .ro, 0, .H⟩]⟩,  -- RST_STATUS
  ⟨0x8, [], [⟨16, 16, .ro, 0, .P⟩, ⟨8, 4, .ro, 0, .K⟩, ⟨0, 4, .ro, 0, .P⟩]⟩,  -- RST_CAUSE
  ⟨0xc, [], [⟨8, 1, .ro, 0, .P⟩, ⟨4, 2, .ro, 0, .P⟩, ⟨0, 3, .ro, 0, .P⟩]⟩,  -- RST_STRAP
  ⟨0x10, [], [⟨24, 8, .ro, 0, .P⟩, ⟨16, 4, .ro, 0, .M⟩, ⟨0, 10, .ro, 0, .A⟩]⟩,  -- RST_START
  ⟨0x40, [(0x4, 12)], [⟨0, 32, .rw, 0, .M⟩]⟩  -- RST_FETCH
  ]

/-- Registers of a page of kind PWR (spec/18 R415). -/
def regsPwr : List RegD := [
  ⟨0x0, [], [⟨0, 31, .rw, 0x7fffffff, .H⟩]⟩,  -- PWR_REQ
  ⟨0x10, [(0x4, 4)], [⟨0, 32, .ro, 0, .H⟩]⟩,  -- PWR_DSTAT
  ⟨0x20, [], [⟨24, 8, .ro, 0x80, .H⟩, ⟨8, 2, .ro, 0, .H⟩, ⟨0, 8, .ro, 0, .H⟩]⟩  -- PWR_THERM
  ]

/-- Registers of a page of kind SHD (spec/18 R415). -/
def regsShd : List RegD := [
  ⟨0x0, [], [⟨31, 1, .ro, 0, .P⟩, ⟨30, 1, .w1c, 0, .P⟩, ⟨29, 1, .w1c, 0, .P⟩, ⟨28, 1, .w1c, 0, .P⟩, ⟨8, 8, .ro, 0, .P⟩, ⟨4, 3, .ro, 0, .P⟩, ⟨0, 3, .ro, 0, .P⟩]⟩,  -- SHD_STATUS
  ⟨0x4, [], [⟨16, 16, .ro, 0, .P⟩, ⟨0, 16, .ro, 0, .P⟩]⟩,  -- SHD_VOLT
  ⟨0x8, [], [⟨16, 16, .ro, 0, .P⟩, ⟨0, 16, .ro, 0, .P⟩]⟩,  -- SHD_PIN
  ⟨0xc, [], [⟨0, 22, .rw, 0x3fffff, .P⟩]⟩,  -- SHD_REQ
  ⟨0x10, [(0x4, 3)], [⟨0, 32, .ro, 0, .P⟩]⟩,  -- SHD_DSTAT
  ⟨0x20, [], [⟨24, 8, .ro, 0x80, .P⟩, ⟨8, 2, .ro, 0, .P⟩, ⟨0, 8, .ro, 0, .P⟩]⟩  -- SHD_THERM
  ]

/-- Registers of a page of kind KAL (spec/18 R415). -/
def regsKal : List RegD := [
  ⟨0x0, [], [⟨0, 4, .wo, 0, .K⟩]⟩,  -- KAL_CTRL
  ⟨0x4, [], [⟨31, 1, .w1c, 1, .K⟩, ⟨16, 4, .ro, 0, .K⟩, ⟨4, 1, .ro, 0, .K⟩, ⟨0, 4, .rw, 3, .K⟩]⟩,  -- KAL_WAKE
  ⟨0x8, [], [⟨0, 32, .rw, 0, .K⟩]⟩,  -- KAL_RTC_LO
  ⟨0xc, [], [⟨0, 16, .rw, 0, .K⟩]⟩,  -- KAL_RTC_HI
  ⟨0x10, [], [⟨0, 32, .rw, 0xffffffff, .K⟩]⟩,  -- KAL_ALARM
  ⟨0x20, [(0x4, 4)], [⟨0, 32, .ro, 0, .K⟩]⟩  -- KAL_MCNT
  ]

/-- Registers of a page of kind PAT (spec/19 R431). -/
def regsPat : List RegD := [
  ⟨0x0, [], [⟨16, 12, .wo, 0, .P⟩, ⟨8, 3, .wo, 0, .P⟩, ⟨0, 4, .wo, 0, .P⟩]⟩,  -- PAT_CTRL
  ⟨0x4, [], [⟨24, 8, .ro, 0, .M⟩, ⟨16, 8, .ro, 0, .M⟩, ⟨15, 1, .ro, 0, .P⟩, ⟨14, 1, .ro, 1, .P⟩, ⟨0, 8, .ro, 0, .P⟩]⟩,  -- PAT_STATUS
  ⟨0x8, [], [⟨0, 16, .ro, 0, .P⟩]⟩,  -- PAT_DROPS
  ⟨0xc, [], [⟨0, 32, .ro, 0, .M⟩]⟩,  -- PAT_SEQ_LO
  ⟨0x10, [], [⟨0, 16, .ro, 0, .M⟩]⟩,  -- PAT_SEQ_HI
  ⟨0x14, [], [⟨0, 17, .rw, 0, .P⟩]⟩,  -- PAT_RSEL
  ⟨0x40, [(0x4, 9)], [⟨0, 32, .wo, 0, .P⟩]⟩  -- PAT_HOST
  ]

/-- Registers of a page of kind SVC (spec/20 R439). -/
def regsSvc : List RegD := [
  ⟨0x0, [], [⟨16, 16, .ro, 0, .P⟩, ⟨4, 1, .ro, 0, .P⟩, ⟨3, 1, .ro, 0, .P⟩, ⟨2, 1, .ro, 0, .P⟩, ⟨1, 1, .ro, 0, .P⟩, ⟨0, 1, .ro, 0, .P⟩]⟩,  -- SVC_STATUS
  ⟨0x4, [], [⟨16, 16, .ro, 0, .P⟩, ⟨0, 1, .w1c, 0, .P⟩]⟩  -- SVC_ALERT
  ]

/-- Registers of a page of kind PTN (spec/21 R455). -/
def regsPtn : List RegD := [
  ⟨0x0, [], [⟨31, 1, .ro, 0, .A⟩, ⟨8, 1, .ro, 0, .A⟩]⟩,  -- PTN_INFO
  ⟨0x100, [(0x4, 36)], [⟨0, 32, .ro, 0, .A⟩]⟩,  -- PTN_GRANT
  ⟨0x200, [(0x4, 4)], [⟨0, 32, .ro, 0, .A⟩]⟩  -- PTN_PGRANT
  ]

/-- Registers of a page of kind INS (spec/21 R456). -/
def regsIns : List RegD := [
  ⟨0x0, [(0x4, 8)], [⟨0, 32, .ro, 0, .H⟩]⟩  -- INS_STATE
  ]

/-- Registers of a page of kind PCI (spec/21 R457). -/
def regsPci : List RegD := [
  ⟨0x0, [], [⟨31, 1, .ro, 0, .F⟩, ⟨30, 1, .ro, 0, .A⟩, ⟨16, 6, .ro, 0, .F⟩, ⟨4, 3, .ro, 0, .F⟩, ⟨0, 4, .ro, 0, .F⟩]⟩  -- PCI_STATUS
  ]

/-- The registers of a page, discovery records apart. -/
def regsOf : PageKind → List RegD
  | .arm => regsArm
  | .cmp => regsCmp
  | .scn => regsScn
  | .ick => regsIck
  | .rcx => regsRcx
  | .gfe => regsGfe
  | .pair => regsPair
  | .twn => regsTwn
  | .hart => regsHart
  | .wld => regsWld
  | .saf => regsSaf
  | .inst => regsInst
  | .insq => regsInsq
  | .spm => regsSpm
  | .dmc => regsDmc
  | .cvu => regsCvu
  | .qu => regsQu
  | .taf => regsTaf
  | .tce => regsTce
  | .hap => regsHap
  | .aio => regsAio
  | .aud => regsAud
  | .plk => regsPlk
  | .mod => regsMod
  | .lcs => regsLcs
  | .rst => regsRst
  | .pwr => regsPwr
  | .shd => regsShd
  | .kal => regsKal
  | .pat => regsPat
  | .svc => regsSvc
  | .ptn => regsPtn
  | .ins => regsIns
  | .pci => regsPci

/-- The number of discovery positions of a page (R27; R116, R311, R324, R332, R342, R457). -/
def positions : PageKind → Nat
  | .scn => 1
  | .taf => 1
  | .tce => 256
  | .hap => 8
  | .aio => 4
  | .plk => 2
  | .pci => 1
  | .arm | .cmp | .ick | .rcx | .gfe | .pair | .twn | .hart | .wld | .saf | .inst | .insq | .spm | .dmc | .cvu | .qu | .aud | .mod | .lcs | .rst | .pwr | .shd | .kal | .pat | .svc | .ptn | .ins => 0

end Sys2Proof.Machine
end

