-- ==== Sys2Proof/Machine/State.lean ====
section
/-! DEFINITION. The state of the block as plain data. Every register of the manual lives in one sparse table `State.regs`
(see RegTable.lean); the records below hold the state that the manual describes without giving it a register. A numbered unit
(pipe, queue unit, context ...) is an entry of a sparse table; an unlisted unit is in its initial condition. -/

namespace Sys2Proof.Machine

/-! ## The Patina recorder (R416 to R431) -/

/-- An event of the Patina record (R418). -/
structure PatEvent where
  seq : Nat := 0
  time : Nat := 0
  src : Nat := 0
  code : Nat := 0
  mode : Nat := 0
  tier : Nat := 0
  trig : Bool := false
  host : Bool := false
  gap : Bool := false
  data : List Byte := []
  deriving DecidableEq, Repr, Inhabited

/-- A snapshot between its trigger and its descriptor's CRC (R423); `closed` holds LAST_SEQ and the time once closure has come. -/
structure PatClosing where
  closed : Option (Nat × Nat) := none
  pos : Nat := 0
  number : Nat := 0
  lock : Bool := false
  code : Nat := 0
  trigSeq : Nat := 0
  time : Nat := 0
  prev : List Byte := []
  after : Nat := 0
  deriving DecidableEq, Repr, Inhabited

/-- The recorder's buffer (R417), the events that arise in the Plinth cycle in progress (R416), its place in the ring (R421), the snapshot in progress
and the slot copies (R429). -/
structure Patina where
  arriving : Option (List PatEvent) := none
  early : List PatEvent := []
  buf : List PatEvent := []
  nextSeq : Nat := 1
  nextSlot : Nat := 0
  gap : Bool := false
  closing : Option PatClosing := none
  rateMs : Nat := 0
  rateCount : Nat := 0
  copies : List (Nat × List Byte) := []
  deriving DecidableEq, Repr, Inhabited

/-! ## Composition pipes (R60 to R109) -/

/-- A latch marker on its way to a pipe (R95). -/
structure Marker where
  tier : Nat := 0
  role : Nat := 7
  frame : Nat := 0
  beginsHandover : Bool := false
  deriving DecidableEq, Repr, Inhabited

/-- A 64-byte chunk of a source, with the bytes read at its grant: layer slot, kind (R89), source or tile row, address. -/
structure Chunk where
  line : Nat := 0
  lslot : Nat := 0
  kind : Nat := 0
  row : Nat := 0
  addr : Nat := 0
  bytes : List Byte := []
  deriving DecidableEq, Repr, Inhabited

/-- The fetch of one output line: the fetch slots of its band (layer slot, kind, MAX), how many have been issued and how many requests of the
next one, the rows held whole when it began, and the rows that the line fetched whole (slot key, kind, row). -/
structure LineFetch where
  line : Nat := 0
  slots : List (Nat × Nat × Nat) := []
  done : Nat := 0
  sent : Nat := 0
  have_ : List (Nat × Nat × Nat) := []
  whole : List (Nat × Nat × Nat) := []
  deriving DecidableEq, Repr, Inhabited

/-- A pipe: active copies (R78), frame, fetch and compose position, chunks on their way, in the fetch buffer and of rows held whole, the rows
that each fetched line not yet closed found held, whether the run of underruns was reported under the variant in force, and whether the content of a
tile has made the stream unpredictable (R81). -/
structure Pipe where
  act : List (Nat × Word) := []
  frame : Nat := 0
  fetchNext : Nat := 0
  fetchUpTo : Nat := 0
  fetching : Option LineFetch := none
  granted : List Chunk := []
  buf : List Chunk := []
  held : List Chunk := []
  heldWhole : List (Nat × Nat × Nat) := []
  haves : List (Nat × List (Nat × Nat × Nat)) := []
  composing : Option Nat := none
  waiting : Option Nat := none
  stalled : Bool := false
  closed : Nat := 0
  run : Nat := 0
  reported : Bool := false
  wild : Bool := false
  deriving DecidableEq, Repr, Inhabited

/-- A composed line on the pixel link, or one that arrived whole at the Plinth: containers of R75. -/
structure Packet where
  port : Nat := 0
  line : Nat := 0
  pixels : List Nat := []
  deriving DecidableEq, Repr, Inhabited

/-! ## Display ports (R110 to R138) and their check units (R139 to R155) -/

/-- The training sequence of a port: candidates left as (rate code, lanes), tries of the first (R120, R121). -/
structure Training where
  cands : List (Nat × Nat) := []
  tries : Nat := 0
  deriving DecidableEq, Repr, Inhabited

/-- One checking lane (R139): active states, whether it waits for the next frame after a reset of its unit, running CRC of each rectangle and of the frame, results of the frame. -/
structure Lane where
  act : List (Nat × Nat) := []
  crc : List (Nat × Nat) := []
  frameCrc : Nat := 0xFFFFFFFF
  bad : Bool := false
  badRects : List Nat := []
  mis : List Nat := []
  done : List Nat := []
  wait : Bool := false
  lastFrame : Option Nat := none
  liveCrc : List (Nat × Nat) := []
  liveRun : List (Nat × Nat) := []
  deriving DecidableEq, Repr, Inhabited

/-- The planned handover of one port (R204): phase 0 until L1, 1 from L1, 2 once decided at L2; frames since L1; digests. -/
structure HoPort where
  target : Half := .A
  phase : Nat := 0
  frames : Nat := 0
  digestA : Option (List (Nat × Word)) := none
  digestB : Option (List (Nat × Word)) := none
  compared : Bool := false
  deriving DecidableEq, Repr, Inhabited

/-- A port: generator, selector, discovery, training, panel outputs, PSR2, lanes, pairing, frame lock, and the line that the PHY sends (none where it
sends no video). `darkIf` is a DARK reaction that a FAILOVER may make needless (R152). `blWant` says that R123
asks for BLEN, whatever DARK holds off; `ickA`, `ickB` hold the ICK_STATE shadows as a pipe's latch found them with GO pending. `shown` is the running CRC of R135 over the frame that the
port carries. -/
structure Port where
  run : Bool := false
  fresh : Bool := false
  took : List Nat := []
  tookAny : Bool := false
  arrA : List Packet := []
  arrB : List Packet := []
  subRule : Nat := 0
  subFirst : Nat := 0
  subLen : Nat := 0
  incRun : Nat := 0
  electRun : Nat := 0
  anyComplete : Bool := false
  emptyFrames : Nat := 0
  wholeA : Bool := false
  wholeB : Bool := false
  roleFrameA : Nat := 7
  roleFrameB : Nat := 7
  idleA : Bool := false
  idleB : Bool := false
  trig : Option Nat := none
  shedSwitch : Bool := false
  markA : Option Marker := none
  markB : Option Marker := none
  ackA : Bool := false
  ackB : Bool := false
  laneS : Lane := {}
  laneU : Lane := {}
  qualRun : Nat := 0
  darkArm : Bool := false
  darkPend : Bool := false
  darkIf : Bool := false
  darkFrame : Bool := false
  blAfterDark : Bool := false
  hpd : Bool := false
  auxFails : Nat := 0
  auxWait : Nat := 0
  linkRead : Bool := false
  readFails : Nat := 0
  caps : Option SinkCaps := none
  ident : Option SinkId := none
  byCommand : Bool := false
  training : Option Training := none
  video : Bool := false
  ppen : Bool := false
  blen : Bool := false
  blWant : Bool := false
  blStart : Option Nat := none
  shown : Nat := 0xFFFFFFFF
  psrStored : Option Nat := none
  psrRun : Nat := 0
  psrSub : Bool := false
  psrNight : Bool := false
  psrExit : Bool := false
  nightStop : Nat := 0
  t4Stop : Bool := false
  sinkCount : Nat := 0
  sinkBusy : Bool := false
  sinkRun : Nat := 0
  sinkHist : List (Word × Word × Word) := []
  lockGood : Nat := 0
  holdTrim : Int := 0
  lockBad : Nat := 0
  ho : Option HoPort := none
  ickA : Option (List (Nat × Nat)) := none
  ickB : Option (List (Nat × Nat)) := none
  sinkAcc : Option (Word × Word × Word) := none
  timing : Option Timing := none
  sent : Option (List Nat) := none
  deriving DecidableEq, Repr, Inhabited

/-! ## The pair supervisor and the halves (R184 to R206) -/

/-- Who issued the planned handovers in progress. -/
inductive HoSource where
  | command (h : Half)
  | auto
  | rearm
  | shed
  | inspection
  deriving DecidableEq, Repr, Inhabited

/-- A running request of planned handovers (R203, R204). -/
structure HoRun where
  source : HoSource := .auto
  target : Half := .A
  ports : List Nat := []
  firstFail : Option Nat := none
  diff : Bool := false
  cancelled : Bool := false
  deriving DecidableEq, Repr, Inhabited

/-- A shed in progress: the half that parks and whether its handovers have been issued (R462). -/
structure ShedRun where
  half : Half := .B
  issued : Bool := false
  deriving DecidableEq, Repr, Inhabited

/-- A queued mirror write: address, bytes, whether it has left the queue. -/
structure MirWrite where
  addr : Nat := 0
  bytes : List Byte := []
  deriving DecidableEq, Repr, Inhabited

/-- A hart (R207): M-mode, halted in debug, requests, stopped by the world controller, what its fetch sees (R230), known dirty lines of its L1 data
cache and the line addresses its L1 caches hold (R219), world switches made, pending identities of its M file, S file and 7 guest files by
file number 2 to 8, the Open-world enables as (file, identity), the S or guest file and identity taken last, where it was started, and its 8 counters, 16 PMP
entries, 4 debug triggers, TLBs and branch predictor, which its own instructions alone fill (log entry 140). -/
structure Hart where
  mMode : Bool := true
  halted : Bool := false
  haltReq : Bool := false
  trapHeld : Bool := false
  stopped : Bool := false
  seen : List Host.Cell := []
  l1d : List CacheLine := []
  l1dHeld : List Nat := []
  l1iHeld : List Nat := []
  flushes : Nat := 0
  pendM : List Nat := []
  pendS : List Nat := []
  pendG : List (Nat × Nat) := []
  openEn : List (Nat × Nat) := []
  sTaken : Option (Nat × Nat) := none
  startAt : Nat := 0
  cycle : Nat := 0
  instret : Nat := 0
  hpm : Vector Nat 8 := Vector.replicate 8 0
  pmp : Vector (Nat × Nat) 16 := Vector.replicate 16 (0, 0)
  triggers : Vector (Nat × Nat) 4 := Vector.replicate 4 (0, 0)
  tlb : List (Nat × Nat) := []
  predictor : List Nat := []
  deriving DecidableEq, Repr, Inhabited

/-- The safety cores (R208, R209): held for the reset of the SAF Function, how often that reset has run, whether they are in U-mode, the 512 KB of tightly
coupled SRAM and the 16 PMP entries. -/
structure Safety where
  hold : Bool := false
  resets : Nat := 0
  umode : Bool := false
  tcm : List Host.Cell := []
  pmp : Vector (Nat × Nat) 16 := Vector.replicate 16 (0, 0)
  deriving DecidableEq, Repr, Inhabited

/-- A line of an L2 cluster (R220): its address, bytes, whether memory lacks them, and the PART and M of its tag. -/
structure L2Line where
  addr : Nat := 0
  bytes : List Byte := []
  dirty : Bool := false
  part : Nat := 0
  m : Bool := false
  deriving DecidableEq, Repr, Inhabited

/-- A hand-over of a mirror region that waits (R200): the region, the number of copies sent before the request, and the granules that the
request still waits for. -/
structure MirHand where
  region : Nat := 0
  sent : Nat := 0
  granules : List Nat := []
  deriving DecidableEq, Repr, Inhabited

/-- A raster job (R159). -/
structure Job where
  typ : Nat := 0
  flags : Nat := 0
  addr : Nat := 0
  len : Nat := 0
  value : Nat := 0
  deriving DecidableEq, Repr, Inhabited

/-- How blending joins the weighted source and destination. -/
inductive BlendOp where
  | add
  | subtract
  | reverse
  | min
  | max
  deriving DecidableEq, Repr, Inhabited

/-- A floating-point operation of a raster program on encoded operands (R180). Conversions name the format, FP16 where `half` is set, and the width
and signedness of the integer. A blend takes the source component, the factors of source and destination, and the destination as stored. A texture filter takes four texels (of one level, or of two
where `mip` is not zero), the coordinates within the texel and the place between the levels in 1/65536. -/
inductive FpOp where
  | add32 (a b : BitVec 32)
  | sub32 (a b : BitVec 32)
  | mul32 (a b : BitVec 32)
  | fma32 (a b c : BitVec 32)
  | ofInt (half : Bool) (a : Int)
  | toInt (half signed : Bool) (bits : Nat) (a : BitVec 32)
  | to16 (a : BitVec 32)
  | of16 (a : BitVec 16)
  | div32 (a b : BitVec 32)
  | rcp32 (a : BitVec 32)
  | sqrt32 (a : BitVec 32)
  | rsqrt32 (a : BitVec 32)
  | exp2 (a : BitVec 32)
  | log2 (a : BitVec 32)
  | sin (a : BitVec 32)
  | cos (a : BitVec 32)
  | add16 (a b : BitVec 16)
  | mul16 (a b : BitVec 16)
  | fma16 (a b c : BitVec 16)
  | filter (texels : List (BitVec 32)) (u v mip : Nat)
  | unorm (bits : Nat) (a : BitVec 32)
  | blend (op : BlendOp) (bits : Nat) (src sf df : BitVec 32) (dst : Nat)
  deriving DecidableEq, Repr, Inhabited

/-- A sparse image as its descriptor gives it (R174 to R176): number, texel size in bits, size of level 0 in texels, layers, levels, the
context address of its residency map and LBASE of each level. -/
structure SparseImage where
  number : Nat := 0
  texelBits : Nat := 32
  width : Nat := 1
  height : Nat := 1
  layers : Nat := 1
  levels : Nat := 1
  map : Nat := 0
  lbase : List Nat := []
  deriving DecidableEq, Repr, Inhabited

/-- What the program of a job does next at memory (R162, R176, R179): read or write bytes of the context, fetch a page of a program, access a
texel of a sparse image, or nothing that the encoding of command lists allows (R163). -/
inductive RasterOp where
  | read (va len : Nat)
  | write (va : Nat) (bytes : List Byte)
  | program (va : Nat)
  | texel (image : SparseImage) (level layer x y : Nat)
  | malformed
  deriving DecidableEq, Repr, Inhabited

/-- One step of a job: its access, and what the shader cores' registers and workgroup memory and the tile memory of its render pass hold
after it; no tile bytes outside a pass. -/
structure RasterStep where
  op : RasterOp := .malformed
  regs : List Byte := []
  wmem : List Byte := []
  tile : List Byte := []
  deriving DecidableEq, Repr, Inhabited

/-- What a job needs of the engine (R156): register bytes of one subgroup, bytes and invocations of a workgroup, render target size in pixels and colour
attachments. -/
structure RasterNeeds where
  regs : Nat := 0
  wmem : Nat := 0
  invocations : Nat := 1
  width : Nat := 0
  height : Nat := 0
  attachments : Nat := 0
  deriving DecidableEq, Repr, Inhabited

/-- A raster context: its job with the command list and the results of its steps so far, the tile memory of its render pass and the group that passes once it is saved (4: all), whether it
lies in the save area, its stores still in the L1 caches (physical address, bytes), the mirror writes that a FENCE waits for,
what waits for the next pre-emption point, the priority that holds until a change takes effect, and what the job caches: pages that missed,
residency entries, pages of bound programs. -/
structure RCtx where
  job : Option Job := none
  list : List Byte := []
  results : List (List Byte) := []
  tile : List Byte := []
  saving : Option Nat := none
  saved : Bool := false
  stores : List (Nat × List Byte) := []
  mfence : Nat := 0
  fault : Option Nat := none
  suspend : Bool := false
  prioHeld : Option Nat := none
  paused : Bool := false
  misses : List (Nat × Nat) := []
  mapCache : List (Nat × Nat) := []
  progs : List Nat := []
  deriving DecidableEq, Repr, Inhabited

/-- What a context has left in a shader group, with its Partition and world (R172): registers, workgroup memory, lines of the L1 caches, tile memory. -/
structure GroupMem where
  ctx : Nat := 0
  part : Nat := 0
  trusted : Bool := false
  regs : List Byte := []
  wmem : List Byte := []
  l1 : List Nat := []
  tile : List Byte := []
  deriving DecidableEq, Repr, Inhabited

/-- A shader group (R156, R171, R172): the context that holds it as context + 1, the Async contexts with a workgroup on its cores, what its
storage holds by context, and the reserved registers and tile memory of the compositor context. -/
structure ShaderGroup where
  holder : Nat := 0
  async : List Nat := []
  mem : List GroupMem := []
  bank : List Byte := []
  reserve : List Byte := []
  deriving DecidableEq, Repr, Inhabited

/-- A line of the raster L2 (R173): its address, the world of its way, the Partition and the contexts that wrote to it, and the bytes that memory
lacks. -/
structure RLine where
  addr : Nat := 0
  trusted : Bool := false
  part : Nat := 0
  writers : List Nat := []
  dirty : List Host.Cell := []
  deriving DecidableEq, Repr, Inhabited

/-- A completion record (R240). -/
structure Completion where
  seq : Nat := 0
  status : Nat := 0
  opcode : Nat := 0
  frame : Nat := 0
  time : Nat := 0
  deriving DecidableEq, Repr, Inhabited

/-- The command an instance is executing: a COMMIT that waits for its copy or for latches, or a completion that waits for the twin
link. -/
structure HubCmd where
  opcode : Nat := 0
  seq : Nat := 0
  irq : Bool := false
  copied : Bool := false
  waitPipes : List Nat := []
  frame : Nat := 0
  await : Option Completion := none
  deriving DecidableEq, Repr, Inhabited

/-- An effect forwarded to the Twin hub (R245). -/
inductive TwinFx where
  | layer (k : Nat) (words : List Word)
  | copyGo
  | reset
  | done (c : Completion)
  | whole (staging committed : List (Nat × Word)) (n : Nat) (window : List Completion) (face : Nat) (mbox : Word × Word)
  deriving DecidableEq, Repr, Inhabited

/-- An instance: staging and committed words keyed 16 k + word, window (oldest first), command, requests, the doorbell count, effects
not yet sent and not yet acknowledged on the twin link, whether a THAW waits for the other hub and a SAVE for the twin-link queue; for a mailbox on the PCIe bus the read in flight,
the next tag, ring size and CPL_TAIL as read last, and the writes in flight as (tag, bus address, bytes). -/
structure Inst where
  staging : List (Nat × Word) := []
  committed : List (Nat × Word) := []
  window : List Completion := []
  cur : Option HubCmd := none
  faceReq : Option Bool := none
  restoring : Option (List Nat) := none
  tail : Nat := 0
  fx : List TwinFx := []
  fxSent : Nat := 0
  wholeSent : Bool := false
  asking : Bool := false
  saving : Bool := false
  busReq : Option Nat := none
  busTag : Nat := 0
  busRing : Nat := 0
  busTail : Nat := 0
  busOut : List (Nat × Nat × List Byte) := []
  deriving DecidableEq, Repr, Inhabited

/-- A march on an SPM (R256): kind as in FUNCTION event 0x02; `abort` stops a preserving march after the row in progress. -/
structure March where
  kind : Nat := 0
  abort : Bool := false
  deriving DecidableEq, Repr, Inhabited

/-- An SPM beside its registers: march, repaired rows as keys bank × 512 + row with their spare, how many spares each bank has consumed, the check bits of words whose check bits are
not those of their data (an unlisted word holds its own), and what the last read returned at port F and at port E. -/
structure Spm where
  march : Option March := none
  repairs : List (Nat × Nat) := []
  spent : List (Nat × Nat) := []
  check : List (Nat × Byte) := []
  lastF : List Byte := []
  lastE : List Byte := []
  deriving DecidableEq, Repr, Inhabited

/-- Where a candidate of a DRAM slot comes from (R265): the queue of requests, the other half's oldest mirror write, the block that a catch-up
reads here or has read for here, the measurement engine's source, a check-value unit. -/
inductive DFrom where
  | queue
  | mirror
  | copyOut
  | copyIn
  | measure
  | scan (n : Nat)
  deriving DecidableEq, Repr, Inhabited

/-- A DRAM request waiting for a grant: requester of R265, address, bytes for a write, tag, whether it is a fetch, the lane it was issued in
(R100), the hart that waits for it, and whether a core does. -/
structure DReq where
  source : DFrom := .queue
  requester : Nat := 0
  pipe : Option Nat := none
  chunk : Chunk := {}
  addr : Nat := 0
  write : Option (List Byte) := none
  world : World := .opn
  part : Nat := 0
  m : Bool := false
  mirror : Bool := false
  fetch : Bool := false
  urgent : Bool := false
  hart : Option Nat := none
  core : Bool := false
  deriving DecidableEq, Repr, Inhabited

/-- DRAM of a half beside its registers: waiting requests, the slot of each channel, the requester served last, open rows as row + 1 by
channel × 16 + bank, maintenance due (refreshes as channel × 16 + bank, periodic training as 128 + channel, 136 + channel where it cannot correct the
drift) and extra refreshes, the banks with an extra one since their last base one, training, and the segments still to fill with a bit for each DMC whose cells were not kept. -/
structure Dram where
  queue : List DReq := []
  slots : List (Nat × Nat) := []
  rr : List (Nat × Nat) := []
  openRows : List (Nat × Nat) := []
  due : List Nat := []
  extra : List Nat := []
  hot : List Nat := []
  trained : Bool := false
  zeroDone : Bool := false
  unfilled : List (Nat × Nat) := []
  retrain : Bool := false
  classMap : List (Nat × Nat) := []
  lastRead : List Byte := []
  deriving DecidableEq, Repr, Inhabited

/-- A check-value scan: values taken at START and the place reached (R270). -/
structure Scan where
  run0 : Nat := 0
  seq : Nat := 0
  crc : Nat := 0
  blk : Nat := 0
  stop : Bool := false
  deriving DecidableEq, Repr, Inhabited

/-- An open packet: the entries before its reserved slot, its payload entries, and whether the slot was lost with the middle. -/
structure QPkt where
  slot : Nat := 0
  count : Nat := 0
  lost : Bool := false
  deriving DecidableEq, Repr, Inhabited

/-- A queue unit: head, middle and tail entries, how many entries the middle has passed on (the place of its oldest in the spill area), the open packet, the committed entries that the pop side sees, and the pops that the
push side has not seen. -/
structure Queue where
  head : List (BitVec 64) := []
  mid : List (BitVec 64) := []
  midAt : Nat := 0
  tail : List (BitVec 64) := []
  pkt : Option QPkt := none
  seen : Nat := 0
  late : Nat := 0
  spillOff : Bool := false
  deriving DecidableEq, Repr, Inhabited

/-- Stages of a half from reset into service (R387, R388); `stopping` is between the request of a half reset and its notice. -/
inductive HalfStage where
  | stopping
  | held
  | reset
  | applying
  | training
  | filling
  | measuring
  | running
  deriving DecidableEq, Repr, Inhabited

/-- The state of a half that no register holds. Heartbeats are pairs of the half's state and a count: those on the control link, and the
latest that came over the twin link (R188). Of the granule in catch-up, `copyRead` blocks are read and `copyAt` written, `copyBuf` lies between; of the image in
measurement `measAt` blocks are read, and where its copy waits for the twin link (R197), `measOut` blocks of `measRead` are written. -/
structure HalfSt where
  stage : HalfStage := .held
  hold : Bool := false
  hbWithheld : Bool := false
  hbCount : Nat := 0
  hbLink : List (Nat × Nat) := []
  hbPeer : Option (Nat × Nat) := none
  hbAcc : Option Nat := none
  mirQ : List MirWrite := []
  dirty : List Nat := []
  copying : Option Nat := none
  copyAgain : Bool := false
  copyRead : Nat := 0
  copyAt : Nat := 0
  copyBuf : List (List Byte) := []
  mfence : List (Word × Nat) := []
  mirDone : Nat := 0
  mirSent : Nat := 0
  mirHand : List MirHand := []
  harts : List (Nat × Hart) := []
  saf : Safety := {}
  l2 : List (Nat × L2Line) := []
  ctx : List (Nat × RCtx) := []
  inst : List (Nat × Inst) := []
  spm : List (Nat × Spm) := []
  pipes : List (Nat × Pipe) := []
  link : List Packet := []
  cvu : List (Nat × Scan) := []
  qu : List (Nat × Queue) := []
  dram : Dram := {}
  compositor : Nat := 0
  groups : List (Nat × ShaderGroup) := []
  rl2 : List RLine := []
  rrPrio : List (Nat × Nat) := []
  gfeStop : Bool := false
  images : Nat := 0
  measAt : Nat := 0
  measOut : Nat := 0
  measRead : List Byte := []
  restart : Nat := 0
  irqDeleg : List (Nat × Bool) := []
  lockTimes : List Nat := []
  armIrq : Bool := false
  deriving DecidableEq, Repr, Inhabited

/-! ## Touch (R294 to R314) -/

/-- A contact or pressed key of a source: its position, where it was last found to have moved and when. -/
structure Contact where
  x : Nat := 0
  y : Nat := 0
  size : Nat := 0
  strength : Nat := 0
  hover : Bool := false
  ax : Nat := 0
  ay : Nat := 0
  stale : Bool := false
  told : Bool := false
  deriving DecidableEq, Repr, Inhabited

/-- A touch source: 0 to 7 sensors, 8 the keys. Baselines are held in 1/256 count; `deviant` lists the positions whose first clean
frame deviated too far. -/
structure Source where
  run : Bool := false
  slot : Nat := 0
  inFrame : Bool := false
  testReq : Bool := false
  testing : Bool := false
  rebase : Bool := false
  frameMode : Nat := 0
  firstClean : Bool := true
  baseline : List (Nat × Nat) := []
  tasNodes : List (Nat × Nat) := []
  tasNext : List Nat := []
  raw : List Nat := []
  contacts : List (Nat × Contact) := []
  held : List Nat := []
  deviant : List Nat := []
  lostA : Bool := false
  lostB : Bool := false
  t4Stop : Bool := false
  deriving DecidableEq, Repr, Inhabited

/-! ## Haptics and audio (R315 to R337) -/

/-- One control sample of a channel: target and measured acceleration in g/4096, bridge current in mA, drive in mV, whether the
I3C read failed. -/
structure HapPoint where
  target : Int := 0
  meas : Int := 0
  current : Nat := 0
  drive : Int := 0
  failed : Bool := false
  deriving DecidableEq, Repr, Inhabited

/-- A haptic channel: samples since the start of the effect and since the brake or coast began, the 8-sample window, consecutive
samples at rest, and what takes effect at the next control sample. -/
structure HapChan where
  effect : Nat := 0
  n : Nat := 0
  pending : Option Nat := none
  window : List HapPoint := []
  meas : Int := 0
  drive : Int := 0
  still : Nat := 0
  ending : Nat := 0
  abortNext : Option Nat := none
  deriving DecidableEq, Repr, Inhabited

/-- The boost controller (R316): the factor of a fold in 1/256, since when it delivers more than 12 W, and the spans of module time in which it did. -/
structure Boost where
  fold : Option Nat := none
  since : Option Nat := none
  spans : List (Nat × Nat) := []
  deriving DecidableEq, Repr, Inhabited

/-- A cell that a sample program names: of the active bank, or an override cell (R328, R329). -/
inductive AudioCell where
  | banked (w : Nat)
  | ovr (n : Nat)
  deriving DecidableEq, Repr, Inhabited

/-- A node of a sample program (R326). Inputs are the places of earlier nodes in the program; `thru` stands in a bypass program for a node marked as an
effect (R327). A tone adds `rate` to its phase in every period. -/
inductive AudioNode where
  | source (input : Nat)
  | sink (output x : Nat)
  | gain (x : Nat) (g : AudioCell)
  | mix (xs : List Nat)
  | biquad (x : Nat) (b0 b1 b2 a1 a2 : AudioCell)
  | delay (x len : Nat)
  | tone (rate amp : AudioCell)
  | thru (x : Nat)
  deriving DecidableEq, Repr, Inhabited

/-- The audio engine: both banks by bank × 4096 + cell, histories and tone phases by node, meters' hold times in samples, outputs of the last
period with their clip flags, its inputs, and the TDM ports that repeat a frame next (R331). -/
structure Audio where
  banks : List (Nat × Word) := []
  hist : List (Nat × List (Int × Bool)) := []
  phase : List (Nat × Nat) := []
  outputs : List (Int × Bool) := []
  hold : List (Nat × Nat) := []
  inputs : List Int := []
  repeats : List Nat := []
  deriving DecidableEq, Repr, Inhabited

/-! ## Peer Link (R338 to R360) -/

/-- A frame as the module sends it: the port, the source address (R338), the header fields of R339 with LEN and the computed HCRC, and the payload. -/
structure Frame where
  port : Nat := 0
  typ : Nat := 0
  flags : Nat := 0
  hops : Nat := 0
  origin : Nat := 0
  dest : Nat := 0
  seq : Nat := 0
  epoch : Nat := 0
  domain : Nat := 0
  payload : List Byte := []
  src : Nat := 0
  len : Nat := 0
  hcrc : Nat := 0
  deriving DecidableEq, Repr, Inhabited

/-- A gPTP frame that the module sends; a Sync and a peer delay answer come with their Follow_Up (R338). -/
inductive GptpOut where
  | sync
  | announce (gm : GmIdentity)
  | pdelayResp
  deriving DecidableEq, Repr, Inhabited

/-- A frame that waits for acknowledgements (R354): the ports it was sent on, those that acknowledged it, the time of the first attempt, its
timeout T in ms, its alarm slot, and whether it is held because no port can send it (R357). -/
structure TxWait where
  frame : Frame := {}
  ports : List Nat := []
  acked : List Nat := []
  started : Nat := 0
  limit : Nat := 0
  slot : Option Nat := none
  held : Bool := false
  deriving DecidableEq, Repr, Inhabited

/-- A LOCK received (R347). -/
structure LockSeen where
  origin : Nat := 0
  epoch : Nat := 0
  own : Bool := false
  gm : GmIdentity := ⟨0, 0, 0, 0, 0, 0⟩
  seenAt : Nat := 0
  deriving DecidableEq, Repr, Inhabited

/-- The Peer Link Function beside its registers: duplicate windows by origin as H and the accepted SEQs (R349), the port on which each origin was
heard last, the frames that the latest command sent, transmit and receive windows, the transfer that fills the receive window and those that
met it full, the queue units whose last alarm packet was dropped (R355), LOCK frames and the EPOCH of a rival to be exceeded (R347, R348), the
grandmaster announced on each port, the servo with the time of the last Sync and the offsets measured in Unlocked (R350), the sequence counter,
the running MIGRATE by transfer, first SEQ, time and half, the ports that hold PCS block lock, the time of the last CLEARQ of each port (R359), and
the gPTP frames that the latest gPTP frame caused. -/
structure Peer where
  windows : List (Nat × (Nat × List Nat)) := []
  lastPort : List (Nat × Nat) := []
  sent : List Frame := []
  waits : List TxWait := []
  txWin : List Host.Cell := []
  rxWin : List Host.Cell := []
  rxFrom : Option (Nat × Nat) := none
  rxFrags : List Nat := []
  rxRefused : List ((Nat × Nat) × List Nat) := []
  lost : List (Half × Nat) := []
  locks : List LockSeen := []
  maxEpoch : Nat := 0
  bump : Option Nat := none
  noLockSince : Nat := 0
  gms : List (Nat × GmIdentity) := []
  syncGood : Nat := 0
  syncAt : Nat := 0
  syncs : List Int := []
  offset : Int := 0
  rate : Int := 0
  seqNext : Nat := 0
  xfer : Nat := 0
  migSeq : Nat := 0
  migAt : Nat := 0
  migBy : Option Half := none
  linkUp : List Nat := []
  cleared : List (Nat × Nat) := []
  gptp : List (Nat × GptpOut) := []
  pdelay : Nat := 0
  deriving DecidableEq, Repr, Inhabited

/-! ## Loader, re-Armature, start, modes, power -/

/-- What asked for the loader's work. -/
inductive ArmSource where
  | half (h : Half)
  | start
  | service
  deriving DecidableEq, Repr, Inhabited

/-- The operation the loader executes (R52): op code, slot, whether the copy or the check is under way, and how many bytes of a copy time has
carried across (R459). -/
structure ArmOp where
  source : ArmSource := .start
  op : Nat := 0
  slot : Nat := 0
  checking : Bool := false
  inPlace : Bool := false
  pageBase : Nat := 0
  blocks : Nat := 0
  sent : Nat := 0
  deriving DecidableEq, Repr, Inhabited

/-- A REARM (R57): the issuing half, the target slot, the step and the half that reloads first; `stop` holds the RESULT it will end with once
its handovers have ended, `switching` says that the Plinth switch has begun and `taken` what has taken the new sections so far. -/
structure Rearm where
  stop : Option Nat := none
  source : Half := .A
  slot : Nat := 0
  step : Nat := 1
  first : Half := .B
  switching : Bool := false
  taken : List Nat := []
  deriving DecidableEq, Repr, Inhabited

/-- The 24 h scrub (R44). -/
structure Scrub where
  since : Option Nat := none
  due : Bool := false
  reading : Option Nat := none
  deriving DecidableEq, Repr, Inhabited

/-- Where a start stands (R387): off, waiting for the straps, checking the candidates, fetching an image, in Maquette, done. -/
inductive StartStage where
  | off
  | straps
  | checking
  | fetching
  | maquette
  | done
  deriving DecidableEq, Repr, Inhabited

/-- The start sequencer: stage, slots still to check, target slot of a received image, whether a Service mode was reached and since when one
has held, bytes received of an image and its length, the code of status line 4, a short Hold-up before, no image verified yet, whether this
start was counted, the cause that the next power-on records, and the code of the boot source. -/
structure Start where
  stage : StartStage := .off
  cands : List Nat := []
  target : Nat := 0
  reached : Bool := false
  since : Option Nat := none
  got : Nat := 0
  cause : Nat := 0
  shortHold : Bool := false
  noImage : Bool := true
  counted : Bool := false
  nextCause : Nat := 1
  boot : Nat := 0
  deriving DecidableEq, Repr, Inhabited

/-- Inspection (R369): the half under test, the step, items and the ports it owned. -/
structure Insp where
  half : Half := .B
  second : Bool := false
  step : Nat := 1
  items : List (Nat × (Nat × Nat)) := []
  owned : List Nat := []
  deriving DecidableEq, Repr, Inhabited

/-- A life-cycle or key operation (R373 to R378): its op code, the key record, whether it came over the service port. -/
structure LcsOp where
  op : Nat := 0
  record : List Byte := []
  service : Bool := false
  deriving DecidableEq, Repr, Inhabited

/-- Hold-up (R409): whether a command began it, a wake source that met it, and whether HUP fell below 12 V. -/
structure Park where
  byCommand : Bool := false
  wake : Option Nat := none
  short : Bool := false
  deriving DecidableEq, Repr, Inhabited

/-- Supplies, pins and the shed controller beside their registers: VIN good, VKA present, PORST_N high, the two VIO outputs, the time of
the latest alert and a delayed clear, the power-limited hold, a latched wake source, the fraction of an RTC tick, the life-cycle latch,
thermal levels and parks, a held write of KAL_RTC_LO, VIN in mV as last reported (0 where it is below 2.7 V), whether a PCIe partner is present at the port of each half,
and which half last wrote RST_CTRL and when (R394). -/
structure Power where
  vinGood : Bool := false
  vka : Bool := true
  porstN : Bool := true
  vio33 : Bool := false
  vio18 : Bool := false
  alertLast : Nat := 0
  alertDue : Bool := false
  limitHold : Bool := false
  wakeLatch : Option Nat := none
  rtcAcc : Nat := 0
  lcLatch : Nat := 0
  thermParkA : Bool := false
  thermParkB : Bool := false
  capA : Nat := 0
  capB : Nat := 0
  capP : Nat := 0
  rtcHeld : Option Word := none
  vinMv : Nat := 0
  pciA : Bool := false
  pciB : Bool := false
  rstBy : Option (Half × Nat) := none
  deriving DecidableEq, Repr, Inhabited

/-- The service port (R391, R439): the bytes that the WRITE in progress has received, and the reply of the last READ. -/
structure Service where
  got : Nat := 0
  reply : List Byte := []
  deriving DecidableEq, Repr, Inhabited

/-- The answer to the last host access (R450, R253). -/
inductive Reply where
  | none
  | ok (data : Nat)
  | accessFault
  | collided
  deriving DecidableEq, Repr, Inhabited

/-- The whole state. `free` numbers the free values taken so far and `pending` is the queue of waiting commands: both are
the model's own (log entries 4 and 5). -/
structure State where
  pending : List Instr := []
  free : Nat := 0
  time : Nat := 0
  regs : List (Nat × Word) := []
  held : List (Nat × Word) := []
  mram : List Host.Cell := []
  dramA : List Host.Cell := []
  dramB : List Host.Cell := []
  spmA : List Host.Cell := []
  spmB : List Host.Cell := []
  reply : Reply := .none
  irq : List Nat := []
  copyFault : Bool := false
  halfA : HalfSt := {}
  halfB : HalfSt := {}
  ports : List (Nat × Port) := []
  pat : Patina := {}
  hoRun : Option HoRun := none
  shed : Option ShedRun := none
  arm : Option ArmOp := none
  rearm : Option Rearm := none
  scrub : Scrub := {}
  start : Start := {}
  insp : Option Insp := none
  lcs : Option LcsOp := none
  park : Option Park := none
  pw : Power := {}
  svc : Service := {}
  touch : List (Nat × Source) := []
  hap : List (Nat × HapChan) := []
  hapFold : Boost := {}
  audio : Audio := {}
  peer : Peer := {}
  nightEntered : Option Nat := none
  deriving DecidableEq, Repr, Inhabited

/-- The faults of the model. -/
inductive Fault where
  /-- The name of an unpredictable result that R11 does not confine (R46: a validly signed image with wrong content); `rule` is the rule
  of spec/ that says so. No command raises it: the content of an image reaches the model as free constants (log entries 13, 128), and every
  other unpredictable result is confined and goes on (State.unpredictable). Safe. -/
  | unpredictable (rule : Nat)
  deriving DecidableEq, Repr

/-- The refusals of the model. -/
inductive Refusal where
  /-- Raised by an arm of `exec` whose command has no meaning yet. Safe: no claim is made about it. -/
  | notModelled (mnemonic : String)
  deriving DecidableEq, Repr

/-- The machine right after reset: every register at the value of its Reset column (R383), MODE Armature Load by that column,
class M and K fields as in a new module (log entry 2), memories all zero (log entry 3), no command waiting. -/
def State.reset : State := {}

end Sys2Proof.Machine
end

