-- ==== Sys2Proof/Config.lean ====
section
/-! DEFINITION. What an implementation fixes and what the manual leaves open: constants with no body. A claim holds whatever
they are. -/

namespace Sys2Proof

/-- The causes of a change of MODE or TIER whose code the MODE event carries (R364, R419); the manual numbers none. -/
inductive ModeTrigger where
  | vin | wake | loader | halfReady | pairing | tier | night | nightWake | inspect | inspectEnd | holdup | dormant | park
  | service | porst | startRule
  deriving DecidableEq, Repr

namespace Config

/-- The k-th free value: a value the manual leaves open (log entry 4). -/
opaque freeValue : Nat → Nat

/-- The k-th unknown state: what an unpredictable result (R9 to R11) leaves in the Function that made the error is taken from it. -/
opaque wild : Nat → Machine.State

/-- A pixel of a stream that the manual calls unpredictable (R81): free-value number, column, row. -/
opaque freePixel : Nat → Nat → Nat → Nat

/-- The trigger byte of a MODE event (R419 names the byte, no rule numbers the triggers). -/
opaque triggerCode : ModeTrigger → Byte

/-- SHA-384 (R36, R225, R425): the standard's function, left uninterpreted. -/
opaque sha384 : List Byte → List Byte

/-- ECDSA P-384 verification of R39: public key, message, signature. -/
opaque ecdsaVerify : List Byte → List Byte → List Byte → Bool

/-- ML-DSA-65 verification of R39: public key, message, signature. -/
opaque mldsaVerify : List Byte → List Byte → List Byte → Bool

/-- The device's ECDSA P-384 signature of a message (R371, R376): private key, message. -/
opaque ecdsaSign : List Byte → List Byte → List Byte

/-- The device's ML-DSA-65 signature of a message: private key, message. -/
opaque mldsaSign : List Byte → List Byte → List Byte

/-- The value that the sections of an image give the class A fields of a register (R47). The byte layout of section types 1, 2, 6, 9, 0xA, 0xB,
0xD and 0xE is not in the manual. Arguments: die code, image bytes, page code × 2^16 + offset of the register. -/
opaque imageRegister : Nat → List Host.Cell → Nat → Word

/-- What the module makes of a field of a section whose content lies outside the range that its chapter gives (R46): section type, content. -/
opaque outOfRange : Nat → Nat → Nat

/-- The touch and key bindings of section 0x000A (R323): source, event (true Press), lowest and highest coordinates or the
key number, channel, effect. -/
opaque imageBindings : List Host.Cell → List (Nat × Bool × (Nat × Nat × Nat × Nat) × Nat × Nat)

/-- KFF, KP of a haptic channel in 1/256 (R318), lowest and highest resistance in mΩ (R324): image, channel. -/
opaque imageHaptic : List Host.Cell → Nat → Int × Int × Nat × Nat

/-- The headset types that the image permits for a port (R332). -/
opaque imageHeadset : List Host.Cell → Nat → List Nat

/-- The identity that the image expects of the sink of a port: manufacturer, product, serial (R117). -/
opaque imageSink : List Host.Cell → Nat → Nat × Nat × Nat

/-- The identity that the image expects of a PCIe partner: device and vendor, subsystem (R457). -/
opaque imagePci : List Host.Cell → Nat → Word × Word

/-- The Trusted image descriptors of a half (section 0x000E): source address, load address, length, digest, from xSPI. -/
opaque imageTrusted : List Host.Cell → List (Nat × Nat × Nat × List Byte × Bool)

/-- The byte at an address of the xSPI flash (R222, R386). -/
opaque xspiByte : Nat → Byte

/-- The reset vector of the application harts of a half (R207): die code, image. -/
opaque imageResetVector : Nat → List Host.Cell → Nat

/-- Scratchpad regions flagged clear (R222): offset, length in bytes. -/
opaque imageClear : List Host.Cell → List (Nat × Nat)

/-- Whether an interrupt source is Trusted (R216). -/
opaque imageIrqTrusted : List Host.Cell → Nat → Bool

/-- The PCIe host (0 or 1 per half's port) and Partition behind a light virtual function (R210, R236). -/
opaque imageVfPart : List Host.Cell → Nat → Nat

/-- Mirror region sources named in the image (R196): die code, region bit mask. -/
opaque imageMirror : List Host.Cell → Nat → Word

/-- The sample programs of an image (R325 to R327) as lists of nodes: image, whether the rate is 96 kHz, whether the bypass program is meant. The
instruction encoding is not an interface. -/
opaque imageProgram : List Host.Cell → Bool → Bool → List Machine.AudioNode

/-- Entry k of the quarter-wave table of a tone, 0 to 4,095, and the end of the quarter at 4,096 (R326); the entries are not in the manual. -/
opaque quarterWave : Nat → Int

/-- The rounding of an interpolated value, up (true) or down: what rounds it and the exact numerator (R317, R326). -/
opaque roundUp : Nat → Int → Bool

/-- The amplitude of a tone times its sine (R326): the format of the amplitude cell is not in the manual. -/
opaque toneScale : Int → Int → Int

/-- Does the routing graph expect a value in a cell (R337): image, cell, value? -/
opaque cellExpected : List Host.Cell → Machine.AudioCell → Int → Bool

/-- What a node makes of a cell whose value the routing graph does not expect (R337): the number of the result and the node. -/
opaque audioOdd : Nat → Nat → Int

/-- Is an I2S/TDM port a clock follower (R331)? -/
opaque imageTdmFollower : List Host.Cell → Nat → Bool

/-- The cells an image gives a sample program (R330): banked cells and override cells. -/
opaque imageCells : List Host.Cell → List (Nat × Word) × List (Nat × Word)

/-- Second-stage translation of a Partition (R162): Partition, address; none where it fails. The tables are hypervisor state. -/
opaque stage2 : Nat → Nat → Option Nat

/-- The arithmetic operations that a job carries out between two accesses (R180): command list, results of its steps so far. The encoding of
command lists and programs is not an interface (R159, R178). -/
opaque rasterArithCount : List Byte → List (List Byte) → Nat

/-- The next arithmetic operation of a job. -/
opaque rasterArith : List Byte → List (List Byte) → Machine.FpOp

/-- The next step of a job at memory (R162, R176, R181): command list, results so far, tile memory of its render pass. -/
opaque rasterStep : List Byte → List (List Byte) → List Byte → Machine.RasterStep

/-- The programs that a command list binds to its job (R179), as context address and length. -/
opaque rasterPrograms : List Byte → List (Nat × Nat)

/-- What a command list needs of the engine (R156, R171). -/
opaque rasterNeeds : List Byte → Machine.RasterNeeds

/-- Bytes of workgroup memory in a shader core (R156 bounds one workgroup only). -/
opaque rasterWorkgroupMemory : Nat

/-- Lines of the raster L2 that the image allots to the Trusted world (R173): die code, image. -/
opaque rasterTrustedLines : Nat → List Host.Cell → Nat

/-- The place of a texel within its 64 KB page (R174): texel size in bits, column, row and level within the page. -/
opaque texelOffset : Nat → Nat → Nat → Nat → Nat

/-- The bits of a NaN result in FP32 and FP16 (R180 gives none), from the operation. -/
opaque nan32 : Machine.FpOp → BitVec 32
opaque nan16 : Machine.FpOp → BitVec 16

/-- An implementation's result of an FP32 operation whose error R180 bounds: where it lies outside the bound it is not taken. -/
opaque approx32 : Machine.FpOp → BitVec 32

/-- A conversion to an integer outside its range or of a NaN, which R180 does not give. -/
opaque intOutside : Machine.FpOp → Int

/-- A texture filter (R180): texels, and the weights in 1/256. -/
opaque textureFilter : List (BitVec 32) → Nat → Nat → Nat → BitVec 32

/-- The entries of a mailbox ring whose LOG2 lies outside 4 to 8 (R237). -/
opaque mailboxRing : Nat → Nat

/-- The eight check bits of a scratchpad word (R251): the code is not in the manual. -/
opaque eccBits : BitVec 64 → Byte

/-- The interpolated position of a contact (R297): signals of the 3 × 3 nodes, row and column of the maximum, rows, columns, largest
coordinates. -/
opaque touchInterp : List Int → Nat × Nat → Nat × Nat → Nat × Nat → Nat × Nat

/-- The signals of the nodes in Hover with the plan's self-capacitance steps (R300): the signals without them and the steps' raw counts. How the steps enter
is not in the manual. -/
opaque hoverSignals : List Int → List Nat → List Int

/-- The nodes above threshold that belong to one of several contacts (R299 SIZE): signals, threshold, node of the maximum. -/
opaque touchSize : List Int → Nat → Nat → Nat

/-- The places of the maxima that become contacts where a sensor shows more than 16 (R297): their signals. -/
opaque touchPick : List Int → List Nat

/-- Whether a found contact continues an earlier one (R297): old position, new position. -/
opaque touchSame : Nat × Nat → Nat × Nat → Bool

/-- One pixel of the status glyph set (R132): ASCII code, column 0 to 7, row 0 to 15. -/
opaque glyph : Nat → Nat → Nat → Bool

/-- The sink CRC of R154 by the standard's algorithm: the three component values so far (none at the first line) and the pixels of
the next line. -/
opaque sinkCrc : Option (Word × Word × Word) → List Nat → Word × Word × Word

/-- The places of the private parts in the 8 KB of the device key pair (R376, R377), as offset and length. -/
opaque devicePrivate : List (Nat × Nat)

/-- Where the P-384 (0) and the ML-DSA-65 (1) public key lie in the 8 KB of the device key pair, which the manual does not lay out (R376, R377). -/
opaque devicePublic : Nat → Nat

/-- The 8 KB of a device key pair drawn from the entropy source (R374): free-value number. -/
opaque deviceKeys : Nat → List Byte

/-- Porches, sync widths and polarities of the 1280 × 720 timing of R133, which gives its clock and totals alone. -/
opaque sync720 : Timing

/-- The module ID (R340, R371). -/
opaque moduleId : Nat

end Config

end Sys2Proof
end

