-- ==== Sys2Proof/Machine/Crc.lean ====
section
/-! DEFINITION. The two check values of the module: CRC-32 (R144) and CRC-32C (R38, R418), both reflected, starting from
all ones and complemented at the end. -/

namespace Sys2Proof.Machine

/-- One bit of a reflected CRC with polynomial `poly`. -/
def crcBit (poly c : Nat) : Nat := if c % 2 = 1 then (c / 2) ^^^ poly else c / 2

/-- `n` bits of a reflected CRC. -/
def crcBits (poly : Nat) : Nat → Nat → Nat
  | 0, c => c
  | n + 1, c => crcBits poly n (crcBit poly c)

/-- One byte folded into the running value. -/
def crcByte (poly c : Nat) (b : Byte) : Nat := crcBits poly 8 (c ^^^ b.toNat)

/-- Bytes folded into a running (uncomplemented) value. -/
def crcRun (poly c : Nat) (bs : List Byte) : Nat := bs.foldl (crcByte poly) c

/-- The whole check value of a byte string. -/
def crcOf (poly : Nat) (bs : List Byte) : Nat := crcRun poly 0xFFFFFFFF bs ^^^ 0xFFFFFFFF

/-- CRC-32 (R144): polynomial 0x04C11DB7, reflected 0xEDB88320. -/
def crc32Poly : Nat := 0xEDB88320

/-- CRC-32C: polynomial 0x1EDC6F41, reflected 0x82F63B78. -/
def crc32cPoly : Nat := 0x82F63B78

/-- CRC-32 of a byte string. -/
def crc32 (bs : List Byte) : Nat := crcOf crc32Poly bs

/-- CRC-32C of a byte string. -/
def crc32c (bs : List Byte) : Nat := crcOf crc32cPoly bs

end Sys2Proof.Machine
end

