-- ==== Sys2Proof/Machine/Tbl.lean ====
section
/-! DEFINITION. Sparse tables: a list of (key, value) pairs with keys strictly rising, in which no pair holds the value that
an unlisted key reads as. Registers, memories and every numbered unit of State are kept in this form, so equal contents are
equal lists. -/

namespace Sys2Proof.Machine

variable {α : Type}

/-- The value listed for key `k`. -/
def tblFind (k : Nat) : List (Nat × α) → Option α
  | [] => none
  | (j, v) :: r => if j = k then some v else tblFind k r

/-- The value of key `k`; `d k` where nothing is listed. -/
def tblGet (d : Nat → α) (m : List (Nat × α)) (k : Nat) : α := (tblFind k m).getD (d k)

/-- List the value `v` for key `k`. -/
def tblInsert (k : Nat) (v : α) : List (Nat × α) → List (Nat × α)
  | [] => [(k, v)]
  | (j, w) :: r => if k < j then (k, v) :: (j, w) :: r else if j = k then (k, v) :: r else (j, w) :: tblInsert k v r

/-- List nothing for key `k`. -/
def tblErase (k : Nat) : List (Nat × α) → List (Nat × α)
  | [] => []
  | (j, w) :: r => if j = k then tblErase k r else (j, w) :: tblErase k r

/-- Give key `k` the value `v`; the value an unlisted key reads as removes the entry. The list is looked at first, so that a table that is
not known is never computed with. -/
def tblSet [DecidableEq α] (d : Nat → α) (m : List (Nat × α)) (k : Nat) (v : α) : List (Nat × α) :=
  match m with
  | [] => if v = d k then [] else [(k, v)]
  | e :: r => if v = d k then tblErase k (e :: r) else tblInsert k v (e :: r)

/-- The canonical form: keys strictly rise and no entry holds the unlisted value. -/
def tblWf [DecidableEq α] (d : Nat → α) : List (Nat × α) → Bool
  | [] => true
  | (j, v) :: r => decide (v ≠ d j) && r.all (fun e => decide (j < e.1)) && tblWf d r

/-- Change every listed value by `f`; an entry that takes the unlisted value goes. -/
def tblMap [DecidableEq α] (d : Nat → α) (f : Nat → α → α) (m : List (Nat × α)) : List (Nat × α) :=
  m.filterMap fun e => if f e.1 e.2 = d e.1 then none else some (e.1, f e.1 e.2)

/-- The entries whose keys satisfy `p`. -/
def tblKeep (p : Nat → Bool) (m : List (Nat × α)) : List (Nat × α) := m.filter fun e => p e.1

/-- The entries from `lo` on, `len` keys long, with keys counted from `lo`. -/
def tblWindow (lo len : Nat) (m : List (Nat × α)) : List (Nat × α) :=
  (m.filter fun e => lo ≤ e.1 && e.1 < lo + len).map fun e => (e.1 - lo, e.2)

/-- Put a window, counted from 0, over the keys `lo` to `lo + len - 1`. -/
def tblOverlay [DecidableEq α] (d : Nat → α) (lo len : Nat) (w m : List (Nat × α)) : List (Nat × α) :=
  w.foldl (fun acc e => if e.1 < len then tblSet d acc (lo + e.1) e.2 else acc)
    (tblKeep (fun k => !(lo ≤ k && k < lo + len)) m)

/-! ## Byte memories: an unlisted byte reads 0 (log entry 3). -/

/-- What a byte of memory that nothing has written reads as. -/
def byteZero (_ : Nat) : Byte := 0

/-- One byte. -/
def memByte (m : List Host.Cell) (a : Nat) : Byte := tblGet byteZero m a

/-- Write one byte. -/
def memSetByte (m : List Host.Cell) (a : Nat) (b : Byte) : List Host.Cell := tblSet byteZero m a b

/-- `n` bytes from `a` on. -/
def memBytes (m : List Host.Cell) (a : Nat) : Nat → List Byte
  | 0 => []
  | n + 1 => memByte m a :: memBytes m (a + 1) n

/-- Write bytes from `a` on. -/
def memSetBytes (m : List Host.Cell) (a : Nat) : List Byte → List Host.Cell
  | [] => m
  | b :: r => memSetBytes (memSetByte m a b) (a + 1) r

/-- Clear `n` bytes from `a` on. -/
def memClear (m : List Host.Cell) (a n : Nat) : List Host.Cell := tblKeep (fun k => !(a ≤ k && k < a + n)) m

/-- Little-endian value of bytes (R3). -/
def leNat : List Byte → Nat
  | [] => 0
  | b :: r => b.toNat + 256 * leNat r

/-- `n` little-endian bytes of a value. -/
def leBytes : Nat → Nat → List Byte
  | 0, _ => []
  | n + 1, v => BitVec.ofNat 8 v :: leBytes n (v / 256)

/-- The little-endian value of `n` bytes from `a` on. -/
def memNat (m : List Host.Cell) (a n : Nat) : Nat := leNat (memBytes m a n)

end Sys2Proof.Machine
end

