-- ==== Sys2Proof/Machine/Ops.lean ====
section
/-! DEFINITION. The named operations over State: registers and fields, memories, units, pages, page grants, interrupts. -/

namespace Sys2Proof.Machine

/-- What a meaning answers. -/
abbrev Res := Host.Outcome State Fault Refusal

/-! ## Pages and registers -/

/-- A register page: die and page code (page of the Function window; 0x1000 + p for L4 page p; 0x2000 to 0x2003 for MOD, PWR,
RST, ARM; 0x3000 + hart for the CSRs of a hart). -/
structure Pg where
  die : Die
  code : Nat
  deriving DecidableEq, Repr

def Die.num : Die → Nat
  | .A => 0
  | .B => 1
  | .P => 2

def Half.die : Half → Die
  | .A => .A
  | .B => .B

def Half.num : Half → Nat
  | .A => 0
  | .B => 1

/-- The other half. -/
def Half.other : Half → Half
  | .A => .B
  | .B => .A

/-- The key of a register in `State.regs`. -/
def Pg.key (p : Pg) (off : Nat) : Nat := (Die.num p.die * 0x10000 + p.code) * 0x10000 + off

/-- The kind of a page of a half (R452, R453). -/
def halfKind (code : Nat) : Option PageKind :=
  if code < 8 then some .cmp
  else if code = 0x20 then some .gfe
  else if 0x50 ≤ code ∧ code < 0x54 then some .cvu
  else if 0x60 ≤ code ∧ code < 0x62 then some .dmc
  else if 0x68 ≤ code ∧ code < 0x6C then some .spm
  else if code = 0x70 then some .twn
  else if code = 0x78 then some .pci
  else if code = 0x90 then some .saf
  else if code = 0xA0 then some .wld
  else if code = 0xB0 then some .ins
  else if 0x100 ≤ code ∧ code < 0x140 then some .rcx
  else if 0x200 ≤ code ∧ code < 0x300 then some .qu
  else if 0x400 ≤ code ∧ code < 0x480 then (if code % 2 = 0 then some .inst else some .insq)
  else if 0x1000 ≤ code ∧ code < 0x1010 then some .ptn
  else if code = 0x2000 then some .mod
  else if code = 0x2001 then some .pwr
  else if code = 0x2002 then some .rst
  else if code = 0x2003 then some .arm
  else if 0x3000 ≤ code ∧ code < 0x3008 then some .hart
  else none

/-- The kind of a Plinth window page (R454); the one MOD, RST and ARM controller's shared registers are homed here too. -/
def plinthKind (code : Nat) : Option PageKind :=
  if code < 8 then some .scn
  else if 0x10 ≤ code ∧ code < 0x18 then some .ick
  else if 0x20 ≤ code ∧ code < 0x28 then some .taf
  else if code = 0x28 then some .tce
  else if code = 0x30 then some .hap
  else if code = 0x38 then some .aio
  else if code = 0x39 then some .aud
  else if code = 0x40 then some .plk
  else if code = 0x48 then some .pat
  else if code = 0x50 then some .shd
  else if code = 0x58 then some .lcs
  else if code = 0x60 then some .svc
  else if code = 0x68 then some .kal
  else if code = 0x70 then some .pair
  else if code = 0x2000 then some .mod
  else if code = 0x2002 then some .rst
  else if code = 0x2003 then some .arm
  else none

def Pg.kind (p : Pg) : Option PageKind :=
  match p.die with
  | .P => plinthKind p.code
  | _ => halfKind p.code

/-- Does `off` name a register of the family `r`: base plus a multiple of each stride. -/
def dimsHit : List (Nat × Nat) → Nat → Bool
  | [], d => d = 0
  | [(s, n)], d => d % s = 0 && d / s < n
  | (s, n) :: r, d => d / s < n && dimsHit r (d % s)

/-- The descriptor of the register at an offset of a page kind: its own registers, then the discovery records (R27). -/
def regAt (k : PageKind) (off : Nat) : Option RegD :=
  if 0xF000 ≤ off then
    if (off - 0xF000) / 16 < positions k then (regsDrec.find? fun r => r.off - 0xF000 = (off - 0xF000) % 16) else none
  else (regsOf k).find? fun r => r.off ≤ off && dimsHit r.dims (off - r.off)

/-- The offsets of the registers of a family. -/
def RegD.offs (r : RegD) : List Nat :=
  r.dims.foldl (fun l d => l.flatMap fun o => (List.range d.2).map fun i => o + d.1 * i) [r.off]

/-- The offsets of every register of a page kind, discovery words included. -/
def pageOffs (k : PageKind) : List Nat :=
  (regsOf k).flatMap RegD.offs ++ (List.range (positions k)).map fun n => 0xF000 + 16 * n

/-- The bits of the fields that satisfy `p`. -/
def RegD.bits (r : RegD) (p : FldD → Bool) : Nat :=
  r.fields.foldl (fun a f => if p f then a ||| (2 ^ f.width - 1) <<< f.lsb else a) 0

/-- The page and offset of a register key. -/
def keyPage (key : Nat) : Pg := ⟨if key / 0x100000000 = 0 then .A else if key / 0x100000000 = 1 then .B else .P, key / 0x10000 % 0x10000⟩

/-- The word a register's Reset column gives (R383); a colour table entry resets to min(4095, 16 i) (R73). -/
def regResetWord (r : RegD) : Nat := r.fields.foldl (fun a f => a ||| f.reset <<< f.lsb) 0

/-- The reset value of a register. -/
def regReset (key : Nat) : Word :=
  match (keyPage key).kind with
  | none => 0
  | some k =>
    let off := key % 0x10000
    if k = .cmp ∧ 0x2000 ≤ off ∧ off < 0x3800 then
      (if (off - 0x2000) % 0x800 ≤ 0x400 then BitVec.ofNat 32 (min 4095 (16 * ((off - 0x2000) % 0x800 / 4))) else 0)
    else if k = .rcx ∧ off = 4 ∧ (keyPage key).code = 0x100 then 7
    else match regAt k off with
      | none => 0
      | some r => BitVec.ofNat 32 (regResetWord r)

/-- One whole register. -/
def State.reg (s : State) (p : Pg) (off : Nat) : Word := tblGet regReset s.regs (p.key off)

/-- Write one whole register. -/
def State.setReg (s : State) (p : Pg) (off : Nat) (w : Word) : State :=
  { s with regs := tblSet regReset s.regs (p.key off) w }

/-- The value of a field in a register word. -/
def Fld.ofWord (f : Fld) (w : Word) : Nat := w.toNat >>> f.lsb % 2 ^ f.width

/-- A register word with a field replaced. -/
def Fld.into (f : Fld) (w : Word) (v : Nat) : Word :=
  (w &&& ~~~(BitVec.ofNat 32 ((2 ^ f.width - 1) <<< f.lsb))) ||| BitVec.ofNat 32 ((v % 2 ^ f.width) <<< f.lsb)

/-- Read a field. -/
def State.get (s : State) (p : Pg) (f : Fld) : Nat := f.ofWord (s.reg p f.off)

/-- Write a field. -/
def State.put (s : State) (p : Pg) (f : Fld) (v : Nat) : State := s.setReg p f.off (f.into (s.reg p f.off) v)

/-- A one-bit field as a Bool. -/
def State.flag (s : State) (p : Pg) (f : Fld) : Bool := s.get p f ≠ 0

/-- Increment a counter field, saturating at its largest value. -/
def State.incSat (s : State) (p : Pg) (f : Fld) : State := s.put p f (min (2 ^ f.width - 1) (s.get p f + 1))

/-- Increment a counter field, modulo its width. -/
def State.incMod (s : State) (p : Pg) (f : Fld) : State := s.put p f (s.get p f + 1)

/-- The pages of a half's Function window that a Partition may hold (R452). -/
def funcPages : List Nat :=
  List.range 8 ++ [0x20] ++ List.range' 0x50 4 ++ List.range' 0x60 2 ++ List.range' 0x68 4 ++ [0x70, 0x78, 0x90, 0xA0, 0xB0] ++
  List.range' 0x100 64 ++ List.range' 0x200 256 ++ List.range' 0x400 128

/-- The pages of the Plinth window (R454). -/
def plinthPages : List Nat :=
  List.range 8 ++ List.range' 0x10 8 ++ List.range' 0x20 9 ++ [0x30, 0x38, 0x39, 0x40, 0x48, 0x50, 0x58, 0x60, 0x68, 0x70]

def halfPg (h : Half) (code : Nat) : Pg := ⟨Half.die h, code⟩
def plinthPg (code : Nat) : Pg := ⟨.P, code⟩
def pgCmp (h : Half) (n : Nat) : Pg := halfPg h n
def pgGfe (h : Half) : Pg := halfPg h 0x20
def pgCvu (h : Half) (n : Nat) : Pg := halfPg h (0x50 + n)
def pgDmc (h : Half) (n : Nat) : Pg := halfPg h (0x60 + n)
def pgSpm (h : Half) (n : Nat) : Pg := halfPg h (0x68 + n)
def pgTwn (h : Half) : Pg := halfPg h 0x70
def pgPci (h : Half) : Pg := halfPg h 0x78
def pgSaf (h : Half) : Pg := halfPg h 0x90
def pgWld (h : Half) : Pg := halfPg h 0xA0
def pgIns (h : Half) : Pg := halfPg h 0xB0
def pgRcx (h : Half) (c : Nat) : Pg := halfPg h (0x100 + c)
def pgQu (h : Half) (q : Nat) : Pg := halfPg h (0x200 + q)
def pgInst (h : Half) (i : Nat) : Pg := halfPg h (0x400 + 2 * i)
def pgInsq (h : Half) (i : Nat) : Pg := halfPg h (0x401 + 2 * i)
def pgPtn (h : Half) (p : Nat) : Pg := halfPg h (0x1000 + p)
def pgPwr (h : Half) : Pg := halfPg h 0x2001
/-- RST_CTRL, RST_STATUS and RST_CAUSE are held per half; RST_STRAP, RST_START and RST_FETCH once (`pgRst`). -/
def pgRstH (h : Half) : Pg := halfPg h 0x2002
def pgRst : Pg := plinthPg 0x2002
/-- ARM_STATUS, ARM_SRC, ARM_LEN and ARM_DIFF are held per half; ARM_SLOT, ARM_ACTIVE and ARM_FLOOR once (`pgArm`). -/
def pgArmH (h : Half) : Pg := halfPg h 0x2003
def pgArm : Pg := plinthPg 0x2003
def pgMod : Pg := plinthPg 0x2000
def pgHart (h : Half) (n : Nat) : Pg := halfPg h (0x3000 + n)
def pgScn (n : Nat) : Pg := plinthPg n
def pgIck (n : Nat) : Pg := plinthPg (0x10 + n)
def pgTaf (n : Nat) : Pg := plinthPg (0x20 + n)
def pgTce : Pg := plinthPg 0x28
def pgHap : Pg := plinthPg 0x30
def pgAio : Pg := plinthPg 0x38
def pgAud : Pg := plinthPg 0x39
def pgPlk : Pg := plinthPg 0x40
def pgPat : Pg := plinthPg 0x48
def pgShd : Pg := plinthPg 0x50
def pgLcs : Pg := plinthPg 0x58
def pgSvc : Pg := plinthPg 0x60
def pgKal : Pg := plinthPg 0x68
def pgPair : Pg := plinthPg 0x70

/-! ## Units -/

def State.port (s : State) (n : Nat) : Port := tblGet (fun _ => {}) s.ports n
def State.setPort (s : State) (n : Nat) (v : Port) : State := { s with ports := tblSet (fun _ => {}) s.ports n v }
def State.hs (s : State) : Half → HalfSt
  | .A => s.halfA
  | .B => s.halfB
def State.setHs (s : State) (h : Half) (v : HalfSt) : State :=
  match h with
  | .A => { s with halfA := v }
  | .B => { s with halfB := v }
def State.pipe (s : State) (h : Half) (n : Nat) : Pipe := tblGet (fun _ => {}) (s.hs h).pipes n
def State.setPipe (s : State) (h : Half) (n : Nat) (v : Pipe) : State :=
  s.setHs h { s.hs h with pipes := tblSet (fun _ => {}) (s.hs h).pipes n v }
def State.ctx (s : State) (h : Half) (n : Nat) : RCtx := tblGet (fun _ => {}) (s.hs h).ctx n
def State.setCtx (s : State) (h : Half) (n : Nat) (v : RCtx) : State :=
  s.setHs h { s.hs h with ctx := tblSet (fun _ => {}) (s.hs h).ctx n v }
def State.inst (s : State) (h : Half) (n : Nat) : Inst := tblGet (fun _ => {}) (s.hs h).inst n
def State.setInst (s : State) (h : Half) (n : Nat) (v : Inst) : State :=
  s.setHs h { s.hs h with inst := tblSet (fun _ => {}) (s.hs h).inst n v }
def State.hart (s : State) (h : Half) (n : Nat) : Hart := tblGet (fun _ => {}) (s.hs h).harts n
def State.setHart (s : State) (h : Half) (n : Nat) (v : Hart) : State :=
  s.setHs h { s.hs h with harts := tblSet (fun _ => {}) (s.hs h).harts n v }
def State.spmU (s : State) (h : Half) (n : Nat) : Spm := tblGet (fun _ => {}) (s.hs h).spm n
def State.setSpmU (s : State) (h : Half) (n : Nat) (v : Spm) : State :=
  s.setHs h { s.hs h with spm := tblSet (fun _ => {}) (s.hs h).spm n v }
def State.scan (s : State) (h : Half) (n : Nat) : Scan := tblGet (fun _ => {}) (s.hs h).cvu n
def State.setScan (s : State) (h : Half) (n : Nat) (v : Scan) : State :=
  s.setHs h { s.hs h with cvu := tblSet (fun _ => {}) (s.hs h).cvu n v }
def State.qu (s : State) (h : Half) (n : Nat) : Queue := tblGet (fun _ => {}) (s.hs h).qu n
def State.setQu (s : State) (h : Half) (n : Nat) (v : Queue) : State :=
  s.setHs h { s.hs h with qu := tblSet (fun _ => {}) (s.hs h).qu n v }
def State.src (s : State) (n : Nat) : Source := tblGet (fun _ => {}) s.touch n
def State.setSrc (s : State) (n : Nat) (v : Source) : State := { s with touch := tblSet (fun _ => {}) s.touch n v }
def State.chan (s : State) (n : Nat) : HapChan := tblGet (fun _ => {}) s.hap n
def State.setChan (s : State) (n : Nat) (v : HapChan) : State := { s with hap := tblSet (fun _ => {}) s.hap n v }

def State.dram (s : State) : Half → List Host.Cell
  | .A => s.dramA
  | .B => s.dramB
def State.setDram (s : State) (h : Half) (m : List Host.Cell) : State :=
  match h with
  | .A => { s with dramA := m }
  | .B => { s with dramB := m }
def State.spm (s : State) : Half → List Host.Cell
  | .A => s.spmA
  | .B => s.spmB
def State.setSpm (s : State) (h : Half) (m : List Host.Cell) : State :=
  match h with
  | .A => { s with spmA := m }
  | .B => { s with spmB := m }

/-- The 16 GB of a half's DRAM (R447). -/
def dramSize : Nat := 0x400000000

/-- The scratchpad window of a half (R251, R447). -/
def spmBase : Nat := 0x8000000000

/-- The size of the scratchpad of a half. -/
def spmSize : Nat := 0x1000000

/-- One free value (log entry 4): the next opaque number; the counter moves on. -/
def State.takeFree (s : State) : Nat × State := (Config.freeValue s.free, { s with free := s.free + 1 })

/-- One free value in a field. -/
def State.putFree (s : State) (p : Pg) (f : Fld) : State := (s.takeFree.2).put p f s.takeFree.1

/-- Raise the interrupt of a page (log entry 6): the page joins the set of raised interrupts. -/
def State.raise (s : State) (p : Pg) : State :=
  { s with irq := if s.irq.contains (p.key 0) then s.irq else p.key 0 :: s.irq }

/-- Fold a list of state changes. -/
def State.each {α : Type} (s : State) (xs : List α) (f : α → State → State) : State := xs.foldl (fun s x => f x s) s

/-- The numbers below n in ascending order. -/
def upTo (n : Nat) : List Nat := List.range n

/-- Run a change only where the condition holds. -/
def State.whenB (s : State) (c : Bool) (f : State → State) : State := if c then f s else s

/-! ## MRAM places (R16, R377) -/

def slotBase (slot : Nat) : Nat := 0x1800000 * slot
def slotSize : Nat := 0x1800000
def ringBase : Nat := 0x3000000
def ringSlots : Nat := 131072
def storeBase : Nat := 0x3800000
def descBase : Nat := storeBase + 0xFF000

/-- A little-endian value in MRAM. -/
def State.mramNat (s : State) (a n : Nat) : Nat := memNat s.mram a n
def State.mramBytes (s : State) (a n : Nat) : List Byte := memBytes s.mram a n
def State.setMram (s : State) (a : Nat) (bs : List Byte) : State := { s with mram := memSetBytes s.mram a bs }

/-- The bytes of a slot, counted from its start. -/
def State.slotCells (s : State) (slot : Nat) : List Host.Cell := tblWindow (slotBase slot) slotSize s.mram

/-- The slot in force on a die (ARM_ACTIVE). -/
def State.slotOf (s : State) : Die → Nat
  | .A => s.get pgArm F.ARM_ACTIVE_A_SLOT
  | .B => s.get pgArm F.ARM_ACTIVE_B_SLOT
  | .P => s.get pgArm F.ARM_ACTIVE_PLINTH_SLOT

/-- The image in force on a die. -/
def State.image (s : State) (d : Die) : List Host.Cell := s.slotCells (s.slotOf d)

/-- The directory entry of a section type in a slot: offset and length (R36). -/
def State.section? (s : State) (slot typ : Nat) : Option (Nat × Nat) :=
  let b := slotBase slot
  let n := s.mramNat (b + 0x18) 4
  ((upTo (min n 64)).find? fun i => s.mramNat (b + 0x1000 + 64 * i) 2 = typ).map fun i =>
    (s.mramNat (b + 0x1000 + 64 * i + 4) 4, s.mramNat (b + 0x1000 + 64 * i + 8) 4)

/-- A little-endian value at an offset of a section of a slot; zero where the image has no such section. -/
def State.secNat (s : State) (slot typ off n : Nat) : Nat :=
  match s.section? slot typ with
  | none => 0
  | some (o, _) => s.mramNat (slotBase slot + o + off) n

/-- A field of an image section that lies within the range lo to hi of its chapter; of any other content the result is open (R46, log entry 128). -/
def inImage (lo hi typ v : Nat) : Nat := if lo ≤ v && v ≤ hi then v else Config.outOfRange typ v

/-! ## Pages and requesters (R24, R450, R453, R454) -/

/-- Is the page granted to Partition p (PTN_GRANT, PTN_PGRANT of the half's L4 page p)? -/
def State.granted (s : State) (h : Half) (p : Nat) (pg : Pg) : Bool :=
  let off := (if pg.die = .P then 0x200 else 0x100) + 4 * (pg.code / 32)
  (s.reg (pgPtn h p) off).getLsbD (pg.code % 32)

/-- The Partition that a page is granted to in a half, with its world (R22 to R24); none where no grant names it. -/
def State.grantee (s : State) (h : Half) (pg : Pg) : Option Nat := (upTo 16).find? fun p => s.granted h p pg

/-- Is Partition p Trusted (WLD_CFG.TPARTS)? -/
def State.trustedPart (s : State) (h : Half) (p : Nat) : Bool := (s.get (pgWld h) F.WLD_CFG_TPARTS).testBit p

/-- The tag of a transaction (R210): WORLD, PART and M; `mirror` marks an incoming mirror write. -/
structure Tag where
  world : World
  part : Nat
  m : Bool
  mirror : Bool
  deriving DecidableEq, Repr

/-- PART of a transaction that belongs to no Partition (R24): no bit of a PARTS mask stands for it. -/
def noPart : Nat := 16

def worldOf (trusted : Bool) : World := if trusted then .trusted else .opn

/-- The tag of a Function's engine (R210): the world and Partition of its page's grant. A page that no grant names belongs to no Partition and
to the Trusted world (R24, log entry 7). -/
def State.tagOf (s : State) (h : Half) (pg : Pg) : Tag :=
  match s.grantee h pg with
  | none => ⟨.trusted, noPart, false, false⟩
  | some p => ⟨worldOf (s.trustedPart h p), p, false, false⟩

/-- The tag of what issues a transaction in a half (R208, R210): a hart's world, MPART in M-mode and hpart below it; the safety cores are
Trusted with the Partition of the SAF grant; the image names the Partition behind a PCIe function. -/
def State.tag (s : State) (h : Half) : Issuer → Tag
  | .hart n =>
    let p := pgHart h n
    let m := (s.hart h n).mMode
    ⟨worldOf (s.flag p F.MWORLD_WORLD), if m then s.get p F.MWORLD_MPART else s.get p F.HPART_PART, m, false⟩
  | .safety => ⟨.trusted, (s.tagOf h (pgSaf h)).part, false, false⟩
  | .pcie vf =>
    let part := Config.imageVfPart (s.image (Half.die h)) vf % 16
    ⟨worldOf (s.trustedPart h part), part, false, false⟩
  | .engine code => s.tagOf h (halfPg h code)
  | .mirror => ⟨.opn, noPart, false, true⟩

/-- Is the issuer a core, whose refused access raises an access fault (R215)? -/
def Issuer.core : Issuer → Bool
  | .hart _ | .safety => true
  | _ => false

/-- The tag of a host access. -/
def State.rqTag (s : State) (rq : Requester) : Tag := s.tag rq.half rq.by_

/-- Pages of a half that only the Trusted world may access (R452). -/
def trustedOnly (pg : Pg) : Bool :=
  if pg.die = .P then pg.code = 0x28 || pg.code = 0x58 || pg.code = 0x68 || 0x2000 ≤ pg.code
  else pg.code = 0x20 || pg.code = 0x60 || pg.code = 0x61 || pg.code = 0x70 || pg.code = 0x90 || pg.code = 0xA0 ||
    pg.code = 0x100 || (0x2000 ≤ pg.code && pg.code < 0x3000)

/-- Does an access come through the BAR of a light virtual function, which has no resource but the queue page behind it (R236)? -/
def Issuer.lightVf : Issuer → Bool
  | .pcie (_ + 1) => true
  | _ => false

/-- Does the image's grant admit the requester to the page (R24, R450, R453, R454)? A page without a grant is open to the Trusted world of
the half that asks. The grants looked at are those of the requester's own half; that a grant in the other half does not close a Plinth page
to this half's Trusted world is the model's choice (log entry 83). -/
def State.admits (s : State) (rq : Requester) (pg : Pg) : Bool :=
  let t := s.rqTag rq
  if Issuer.lightVf rq.by_ then false
  else if trustedOnly pg then t.world = .trusted
  else if 0x1000 ≤ pg.code && pg.code < 0x1010 then t.world = .trusted || t.part = pg.code - 0x1000
  else match s.grantee rq.half pg with
    | none => t.world = .trusted
    | some p => t.part = p && t.world = worldOf (s.trustedPart rq.half p)

/-- The access completes at once with an access fault and changes nothing else (R450). -/
def State.accessFault (s : State) : State := { s with reply := .accessFault }

/-- An access that is not admitted is dropped, a read returns zero, and a core takes its access fault (R215, R450). -/
def State.dropped (s : State) (rq : Requester) : State := if Issuer.core rq.by_ then s.accessFault else { s with reply := .ok 0 }

/-- The power domain of a Function page of a half (R398), where it has one. -/
def domainOf (code : Nat) : Option Nat :=
  if code < 8 then some (16 + code)
  else if code = 0x20 then some 11
  else if 0x60 ≤ code ∧ code < 0x62 then some (24 + (code - 0x60))
  else if 0x68 ≤ code ∧ code < 0x6C then some (26 + (code - 0x68))
  else if code = 0x90 then some 10
  else if code = 0x70 ∨ code = 0xB0 ∨ (0x400 ≤ code ∧ code < 0x480) then some 30
  else none

/-- The state code of a half's power domain (R402, PWR_DSTAT). -/
def State.domain (s : State) (h : Half) (d : Nat) : Nat :=
  (s.reg (pgPwr h) (0x10 + 4 * (d / 8))).toNat >>> (4 * (d % 8)) % 16

/-- Set the state code of a half's power domain. -/
def State.setDomain (s : State) (h : Half) (d v : Nat) : State :=
  s.put (pgPwr h) ⟨0x10 + 4 * (d / 8), 4 * (d % 8), 4⟩ v

/-- The state code of a Plinth power domain (SHD_DSTAT). -/
def State.pdomain (s : State) (d : Nat) : Nat := (s.reg pgShd (0x10 + 4 * (d / 8))).toNat >>> (4 * (d % 8)) % 16

def State.setPdomain (s : State) (d v : Nat) : State := s.put pgShd ⟨0x10 + 4 * (d / 8), 4 * (d % 8), 4⟩ v

/-- Is the domain of a half's Function page On (R450)? Context pages and pages in no switched domain count as On. -/
def State.pageOn (s : State) (pg : Pg) : Bool :=
  match pg.die with
  | .P => true
  | .A => match domainOf pg.code with
    | none => true
    | some d => s.domain .A d = 2
  | .B => match domainOf pg.code with
    | none => true
    | some d => s.domain .B d = 2

end Sys2Proof.Machine
end

