-- ==== Sys2Proof/Machine/Flags.lean ====
section
/-! DEFINITION. What many rules share: the events of the Patina record with their snapshot triggers (R416 to R424), the alert
latch (R438), the change of a discovery state (R28, R29), and the changes of mode, tier and half state (R187, R362, R364). -/

namespace Sys2Proof.Machine

/-! ## Alert latch -/

/-- A rule asserts ALERT_N: the latch is set (R438). -/
def State.alert (s : State) : State :=
  let s := s.put pgSvc F.SVC_ALERT_CLEAR 1
  let s := s.put pgSvc F.SVC_STATUS_ALERT 1
  let s := s.incSat pgSvc F.SVC_ALERT_COUNT
  { s with pw := { s.pw with alertLast := s.time } }

/-- The latch is cleared (R438). -/
def State.alertOff (s : State) : State :=
  let s := s.put pgSvc F.SVC_ALERT_CLEAR 0
  let s := s.put pgSvc F.SVC_STATUS_ALERT 0
  { s with pw := { s.pw with alertDue := false } }

/-! ## Patina events -/

/-- The SRC word of an event from a page (R418). -/
def srcOf (p : Pg) : Nat :=
  (match p.die with | .P => 0 | .A => 0x4000 | .B => 0x8000) + p.code % 0x1000

/-- Plinth engines without a page (R419). -/
def srcMode : Nat := 0xFF0
def srcReset : Nat := 0xFF1
def srcLoader : Nat := 0xFF2
def srcCopy : Nat := 0xFF3

/-- One byte of an event's DATA. -/
def b1 (n : Nat) : List Byte := leBytes 1 n
def b2 (n : Nat) : List Byte := leBytes 2 n
def b4 (n : Nat) : List Byte := leBytes 4 n

/-- NUMBER and LOCK of the descriptor at position p (R425). -/
def State.snapNumber (s : State) (p : Nat) : Nat := s.mramNat (descBase + 0x100 * p) 4

def State.snapValid (s : State) (p : Nat) : Bool := (s.get pgPat F.PAT_STATUS_VALID).testBit p
def State.snapLocked (s : State) (p : Nat) : Bool := (s.get pgPat F.PAT_STATUS_LOCKED).testBit p

/-- Replace one bit of a field. -/
def State.putBit (s : State) (p : Pg) (f : Fld) (i : Nat) (b : Bool) : State :=
  let v := s.get p f
  s.put p f (if b then v ||| 2 ^ i else v &&& (2 ^ f.width - 1 - 2 ^ i))

/-- The entry with the least (or, `gt`, greatest) measure. -/
def bestBy (m : Nat → Nat) : List Nat → Option Nat
  | [] => none
  | x :: r => match bestBy m r with
    | none => some x
    | some y => if m y < m x then some y else some x

/-- The position that a trigger takes (R424): one with no valid descriptor, or the oldest unlocked one. -/
def State.snapPos (s : State) : Option Nat :=
  match (upTo 8).find? fun p => !(s.snapValid p) with
  | some p => some p
  | none => bestBy s.snapNumber ((upTo 8).filter fun p => !(s.snapLocked p))

/-- The valid position of highest NUMBER. -/
def State.snapNewest (s : State) : Option Nat :=
  bestBy (fun p => 0x100000000 - s.snapNumber p) ((upTo 8).filter fun p => s.snapValid p)

/-- A trigger starts a snapshot at position `pos` (R422 to R424). -/
def State.snapStart (s : State) (pos code seq : Nat) : State :=
  let prev := match s.snapNewest with
    | none => (0, List.replicate 48 (0 : Byte))
    | some q => (s.snapNumber q, s.mramBytes (descBase + 0x100 * q + 0x50) 48)
  let c : PatClosing := { pos := pos, number := prev.1 + 1, lock := false, code := code, trigSeq := seq, time := s.time, prev := prev.2, after := 0, closed := none }
  let s := { s with pat := { s.pat with closing := some c } }
  let s := s.putBit pgPat F.PAT_STATUS_VALID pos false
  let s := s.putBit pgPat F.PAT_STATUS_LOCKED pos false
  s.put pgPat F.PAT_STATUS_CLOSING 1

/-- The recorder takes an event: it is numbered and buffered, or dropped when 512 wait (R416, R417); a trigger starts a snapshot
unless one is Closing or every position is locked (R424, R430). -/
def State.record (s : State) (e : PatEvent) : State :=
  if 512 ≤ s.pat.buf.length then
    let s := s.incSat pgPat F.PAT_DROPS_DROPS
    { s with pat := { s.pat with gap := true } }
  else
    let seq := s.pat.nextSeq
    let start := if e.trig && s.pat.closing.isNone then s.snapPos else none
    let missed := e.trig && s.pat.closing.isNone && start.isNone
    let e' := { e with seq := seq, gap := s.pat.gap || e.gap, trig := start.isSome }
    let closing := s.pat.closing.map fun c =>
      { c with after := c.after + 1, closed := if c.closed.isNone && c.after + 1 = 1024 then some (seq, s.time) else c.closed }
    let s := { s with pat := { s.pat with buf := s.pat.buf ++ [e'], nextSeq := seq + 1, gap := false, closing := closing } }
    let s := s.whenB missed fun s => s.incSat pgPat F.PAT_STATUS_MISSED
    match start with
    | none => s
    | some pos => s.snapStart pos e.code seq

/-- The recorder takes an event whose turn has come: during the start read of the ring it is only buffered, in the same 512 places (R417, R421). -/
def State.deliver (s : State) (e : PatEvent) : State :=
  if s.flag pgPat F.PAT_STATUS_SCAN then
    if 512 ≤ s.pat.early.length + s.pat.buf.length then
      let s := s.incSat pgPat F.PAT_DROPS_DROPS
      { s with pat := { s.pat with gap := true } }
    else { s with pat := { s.pat with early := s.pat.early ++ [{ e with gap := s.pat.gap }], gap := false } }
  else s.record e

/-- An event takes its place among those of its Plinth cycle: Plinth before Half A before Half B, and by page within a die (R416). -/
def insertSrc (e : PatEvent) : List PatEvent → List PatEvent
  | [] => [e]
  | x :: r => if e.src < x.src then e :: x :: r else x :: insertSrc e r

/-- An event reaches the recorder (R416). -/
def State.event (s : State) (src code : Nat) (data : List Byte) (trig host : Bool := false) : State :=
  let e : PatEvent := { seq := 0, time := s.time, src := src, code := code, mode := s.get pgMod F.MOD_STATUS_MODE, tier := s.get pgMod F.MOD_STATUS_TIER, trig := trig, host := host, gap := false, data := data }
  match s.pat.arriving with
  | some l => { s with pat := { s.pat with arriving := some (insertSrc e l) } }
  | none => s.deliver e

/-- What happens in one Plinth cycle: its events are numbered together (R416, log entry 71). -/
def State.oneCycle (s : State) (f : State → State) : State :=
  match s.pat.arriving with
  | some _ => f s
  | none =>
    let s := f { s with pat := { s.pat with arriving := some [] } }
    ({ s with pat := { s.pat with arriving := none } }).each (s.pat.arriving.getD []) fun e s => s.deliver e

/-- A FUNCTION event (R420). -/
def State.funcEvent (s : State) (p : Pg) (num : Nat) (data : List Byte) : State := s.event (srcOf p) 0x00B0 (b1 num ++ data)

/-! ## Discovery (R27 to R32) -/

/-- The discovery state of a position. -/
def State.disc (s : State) (p : Pg) (n : Nat) : Nat := s.get p (F.DREC_STATUS_STATE.at (0x10 * n))

/-- A position changes its discovery state: SEQ counts, CHG is set, DREC_TIME takes the time, one event is written (R28, R29). -/
def State.discSet (s : State) (p : Pg) (n new : Nat) (byCommand : Bool := false) : State :=
  let old := s.disc p n
  if old = new then s
  else
    let s := s.put p (F.DREC_STATUS_STATE.at (0x10 * n)) new
    let s := s.incMod p (F.DREC_STATUS_SEQ.at (0x10 * n))
    let s := s.put p (F.DREC_STATUS_CHG.at (0x10 * n)) 1
    let s := s.setReg p (0xF00C + 0x10 * n) (BitVec.ofNat 32 s.time)
    s.event (srcOf p) 0x0010 (b1 n ++ b1 old ++ b1 new ++ b1 (s.get p (F.DREC_STATUS_SEQ.at (0x10 * n))) ++ b1 (if byCommand then 1 else 0))

/-- Write the identity words of a position (R28). -/
def State.discId (s : State) (p : Pg) (n : Nat) (id0 id1 : Word) : State :=
  (s.setReg p (0xF004 + 0x10 * n) id0).setReg p (0xF008 + 0x10 * n) id1

/-- The link of a half's PCI Function is down. -/
def State.pciDown (s : State) (h : Half) : State :=
  let p := pgPci h
  let s := (s.put p F.PCI_STATUS_LINK 0).put p F.PCI_STATUS_VFS 0
  (s.put p F.PCI_STATUS_WIDTH 0).put p F.PCI_STATUS_SPEED 0

/-! ## Commands that meet in one Plinth cycle -/

/-- Did something else happen in the same Plinth cycle? Of two commands at one value of the module's time that is open (R359, R394, log entry 149). -/
def State.sameCycle (s : State) (at_ : Option Nat) : Bool × State :=
  if at_ = some s.time then (let (v, s) := s.takeFree; (v % 2 = 1, s)) else (false, s)

/-- A command of RST_CTRL ends. -/
def State.rstDone (s : State) (h : Half) (result : Nat) : State :=
  (s.put (pgRstH h) F.RST_STATUS_DONE 1).put (pgRstH h) F.RST_STATUS_RESULT result

/-- A command of RST_CTRL takes its turn (R394): one that meets a command of the other half in the same Plinth cycle completes with BUSY. -/
def State.rstTurn (s : State) (h : Half) : Bool × State :=
  let (second, s) := match s.pw.rstBy with
    | none => (false, s)
    | some (o, t) => if o = h then (false, s) else s.sameCycle (some t)
  (second, { s with pw := { s.pw with rstBy := some (h, s.time) } })

/-! ## Half states, pairing, mode and tier -/

/-- The state of a half as the pair supervisor keeps it (R185). -/
def State.halfState (s : State) : Half → Nat
  | .A => s.get pgPair F.PAIR_STATUS_A_STATE
  | .B => s.get pgPair F.PAIR_STATUS_B_STATE

def hsDown : Nat := 0
def hsStarting : Nat := 1
def hsSyncing : Nat := 2
def hsReady : Nat := 3
def hsLost : Nat := 4
def hsParked : Nat := 5

/-- Is the half Starting, Syncing or Ready? -/
def State.inService (s : State) (h : Half) : Bool := 1 ≤ s.halfState h && s.halfState h ≤ 3

/-- Raise an interrupt in each half that is Starting, Syncing or Ready (R364). -/
def State.raiseBoth (s : State) (code : Nat) : State :=
  let s := s.whenB (s.inService .A) fun s => s.raise (halfPg .A code)
  s.whenB (s.inService .B) fun s => s.raise (halfPg .B code)

def State.mode (s : State) : Nat := s.get pgMod F.MOD_STATUS_MODE
def State.tier (s : State) : Nat := s.get pgMod F.MOD_STATUS_TIER

def mOff : Nat := 0
def mDormant : Nat := 1
def mLoad : Nat := 2
def mMaquette : Nat := 3
def mBringUp : Nat := 4
def mPaired : Nat := 5
def mSingle : Nat := 6
def mHandover : Nat := 7
def mShed : Nat := 8
def mHoldUp : Nat := 9
def mNight : Nat := 10
def mInspect : Nat := 11

/-- The Service modes (R362). -/
def isService (m : Nat) : Bool := (5 ≤ m && m ≤ 8) || m = 11

/-- Is a start over, with the image applied: Bring-up or a Service mode. -/
def State.applied (s : State) : Bool := s.mode = mBringUp || isService s.mode

/-- The next slot that a scrub reads: one in state Valid (R44). -/
def State.scrubNext (s : State) (lo : Nat) : Option Nat :=
  ([0, 1].filter fun k => lo ≤ k).find? fun k => s.get pgArm (F.ARM_SLOT_STATE.at (4 * k)) = 1

/-- A scrub begins (R44). -/
def State.scrubBegin (s : State) : State :=
  { s with scrub := { s.scrub with due := false, reading := s.scrubNext 0 } }

/-- A change of MODE or TIER: one event, the MOD interrupt (R364); the first Service mode of a start is noted (R362, R389), and a scrub that is
due begins at the entry to a Service mode (R44). -/
def State.setModeTier (s : State) (mode tier : Nat) (t : ModeTrigger) : State :=
  let om := s.mode
  let ot := s.tier
  if om = mode ∧ ot = tier then s
  else
    let s := s.put pgMod F.MOD_STATUS_MODE mode
    let s := s.put pgMod F.MOD_STATUS_TIER tier
    let s := s.event srcMode 0x0002 (b1 om ++ b1 mode ++ b1 ot ++ b1 tier ++ [Config.triggerCode t])
    let s := s.raiseBoth 0x2000
    if isService mode then
      let s := s.whenB (s.scrub.due && !(isService om)) State.scrubBegin
      { s with
        start := { s.start with reached := true, since := if isService om then s.start.since else some s.time },
        scrub := if s.start.reached then s.scrub else { s.scrub with since := some s.time } }
    else { s with start := { s.start with since := none } }

def State.setMode (s : State) (mode : Nat) (t : ModeTrigger) : State := s.setModeTier mode s.tier t

/-- The Service mode that applies first by R362, from the pairing of R187, the tier and Inspection; none while no half is
Ready and no Service mode is left for another reason. -/
def State.serviceMode (s : State) : Option Nat :=
  let pr := s.get pgPair F.PAIR_STATUS_PAIRING
  if s.insp.isSome then some mInspect
  else if pr = 3 then (if isService s.mode && 1 ≤ s.tier then some mShed else none)
  else if 1 ≤ s.tier then some mShed
  else if pr = 2 then some mHandover
  else if pr = 1 then some mSingle
  else some mPaired

/-- MODE follows pairing, tier and Inspection while the module is in Bring-up or a Service mode (R362, R363). -/
def State.refreshMode (s : State) (t : ModeTrigger) : State :=
  if s.mode = mBringUp || isService s.mode then
    match s.serviceMode with
    | none => s
    | some m => s.setMode m t
  else s

/-- PAIRING follows the two half states and a running handover (R187). -/
def State.refreshPairing (s : State) (t : ModeTrigger) : State :=
  let a := s.halfState .A = hsReady
  let b := s.halfState .B = hsReady
  let pr := if s.hoRun.isSome then 2 else if a && b then 0 else if a || b then 1 else 3
  (s.put pgPair F.PAIR_STATUS_PAIRING pr).refreshMode t

/-- The pair supervisor takes a new state for a half (R185, R187). -/
def State.setHalfState (s : State) (h : Half) (v : Nat) (t : ModeTrigger := .pairing) : State :=
  let s := match h with
    | .A => s.put pgPair F.PAIR_STATUS_A_STATE v
    | .B => s.put pgPair F.PAIR_STATUS_B_STATE v
  s.refreshPairing t

/-- The tier in force changes (R364, R404): TIER of MOD and SHD, CHANGES, MODE. -/
def State.setTier (s : State) (tier : Nat) (t : ModeTrigger) : State :=
  if s.tier = tier then s
  else
    let s := s.put pgShd F.SHD_STATUS_TIER tier
    let s := s.incSat pgShd F.SHD_STATUS_CHANGES
    let m := if isService s.mode then
        (({ s with regs := (s.put pgMod F.MOD_STATUS_TIER tier).regs } : State).serviceMode).getD s.mode
      else s.mode
    s.setModeTier m tier t

/-! ## Resets by class (R383) -/

/-- A register word after the fields of the classes `clr` took their Reset values; a reserved bit goes with the first field. -/
def regCleared (r : RegD) (clr : Cls → Bool) (reset w : Word) : Word :=
  let m := r.fields.foldl (fun a f => if clr f.cls then a ||| (2 ^ f.width - 1) <<< f.lsb else a) 0
  let all := r.fields.foldl (fun a f => a ||| (2 ^ f.width - 1) <<< f.lsb) 0
  let m := if r.fields.any (fun f => clr f.cls) && r.fields.all (fun f => clr f.cls) then m ||| (0xFFFFFFFF - all) else m
  let mask := BitVec.ofNat 32 m
  (w &&& ~~~mask) ||| (reset &&& mask)

/-- Clear the fields of the classes `clr` in every page that `sel` picks (R8, R383). -/
def State.clearRegs (s : State) (sel : Pg → Bool) (clr : Cls → Bool) : State :=
  { s with regs := tblMap regReset (fun key w =>
      let p := keyPage key
      if sel p then
        match p.kind with
        | none => w
        | some k => match regAt k (key % 0x10000) with
          | none => w
          | some r => regCleared r clr (regReset key) w
      else w) s.regs }

/-- Class F only (Function and partition reset). -/
def clrF : Cls → Bool
  | .F => true
  | _ => false
/-- Classes H, T and F (half reset). -/
def clrHTF : Cls → Bool
  | .H | .T | .F => true
  | _ => false
/-- Class T only. -/
def clrT : Cls → Bool
  | .T => true
  | _ => false
/-- Classes P, H, T and F (power-on, PORST_N). -/
def clrPHTF : Cls → Bool
  | .P | .H | .T | .F => true
  | _ => false
/-- Class A. -/
def clrA : Cls → Bool
  | .A => true
  | _ => false
/-- Class K. -/
def clrK : Cls → Bool
  | .K => true
  | _ => false

/-- Drop the discovery holding registers of a page (R30, R32). -/
def State.clearHeld (s : State) (sel : Pg → Bool) : State := { s with held := tblKeep (fun k => !(sel (keyPage k))) s.held }

/-- The class A bits of a register take the value of the image (R47). -/
def State.putClassA (s : State) (key : Nat) (w : Word) : State :=
  let p := keyPage key
  match p.kind with
  | none => s
  | some k => match regAt k (key % 0x10000) with
    | none => s
    | some r =>
      let m := r.fields.foldl (fun a f => if f.cls = .A then a ||| (2 ^ f.width - 1) <<< f.lsb else a) 0
      let mask := BitVec.ofNat 32 m
      s.setReg p (key % 0x10000) ((s.reg p (key % 0x10000) &&& ~~~mask) ||| (w &&& mask))

/-- The pages of a die that hold class A registers: those of its Function window, and its L4 pages or RST. -/
def imagePages : Die → List Nat
  | .P => 0x2002 :: plinthPages
  | _ => funcPages ++ List.range' 0x1000 16

/-- The keys of the registers of a die that hold class A fields. The cells of the audio engine are no registers of the table (R330). -/
def imageKeys (d : Die) : List Nat :=
  (imagePages d).flatMap fun code =>
    let p : Pg := ⟨d, code⟩
    match p.kind with
    | none => []
    | some k =>
      if k = .aud then [p.key 8]
      else (((regsOf k).filter fun r => r.fields.any fun f => f.cls = .A).flatMap RegD.offs).map p.key

/-- Every class A field of some pages of a die takes the value that the sections of an image give it (R47). -/
def State.applyPages (s : State) (d : Die) (sel : Pg → Bool) (image : List Host.Cell) : State :=
  s.each ((imageKeys d).filter fun key => sel (keyPage key)) fun key s =>
    s.putClassA key (Config.imageRegister (Die.num d) image (key % 0x100000000))

/-- Apply an image to a die: every class A field of its pages takes the value the sections give (R47). -/
def State.applyImage (s : State) (d : Die) (image : List Host.Cell) : State := s.applyPages d (fun _ => true) image

/-! ## Layers of an instance (R233) -/

/-- Pipe and descriptor of layer k, where the map entry is valid (R233). -/
def State.instLayer (s : State) (h : Half) (i k : Nat) : Option (Nat × Nat) :=
  let f (f : Fld) : Nat := s.get (pgInst h i) (f.at (4 * k))
  if k < 16 && f F.INST_MAP_VALID = 1 then some (f F.INST_MAP_PIPE, f F.INST_MAP_DESC) else none

/-- The valid layers as (layer, pipe, descriptor). -/
def State.instLayers (s : State) (h : Half) (i : Nat) : List (Nat × Nat × Nat) :=
  (upTo 16).filterMap fun k => (s.instLayer h i k).map fun e => (k, e.1, e.2)

/-- The instance whose map names a descriptor of a pipe (R233). -/
def State.hubOwner (s : State) (h : Half) (pipe desc : Nat) : Option Nat :=
  (upTo 64).find? fun i => (s.instLayers h i).any fun e => e.2.1 = pipe && e.2.2 = desc

/-! ## Unpredictable results (R9 to R11) -/

/-- The pages of one requester's own Functions, of which an unpredictable result may change every register and the engine's state; on
any other page, which the other world, the other half or the Plinth shares, it changes what the host itself may write to the register. -/
def ownFunction : PageKind → Bool
  | .cmp | .rcx | .inst | .insq | .qu | .cvu | .taf | .tce | .hap | .aio | .aud | .plk | .pci | .scn | .ick => true
  | _ => false

/-- The bits of an own page that stay as they are, since more than the Function stands behind them (R11): role and variant of a pipe, the face
of an instance and with it the tag of its hub, its state block's address, the membership and the ports of the Peer Link with the frame lock, source and link of a port, DARK,
activity, active states and run counts of a check unit. -/
def wildStay (k : PageKind) (off : Nat) : Nat :=
  match k with
  | .cmp => if off = 0x14 then 0xFFFFFFFF else 0
  | .inst => if off = 8 then 0x20 else if off = 0x10 ∨ off = 0x14 then 0xFFFFFFFF else 0
  | .plk => if off = 4 then 0x10030300 else if off = 0xC ∨ off = 0x10 ∨ (0x30 ≤ off ∧ off < 0x60) then 0xFFFFFFFF else 0
  | .scn => if off = 4 then 0x113 else if off = 0x2C then 0xFFFFFFFF else 0
  | .ick => if off = 4 then 0x4C else if 0x80 ≤ off ∧ off < 0xC0 then 0xFF3F else 0
  | _ => 0

/-- The fields of a register that an unpredictable result may change: those of class F on an own page, so that a reset of its Partition brings all
of them back (R12); on a shared page those the host writes, but for class A and M. -/
def wildField (own : Bool) (f : FldD) : Bool := if own then f.cls = .F else f.acc ≠ .ro && f.cls ≠ .A && f.cls ≠ .M

/-- These fields take the bits of an unknown word; a descriptor that a hub owns changes only by its hub (R233). -/
def State.wildReg (s w : State) (p : Pg) (off : Nat) : State :=
  let hub (h : Half) : Bool := 0x1000 ≤ off && off < 0x1400 && p.code < 8 && (s.hubOwner h p.code ((off - 0x1000) / 0x40)).isSome
  let hubs : Bool := match p.die with
    | .A => hub .A
    | .B => hub .B
    | .P => false
  match p.kind with
  | none => s
  | some k => match regAt k off with
    | none => s
    | some r =>
      let m := BitVec.ofNat 32 (r.bits (wildField (ownFunction k))) &&& ~~~(BitVec.ofNat 32 (wildStay k off))
      if hubs then s else s.setReg p off ((s.reg p off &&& ~~~m) ||| (w.reg p off &&& m))

/-- A shader group without a context. -/
def ShaderGroup.without (u : ShaderGroup) (c : Nat) : ShaderGroup :=
  { u with holder := if u.holder = c + 1 then 0 else u.holder, async := u.async.filter (· ≠ c) }

/-- A raster engine without a context: its groups are free, and the warps that the compositor context had paused resume (R11, R163). -/
def HalfSt.without (v : HalfSt) (c : Nat) : HalfSt :=
  let groups := tblMap (fun _ => {}) (fun _ u => u.without c) v.groups
  if c = 0 then { v with groups := groups, compositor := 0, ctx := tblMap (fun _ => {}) (fun _ (x : RCtx) => { x with paused := false }) v.ctx }
  else { v with groups := groups }

/-- The state that the engine of a Function keeps beside its registers, taken from an unknown state. What has left the Function for memory,
for a bus or for the other half stays, and so does what a reset of the Function keeps (R11, R12). -/
def State.wildUnit (s w : State) (p : Pg) : State :=
  let half (h : Half) : State :=
    match halfKind p.code with
    | some .cmp => s.setPipe h p.code (w.pipe h p.code)
    | some .rcx =>
      let c := s.ctx h (p.code - 0x100)
      (s.setHs h ((s.hs h).without (p.code - 0x100))).setCtx h (p.code - 0x100) { w.ctx h (p.code - 0x100) with stores := c.stores, progs := c.progs, saving := none, saved := c.saved }
    | some .inst | some .insq =>
      let t := s.inst h ((p.code - 0x400) / 2)
      s.setInst h ((p.code - 0x400) / 2) { w.inst h ((p.code - 0x400) / 2) with
        fx := t.fx, fxSent := t.fxSent, wholeSent := t.wholeSent, busOut := t.busOut, busTag := t.busTag }
    | some .qu => s.setQu h (p.code - 0x200) (w.qu h (p.code - 0x200))
    | some .cvu => s.setScan h (p.code - 0x50) (w.scan h (p.code - 0x50))
    | _ => s
  match p.die with
  | .A => half .A
  | .B => half .B
  | .P => match plinthKind p.code with
    | some .scn =>
      let q := w.port p.code
      s.setPort p.code { s.port p.code with caps := q.caps, ident := q.ident, auxFails := q.auxFails, auxWait := q.auxWait, byCommand := q.byCommand }
    | some .taf => s.setSrc (p.code - 0x20) { w.src (p.code - 0x20) with t4Stop := (s.src (p.code - 0x20)).t4Stop }
    | some .tce => s.setSrc 8 { w.src 8 with t4Stop := (s.src 8).t4Stop }
    | some .hap => { s with hap := w.hap, hapFold := w.hapFold }
    | some .aud => { s with audio := { w.audio with banks := s.audio.banks } }
    | some .plk => { s with peer := { s.peer with txWin := w.peer.txWin, rxWin := w.peer.rxWin, rxFrom := w.peer.rxFrom, rxFrags := w.peer.rxFrags } }
    | _ => s

/-- "The result is unpredictable" (R9 to R11) of an access to a register of a page, or of a command of its Function: the machine goes
on, and what the Function that made the error shows and does from here is free (log entry 81): its registers and its engine's state are those
of an unknown state, and an event and its interrupt may come. Nothing else changes, as R11 confines it. -/
def State.unpredictable (s : State) (p : Pg) (off : Nat) : State :=
  let w := Config.wild s.free
  let s := { s with free := s.free + 1 }
  let own := match p.kind with
    | some k => ownFunction k
    | none => false
  let s := if own then (s.each ((p.kind.map pageOffs).getD []) fun o s => s.wildReg w p o).wildUnit w p else s.wildReg w p off
  let s := s.whenB (w.free % 2 = 1) fun s => s.raise p
  s.whenB (w.free / 2 % 2 = 1) fun s => s.funcEvent p (w.free / 4 % 256) (b4 w.time)

/-- An unpredictable result that its rule confines to a command and the status fields it reports: these are free. -/
def State.wildStatus (s : State) (p : Pg) (fs : List Fld) : State := s.each fs fun f s => s.putFree p f

end Sys2Proof.Machine
end

