-- ==== Sys2Proof/Machine/Operands.lean ====
section
/-! DEFINITION. The forms of a memory access: the tag of a requester (R210), the region controllers (R213 to R215), the
scratchpad's addresses (R251, R254, R258) and the mirror regions that a write passes through (R195 to R198). -/

namespace Sys2Proof.Machine

/-- The tag of the loader and of the measurement engine (R53, R222): Trusted, of no Partition (log entry 7). -/
def tagTrusted : Tag := ⟨.trusted, noPart, false, false⟩

def AccKind.num : AccKind → Nat
  | .read => 0
  | .write => 1
  | .fetch => 2
  | .mirror => 3

/-- The XWR bit for a kind of access (R214): read 0, write 1, fetch 2. -/
def AccKind.bit : AccKind → Nat
  | .read => 0
  | .write => 1
  | .fetch => 2
  | .mirror => 1

/-- The controller in front of an address of a half (R213): code, first entry, number of entries. No address of a half reaches the MRAM
(R13, R447), whose own controller admits only Plinth engines. -/
def ctrlOf (addr : Nat) : Option (Nat × Nat × Nat) :=
  if addr < dramSize then some (0, 0, 64)
  else if spmBase ≤ addr ∧ addr < spmBase + spmSize then some (1, 64, 16)
  else if 0xF200000000 ≤ addr ∧ addr < 0xF200710000 then some (2, 80, 16)
  else none

/-- Word w of region entry i (WLD_RGN). -/
def State.rgn (s : State) (h : Half) (i w : Nat) : Word := s.reg (pgWld h) (0x400 + 0x10 * i + 4 * w)

/-- A valid entry covers the block at address b. -/
def State.rgnCovers (s : State) (h : Half) (b i : Nat) : Bool :=
  let base := (s.rgn h i 0).toNat * 4096
  (s.rgn h i 2).getLsbD 7 && base ≤ b && b < base + (s.rgn h i 1).toNat * 4096

/-- The three conditions of R214 on an entry. -/
def State.rgnAdmits (s : State) (h : Half) (t : Tag) (k : AccKind) (i : Nat) : Bool :=
  let w := s.rgn h i 2
  let parts := w.toNat / 65536
  (match t.world with | .trusted => w.getLsbD 5 | .opn => w.getLsbD 4) &&
  (parts.testBit t.part || (t.world = .trusted && parts = 0)) &&
  w.getLsbD (AccKind.bit k)

/-! ## Mirror regions -/

def twnBase (s : State) (h : Half) (m : Nat) : Nat :=
  s.get (pgTwn h) (F.TWN_MREG_BASE_LO.at (8 * m)) * 0x10000 + s.get (pgTwn h) (F.TWN_MREG_BASE_HI.at (8 * m)) * 0x100000000

/-- Does region m exist and hold address a (R195)? -/
def State.inMirror (s : State) (h : Half) (a m : Nat) : Bool :=
  s.flag (pgTwn h) (F.TWN_MREG_SZ_VALID.at (8 * m)) && twnBase s h m ≤ a &&
  a < twnBase s h m + s.get (pgTwn h) (F.TWN_MREG_SZ_SIZE.at (8 * m)) * 65536

/-- The mirror region of an address. -/
def State.mirrorOf (s : State) (h : Half) (a : Nat) : Option Nat := (upTo 16).find? (s.inMirror h a)

/-- Is the half the source of region m (TWN_MIR_SRC)? -/
def State.mirrorSrc (s : State) (h : Half) (m : Nat) : Bool := (s.get (pgTwn h) F.TWN_MIR_SRC_SRC).testBit m

/-- Is a block admitted (R196, R214, R258)? The mirror tag is admitted into mirror regions only (R210); the half that is not the
source of a region refuses writes of its own requesters to it. -/
def State.admitBlock (s : State) (h : Half) (t : Tag) (k : AccKind) (b : Nat) : Bool :=
  match ctrlOf b with
  | none => false
  | some (c, lo, n) =>
    if t.mirror then c = 0 && (s.mirrorOf h b).isSome
    else
      let spmOk := c ≠ 1 || (let st := s.get (pgSpm h ((b - spmBase) / 0x400000)) F.SPM_STATUS_STATE; st = 2 || st = 3)
      let srcOk := c ≠ 0 || k ≠ .write || (match s.mirrorOf h b with | none => true | some m => s.mirrorSrc h m)
      let cover := (List.range' lo n).filter (s.rgnCovers h b)
      spmOk && srcOk && (if cover.isEmpty then t.world = .trusted && t.m else cover.any (s.rgnAdmits h t k))

/-- A refused block: counted, and the first since VALID was cleared is recorded with one event (R215). -/
def State.refuse (s : State) (h : Half) (t : Tag) (k : AccKind) (b : Nat) : State :=
  let p := pgWld h
  let first := !(s.flag p F.WLD_RFAULT0_VALID)
  let s := s.incSat p F.WLD_RFAULT0_COUNT
  s.whenB first fun s =>
    let s := s.put p F.WLD_RFAULT0_VALID 1
    let s := s.put p F.WLD_RFAULT0_CTRL (match ctrlOf b with | some (c, _, _) => c | none => 0)
    let s := s.put p F.WLD_RFAULT0_WORLD (match t.world with | .trusted => 1 | .opn => 0)
    let s := if t.part < noPart then s.put p F.WLD_RFAULT0_PART t.part else s.putFree p F.WLD_RFAULT0_PART
    let s := s.put p F.WLD_RFAULT0_KIND (AccKind.num k)
    let s := s.put p F.WLD_RFAULT1_ADDR (b / 4096)
    s.event (srcOf p) 0x0050 (b4 (s.reg p 0x10).toNat ++ b4 (s.reg p 0x14).toNat)

/-- The addresses of the 64-byte blocks that `n` bytes at `a` touch. -/
def blocksOf (a n : Nat) : List Nat :=
  if n = 0 then [] else (List.range ((a + n - 1) / 64 - a / 64 + 1)).map fun i => (a / 64 + i) * 64

/-- The refused blocks of an access. -/
def State.refusals (s : State) (h : Half) (t : Tag) (k : AccKind) (a n : Nat) : List Nat :=
  (blocksOf a n).filter fun b => !(s.admitBlock h t k b)

/-- Record every refused block of an access. -/
def State.noteRefusals (s : State) (h : Half) (t : Tag) (k : AccKind) (a n : Nat) : State :=
  s.each (s.refusals h t k a n) fun b s => s.refuse h t k b

/-- A double-bit error in a word read at a port of an SPM (R254): UE and an event. -/
def State.spmUeNote (s : State) (h : Half) (n : Nat) (port : Bool) (w : Nat) : State :=
  (s.put (pgSpm h n) F.SPM_STATUS_UE 1).funcEvent (pgSpm h n) 0x01 (b1 (if port then 1 else 0) ++ [0, 0] ++ b4 (8 * w))

/-! ## Reads -/

/-- The word at an 8-byte place of an SPM reads as an uncorrectable error: its check bits are not those of its data (R254, R257). -/
def State.spmBad (s : State) (h : Half) (n w : Nat) : Bool := (tblFind w (s.spmU h n).check).isSome

/-- The word of a scratchpad address reads as an uncorrectable error (R257). -/
def State.spmUe (s : State) (h : Half) (a : Nat) : Bool :=
  spmBase ≤ a && s.spmBad h ((a - spmBase) / 0x400000) ((a - spmBase) % 0x400000 / 8)

/-- What a read of `n` bytes by a requester other than a core leaves beside its data: its refusals (R215) and, in the scratchpad, its uncorrectable
errors at port F (R254). -/
def State.noteRead (s : State) (h : Half) (t : Tag) (k : AccKind) (a n : Nat) : State :=
  let words := if n = 0 then [] else (List.range ((a + n - 1) / 8 - a / 8 + 1)).map fun i => (a / 8 + i) * 8
  (s.noteRefusals h t k a n).each (words.filter fun b => s.admitBlock h t k (b / 64 * 64) && s.spmUe h b) fun b s =>
    s.spmUeNote h ((b - spmBase) / 0x400000) false ((b - spmBase) % 0x400000 / 8)

/-- One byte as a requester other than a core reads it: zero where its block is refused (R215) or its word has an
uncorrectable error (R254). -/
def State.byteAt (s : State) (h : Half) (t : Tag) (k : AccKind) (a : Nat) : Byte :=
  if !(s.admitBlock h t k (a / 64 * 64)) then 0
  else if a < dramSize then memByte (s.dram h) a
  else if s.spmUe h a then 0 else memByte (s.spm h) (a - spmBase)

/-- `n` bytes as a requester other than a core reads them. -/
def State.bytesAt (s : State) (h : Half) (t : Tag) (k : AccKind) (a n : Nat) : List Byte :=
  (List.range n).map fun i => s.byteAt h t k (a + i)

/-- The value of `n` bytes at an address. -/
def State.natAt (s : State) (h : Half) (t : Tag) (a n : Nat) : Nat := leNat (s.bytesAt h t .read a n)

/-! ## Writes -/

/-- The twin-link queue of a half holds 4,096 writes (R197). -/
def mirQMax : Nat := 4096

/-- The granules that the dirty map of a half lists, with TWN_STATUS.DIRTY (R198). -/
def State.setDirty (s : State) (h : Half) (l : List Nat) : State :=
  let s := s.setHs h { s.hs h with dirty := l }
  s.put (pgTwn h) F.TWN_STATUS_DIRTY (min 0x7FFFF l.length)

/-- Mark the granules that `n` bytes at `a` touch. -/
def State.markDirty (s : State) (h : Half) (a n : Nat) : State :=
  let gs := if n = 0 then [] else (List.range ((a + n - 1) / 65536 - a / 65536 + 1)).map fun i => a / 65536 + i
  let hs := s.hs h
  let again := match hs.copying with | none => hs.copyAgain | some g => hs.copyAgain || gs.contains g
  let s := s.setHs h { hs with copyAgain := again }
  s.setDirty h (gs.foldl (fun l g => if l.contains g then l else l ++ [g]) hs.dirty)

/-- Does the half send mirror writes (R198): the other half Ready or Syncing, and the link up? -/
def State.mirrorLive (s : State) (h : Half) : Bool :=
  (s.halfState (Half.other h) = hsReady || s.halfState (Half.other h) = hsSyncing) && s.flag (pgTwn h) F.TWN_STATUS_LINK

/-- The mirror effect of a write that reached the half's own DRAM (R196 to R198). -/
def State.mirrorOut (s : State) (h : Half) (a : Nat) (bs : List Byte) : State :=
  match s.mirrorOf h a with
  | none => s
  | some m =>
    if !(s.mirrorSrc h m) then s
    else if s.mirrorLive h then
      let s := match (s.hs h).copying with
        | some g => s.whenB (g = a / 65536) fun s => s.setHs h { s.hs h with copyAgain := true }
        | none => s
      s.setHs h { s.hs h with mirQ := (s.hs h).mirQ ++ [⟨a, bs⟩], mirSent := (s.hs h).mirSent + 1 }
    else s.markDirty h a bs.length

/-- Must a write of `n` bytes at `a` wait because the twin-link queue has no room for its blocks in a mirror region (R197)? -/
def State.mirFull (s : State) (h : Half) (a n : Nat) : Bool :=
  let copies := (blocksOf a n).filter fun b => match s.mirrorOf h b with | none => false | some m => s.mirrorSrc h m
  !copies.isEmpty && s.mirrorLive h && mirQMax < (s.hs h).mirQ.length + copies.length

/-- The part of an access within one 64-byte block: its address and its bytes. -/
def blockPart (a : Nat) (bs : List Byte) (b : Nat) : Nat × List Byte :=
  let lo := max a b
  let hi := min (a + bs.length) (b + 64)
  (lo, (bs.drop (lo - a)).take (hi - lo))

/-- Write the bytes of one admitted block to its memory; a scratchpad word written whole holds the check bits of its data again (R251). -/
def State.storeBlock (s : State) (h : Half) (a : Nat) (bs : List Byte) : State :=
  if a < dramSize then (s.setDram h (memSetBytes (s.dram h) a bs)).mirrorOut h a bs
  else
    let n := (a - spmBase) / 0x400000
    let o := (a - spmBase) % 0x400000
    let whole (w : Nat) : Bool := o ≤ 8 * w && 8 * w + 8 ≤ o + bs.length
    (s.setSpm h (memSetBytes (s.spm h) (a - spmBase) bs)).setSpmU h n { s.spmU h n with check := tblKeep (fun w => !(whole w)) (s.spmU h n).check }

/-- Zeros over `n` bytes of the scratchpad from offset `o`; a word written whole holds the check bits of its data again (R251). -/
def State.spmClear (s : State) (h : Half) (o n : Nat) : State :=
  let whole (k w : Nat) : Bool := o ≤ 0x400000 * k + 8 * w && 0x400000 * k + 8 * w + 8 ≤ o + n
  (s.setSpm h (memClear (s.spm h) o n)).each (upTo 4) fun k s =>
    s.setSpmU h k { s.spmU h k with check := tblKeep (fun w => !(whole k w)) (s.spmU h k).check }

/-- A write of a tagged requester: each admitted block is written, each refused block is dropped and recorded (R215). -/
def State.writeAt (s : State) (h : Half) (t : Tag) (a : Nat) (bs : List Byte) : State :=
  s.each (blocksOf a bs.length) fun b s =>
    if s.admitBlock h t .write b then s.storeBlock h (blockPart a bs b).1 (blockPart a bs b).2 else s.refuse h t .write b

/-! ## Host accesses to register pages -/

/-- The physical address of a Plinth window page (R454). -/
def windowBase (pg : Pg) : Nat := 0xF200000000 + pg.code * 0x10000

/-- The region controller in front of the Plinth window (R213, R214) on an access of a requester to a page. -/
def State.windowAdmits (s : State) (rq : Requester) (pg : Pg) (k : AccKind) (off : Nat) : Bool :=
  pg.die ≠ .P || s.admitBlock rq.half (s.rqTag rq) k ((windowBase pg + off) / 64 * 64)

/-- A register access that the window's controller refuses: recorded, a core takes its access fault, and another requester reads zeros (R215). -/
def State.windowRefuse (s : State) (rq : Requester) (pg : Pg) (k : AccKind) (off : Nat) : State :=
  (s.refuse rq.half (s.rqTag rq) k ((windowBase pg + off) / 64 * 64)).dropped rq

/-- The frame of every host write: an access that the region controller refuses (R215), that the grant does not admit, or that goes to a
Function whose domain is not On, is dropped, and a core takes an access fault (R450); while the two Plinth control copies disagree, a Plinth page write is
rejected with the error status of the page (R15, log entry 8). -/
def hostWrite (rq : Requester) (pg : Pg) (s : State) (f : State → Res) (off : Nat := 0) : Res :=
  if !(s.windowAdmits rq pg .write off) then .next (s.windowRefuse rq pg .write off)
  else if !(s.admits rq pg) || !(s.pageOn pg) then .next (s.dropped rq)
  else if pg.die = .P && s.copyFault then .next s.accessFault
  else f { s with reply := .ok 0 }

/-- A read is admitted as a write is, and R15 does not touch it. -/
def hostRead (rq : Requester) (pg : Pg) (s : State) (f : State → Res) (off : Nat := 0) : Res :=
  if !(s.windowAdmits rq pg .read off) then .next (s.windowRefuse rq pg .read off)
  else if !(s.admits rq pg) || !(s.pageOn pg) then .next (s.dropped rq) else f s

end Sys2Proof.Machine
end

