-- ==== Sys2Proof/Machine/Caches.lean ====
section
/-! DEFINITION. The caches of the application harts (R219, R220): the L2 clusters with their ways by world, and what a change of world does to a
hart's L1 caches, TLBs and branch predictor. -/

namespace Sys2Proof.Machine

/-! ## L2 clusters (R220) -/

/-- The cluster of a hart: 0 serves harts 0 to 3, 1 harts 4 to 7. -/
def clusterOf (hart : Nat) : Nat := hart / 4

/-- Sets of 64-byte lines in a cluster: 4 MB in 16 ways. -/
def l2Sets : Nat := 4096

/-- The first way of a world and how many it has (WLD_CFG.TWAYS). -/
def State.l2Ways (s : State) (h : Half) (w : World) : Nat × Nat :=
  let t := s.get (pgWld h) F.WLD_CFG_TWAYS
  match w with
  | .trusted => (0, t)
  | .opn => (t, 16 - t)

/-- The key of way 0 of the set of an address. -/
def l2Set (cluster addr : Nat) : Nat := (cluster * l2Sets + addr / 64 % l2Sets) * 16

/-- Does a way belong to the Trusted world? -/
def State.l2Trusted (s : State) (h : Half) (key : Nat) : Bool := key % 16 < s.get (pgWld h) F.WLD_CFG_TWAYS

/-- The tag under which a line is written back: the world of its way, and the Partition and M of the access that brought it. -/
def State.l2Tag (s : State) (h : Half) (key : Nat) (l : L2Line) : Tag := ⟨worldOf (s.l2Trusted h key), l.part, l.m, false⟩

/-- A line leaves its way; a dirty one is written back through the region controllers, from the DRAM queue where the twin-link queue is full (R197). -/
def State.l2Evict (s : State) (h : Half) (key : Nat) : State :=
  match tblFind key (s.hs h).l2 with
  | none => s
  | some l =>
    let t := s.l2Tag h key l
    let s := s.setHs h { s.hs h with l2 := tblErase key (s.hs h).l2 }
    if !l.dirty then s
    else if s.mirFull h l.addr l.bytes.length then
      let d := (s.hs h).dram
      s.setHs h { s.hs h with dram := { d with queue := d.queue ++
        [{ requester := 9 + key / (16 * l2Sets), addr := l.addr, write := some l.bytes, world := t.world, part := t.part, m := t.m, core := true }] } }
    else s.writeAt h t l.addr l.bytes

/-- The way of a world that holds a line, if any does. -/
def State.l2Find (s : State) (h : Half) (cluster : Nat) (w : World) (addr : Nat) : Option Nat :=
  let (lo, n) := s.l2Ways h w
  ((List.range' lo n).map fun k => l2Set cluster addr + k).find? fun key => (tblFind key (s.hs h).l2).any fun l => l.addr = addr / 64 * 64

/-- A line enters a cluster: in the way that holds it, else in a way of its world that the manual leaves open (a free value, log entry 84). -/
def State.l2Fill (s : State) (h : Half) (cluster : Nat) (t : Tag) (addr : Nat) (bytes : List Byte) (dirty : Bool) : State :=
  let (lo, n) := s.l2Ways h t.world
  if n = 0 then s
  else
    let (key, s) := match s.l2Find h cluster t.world addr with
      | some key => (key, s)
      | none => (let (v, s) := s.takeFree; (l2Set cluster addr + lo + v % n, s.l2Evict h (l2Set cluster addr + lo + v % n)))
    let line : L2Line := { addr := addr / 64 * 64, bytes := bytes, dirty := dirty, part := t.part, m := t.m }
    s.setHs h { s.hs h with l2 := tblInsert key line (s.hs h).l2 }

/-- Every line of a cluster is written back and leaves (the shutdown of domain CLk, R400). -/
def State.l2Flush (s : State) (h : Half) (cluster : Nat) : State :=
  s.each (((s.hs h).l2.map Prod.fst).filter fun key => key / (16 * l2Sets) = cluster) fun key s => s.l2Evict h key

/-- The Trusted ways are invalidated without write-back (R222 step 3). -/
def State.l2DropTrusted (s : State) (h : Half) : State :=
  s.setHs h { s.hs h with l2 := tblKeep (fun key => !(s.l2Trusted h key)) (s.hs h).l2 }

/-! ## A change of world (R219) -/

/-- What a hart's fetch sees after its caches were invalidated (R219, R230): memory as it stands. -/
def State.fetchView (s : State) (h : Half) : List Host.Cell := s.dram h ++ (s.spm h).map fun c => (c.1 + spmBase, c.2)

/-- What a hart fetches from memory: the bytes that stood there at its last FENCE.I, change of world or reset (R230). -/
def State.fetched (s : State) (h : Half) (n a len : Nat) : List Byte := memBytes (s.hart h n).seen a len

/-- The dirty lines of a hart's L1 data cache are written back into its L2 cluster with the hart's tag, and the cache is empty. -/
def State.l1Flush (s : State) (h : Half) (n : Nat) : State :=
  let t := s.tag h (.hart (Fin.ofNat 8 n))
  let s := s.each (s.hart h n).l1d fun l s => s.l2Fill h (clusterOf n) t l.addr l.bytes true
  s.setHart h n { s.hart h n with l1d := [], l1dHeld := [] }

/-- A hart changes its world (R219): before the first instruction of the new world its L1 data cache is written back and invalidated, and its L1
instruction cache, TLBs and branch predictor are invalidated. No change, no flush. -/
def State.worldSet (s : State) (h : Half) (n w : Nat) : State :=
  let p := pgHart h n
  if s.get p F.MWORLD_WORLD = w then s
  else
    let s := (s.l1Flush h n).put p F.MWORLD_WORLD w
    s.setHart h n { s.hart h n with
      l1iHeld := [], tlb := [], predictor := [], flushes := (s.hart h n).flushes + 1, seen := s.fetchView h }

/-- A hart reads a line from DRAM: it enters the L2 cluster and the L1 cache of its kind (R220). -/
def State.hartFill (s : State) (h : Half) (n : Nat) (t : Tag) (fetch : Bool) (addr : Nat) (bytes : List Byte) : State :=
  let s := s.l2Fill h (clusterOf n) t addr bytes false
  let t := s.hart h n
  let line := addr / 64 * 64
  s.setHart h n (if fetch then { t with l1iHeld := if t.l1iHeld.contains line then t.l1iHeld else line :: t.l1iHeld }
    else { t with l1dHeld := if t.l1dHeld.contains line then t.l1dHeld else line :: t.l1dHeld })

/-- A hart's write reached DRAM: a copy of the line in its L2 cluster takes the bytes and is clean. -/
def State.hartStored (s : State) (h : Half) (n : Nat) (t : Tag) (addr : Nat) (bytes : List Byte) : State :=
  match s.l2Find h (clusterOf n) t.world addr with
  | none => s
  | some key =>
    let l := (tblFind key (s.hs h).l2).getD {}
    let new := (l.bytes.take (addr % 64) ++ bytes ++ l.bytes.drop (addr % 64 + bytes.length)).take 64
    s.setHs h { s.hs h with l2 := tblInsert key { l with bytes := new, dirty := false } (s.hs h).l2 }

end Sys2Proof.Machine
end

