-- ==== Sys2Proof/Machine/Float.lean ====
section
/-! DEFINITION. The floating-point operations of the raster engine (R180): FP32 and FP16 sums, products and conversions rounded to nearest even
with denormals kept, the operations whose error the rule bounds, texture filter weights, and UNORM blending results. -/

namespace Sys2Proof.Machine

/-- The value of an encoded number: sign, and magnitude m × 2^e. -/
inductive FpVal where
  | nan
  | inf (neg : Bool)
  | fin (neg : Bool) (m : Nat) (e : Int)
  deriving DecidableEq, Repr

/-- A binary interchange format: precision with the hidden bit, and exponent bits. -/
structure FpFormat where
  prec : Nat
  exp : Nat
  deriving DecidableEq, Repr

def fp32 : FpFormat := ⟨24, 8⟩
def fp16 : FpFormat := ⟨11, 5⟩

/-- The exponent of the least quantum of a format: that of its denormals. -/
def FpFormat.least (f : FpFormat) : Int := 3 - 2 ^ (f.exp - 1) - (f.prec : Int)

/-- The encoding of positive infinity. -/
def FpFormat.infinity (f : FpFormat) : Nat := (2 ^ f.exp - 1) * 2 ^ (f.prec - 1)

def FpFormat.signBit (f : FpFormat) (neg : Bool) : Nat := if neg then 2 ^ (f.exp + f.prec - 1) else 0

/-- The value of an encoding. -/
def FpFormat.value (f : FpFormat) (x : Nat) : FpVal :=
  let neg := x.testBit (f.exp + f.prec - 1)
  let ex := x / 2 ^ (f.prec - 1) % 2 ^ f.exp
  let fr := x % 2 ^ (f.prec - 1)
  if ex = 2 ^ f.exp - 1 then (if fr = 0 then .inf neg else .nan)
  else if ex = 0 then .fin neg fr f.least
  else .fin neg (fr + 2 ^ (f.prec - 1)) (f.least + ex - 1)

/-- The exponent of the quantum in which a format holds m × 2^e. -/
def FpFormat.quantum (f : FpFormat) (m : Nat) (e : Int) : Int := max f.least (e + Nat.log2 m + 1 - f.prec)

/-- m × 2^e as a count of quanta 2^q, rounded to nearest even. -/
def roundEven (m : Nat) (e q : Int) : Nat :=
  let a := m * 2 ^ (e - q).toNat
  let b := 2 ^ (q - e).toNat
  a / b + (if b < 2 * (a % b) || (2 * (a % b) = b && a / b % 2 = 1) then 1 else 0)

/-- The encoding of ±m × 2^e correctly rounded to nearest even, denormals preserved; a magnitude beyond the largest is infinite. -/
def FpFormat.round (f : FpFormat) (neg : Bool) (m : Nat) (e : Int) : Nat :=
  let q := f.quantum m e
  f.signBit neg + (if m = 0 then 0 else min f.infinity ((q - f.least).toNat * 2 ^ (f.prec - 1) + roundEven m e q))

/-- The exact sum of two finite values: an exact zero is negative only where both are. -/
def fpSum (sa : Bool) (ma : Nat) (ea : Int) (sb : Bool) (mb : Nat) (eb : Int) : FpVal :=
  let e := min ea eb
  let part (s : Bool) (m : Nat) (x : Int) : Int := (if s then -1 else 1) * ((m * 2 ^ (x - e).toNat : Nat) : Int)
  let v := part sa ma ea + part sb mb eb
  .fin (if v = 0 then sa && sb else v < 0) v.natAbs e

/-- a + b. -/
def FpVal.add : FpVal → FpVal → FpVal
  | .nan, _ | _, .nan => .nan
  | .inf s, .inf t => if s = t then .inf s else .nan
  | .inf s, _ | _, .inf s => .inf s
  | .fin sa ma ea, .fin sb mb eb => fpSum sa ma ea sb mb eb

/-- −a. -/
def FpVal.neg : FpVal → FpVal
  | .nan => .nan
  | .inf s => .inf (!s)
  | .fin s m e => .fin (!s) m e

/-- a × b. -/
def FpVal.mul : FpVal → FpVal → FpVal
  | .nan, _ | _, .nan => .nan
  | .inf s, .inf t => .inf (s != t)
  | .inf s, .fin t m _ | .fin t m _, .inf s => if m = 0 then .nan else .inf (s != t)
  | .fin sa ma ea, .fin sb mb eb => .fin (sa != sb) (ma * mb) (ea + eb)

/-- A value in a format; a NaN takes the given bits. -/
def FpFormat.encode (f : FpFormat) (nan : Nat) : FpVal → Nat
  | .nan => nan
  | .inf s => f.signBit s + f.infinity
  | .fin s m e => f.round s m e

/-- A finite value as a rational number. -/
def FpVal.rat? : FpVal → Option Rat
  | .fin s m e => some ((if s then -1 else 1) * (m : Rat) * (2 : Rat) ^ e)
  | _ => none

/-- The rational value of an FP32 encoding. -/
def rat32 (x : BitVec 32) : Option Rat := (fp32.value x.toNat).rat?

/-- One unit in the last place of an FP32 encoding. -/
def ulp32 (x : BitVec 32) : Rat :=
  match fp32.value x.toNat with
  | .fin _ m e => (2 : Rat) ^ fp32.quantum m e
  | _ => 0

/-- An implementation's result within a bound: its own where that satisfies the bound, else the first encoding that does. -/
def within (op : FpOp) (ok : BitVec 32 → Bool) : BitVec 32 :=
  if ok (Config.approx32 op) then Config.approx32 op
  else (((List.range (2 ^ 32)).map (BitVec.ofNat 32)).find? ok).getD (Config.approx32 op)

/-- The result r lies between `lo` and `hi` of its ULP steps of what `test` finds: `test low high` says that the exact result lies
between the two. -/
def nearBy (ulps : Nat) (test : Rat → Rat → Bool) (r : BitVec 32) : Bool :=
  match rat32 r with
  | none => false
  | some c => test (c - ulps * ulp32 r) (c + ulps * ulp32 r)

/-- The Taylor sums of sine (`first` = 1) and cosine (0) with twelve terms; within −π to π they differ from the functions by less than 2^-38. -/
def sinSum (first : Nat) (x : Rat) : Rat :=
  ((List.range 12).foldl (fun (acc : Rat × Rat) k =>
    (acc.1 + acc.2, -acc.2 * x * x / ((2 * k + first + 1) * (2 * k + first + 2) : Nat))) (0, if first = 1 then x else 1)).1

/-- The largest FP32 magnitude that is not above π. -/
def piBits : Nat := 0x40490FDA

/-- Sine or cosine: an absolute error within 2^-11 for inputs in −π to π, otherwise open. -/
def trig32 (op : FpOp) (first : Nat) (a : BitVec 32) : BitVec 32 :=
  match rat32 a with
  | none => Config.approx32 op
  | some x =>
    if piBits < a.toNat % 2 ^ 31 then Config.approx32 op
    else within op fun r => match rat32 r with
      | none => false
      | some c => c - sinSum first x ≤ 1 / 2048 && sinSum first x - c ≤ 1 / 2048

/-- 2^(n/d) lies between lo and hi. -/
def powBetween (n : Int) (d : Nat) (lo hi : Rat) : Bool := (max lo 0) ^ d ≤ (2 : Rat) ^ n && (2 : Rat) ^ n ≤ (max hi 0) ^ d

/-- An integer as a floating-point number. -/
def fpOfInt (f : FpFormat) (a : Int) : Nat := f.round (a < 0) a.natAbs 0

/-- The least and the largest integer of a width. -/
def intRange (signed : Bool) (bits : Nat) : Int × Int := if signed then (-(2 ^ (bits - 1)), 2 ^ (bits - 1) - 1) else (0, 2 ^ bits - 1)

/-- A number as an integer of a width, rounded to nearest even. -/
def fpToInt (op : FpOp) (signed : Bool) (bits : Nat) : FpVal → Int
  | .fin s m e =>
    let v : Int := (if s then -1 else 1) * (roundEven m e 0 : Int)
    if (intRange signed bits).1 ≤ v ∧ v ≤ (intRange signed bits).2 then v else Config.intOutside op
  | _ => Config.intOutside op

/-- The fraction a / b in a format, rounded to nearest even: 64 bits of it and whether anything lies below them decide. -/
def FpFormat.ratio (f : FpFormat) (a b : Nat) : Nat := f.round false (2 * (a * 2 ^ 64 / b) + (if a * 2 ^ 64 % b = 0 then 0 else 1)) (-65)

/-- An FP32 number as a UNORM of n bits: clamped to 0 to 1, rounded to nearest even (R180). -/
def fpUnorm (bits : Nat) (a : BitVec 32) : Nat :=
  match fp32.value a.toNat with
  | .fin false m e => min (2 ^ bits - 1) (roundEven (m * (2 ^ bits - 1)) e 0)
  | .inf false => 2 ^ bits - 1
  | _ => 0

/-- Is the first number not above the second? -/
def FpVal.le : FpVal → FpVal → Bool
  | .nan, _ | _, .nan => false
  | .inf s, .inf t => s || !t
  | .inf s, .fin _ _ _ => s
  | .fin _ _ _, .inf t => !t
  | a, b => match a.rat?, b.rat? with
    | some x, some y => x ≤ y
    | _, _ => false

/-- A component blended into a UNORM attachment of n bits (R180): products and sum are FP32 results, the least or the largest takes no factors, and the
result is rounded to nearest even. -/
def fpBlend (nan : Nat) (op : BlendOp) (bits : Nat) (src sf df : BitVec 32) (dst : Nat) : Nat :=
  let v (a : Nat) : FpVal := fp32.value a
  let r (x : FpVal) : FpVal := v (fp32.encode nan x)
  let d := v (fp32.ratio (min dst (2 ^ bits - 1)) (2 ^ bits - 1))
  let s := v src.toNat
  let a := r (s.mul (v sf.toNat))
  let b := r (d.mul (v df.toNat))
  let out := match op with
    | .add => r (a.add b)
    | .subtract => r (a.add b.neg)
    | .reverse => r (b.add a.neg)
    | .min => if s.le d then s else d
    | .max => if d.le s then s else d
  fpUnorm bits (BitVec.ofNat 32 (fp32.encode nan out))

/-- The result of an operation, as the bits of its encoding (R180). Operands for which the rule states no result leave it open. -/
def FpOp.result (op : FpOp) : List Byte :=
  let v (a : BitVec 32) : FpVal := fp32.value a.toNat
  let w (a : BitVec 16) : FpVal := fp16.value a.toNat
  let out32 (x : FpVal) : List Byte := leBytes 4 (fp32.encode (Config.nan32 op).toNat x)
  let out16 (x : FpVal) : List Byte := leBytes 2 (fp16.encode (Config.nan16 op).toNat x)
  let bits (x : BitVec 32) : List Byte := leBytes 4 x.toNat
  match op with
  | .add32 a b => out32 ((v a).add (v b))
  | .sub32 a b => out32 ((v a).add (v b).neg)
  | .mul32 a b => out32 ((v a).mul (v b))
  | .fma32 a b c => out32 (((v a).mul (v b)).add (v c))
  | .ofInt false a => leBytes 4 (fpOfInt fp32 a)
  | .ofInt true a => leBytes 2 (fpOfInt fp16 a)
  | .toInt half signed n a => leBytes ((n + 7) / 8) (fpToInt op signed n (if half then fp16.value (a.toNat % 65536) else v a) % 2 ^ n).toNat
  | .to16 a => out16 (v a)
  | .of16 a => out32 (w a)
  | .add16 a b => out16 ((w a).add (w b))
  | .mul16 a b => out16 ((w a).mul (w b))
  | .fma16 a b c => out16 (((w a).mul (w b)).add (w c))
  | .div32 a b => bits (match rat32 a, rat32 b with
    | some x, some y => if y = 0 then Config.approx32 op else within op (nearBy 1 fun lo hi => lo ≤ x / y && x / y ≤ hi)
    | _, _ => Config.approx32 op)
  | .rcp32 a => bits (match rat32 a with
    | some x => if x = 0 then Config.approx32 op else within op (nearBy 1 fun lo hi => lo ≤ 1 / x && 1 / x ≤ hi)
    | none => Config.approx32 op)
  | .sqrt32 a => bits (match rat32 a with
    | some x => if x < 0 then Config.approx32 op else within op (nearBy 1 fun lo hi => (max lo 0) ^ 2 ≤ x && x ≤ (max hi 0) ^ 2)
    | none => Config.approx32 op)
  | .rsqrt32 a => bits (match rat32 a with
    | some x => if x ≤ 0 then Config.approx32 op else within op (nearBy 2 fun lo hi => (max lo 0) ^ 2 * x ≤ 1 && 1 ≤ (max hi 0) ^ 2 * x)
    | none => Config.approx32 op)
  | .exp2 a => bits (match rat32 a with
    | some x => within op (nearBy 3 (powBetween x.num x.den))
    | none => Config.approx32 op)
  | .log2 a => bits (match rat32 a with
    | some x => if x ≤ 0 then Config.approx32 op
      else within op (nearBy 3 fun lo hi => (2 : Rat) ^ lo.num ≤ x ^ lo.den && x ^ hi.den ≤ (2 : Rat) ^ hi.num)
    | none => Config.approx32 op)
  | .sin a => bits (trig32 op 1 a)
  | .cos a => bits (trig32 op 0 a)
  | .filter texels u p mip => bits (Config.textureFilter texels (u % 65536 / 256) (p % 65536 / 256) (mip % 65536 / 256))
  | .unorm n a => leBytes 4 (fpUnorm n a)
  | .blend o n src sf df dst => leBytes 4 (fpBlend (Config.nan32 op).toNat o n src sf df dst)

end Sys2Proof.Machine
end

