-- ==== Sys2Proof/Machine/Hub.lean ====
section
/-! DEFINITION. The instance hub (R232 to R250), as far as other units share it: the layers of an instance, mailbox and completions,
the copy of a COMMIT, and the twin link's part. -/

namespace Sys2Proof.Machine

def stIdle : Nat := 0
def stRunning : Nat := 1
def stFreezing : Nat := 2
def stFrozen : Nat := 3
def stTwin : Nat := 4

/-- An instance changes its state: INST_STATE, and INS_STATE with it (R456). -/
def State.setInstState (s : State) (h : Half) (i v : Nat) : State :=
  (s.put (pgInst h i) F.INST_STATE_STATE v).put (pgIns h) ⟨4 * (i / 8), 4 * (i % 8), 4⟩ v

/-- The state of an instance (INST_STATE.STATE). -/
def State.instState (s : State) (h : Half) (i : Nat) : Nat := s.get (pgInst h i) F.INST_STATE_STATE

/-- The pipes of an instance. -/
def State.instPipes (s : State) (h : Half) (i : Nat) : List Nat := ((s.instLayers h i).map fun e => e.2.1).eraseDups

/-- The tenant's tag (R234): TPART and TWORLD, or the Partition that holds its light virtual function. -/
def State.tenantTag (s : State) (h : Half) (i : Nat) : Tag :=
  let p := pgInst h i
  let vf := s.get p F.INST_CFG_VF
  if vf = 0 then ⟨worldOf (s.flag p F.INST_CFG_TWORLD), s.get p F.INST_CFG_TPART, false, false⟩ else s.tag h (.pcie vf)

/-- The tag with which the hub reads and writes the mailbox (R238). -/
def State.mboxTag (s : State) (h : Half) (i : Nat) : Tag :=
  if s.flag (pgInst h i) F.INST_STATE_FACE then s.tenantTag h i else s.tagOf h (pgInst h i)

/-- The mailbox address, and whether it lies behind the PCIe bus. -/
def State.mboxAddr (s : State) (h : Half) (i : Nat) : Nat :=
  s.get (pgInsq h i) F.INSQ_MBOX_HI_ADDR * 2 ^ 32 + s.get (pgInsq h i) F.INSQ_MBOX_LO_ADDR * 4096

def State.mboxBus (s : State) (h : Half) (i : Nat) : Bool := s.flag (pgInsq h i) F.INSQ_MBOX_HI_BUS

/-- A write to the mailbox; one on the PCIe bus goes out with the next tag (R243). -/
def State.mboxWrite (s : State) (h : Half) (i off : Nat) (bs : List Byte) : State :=
  if s.mboxBus h i then
    let t := s.inst h i
    s.setInst h i { t with busTag := t.busTag + 1, busOut := t.busOut ++ [(t.busTag, s.mboxAddr h i + off, bs)] }
  else s.writeAt h (s.mboxTag h i) (s.mboxAddr h i + off) bs

/-- The entries of a ring (R237): a LOG2 outside 4 to 8 leaves them open (log entry 91). -/
def ringSize (log2 : Nat) : Nat := if 4 ≤ log2 && log2 ≤ 8 then 2 ^ log2 else max 1 (Config.mailboxRing log2)

/-- Does the twin-link queue keep the hub's next mailbox write waiting (R197)? -/
def State.hubWaits (s : State) (h : Half) (i : Nat) : Bool := !(s.mboxBus h i) && s.mirFull h (s.mboxAddr h i) 0x6000

/-- The 16 bytes of a completion record (R240). -/
def Completion.bytes (c : Completion) : List Byte := b4 c.seq ++ b1 c.status ++ b1 c.opcode ++ b2 0 ++ b4 c.frame ++ b4 c.time

/-- A completion record is written to the ring, and CPL_TAIL after it (R237, R238). -/
def State.cplWrite (s : State) (h : Half) (i : Nat) (c : Completion) : State :=
  let t := s.mboxTag h i
  let a := s.mboxAddr h i
  let bus := s.mboxBus h i
  let tail := if bus then (s.inst h i).busTail else s.natAt h t (a + 0x10) 4
  let n := if bus then max 1 (s.inst h i).busRing else ringSize (s.natAt h t (a + 4) 1)
  let s := s.mboxWrite h i (0x5000 + 16 * (tail % n)) c.bytes
  let s := s.mboxWrite h i 0x10 (b4 ((tail + 1) % 2 ^ 32))
  s.setInst h i { s.inst h i with busTail := (tail + 1) % 2 ^ 32 }

/-- A hub whose mailbox lies on the PCIe bus reads the next command that the doorbell announced (R238, R243). -/
def State.busFetch (s : State) (h : Half) (i : Nat) : State :=
  let t := s.inst h i
  if s.mboxBus h i && s.instState h i = stRunning && t.cur.isNone && t.busReq.isNone && (s.reg (pgInsq h i) 0xC).toNat ≠ t.tail then
    s.setInst h i { t with busReq := some t.busTag, busTag := t.busTag + 1 }
  else s

/-- An operation of INST_CTRL ends (INST_STATUS). -/
def State.instDone (s : State) (h : Half) (i op result : Nat) : State :=
  let p := pgInst h i
  let s := s.put p F.INST_STATUS_BUSY 0
  let s := s.put p F.INST_STATUS_DONE 1
  let s := s.put p F.INST_STATUS_OP op
  (s.put p F.INST_STATUS_RESULT result).raise p

/-- An operation of INST_CTRL goes on. -/
def State.instBusy (s : State) (h : Half) (i op : Nat) : State :=
  (s.put (pgInst h i) F.INST_STATUS_BUSY 1).put (pgInst h i) F.INST_STATUS_OP op

/-- The instance runs, and takes what the doorbell counted meanwhile (R238, R250); its Frozen twin becomes Twin. -/
def State.thawed (s : State) (h : Half) (i : Nat) : State :=
  let o := Half.other h
  let s := if s.flag (pgInst h i) F.INST_CFG_TWIN && s.inService o && s.instState o i = stFrozen then
      s.setInstState o i stTwin else s
  ((s.setInstState h i stRunning).instDone h i 2 0).busFetch h i

/-- Is the other half out of service, so that its twin cannot run (R247)? -/
def State.twinGone (s : State) (o : Half) : Bool := s.halfState o = hsLost || s.halfState o = hsDown || s.halfState o = hsParked

/-- Does the twin of a Frozen instance run? -/
def State.twinRuns (s : State) (h : Half) (i : Nat) : Bool :=
  let o := Half.other h
  s.flag (pgInst h i) F.INST_CFG_TWIN && !(s.twinGone o) && (s.instState o i = stRunning || s.instState o i = stFreezing)

/-- The THAW of a Frozen instance: BUSY where its twin runs, as a Twin answers. -/
def State.thawFrozen (s : State) (h : Half) (i : Nat) : State := if s.twinRuns h i then s.instDone h i 2 1 else s.thawed h i

/-- A THAW no longer waits. -/
def State.askDone (s : State) (h : Half) (i : Nat) : State := s.setInst h i { s.inst h i with asking := false }

/-- The other hub's THAW that was held off ends (R247): its instance is Twin beside the one that runs now, or is thawed itself. -/
def State.heldThaw (s : State) (o : Half) (i : Nat) : State :=
  if !((s.inst o i).asking) then s
  else
    let s := s.askDone o i
    if s.instState o i = stFrozen then s.thawFrozen o i else s.instDone o i 2 1

/-- The asking hub has finished without an answer: a THAW of its Frozen twin that was held off goes on (R247). -/
def State.heldEnd (s : State) (o : Half) (i : Nat) : State := if s.instState o i = stFrozen then s.heldThaw o i else s

/-- The instance enters Frozen. -/
def State.instFrozen (s : State) (h : Half) (i cause : Nat) : State :=
  (s.setInstState h i stFrozen).put (pgInst h i) F.INST_STATE_CAUSE cause

/-- A command boundary: a FREEZE and a FACE that wait take effect (R235, R247, R250). -/
def State.hubBoundary (s : State) (h : Half) (i : Nat) : State :=
  let s := if s.instState h i ≠ stFreezing then s
    else if s.flag (pgInst h i) F.INST_STATUS_BUSY && s.get (pgInst h i) F.INST_STATUS_OP = 1 then (s.instFrozen h i 1).instDone h i 1 0
    else s.instFrozen h i 1
  match (s.inst h i).faceReq with
  | none => s.busFetch h i
  | some f =>
    let s := s.setInst h i { s.inst h i with faceReq := none }
    ((s.put (pgInst h i) F.INST_STATE_FACE (if f then 1 else 0)).instDone h i 6 0).busFetch h i

/-- The Running instances of a half whose park begins are frozen at their next command boundary (R250, log entry 108). -/
def State.parkFreeze (s : State) (h : Half) : State :=
  s.each (upTo 64) fun i s =>
    if s.instState h i ≠ stRunning then s
    else if (s.inst h i).cur.isNone then s.instFrozen h i 1
    else s.setInstState h i stFreezing

/-- The completion of the current command is written; the command is over. -/
def State.hubFinish (s : State) (h : Half) (i : Nat) (c : Completion) (irq : Bool) : State :=
  let s := s.cplWrite h i c
  let s := s.setInst h i { s.inst h i with cur := none }
  let s := s.whenB irq fun s => s.raise (pgInst h i)
  s.hubBoundary h i

/-- Does the hub forward its effects to the Twin of the other half (R245): while the link is up and the other half in service (R246). -/
def State.forwards (s : State) (h : Half) (i : Nat) : Bool :=
  s.flag (pgInst h i) F.INST_CFG_TWIN && s.instState h i ≠ stTwin && s.flag (pgTwn h) F.TWN_STATUS_LINK &&
    s.inService (Half.other h) && (s.instState (Half.other h) i = stTwin || (s.inst h i).wholeSent)

def State.forward (s : State) (h : Half) (i : Nat) (x : TwinFx) : State :=
  if s.forwards h i then s.setInst h i { s.inst h i with fx := (s.inst h i).fx ++ [x] } else s

/-- The window takes a completion and keeps the last 1,024 (R241). -/
def windowAdd (w : List Completion) (c : Completion) : List Completion := (w ++ [c]).drop ((w ++ [c]).length - 1024)

/-- N and the window after an executed command. -/
def State.windowPut (s : State) (h : Half) (i : Nat) (c : Completion) : State :=
  let s := s.setInst h i { s.inst h i with window := windowAdd (s.inst h i).window c }
  (s.put (pgInst h i) F.INST_STATE_SEQV 1).setReg (pgInst h i) 0xC (BitVec.ofNat 32 c.seq)

/-- An executed command has its completion: recorded, forwarded, and written once the twin link has acknowledged (R245). -/
def State.hubComplete (s : State) (h : Half) (i : Nat) (c : Completion) (irq : Bool) : State :=
  let s := s.windowPut h i c
  if s.forwards h i then
    let s := s.forward h i (.done c)
    s.setInst h i { s.inst h i with cur := some { opcode := c.opcode, seq := c.seq, irq := irq, copied := true, waitPipes := [], frame := 0, await := some c } }
  else s.hubFinish h i c irq

/-- The words of a layer as a set of instance words holds them. -/
def layerWords (t : List (Nat × Word)) (k : Nat) : List Word := (upTo 10).map fun w => tblGet (fun _ => 0) t (16 * k + w)

/-- Set the ten words of a layer. -/
def layerSet (t : List (Nat × Word)) (k : Nat) (ws : List Word) : List (Nat × Word) :=
  (upTo 10).foldl (fun t w => tblSet (fun _ => 0) t (16 * k + w) (ws.getD w 0)) t

/-- Write a set of instance words into the shadows of the hub-owned descriptors, and GO on every pipe (R239, R247). -/
def State.hubShadows (s : State) (h : Half) (i : Nat) (t : List (Nat × Word)) : State :=
  let s := s.each (s.instLayers h i) fun e s =>
    s.each (upTo 10) fun w s => s.setReg (pgCmp h e.2.1) (0x1000 + 0x40 * e.2.2 + 4 * w) (tblGet (fun _ => 0) t (16 * e.1 + w))
  s.each (s.instPipes h i) fun p s => s.put (pgCmp h p) F.CMP_STATUS_PENDING 1

/-- The copy of a COMMIT: the staging set becomes the committed set. -/
def State.hubCopy (s : State) (h : Half) (i : Nat) : State :=
  let t := s.inst h i
  (s.setInst h i { t with committed := t.staging }).hubShadows h i t.staging

/-- An instance Function is reset: its pages and its hub start anew, with the face of FACE0 (R235). -/
def State.instClear (s : State) (h : Half) (i : Nat) : State :=
  let asking := (s.inst h i).asking
  let s := s.clearRegs (fun p => p = pgInst h i || p = pgInsq h i) clrF
  let s := (s.setInst h i {}).setInstState h i stIdle
  let s := s.put (pgInst h i) F.INST_STATE_FACE (s.get (pgInst h i) F.INST_CFG_FACE0)
  if asking then s.heldEnd (Half.other h) i else s

/-- INST_SBLK. -/
def State.sblk (s : State) (h : Half) (i : Nat) : Nat :=
  s.get (pgInst h i) F.INST_SBLK_HI_ADDR * 2 ^ 32 + s.get (pgInst h i) F.INST_SBLK_LO_ADDR * 4096

/-- CRC-32C over the INST_MAP words. -/
def State.templateCrc (s : State) (h : Half) (i : Nat) : Nat :=
  crc32c ((upTo 16).flatMap fun k => b4 (s.reg (pgInst h i) (0x40 + 4 * k)).toNat)

/-- 64 bytes for each layer. -/
def setBytes (t : List (Nat × Word)) : List Byte :=
  (upTo 16).flatMap fun k => (upTo 16).flatMap fun w => b4 (if w < 10 then (tblGet (fun _ => 0) t (16 * k + w)).toNat else 0)

/-- The state block (R248). -/
def State.stateBlock (s : State) (h : Half) (i : Nat) : List Byte :=
  let p := pgInst h i
  let t := s.inst h i
  let pad (n : Nat) (l : List Byte) : List Byte := (l ++ List.replicate n 0).take n
  let head := pad 0x40 (b4 0x42534E49 ++ b2 1 ++ b2 0 ++ b4 (s.templateCrc h i) ++ b4 (s.reg p 0xC).toNat ++ b2 t.window.length ++ b2 0 ++
    b1 (s.get p F.INST_STATE_FACE) ++ [0, 0, 0] ++ b4 (s.reg (pgInsq h i) 0).toNat ++ b4 (s.reg (pgInsq h i) 4).toNat)
  let body := pad 0x4FFC (head ++ setBytes t.committed ++ setBytes t.staging ++ t.window.flatMap fun c => c.bytes)
  body ++ b4 (crc32c body)

/-- SAVE: the state block is written at INST_SBLK with the tag of the manager (R247, R248). -/
def State.saveNow (s : State) (h : Half) (i : Nat) : State :=
  ((s.setInst h i { s.inst h i with saving := false }).writeAt h (s.tagOf h (pgInst h i)) (s.sblk h i) (s.stateBlock h i)).instDone h i 3 0

/-- The SAVEs that waited for room in the twin-link queue go on (R197). -/
def State.savesGo (s : State) (h : Half) : State :=
  s.each (upTo 64) fun i s => if (s.inst h i).saving && !(s.mirFull h (s.sblk h i) 0x5000) then s.saveNow h i else s

/-- EN of every hub-owned shadow is cleared and GO written; staging and window are emptied; Idle (R247 RESET). -/
def State.hubReset (s : State) (h : Half) (i : Nat) : State :=
  let s := s.each (s.instLayers h i) fun e s => s.put (pgCmp h e.2.1) (F.LY_CTRL_EN.at (0x40 * e.2.2)) 0
  let s := s.each (s.instPipes h i) fun p s => s.put (pgCmp h p) F.CMP_STATUS_PENDING 1
  let t := s.inst h i
  let s := s.setInst h i { t with staging := [], window := [], cur := none, restoring := none, asking := false, saving := false, busReq := none, busOut := [] }
  let s := s.put (pgInst h i) F.INST_STATE_SEQV 0
  let s := s.setInstState h i stIdle
  if t.asking then s.heldEnd (Half.other h) i else s

/-- A Twin hub applies one effect (R245, R246). -/
def State.applyFx (s : State) (h : Half) (i : Nat) (x : TwinFx) : State :=
  match x with
  | .layer k ws => s.setInst h i { s.inst h i with staging := layerSet (s.inst h i).staging k ws }
  | .copyGo => s.hubCopy h i
  | .reset => s.hubReset h i
  | .done c => s.windowPut h i c
  | .whole st cm n w f mb =>
    let s := s.setInst h i { s.inst h i with staging := st, committed := cm, window := w, cur := none }
    let s := s.hubShadows h i cm
    let s := s.put (pgInst h i) F.INST_STATE_SEQV (if w.isEmpty then 0 else 1)
    let s := s.setReg (pgInst h i) 0xC (BitVec.ofNat 32 n)
    let s := s.put (pgInst h i) F.INST_STATE_FACE f
    let s := (s.setReg (pgInsq h i) 0 mb.1).setReg (pgInsq h i) 4 mb.2
    s.setInstState h i stTwin

/-- The twin link or the other half is gone: nothing is forwarded, IN_STEP reads 0, and a completion that waited for the link is
written (R246). A THAW held off for a hub that is gone goes on (R247), and so does a SAVE that waited for the link. -/
def State.twinDrop (s : State) (h : Half) : State :=
  s.each (upTo 64) fun i s =>
    let t := s.inst h i
    let s := s.put (pgInst h i) F.INST_STATE_IN_STEP 0
    let s := s.setInst h i { t with fx := [], fxSent := 0, wholeSent := false }
    let s := match t.cur with
      | none => s
      | some c => match c.await with
        | none => s
        | some r => s.hubFinish h i r c.irq
    let s := s.whenB (s.twinGone (Half.other h)) fun s => s.heldEnd h i
    s.whenB ((s.inst h i).saving && !(s.mirFull h (s.sblk h i) 0x5000)) fun s => s.saveNow h i

/-- The Running hub of half h sends its whole state to the other half's hub, while the link is up (R246). -/
def State.twinSync (s : State) (h : Half) : State :=
  s.each (upTo 64) fun i s =>
    let p := pgInst h i
    if s.flag (pgTwn h) F.TWN_STATUS_LINK && s.flag p F.INST_CFG_TWIN && (s.instState h i = stRunning || s.instState h i = stFreezing) && !(s.flag p F.INST_STATE_IN_STEP) then
      let t := s.inst h i
      s.setInst h i { t with
        wholeSent := true,
        fx := t.fx ++ [.whole t.staging t.committed (s.reg p 0xC).toNat t.window (s.get p F.INST_STATE_FACE) (s.reg (pgInsq h i) 0, s.reg (pgInsq h i) 4)] }
    else s

end Sys2Proof.Machine
end

