-- ==== Sys2Proof/Machine/Plinth.lean ====
section
/-! DEFINITION. The Plinth sections of an image (R37, R47, R57): the slot that each port, touch source and the audio engine runs from, and how one
of them takes the sections of a slot. -/

namespace Sys2Proof.Machine

/-- What switches on its own in step 8 of R57: a port, a touch source (8 the keys), the sample programs. -/
def itemPort (p : Nat) : Nat := p
def itemTouch (src : Nat) : Nat := 8 + src
def itemAudio : Nat := 17
def plinthItems : List Nat := upTo 18

/-- The slot whose sections an item runs from: that of the Plinth, or the target of a REARM once the item has switched. -/
def State.plinthSlot (s : State) (item : Nat) : Nat :=
  match s.rearm with
  | none => s.slotOf .P
  | some a => if a.taken.contains item then a.slot else s.slotOf .P

/-- The pages of an item. -/
def itemPage (item : Nat) (pg : Pg) : Bool :=
  pg.die = .P && (if item < 8 then pg.code = item || pg.code = 0x10 + item else if item < 17 then pg.code = 0x20 + (item - 8) else pg.code = 0x39)

/-- The sink check settings of the symbol book are shown (R154). -/
def State.sinkCfgShow (s : State) (p slot : Nat) : State :=
  s.putClassA ((pgIck p).key 0x10) (BitVec.ofNat 32 (s.secNat slot 7 (0x20 + 4 * p) 4))

/-- TAF_CFG shows the plan of a sensor (R295); the keys have none. -/
def State.tafShow (s : State) (n slot : Nat) : State :=
  if 8 ≤ n then s
  else
    let rec_ (off : Nat) : Nat := s.secNat slot 8 (0x40 * n + off) 1
    let p := pgTaf n
    let s := s.put p F.TAF_CFG_QB (rec_ 0x23)
    let s := s.put p F.TAF_CFG_QA (rec_ 0x22)
    let s := s.put p F.TAF_CFG_NSETS (rec_ 5 - 1)
    let s := s.put p F.TAF_CFG_T4 (rec_ 0x24 % 2)
    s.put p F.TAF_CFG_KIND (rec_ 4 % 2)

/-- A cell of a bank of the audio engine. -/
def State.cell (s : State) (bank w : Nat) : Word := tblGet (fun _ => 0) s.audio.banks (bank * 4096 + w)
def State.setCell (s : State) (bank w : Nat) (v : Word) : State :=
  { s with audio := { s.audio with banks := tblSet (fun _ => 0) s.audio.banks (bank * 4096 + w) v } }

/-- Cells and override cells take the image's values in both banks; a swap that waits is dropped (R330, R336). -/
def State.audioLoad (s : State) (slot : Nat) : State :=
  let (cells, ovr) := Config.imageCells (s.slotCells slot)
  let s := { s with audio := { s.audio with banks := [] } }
  let s := s.each cells fun e s => if e.1 < 4096 then (s.setCell 0 e.1 e.2).setCell 1 e.1 e.2 else s
  let s := s.each ovr fun e s => if e.1 < 16 then s.setReg pgAud (0x100 + 4 * e.1) e.2 else s
  s.put pgAud F.AUD_STATUS_SWAP_PEND 0

/-- An item takes the Plinth sections of a slot (R47, R57). -/
def State.takeSections (s : State) (slot item : Nat) : State :=
  let s := s.applyPages .P (itemPage item) (s.slotCells slot)
  if item < 8 then s.sinkCfgShow item slot else if item < 17 then s.tafShow (item - 8) slot else s.audioLoad slot

end Sys2Proof.Machine
end

