-- ==== Sys2Proof/Machine/Pairing.lean ====
section
/-! DEFINITION. What the pair supervisor shares among many commands: ports and their sources (R127, R149), planned handovers
(R203, R204), unplanned failover (R190 to R193), the end of a REARM (R59) and of an Inspection (R371). -/

namespace Sys2Proof.Machine

/-! ## Ports -/

def State.portSrc (s : State) (p : Nat) : Nat := s.get (pgScn p) F.SCN_STATUS_SRC

/-- The half in SRC. -/
def State.ownerOf (s : State) (p : Nat) : Option Half :=
  if s.portSrc p = 0 then some .A else if s.portSrc p = 1 then some .B else none

/-- The ports whose SRC is the half. -/
def State.owned (s : State) (h : Half) : List Nat := (upTo 8).filter fun p => s.ownerOf p = some h

def State.locked (s : State) (p : Nat) : Bool := s.flag (pgScn p) F.SCN_CFG_LOCK

/-- The port with its partner where it is a member of a locked pair (R124). -/
def State.group (s : State) (p : Nat) : List Nat := if s.locked p then [p / 2 * 2, p / 2 * 2 + 1] else [p]

/-- The role of a half's pipe on a port (PAIR_PORTn). -/
def State.role (s : State) (h : Half) (p : Nat) : Nat :=
  match h with
  | .A => s.get pgPair (F.PAIR_PORT_ROLE_A.at (4 * p))
  | .B => s.get pgPair (F.PAIR_PORT_ROLE_B.at (4 * p))

def State.setRole (s : State) (h : Half) (p v : Nat) : State :=
  match h with
  | .A => s.put pgPair (F.PAIR_PORT_ROLE_A.at (4 * p)) v
  | .B => s.put pgPair (F.PAIR_PORT_ROLE_B.at (4 * p)) v

def roleOwner : Nat := 0
def roleElect : Nat := 1
def roleStandby : Nat := 2
def roleSole : Nat := 3
def roleIdle : Nat := 7

/-- The role that held in the frame now on the port. -/
def Port.roleFrame (q : Port) : Half → Nat
  | .A => q.roleFrameA
  | .B => q.roleFrameB

def State.home (s : State) (p : Nat) : Half := if s.flag pgPair (F.PAIR_PORT_HOME.at (4 * p)) then .B else .A

def State.qual (s : State) (p : Nat) : Bool := s.flag pgPair (F.PAIR_PORT_QUAL.at (4 * p))

/-! ## Lanes at a change of source (R139, R149) -/

/-- Copy one lane's active states to another: the states of `l` in place of those of `m`. -/
def laneTake (l m : Lane) : Lane := { m with act := l.act }

/-- ICK_RSTAT.ACT shows lane S's active states. -/
def State.showAct (s : State) (p : Nat) : State :=
  s.each (upTo 16) fun r s => s.put (pgIck p) (F.ICK_RSTAT_ACT.at (4 * r)) (tblGet (fun _ => 0) (s.port p).laneS.act r)

/-- Lane S and lane U are active or idle by R139; a lane U that starts takes lane S's active states (R149). -/
def State.laneRefresh (s : State) (p : Nat) : State :=
  let q := s.port p
  let sa := q.run && (s.ownerOf p).isSome
  let ua := sa && (match s.ownerOf p with
    | none => false
    | some h => (let r := q.roleFrame (Half.other h); r = roleElect || r = roleStandby))
  let rises := ua && !(s.flag (pgIck p) F.ICK_STATUS_U_ACTIVE)
  let s := s.put (pgIck p) F.ICK_STATUS_S_ACTIVE (if sa then 1 else 0)
  let s := s.put (pgIck p) F.ICK_STATUS_U_ACTIVE (if ua then 1 else 0)
  s.whenB rises fun s =>
    let s := s.setPort p { s.port p with laneU := laneTake (s.port p).laneS {} }
    s.put (pgIck p) F.ICK_STATUS_PENDING_U 0

/-- SRC changes (R128): lane S takes lane U's active states and the run counts are cleared (R149); PSR2 ends at the next frame
boundary (R136). -/
def State.setSource (s : State) (p src : Nat) : State :=
  if s.copyFault || s.portSrc p = src then s
  else
    let s := s.put (pgScn p) F.SCN_STATUS_SRC src
    let q := s.port p
    let s := s.setPort p { q with laneS := laneTake q.laneU q.laneS, psrExit := true, incRun := 0, trig := none, shedSwitch := false }
    let s := s.each (upTo 16) fun r s =>
      (s.put (pgIck p) (F.ICK_RSTAT_RUN_S.at (4 * r)) 0).put (pgIck p) (F.ICK_RSTAT_RUN_U.at (4 * r)) 0
    (s.showAct p).laneRefresh p

/-! ## The end of a REARM and of an Inspection -/

/-- The loader operation of a source ends with RESULT (ARM_STATUS), which the status screen shows (R132): the ARM interrupt waits while the half is in
reset. -/
def State.armEnd (s : State) (src : ArmSource) (result : Nat) : State :=
  let s := { s with arm := none, start := { s.start with cause := result } }
  match src with
  | .half h =>
    let s := s.put (pgArmH h) F.ARM_STATUS_BUSY 0
    let s := s.put (pgArmH h) F.ARM_STATUS_DONE 1
    let s := s.put (pgArmH h) F.ARM_STATUS_RESULT result
    if s.inService h then s.raise (halfPg h 0x2003) else s.setHs h { s.hs h with armIrq := true }
  | _ => s

/-- A REARM stops (R59): the Plinth keeps its slot, so what had switched in step 8 takes the sections of that slot again at once (log entry 104). -/
def State.rearmStop (s : State) (result : Nat) : State :=
  match s.rearm with
  | none => s
  | some r =>
    let s := s.each r.taken fun i s => s.takeSections (s.slotOf .P) i
    ({ s with rearm := none }).armEnd (.half r.source) result

/-- RESULT of a REARM whose handover ended with a PAIR result (R59). -/
def rearmResult (pair : Nat) : Nat :=
  if pair = 3 then 0x0C else if pair = 5 then 0x0E else if pair = 6 then 0x0D else if pair = 7 then 0x0F else 0x10

/-- The inspection record of R371 as far as the signatures. -/
def State.inspBody (s : State) (i : Insp) (result : Nat) : List Byte :=
  let item (n : Nat) : List Byte := match tblFind n i.items with
    | none => b4 2
    | some (code, count) => b4 (code + 65536 * (count % 65536))
  let mr0 (h : Half) : List Byte := (upTo 12).flatMap fun w => b4 (s.reg (pgWld h) (0x100 + 4 * w)).toNat
  let b := b4 0x50534E49 ++ b2 1 ++ b2 0 ++ leBytes 8 Config.moduleId ++ leBytes 8 s.time ++
    b2 (s.get pgArm (F.ARM_SLOT_GEN.at (4 * s.slotOf .P))) ++ b2 (s.get pgLcs F.LCS_STATUS_KEYGEN) ++ b1 result ++ [0, 0, 0] ++
    (upTo 16).flatMap item ++ mr0 .A ++ mr0 .B
  (b ++ List.replicate 256 0).take 256

/-- The signed record, 4 KB. -/
def State.inspRecord (s : State) (i : Insp) (result : Nat) : List Byte :=
  let b := s.inspBody i result
  let key := s.mramBytes (storeBase + 0x3000) 0x2000
  let e := (Config.ecdsaSign key b ++ List.replicate 96 0).take 96
  let m := (Config.mldsaSign key b ++ List.replicate 3309 0).take 3309
  ((b ++ e ++ m) ++ List.replicate 4096 0).take 4096

/-- An Inspection ends: the record is signed and stored, DONE and RESULT are set, MODE follows R362 (R369, R371, R380). -/
def State.inspEnd (s : State) (result : Nat) : State :=
  match s.insp with
  | none => s
  | some i =>
    let s := s.setMram (storeBase + 0x5000) (s.inspRecord i result)
    let s := s.setHs .A { s.hs .A with hold := s.halfState .A = hsParked, hbWithheld := false }
    let s := s.setHs .B { s.hs .B with hold := s.halfState .B = hsParked, hbWithheld := false }
    let s := s.put pgMod F.MOD_STATUS_BUSY 0
    let s := s.put pgMod F.MOD_STATUS_DONE 1
    let s := s.put pgMod F.MOD_STATUS_RESULT result
    (({ s with insp := none }).raiseBoth 0x2000).refreshMode .inspectEnd

/-! ## Planned handovers -/

/-- A request of planned handovers starts or, for a REARM, grows by ports (R203, R204). -/
def State.hoStart (s : State) (source : HoSource) (target : Half) (ports : List Nat) : State :=
  let run : HoRun := match s.hoRun with
    | some r => { r with ports := r.ports ++ ports }
    | none => { source := source, target := target, ports := ports, firstFail := none, diff := false, cancelled := false }
  let s := s.each ports fun p s => s.setPort p { s.port p with ho := some { target := target } }
  let s := { s with hoRun := some run }
  let s := s.put pgPair F.PAIR_STATUS_BUSY 1
  s.refreshPairing .pairing

/-- Is the twin link up and neither half Syncing (R199)? -/
def State.pairLinkOk (s : State) : Bool :=
  s.flag (pgTwn .A) F.TWN_STATUS_LINK && s.flag (pgTwn .B) F.TWN_STATUS_LINK && s.halfState .A ≠ hsSyncing && s.halfState .B ≠ hsSyncing

/-- Has half `h` the qualified standby pipe of a port, as far as that half shows (R186, R199)? The pipe that an unplanned failover left is no standby,
whatever QUAL shows until the next latch marker. -/
def State.standbyQual (s : State) (h : Half) (p : Nat) : Bool :=
  s.qual p && s.ownerOf p = some (Half.other h) && (s.role h p = roleStandby || s.role h p = roleElect) && s.halfState h = hsReady &&
  s.flag (pgTwn h) F.TWN_STATUS_LINK && s.halfState (Half.other h) ≠ hsSyncing

/-- Is the standby pipe of a port in half `h` qualified now (R186, R199)? -/
def State.qualified (s : State) (h : Half) (p : Nat) : Bool := s.standbyQual h p && s.pairLinkOk

/-- Once no handover runs, the shed handovers of a shed are issued: every port of the parking half whose standby pipe in the serving half
is qualified; a port stopped in T4 is not handed over (R205, R462). -/
def State.shedIssue (s : State) : State :=
  match s.shed with
  | none => s
  | some r =>
    if r.issued || s.hoRun.isSome then s
    else
      let s := { s with shed := some { r with issued := true } }
      let o := Half.other r.half
      let ps := (s.owned r.half).filter fun p => (s.group p).all fun q => s.qualified o q && !((s.port q).t4Stop)
      if ps.isEmpty then s else s.hoStart .shed o ps

/-- PAIR_CTRL ends with a RESULT (PAIR_STATUS). -/
def State.pairDone (s : State) (result : Nat) : State :=
  let s := s.put pgPair F.PAIR_STATUS_DONE 1
  let s := s.put pgPair F.PAIR_STATUS_RESULT result
  s.raise pgPair

/-- The result of a request once the last of its ports has finished (R204, R461). -/
def HoRun.result (r : HoRun) : Nat := if r.cancelled then 7 else r.firstFail.getD 0

/-- Once no port of the request runs, the request ends: RESULT is written (R204), a command gets its DONE, a REARM its stop; a CANCEL sets DONE
whoever issued the handovers (R461). -/
def State.hoSettle (s : State) : State :=
  match s.hoRun with
  | none => s
  | some r =>
    if r.ports.any (fun p => (s.port p).ho.isSome) then s
    else
      let s := { s with hoRun := none }
      let s := s.put pgPair F.PAIR_STATUS_BUSY 0
      let s := s.put pgPair F.PAIR_STATUS_RESULT r.result
      let s := match r.source with
        | .command _ => s.pairDone r.result
        | .rearm => let s := s.whenB r.cancelled fun s => s.pairDone 7
          match s.rearm with
          | none => s
          | some a =>
            match a.stop with
            | some code => s.rearmStop code
            | none => if r.result = 0 then s else s.rearmStop (rearmResult r.result)
        | _ => s.whenB r.cancelled fun s => s.pairDone 7
      (s.refreshPairing .pairing).shedIssue

/-- Does a handover that ends without moving its port stop a REARM at once (R59)? One that is stopping already waits for its handovers. -/
def State.rearmBlocked (s : State) (r : HoRun) (result : Nat) : Bool :=
  r.source = .rearm && result ≠ 0 && (match s.rearm with
    | none => false
    | some a => a.stop.isNone)

/-- The handover of a port, and of its locked partner, ends with a result (R204). One of a REARM that did not move its port stops the REARM at once:
every other port of the request that has not moved stays with the half that holds it (R59). -/
def State.hoEnd (s : State) (p result : Nat) : State :=
  if (s.port p).ho.isNone then s
  else
    let s := s.each (s.group p) fun q s => s.setPort q { s.port q with ho := none }
    let s := match s.hoRun with
      | none => s
      | some r =>
        let s := { s with hoRun := some { r with firstFail := if r.firstFail.isNone && result ≠ 0 then some result else r.firstFail } }
        s.whenB (s.rearmBlocked r result) fun s => s.each r.ports fun q s => s.setPort q { s.port q with ho := none }
    s.hoSettle

/-- Every handover that has not moved its port ends with a result (R205, R461). -/
def State.hoEndAll (s : State) (result : Nat) : State := s.each (upTo 8) fun p s => s.hoEnd p result

/-! ## Unplanned failover -/

/-- The failover of one port at a line boundary, where the standby half can take it (R191 to R193). The owner half may be gone with its end of the twin
link: whether the standby was qualified is what its own half shows. -/
def State.failoverOne (s : State) (p cause line : Nat) (owner : Half) : State :=
  let std := Half.other owner
  let unq := !(s.standbyQual std p)
  let s := s.setSource p (Half.num std)
  let s := s.incSat pgPair (F.PAIR_PORT_FAILOVERS.at (4 * p))
  let s := s.put pgPair (F.PAIR_PORT_CAUSE.at (4 * p)) cause
  let s := s.alert
  let s := s.raise pgPair
  let q := s.port p
  let s := s.setPort p (match owner with
    | .A => { q with idleA := true }
    | .B => { q with idleB := true })
  s.event (srcOf pgPair) 0x0020
    (b1 p ++ b1 cause ++ b1 (Half.num std) ++ b1 (if unq then 1 else 0) ++ b2 line ++ b2 0 ++ b4 (s.get (pgScn p) F.SCN_FRAME_FRAME))
    (trig := true)

/-- A failover trigger is carried out at a line boundary: both ports of a locked pair switch, a handover of the port ends with
ABORTED_FAULT (R205), a REARM with ABORTED_FAULT (R59), an Inspection with ABORTED_FAULT (R380). A standby half that is Down,
Lost or Parked leaves SRC unchanged (R191), and so does the condition of R15. DESIGN CHOICE (log entry 126): a REARM that already stops for an entry
to T2 ends with ABORTED_FAULT where an unplanned failover meets it first; the manual ranks neither. -/
def State.failover (s : State) (p cause line : Nat) : State :=
  match s.ownerOf p with
  | none => s
  | some owner =>
    if s.copyFault || !(s.inService (Half.other owner)) then s.setPort p { s.port p with trig := none }
    else
      let s := s.hoEnd p 5
      let s := s.each (s.group p) fun q s => s.failoverOne q cause line owner
      let s := match s.rearm with
        | none => s
        | some _ => s.rearmStop 0x0E
      s.inspEnd 5

/-- A shed switch (R462): SRC moves to the serving half where R191 lets it, and nothing else is recorded. -/
def State.shedMove (s : State) (p : Nat) : State :=
  let s := match s.ownerOf p with
    | none => s
    | some owner =>
      if s.inService (Half.other owner) then s.each (s.group p) fun q s => s.setSource q (Half.num (Half.other owner)) else s
  s.each (s.group p) fun q s => s.setPort q { s.port q with shedSwitch := false }

/-- A failover trigger is noted for the next line boundary; of two, the one with the lower CAUSE is kept (R205). -/
def State.trigger (s : State) (p cause : Nat) : State :=
  let q := s.port p
  s.setPort p { q with trig := some (match q.trig with | none => cause | some c => min c cause) }

/-! ## Half states -/

/-- The mirror regions that exist, as a bit mask (TWN_MREGm). -/
def State.regionMask (s : State) (h : Half) : Nat :=
  (upTo 16).foldl (fun v m => if s.flag (pgTwn h) (F.TWN_MREG_SZ_VALID.at (8 * m)) then v + 2 ^ m else v) 0

/-- The copies of a region that a hand-over still waits for in the twin-link queue: those sent before the request (R200). -/
def State.handQueue (s : State) (h : Half) (r : MirHand) : List MirWrite :=
  ((s.hs h).mirQ.take (r.sent - (s.hs h).mirDone)).filter fun w => s.inMirror h w.addr r.region

/-- The writes that wait in a half's twin-link queue are marked in its dirty map instead (R198, R199, log entry 11); a hand-over that waited
for one now waits for its granule (R200). -/
def State.queueDirty (s : State) (h : Half) : State :=
  let waiting := (s.hs h).mirQ
  let hand := (s.hs h).mirHand.map fun r =>
    { r with granules := (r.granules ++ (s.handQueue h r).map fun (w : MirWrite) => w.addr / 65536).eraseDups }
  let s := s.setHs h { s.hs h with mirQ := [], mirHand := hand, mirDone := (s.hs h).mirSent, copying := none, copyAgain := false, copyRead := 0, copyAt := 0, copyBuf := [] }
  s.each waiting fun w s => s.markDirty h w.addr w.bytes.length

/-- When a half goes Lost, Down or Parked, the other becomes the source of every region at once (R200), marks the writes that were on
their way (R198), and its hub forwards nothing more (R246). A hand-over to the half that went is dropped (log entry 85). -/
def State.mirrorSurvivor (s : State) (gone : Half) : State :=
  let h := Half.other gone
  if !(s.inService h) then s
  else
    let s := (s.queueDirty h).twinDrop h
    let s := s.setHs h { s.hs h with mirHand := [] }
    let s := s.put (pgTwn gone) F.TWN_MIR_SRC_SRC 0
    let s := s.put (pgTwn h) F.TWN_STATUS_SYNC 0
    s.put (pgTwn h) F.TWN_MIR_SRC_SRC (s.regionMask h)

/-- The pair supervisor declares a half Lost, with a failover trigger of the cause on every port it owns (R189, R190). -/
def State.declareLost (s : State) (h : Half) (cause : Nat) (t : ModeTrigger := .pairing) : State :=
  let s := (s.setHalfState h hsLost t).mirrorSurvivor h
  let s := s.each (s.owned h) fun p s => s.trigger p cause
  -- a failover trigger on the Owner-elect ends the handover (R205)
  s.each (upTo 8) fun p s =>
    match (s.port p).ho with
    | none => s
    | some o => if o.target = h then s.hoEnd p 5 else s

end Sys2Proof.Machine
end

