-- ==== Sys2Proof/Machine/Supervisor.lean ====
section
/-! DEFINITION. The half reset (R388) as one operation, the apply of an image (R47), and the course of a REARM (R57). -/

namespace Sys2Proof.Machine

/-! ## Domains (R398 to R405) -/

/-- Does the tier let a half's domain be on (R405)? A parked half has every domain off; in T4 AC and CL are in Retention, GFE and
SG off, CP on only for ports kept in T4. -/
def State.domAllowed (s : State) (h : Half) (d : Nat) : Bool :=
  if s.halfState h = hsParked then false
  else if s.tier < 4 then true
  else if 11 ≤ d && d < 16 then false
  else if 16 ≤ d && d < 24 then s.flag (pgScn (d - 16)) F.SCN_CFG_T4
  else true

/-- A value of the Tulle plan in force for a touch source (R295). -/
def State.plan (s : State) (src off n : Nat) : Nat := s.secNat (s.plinthSlot (itemTouch src)) 8 off n

/-- A value of the record of a touch source: 0 to 7 sensors, 8 the keys. -/
def State.planRec (s : State) (src off n : Nat) : Nat := s.plan src (0x40 * src + off) n

/-- The lines or keys of a source, 0 to 256 (R46); none in an unused record. -/
def State.planCount (s : State) (src : Nat) : Nat := if s.planRec src 4 1 = 0xFF then 0 else inImage 0 256 8 (s.planRec src 2 2)

/-- The frequency sets of a source. -/
def State.planSets (s : State) (src : Nat) : Nat := inImage 1 4 8 (s.planRec src 5 1)

/-- List entry i of a source. -/
def State.planEntry (s : State) (src i : Nat) : Nat :=
  if src = 8 then s.plan src (s.planRec src 0 2 + 4 * i) 4 else s.plan src (s.planRec src 0 2 + 2 * i) 2

/-- The touch lines that a source uses (R294, R295). -/
def State.planLines (s : State) (src : Nat) : List Nat :=
  (upTo (s.planCount src)).flatMap fun i =>
    let e := s.planEntry src i
    if src = 8 && e / 1024 % 4 ≠ 2 then [inImage 0 959 8 (e % 1024), inImage 0 959 8 (e / 65536 % 1024)] else [inImage 0 959 8 (e % 1024)]

/-- Is the source kept in T4 and Night Watch (FLAGS bit 0)? -/
def State.kept (s : State) (src : Nat) : Bool := s.planCount src ≠ 0 && s.planRec src 0x24 1 % 2 = 1

/-- Does any touch source stay on in T4 and Night Watch (R312)? -/
def State.anyKept (s : State) : Bool := (upTo 9).any s.kept

/-- Does a kept source use bank k (R312)? -/
def State.bankKept (s : State) (k : Nat) : Bool :=
  (upTo 9).any fun src => s.kept src && (s.planLines src).any fun l => l / 120 = k

/-- Does the tier let a Plinth domain be on (R405), and Night Watch once it is entered (R366)? -/
def State.pdomAllowed (s : State) (d : Nat) : Bool :=
  if s.mode = mNight && s.nightEntered.isSome then (8 ≤ d && d < 16 && s.bankKept (d - 8)) || d = 20 || d = 21
  else if s.tier < 4 then true
  else if d < 8 then s.flag (pgScn d) F.SCN_CFG_T4
  else if d < 16 then s.bankKept (d - 8)
  else if d = 20 then s.anyKept
  else d = 21

/-- The domain that a half's domain needs (R398). -/
def domNeeds (d : Nat) : Option Nat :=
  if d < 4 then some 8 else if d < 8 then some 9 else if 12 ≤ d && d < 16 then some 11 else none

def pdomNeeds (d : Nat) : Option Nat := if d = 17 then some 16 else if 8 ≤ d && d < 16 then some 20 else none

/-- The pinned domains of a half: SAF, MC0, MC1 and HUB (R399). -/
def pinned (d : Nat) : Bool := d = 10 || d = 24 || d = 25 || d = 30

/-- A domain is wanted on (R399): the tier allows it and its REQ bit is 1. -/
def State.domWanted (s : State) (h : Half) (d : Nat) : Bool :=
  s.domAllowed h d && (pinned d || (s.get (pgPwr h) F.PWR_REQ_REQ).testBit d)

def State.pdomWanted (s : State) (d : Nat) : Bool := s.pdomAllowed d && (s.get pgShd F.SHD_REQ_REQ).testBit d

/-- Power on each wanted domain that is Off, the needed ones first; a wanted domain that is Shutting becomes Pending On
(R399, R401, R402). -/
def State.domRaise (s : State) (h : Half) : State :=
  s.each [8, 9, 11, 10, 24, 25, 26, 27, 28, 29, 30, 16, 17, 18, 19, 20, 21, 22, 23, 0, 1, 2, 3, 4, 5, 6, 7, 12, 13, 14, 15] fun d s =>
    if !(s.domWanted h d) then s
    else if s.domain h d = 0 then
      (match domNeeds d with
       | none => s.setDomain h d 1
       | some n => if s.domain h n = 0 || s.domain h n = 4 then s else s.setDomain h d 1)
    else if s.domain h d = 4 then s.setDomain h d 5
    else s

def State.pdomRaise (s : State) : State :=
  s.each [0, 1, 2, 3, 4, 5, 6, 7, 20, 16, 18, 19, 21, 8, 9, 10, 11, 12, 13, 14, 15, 17] fun d s =>
    if !(s.pdomWanted d) then s
    else if s.pdomain d = 0 then
      (match pdomNeeds d with
       | none => s.setPdomain d 1
       | some n => if s.pdomain n = 0 || s.pdomain n = 4 then s else s.setPdomain d 1)
    else if s.pdomain d = 4 then s.setPdomain d 5
    else s

/-! ## Half reset (R382, R383, R388) -/

/-- The fields of a half take their reset values and its engines lose their state; DRAM and scratchpad keep their content
(R255, R263), and the domains that are on stay powered (log entry 12): a destructive march and an off-clear go on, a preserving march
ends. -/
def State.halfClear (s : State) (h : Half) : State :=
  let on := (upTo 31).map fun d => (d, s.domain h d)
  let spm := (upTo 4).map fun n => (n, s.get (pgSpm h n) F.SPM_STATUS_STATE)
  let keep := (s.hs h).spm.map fun e => (e.1, { e.2 with march := e.2.march.bind fun m => if m.kind = 2 then none else some m, lastF := [], lastE := [] })
  let inPage (p : Pg) : Bool := p.die = Half.die h
  let s := (s.clearRegs inPage clrHTF).clearHeld inPage
  let s := { s with irq := s.irq.filter fun k => !(inPage (keyPage k)) }
  let d := (s.hs h).dram
  let s := s.setHs h { stage := .reset, spm := keep, armIrq := (s.hs h).armIrq, hold := (s.hs h).hold,
                       dram := { zeroDone := d.zeroDone, unfilled := d.unfilled } }
  let s := s.each on fun e s => s.setDomain h e.1 e.2
  let s := s.each spm fun e s =>
    let s := s.put (pgSpm h e.1) F.SPM_STATUS_STATE (if e.2 = 3 then 2 else e.2)
    s.whenB (e.2 = 1) fun s => s.put (pgSpm h e.1) F.SPM_STATUS_BUSY 1
  let s := s.put (pgDmc h 0) F.DMC_STATUS_SR 1
  s.put (pgDmc h 1) F.DMC_STATUS_SR 1

/-- Is the half in reset or Parked (R394), or its reset requested? -/
def State.inReset (s : State) (h : Half) : Bool :=
  s.halfState h = hsParked || (s.hs h).stage = .stopping || (s.hs h).stage = .reset || (s.hs h).stage = .held

/-- A half reset is requested (R388 steps 1 and 3): recorded in RST_CAUSE with one event, and merged into one already running
(R394). The pair agent stops, a trusted restart is abandoned (R231), and the half runs on until its notice has reached the Plinth (R189). -/
def State.halfResetReq (s : State) (h : Half) (cause : Nat) : State :=
  if s.inReset h then s
  else
    let s := s.incSat (pgRstH h) F.RST_CAUSE_HALF_RESETS
    let s := s.put (pgRstH h) F.RST_CAUSE_CAUSE cause
    let s := s.event (srcOf (halfPg h 0xFF1)) 0x0070 (b1 cause) (trig := cause ≠ 6 && cause ≠ 7 && cause ≠ 8)
    s.setHs h { s.hs h with stage := .stopping, restart := 0 }

/-- A half-reset notice reaches the Plinth (R189, R190). -/
def State.resetNoticed (s : State) (h : Half) : State :=
  if s.halfState h = hsLost || s.halfState h = hsParked || s.halfState h = hsDown then s else s.declareLost h 2

/-! ## Apply (R47, R225) -/

/-- Bytes of the eight measurement registers. -/
def State.mrBytes (s : State) (h : Half) (m : Nat) : List Byte :=
  (upTo 12).flatMap fun w => b4 (s.reg (pgWld h) (0x100 + 0x40 * m + 4 * w)).toNat

/-- MR := SHA-384(MR ‖ D) (R225). -/
def State.mrExtend (s : State) (h : Half) (m : Nat) (d : List Byte) : State :=
  let v := (Config.sha384 (s.mrBytes h m ++ d) ++ List.replicate 48 0).take 48
  s.each (upTo 12) fun w s => s.setReg (pgWld h) (0x100 + 0x40 * m + 4 * w) (BitVec.ofNat 32 (leNat ((v.drop (4 * w)).take 4)))

/-- MR3 is extended by the new WLD_DBG (R225). -/
def State.dbgMeasure (s : State) (h : Half) : State :=
  s.mrExtend h 3 ((b4 (s.reg (pgWld h) 0x30).toNat ++ List.replicate 48 0).take 48)

/-- Outside life-cycle state Provisioned the Trusted debug enables are cleared, and a change of them is measured (R225, R228). -/
def State.dbgRefresh (s : State) : State :=
  s.each [Half.A, Half.B] fun h s =>
    let p := pgWld h
    if s.get pgLcs F.LCS_STATUS_STATE = 1 || !(s.flag p F.WLD_DBG_TRU_NINV || s.flag p F.WLD_DBG_TRU_INV) then s
    else ((s.put p F.WLD_DBG_TRU_NINV 0).put p F.WLD_DBG_TRU_INV 0).dbgMeasure h

/-- The manifest of a slot: its first 8 KB (R33). -/
def State.manifest (s : State) (slot : Nat) : List Byte := s.mramBytes (slotBase slot) 0x2000

/-- SHA-384 of a slot's manifest. -/
def State.manifestHash (s : State) (slot : Nat) : List Byte := Config.sha384 (s.manifest slot)

/-- The slot that ARM_ACTIVE shows for a die changes; MIXED shows whether the dies differ. -/
def State.setSlot (s : State) (d : Die) (slot : Nat) : State :=
  let s := s.put pgArm (match d with
    | .A => F.ARM_ACTIVE_A_SLOT
    | .B => F.ARM_ACTIVE_B_SLOT
    | .P => F.ARM_ACTIVE_PLINTH_SLOT) slot
  s.put pgArm F.ARM_ACTIVE_MIXED (if s.slotOf .A = s.slotOf .B && s.slotOf .B = s.slotOf .P then 0 else 1)

/-- A half's class A fields take the values of a slot (R47, R74, R200, R264). -/
def State.applyHalf (s : State) (h : Half) (slot : Nat) : State :=
  let d := Half.die h
  let s := s.setSlot d slot
  let s := s.applyImage d (s.slotCells slot)
  let s := s.each (upTo 8) fun n s => s.put (pgCmp h n) F.CMP_OUT_DMODE (s.get (pgScn n) F.SCN_CFG_DMODE)
  let s := s.each (upTo 64) fun i s => s.put (pgInst h i) F.INST_STATE_FACE (s.get (pgInst h i) F.INST_CFG_FACE0)
  let s := s.setHs h { s.hs h with dram := { (s.hs h).dram with
    classMap := (upTo 18).foldl (fun t r => tblSet (fun _ => 0) t r (s.secNat slot 4 ((if h = .A then 0 else 0x2820) + r) 1)) [] } }
  let mask := s.regionMask h
  let o := Half.other h
  let src := if s.inService o then mask - (mask &&& s.get (pgTwn o) F.TWN_MIR_SRC_SRC)
    else mask &&& (Config.imageMirror (s.slotCells slot) (Die.num d)).toNat
  s.put (pgTwn h) F.TWN_MIR_SRC_SRC src

/-! ## The course of a REARM (R57, R59) -/

/-- The ports that a step of a REARM hands to `target` (R57 steps 2, 5 and 7): none stopped in T4 (R205). -/
def State.rearmPorts (s : State) (a : Rearm) : List Nat :=
  let second := Half.other a.first
  let live := (upTo 8).filter fun p => !(s.port p).t4Stop
  if a.step = 2 then live.filter fun p => s.ownerOf p = some a.first
  else if a.step = 4 then live.filter fun p => s.ownerOf p = some second
  else if a.step = 7 then live.filter fun p => s.ownerOf p = some a.first && s.home p = second
  else []

/-- Go on with a REARM as far as it can go without waiting: after step 2 the first half is reset, after step 5 the second,
and after step 7 the Plinth switch is due. A stop noted while handovers ran takes effect once they have ended. -/
def State.rearmGo (s : State) : State :=
  match s.rearm with
  | none => s
  | some a =>
    let own : Bool := match s.hoRun with
      | none => false
      | some r => r.source = .rearm
    match a.stop with
      | some code => if own then s else s.rearmStop code
      | none =>
        if s.hoRun.isSome || !(s.rearmPorts a).isEmpty then s
        else if a.step = 2 then
          ({ s with rearm := some { a with step := 3 } }).halfResetReq a.first 8
        else if a.step = 4 && s.halfState a.first = hsReady then
          ({ s with rearm := some { a with step := 6 } }).halfResetReq (Half.other a.first) 8
        else if a.step = 7 && s.halfState (Half.other a.first) = hsReady then
          { s with rearm := some { a with step := 8 } }
        else s

/-- The items with no boundary of their own: ports whose generator does not run, sources that do not scan, an audio engine that does not run. They
take the sections at once. -/
def State.plinthIdle (s : State) : List Nat :=
  plinthItems.filter fun i =>
    if i < 8 then !((s.port i).run) else if i < 17 then !((s.src (i - 8)).run) else s.pdomain 19 ≠ 2 || 4 ≤ s.tier

/-- An item takes the sections of the target slot where the Plinth switch waits for it (R57 step 8); once all have, the Plinth runs from that slot,
MIXED is 0, and the REARM completes. -/
def State.plinthTake (s : State) (items : List Nat) : State :=
  match s.rearm with
  | none => s
  | some a =>
    let new := ((items ++ s.plinthIdle).filter fun i => !(a.taken.contains i)).eraseDups
    if !a.switching || new.isEmpty then s
    else
      let taken := a.taken ++ new
      let s := s.each new fun i s => s.takeSections a.slot i
      let s := { s with rearm := some { a with taken := taken } }
      let s := s.each new fun i s => if i < 8 then s.laneRefresh i else s
      if plinthItems.any fun i => !(taken.contains i) then s
      else
        let rest (pg : Pg) : Bool := plinthItems.all fun i => !(itemPage i pg)
        let s := (s.setSlot .P a.slot).applyPages .P rest (s.slotCells a.slot)
        (({ s with rearm := none }).armEnd (.half a.source) 0)

/-- After the Plinth applied a slot to a half: the step of a REARM that waited for it is over. -/
def State.rearmApplied (s : State) (h : Half) : State :=
  match s.rearm with
  | none => s
  | some a =>
    if a.step = 3 && a.first = h then { s with rearm := some { a with step := 4 } }
    else if a.step = 6 && a.first ≠ h then { s with rearm := some { a with step := 7 } }
    else s

/-- The slot that a half applies: ARM_ACTIVE, or the target of a REARM that reset it (R47). -/
def State.applySlot (s : State) (h : Half) : Nat :=
  match s.rearm with
  | none => s.slotOf (Half.die h)
  | some a =>
    if (a.step = 3 && a.first = h) || (a.step = 6 && a.first ≠ h) then a.slot else s.slotOf (Half.die h)

/-- A half becomes Ready (R198): the pair supervisor shows it, and a REARM that waited goes on. -/
def State.becomeReady (s : State) (h : Half) : State := (s.setHalfState h hsReady .halfReady).rearmGo

/-! ## Sync of the mirror regions (R198, R199) -/

/-- TWN_STATUS.SYNC: the half has no dirty granule, the link is up and the other half is Ready. -/
def State.syncShow (s : State) (h : Half) : State :=
  s.put (pgTwn h) F.TWN_STATUS_SYNC
    (if (s.hs h).dirty.isEmpty && s.flag (pgTwn h) F.TWN_STATUS_LINK && s.halfState (Half.other h) = hsReady then 1 else 0)

/-- Both dirty maps are empty and both queues acknowledged. -/
def State.inSync (s : State) : Bool :=
  (s.hs .A).dirty.isEmpty && (s.hs .B).dirty.isEmpty && (s.hs .A).mirQ.isEmpty && (s.hs .B).mirQ.isEmpty

/-- A Starting half whose catch-up runs becomes Syncing; a Starting or Syncing half becomes Ready once all is in sync (R198). -/
def State.syncCheckOne (s : State) (h : Half) : State :=
  let st := s.halfState h
  if st ≠ hsStarting && st ≠ hsSyncing then s
  else if s.inSync && s.flag (pgTwn h) F.TWN_STATUS_LINK then s.becomeReady h
  else if st = hsStarting && ((s.hs .A).copying.isSome || (s.hs .B).copying.isSome) then s.setHalfState h hsSyncing
  else s

def State.syncCheck (s : State) : State := (((s.syncCheckOne .A).syncCheckOne .B).syncShow .A).syncShow .B

/-! ## The notice of a half reset, and park -/

/-- The notice of a half reset reaches the Plinth (R189, R190): the half is declared Lost, and after that its pipes and the rest of it stop. -/
def State.halfNotice (s : State) (h : Half) : State :=
  if (s.hs h).stage = .stopping then ((s.resetNoticed h).halfClear h).syncCheck else s

/-- A half is parked (R405, R408, R462): half reset with cause park, held, its domains off, Parked. A scratchpad that is to be cleared before it powers off is
cleared first (R255): its domain is Shutting till then. -/
def State.parkHalf (s : State) (h : Half) : State :=
  let s := (s.halfResetReq h 6).halfNotice h
  let s := s.setHs h { s.hs h with hold := true }
  let clears (n : Nat) : Bool := s.domain h (26 + n) ≠ 0 && s.get (pgSpm h n) F.SPM_STATUS_STATE ≠ 0 && s.flag (pgSpm h n) F.SPM_CFG_CLR_OFF
  let clearing := (upTo 4).filter clears
  let s := s.each (upTo 31) fun d s => s.setDomain h d (if clearing.any fun n => d = 26 + n then 4 else 0)
  let s := s.each (upTo 4) fun n s =>
    let s := s.put (pgSpm h n) F.SPM_STATUS_STATE (if clearing.contains n then 4 else 0)
    (s.put (pgSpm h n) F.SPM_STATUS_BUSY 0).setSpmU h n { s.spmU h n with march := none }
  let s := (s.setHalfState h hsParked).mirrorSurvivor h
  { s with shed := none }.syncCheck

/-! ## Slots as ARM_SLOT shows them -/

def ssUnchecked : Nat := 0
def ssValid : Nat := 1
def ssInvalid : Nat := 2
def ssWriting : Nat := 3
def ssEmpty : Nat := 4

def State.slotState (s : State) (k : Nat) : Nat := s.get pgArm (F.ARM_SLOT_STATE.at (4 * k))
def State.setSlotState (s : State) (k v : Nat) : State := s.put pgArm (F.ARM_SLOT_STATE.at (4 * k)) v
def State.slotGen (s : State) (k : Nat) : Nat := s.get pgArm (F.ARM_SLOT_GEN.at (4 * k))
def State.setSlotGen (s : State) (k v : Nat) : State := s.put pgArm (F.ARM_SLOT_GEN.at (4 * k)) v

end Sys2Proof.Machine
end

