-- ==== Sys2Proof/Machine/Raster.lean ====
section
/-! DEFINITION. The raster engine (R156 to R183): rings and jobs, translation and faults, the stores on their way to DRAM, shader groups and what
their storage holds, arbitration, the compositor context, sparse textures, and the tiers. -/

namespace Sys2Proof.Machine

def rsIdle : Nat := 0
def rsWaiting : Nat := 1
def rsHolding : Nat := 2
def rsBlocked : Nat := 3
def rsSuspended : Nat := 4
def rsTierStopped : Nat := 5
def rsFaulted : Nat := 6

def jtGraphics : Nat := 1
def jtCompute : Nat := 2
def jtFence : Nat := 3
def jtWait : Nat := 4

/-! ## Resources (R156), in bytes -/

/-- Registers of a shader core and the share reserved to the compositor context. -/
def regFile : Nat := 0x20000
def regReserve : Nat := 0x4000
def coresPerGroup : Nat := 8
/-- Lanes of a shader core, which are the invocations of a subgroup. -/
def lanes : Nat := 32
/-- Columns and rows of a tile. -/
def tileSize : Nat := 32
def tileMemory : Nat := 0x200000
def tileReserve : Nat := 0x40000
def rasterL2Lines : Nat := 0x10000
def workgroupMax : Nat := 0x10000
def invocationsMax : Nat := 1024
def targetMax : Nat := 16384
def attachmentsMax : Nat := 8

/-- The subgroups of a workgroup, one for each 32 lanes of a core. -/
def RasterNeeds.subgroups (n : RasterNeeds) : Nat := (n.invocations + lanes - 1) / lanes

/-- The register bytes of a workgroup on its core: its subgroups are there together (log entry 136). -/
def RasterNeeds.coreRegs (n : RasterNeeds) : Nat := n.regs * n.subgroups

/-- The tiles of a render target. -/
def RasterNeeds.tiles (n : RasterNeeds) : Nat := ((n.width + tileSize - 1) / tileSize) * ((n.height + tileSize - 1) / tileSize)

/-- Do the needs of a command list lie within the limits of R156? -/
def RasterNeeds.fits (n : RasterNeeds) : Bool :=
  n.coreRegs ≤ regFile - regReserve && n.wmem ≤ workgroupMax && n.invocations ≤ invocationsMax && n.width ≤ targetMax &&
  n.height ≤ targetMax && n.tiles ≤ (targetMax / tileSize) ^ 2 && n.attachments ≤ attachmentsMax

/-! ## Contexts -/

/-- The state of a context (RCX_STATUS.STATE). -/
def State.rs (s : State) (h : Half) (c : Nat) : Nat := s.get (pgRcx h c) F.RCX_STATUS_STATE
def State.setRs (s : State) (h : Half) (c v : Nat) : State := s.put (pgRcx h c) F.RCX_STATUS_STATE v

def State.rHead (s : State) (h : Half) (c : Nat) : Nat := s.get (pgRcx h c) F.RCX_HEAD_COUNT
def State.rTail (s : State) (h : Half) (c : Nat) : Nat := s.get (pgRcx h c) F.RCX_TAIL_COUNT

/-- Ring entries: 2^n with n of RING_HI.LOG2, where 0 means 16 (R158). -/
def State.ringLog (s : State) (h : Half) (c : Nat) : Nat :=
  let n := s.get (pgRcx h c) F.RCX_RING_HI_LOG2
  if n = 0 then 16 else n

/-- May the context run in the tier that the front end last received (R182)? -/
def State.rAllowed (s : State) (h : Half) (c : Nat) : Bool :=
  (s.get (pgRcx h c) F.RCX_CFG_TIERMASK).testBit (s.get (pgGfe h) F.GFE_LAT_TIER)

def State.isAsync (s : State) (h : Half) (c : Nat) : Bool := s.get (pgRcx h c) F.RCX_CFG_KIND = 1

/-- The priority in force (R165, R166). -/
def State.prio (s : State) (h : Half) (c : Nat) : Nat := (s.ctx h c).prioHeld.getD (s.get (pgRcx h c) F.RCX_PRIO_PRIO)

/-- The tag of a context's accesses (R162): the Partition that holds its page and the world of RCX_CFG. -/
def State.rTag (s : State) (h : Half) (c : Nat) : Tag :=
  ⟨worldOf (s.flag (pgRcx h c) F.RCX_CFG_WORLD), (s.grantee h (pgRcx h c)).getD noPart, false, false⟩

/-- The job of a context, where it is a GRAPHICS or COMPUTE job. -/
def State.drawing (s : State) (h : Half) (c : Nat) : Bool :=
  match (s.ctx h c).job with
  | none => false
  | some j => j.typ ≤ 2

/-- Is the context executing a GRAPHICS or COMPUTE job, neither paused nor at the save of its tile memory? -/
def State.executing (s : State) (h : Half) (c : Nat) : Bool :=
  s.rs h c = rsHolding && !((s.ctx h c).paused) && (s.ctx h c).saving.isNone && s.drawing h c

/-! ## Translation (R162) -/

/-- The outcome of a translation or an access: the physical address, or the cause of RCX_STATUS with the block that a region controller
refused. -/
inductive RWalk where
  | at (pa : Nat)
  | fault (cause : Nat) (refused : Option Nat)
  deriving DecidableEq, Repr

/-- The R, W or X bit of an Sv48 entry that a kind of access needs. -/
def AccKind.pteBit : AccKind → Nat
  | .read => 1
  | .write => 2
  | .fetch => 3
  | .mirror => 2

/-- Is an Sv48 entry one that the format of the cores reserves (R162, R207): bits 60 to 54 or 62 and 61 of Svpbmt both set, W without R, and a
Svnapot entry that is no 64 KB leaf? -/
def pteReserved (e n : Nat) : Bool :=
  let leaf := e / 2 % 8 ≠ 0
  e / 2 ^ 54 % 128 ≠ 0 || e / 2 ^ 61 % 4 = 3 || (e.testBit 2 && !(e.testBit 1)) ||
  (e.testBit 63 && (!leaf || n ≠ 0 || e / 1024 % 16 ≠ 8)) || (!leaf && (e / 64 % 4 ≠ 0 || e.testBit 4 || e / 2 ^ 61 % 4 ≠ 0))

/-- The Sv48 walk: `n` levels left below the table at the intermediate address `table`. A leaf needs its permission bit, A, and D for a write; U
is not looked at (log entry 93). A table entry that a region controller refuses reads as zero, which is no valid entry, and the refusal is one (R215). -/
def State.sv48 (s : State) (h : Half) (t : Tag) (k : AccKind) (va : Nat) : Nat → Nat → RWalk
  | 0, _ => .fault 1 none
  | n + 1, table =>
    match Config.stage2 t.part (table + 8 * (va / 2 ^ (12 + 9 * n) % 512)) with
    | none => .fault 1 none
    | some pa =>
      let e := s.natAt h t pa 8
      let ppn := e / 1024 % 2 ^ 44
      if !(s.admitBlock h t .read (pa / 64 * 64)) then .fault 1 (some (pa / 64 * 64))
      else if !(e.testBit 0) || pteReserved e n then .fault 1 none
      else if e / 2 % 8 = 0 then s.sv48 h t k va n (ppn * 4096)
      else if !(e.testBit (AccKind.pteBit k)) || !(e.testBit 6) || (k = .write && !(e.testBit 7)) then .fault 1 none
      else if e.testBit 63 then .at (ppn / 16 * 65536 + va % 65536)
      else if ppn % 2 ^ (9 * n) = 0 then .at (ppn * 4096 + va % 2 ^ (12 + 9 * n))
      else .fault 1 none

/-- An Sv48 address repeats bit 47 above it. -/
def canonical (va : Nat) : Bool := va < 2 ^ 47 || (2 ^ 64 - 2 ^ 47 ≤ va && va < 2 ^ 64)

/-- An address after the first stage: the second-stage table of the Partition, then the region controller. -/
def State.rIpa (s : State) (h : Half) (c : Nat) (k : AccKind) (ipa : Nat) : RWalk :=
  match Config.stage2 (s.rTag h c).part ipa with
  | none => .fault 1 none
  | some pa => if s.admitBlock h (s.rTag h c) k (pa / 64 * 64) then .at pa else .fault 2 (some (pa / 64 * 64))

/-- A context address through both stages, then the region controller (R162). -/
def State.rWalk (s : State) (h : Half) (c : Nat) (k : AccKind) (va : Nat) : RWalk :=
  if !(canonical va) then .fault 1 none
  else match s.sv48 h (s.rTag h c) k (va % 2 ^ 48) 4 (s.get (pgRcx h c) F.RCX_PT_PAGE * 4096) with
    | .fault x r => .fault x r
    | .at ipa => s.rIpa h c k ipa

/-- RCX_FAULT records the first failing access; the context faults at its next pre-emption point (R162). A refused block is counted
(R215): that of the access, or that of the page table which the walk read. -/
def State.rFault (s : State) (h : Half) (c : Nat) (k : AccKind) (va cause : Nat) (refused : Option Nat) : State :=
  let s := match refused with
    | none => s
    | some b => s.refuse h (s.rTag h c) (if cause = 1 then .read else k) b
  if (s.ctx h c).fault.isSome then s
  else
    let s := s.setCtx h c { s.ctx h c with fault := some cause }
    s.put (pgRcx h c) F.RCX_FAULT_ADDR (va / 4096)

/-! ## The raster L2 and the L1 caches (R160, R169, R173) -/

/-- The index of the line of an address among those of a world. -/
def State.rl2Find (s : State) (h : Half) (trusted : Bool) (pa : Nat) : Option Nat :=
  (s.hs h).rl2.findIdx? fun l => l.trusted = trusted && l.addr = pa / 64 * 64

/-- Lines that a world has in the raster L2: the image allots its ways (R173). -/
def State.rl2Limit (s : State) (h : Half) (trusted : Bool) : Nat :=
  let t := min rasterL2Lines (Config.rasterTrustedLines (Die.num (Half.die h)) (s.image (Half.die h)))
  if trusted then t else rasterL2Lines - t

/-- The runs of neighbouring bytes of a sorted list. -/
def cellRuns : List Host.Cell → List (Nat × List Byte)
  | [] => []
  | (a, b) :: rest => match cellRuns rest with
    | (a', bs) :: r => if a' = a + 1 then (a, b :: bs) :: r else (a, [b]) :: (a', bs) :: r
    | [] => [(a, [b])]

/-- Must the write-back of a line wait for room in the twin-link queue (R197)? -/
def State.rl2Stuck (s : State) (h : Half) (l : RLine) : Bool := (cellRuns l.dirty).any fun r => s.mirFull h r.1 r.2.length

/-- Bytes of contexts reach DRAM through the region controller (R173); what lies in a mirror region is remembered for their next FENCE (R160). -/
def State.rOut (s : State) (h : Half) (t : Tag) (writers : List Nat) (a : Nat) (bs : List Byte) : State :=
  let s := s.writeAt h t a bs
  if (s.mirrorOf h a).isNone then s
  else s.each writers fun c s => s.setCtx h c { s.ctx h c with mfence := (s.hs h).mirSent }

/-- A line is written back and leaves the L2. -/
def State.rl2Evict (s : State) (h : Half) (i : Nat) : State :=
  match (s.hs h).rl2[i]? with
  | none => s
  | some l =>
    let s := s.setHs h { s.hs h with rl2 := (s.hs h).rl2.eraseIdx i }
    s.each (cellRuns l.dirty) fun r s => s.rOut h ⟨worldOf l.trusted, l.part, false, false⟩ l.writers r.1 r.2

/-- The lines of a world that may leave now. -/
def State.rl2Victims (s : State) (h : Half) (trusted : Bool) : List Nat :=
  (upTo (s.hs h).rl2.length).filter fun i => match (s.hs h).rl2[i]? with
    | none => false
    | some l => l.trusted = trusted && !(s.rl2Stuck h l)

/-- The line of an address enters the L2 where the ways of its world have room; otherwise a line that the manual leaves open makes room (a free
value, log entry 94). -/
def State.rl2Fill (s : State) (h : Half) (c pa : Nat) : State :=
  let trusted := (s.rTag h c).world = .trusted
  if (s.rl2Find h trusted pa).isSome || s.rl2Limit h trusted = 0 then s
  else
    let s := if ((s.hs h).rl2.countP fun l => l.trusted = trusted) < s.rl2Limit h trusted then s
      else
        let v := s.rl2Victims h trusted
        match v[s.takeFree.1 % v.length]? with
        | none => s
        | some i => s.takeFree.2.rl2Evict h i
    if ((s.hs h).rl2.countP fun l => l.trusted = trusted) < s.rl2Limit h trusted then
      s.setHs h { s.hs h with rl2 := (s.hs h).rl2 ++ [{ addr := pa / 64 * 64, trusted := trusted, part := (s.rTag h c).part }] }
    else s

/-- A line that holds bytes of another Partition is written back under that Partition before a store of this one enters it, so that each write-back
passes the region check of its own (R173). -/
def State.rl2Part (s : State) (h : Half) (c pa : Nat) : State :=
  match s.rl2Find h ((s.rTag h c).world = .trusted) pa with
  | none => s
  | some i => match (s.hs h).rl2[i]? with
    | none => s
    | some l => if l.part = (s.rTag h c).part || s.rl2Stuck h l then s else s.rl2Evict h i

/-- A store waits in the L1 caches. -/
def State.storeWait (s : State) (h : Half) (c : Nat) (st : Nat × List Byte) : State :=
  s.setCtx h c { s.ctx h c with stores := (s.ctx h c).stores ++ [st] }

/-- A store within one block leaves the L1 caches: into its L2 line, or to DRAM where the L2 has no line for it; it waits where the twin-link
queue has no room (R197). -/
def State.storeOut (s : State) (h : Half) (c : Nat) (st : Nat × List Byte) : State :=
  let s := (s.rl2Part h c st.1).rl2Fill h c st.1
  match s.rl2Find h ((s.rTag h c).world = .trusted) st.1 with
  | some i =>
    if ((s.hs h).rl2[i]?).any fun l => l.part ≠ (s.rTag h c).part then s.storeWait h c st
    else s.setHs h { s.hs h with rl2 := (s.hs h).rl2.modify i fun l =>
      { l with writers := if l.writers.contains c then l.writers else c :: l.writers,
               dirty := (st.2.foldl (fun (p : Nat × List Host.Cell) b => (p.1 + 1, tblInsert p.1 b p.2)) (st.1, l.dirty)).2 } }
  | none =>
    if s.mirFull h st.1 st.2.length then s.storeWait h c st
    else s.rOut h (s.rTag h c) [c] st.1 st.2

/-- The L1 caches of the cores that a context runs on are written back. -/
def State.l1Out (s : State) (h : Half) (c : Nat) : State :=
  let sts := (s.ctx h c).stores
  (s.setCtx h c { s.ctx h c with stores := [] }).each sts fun st s => s.storeOut h c st

/-- The lines with bytes of a context are written back, those that may leave now. -/
def State.l2Out (s : State) (h : Half) (c : Nat) : State :=
  s.each ((upTo (s.hs h).rl2.length).reverse) fun i s => match (s.hs h).rl2[i]? with
    | none => s
    | some l => if l.writers.contains c && !(s.rl2Stuck h l) then s.rl2Evict h i else s

/-- Has every write of a context reached DRAM? -/
def State.writesOut (s : State) (h : Half) (c : Nat) : Bool := (s.ctx h c).stores.isEmpty && !((s.hs h).rl2.any fun l => l.writers.contains c)

/-- Has every write of a context reached DRAM, and the other half acknowledged those in mirror regions (R160)? -/
def State.writesDone (s : State) (h : Half) (c : Nat) : Bool := s.writesOut h c && (s.ctx h c).mfence ≤ (s.hs h).mirDone

/-! ## Accesses -/

/-- A byte as a context sees it: its own stores, then what its world wrote into the L2, then memory. Lines that were only read agree with memory
(log entry 94). -/
def State.rByte (s : State) (h : Half) (c : Nat) (k : AccKind) (pa : Nat) : Byte :=
  let l2 := match (s.rl2Find h ((s.rTag h c).world = .trusted) pa).bind fun i => (s.hs h).rl2[i]? with
    | none => none
    | some l => tblFind pa l.dirty
  let own := ((s.ctx h c).stores.reverse.find? fun st => st.1 ≤ pa && pa < st.1 + st.2.length).map fun st => st.2.getD (pa - st.1) 0
  match own, l2 with
  | some b, _ => b
  | none, some b => b
  | none, none => s.byteAt h (s.rTag h c) k pa

/-- `n` bytes at an address through a translation, byte by byte; zeros where it fails. -/
def State.rBytesBy (s : State) (h : Half) (c : Nat) (k : AccKind) (walk : Nat → RWalk) (a n : Nat) : List Byte :=
  (upTo n).map fun i => match walk (a + i) with
    | .at pa => s.rByte h c k pa
    | .fault _ _ => 0

/-- A result of a step joins those of the job. -/
def State.rResult (s : State) (h : Half) (c : Nat) (bs : List Byte) : State :=
  s.setCtx h c { s.ctx h c with results := (s.ctx h c).results ++ [bs] }

/-- The value of `n` bytes at a context address; zeros where the translation fails. -/
def State.rRead (s : State) (h : Half) (c va n : Nat) : Nat := leNat (s.rBytesBy h c .read (s.rWalk h c .read) va n)

/-- The engine reads `n` bytes at an address through a translation: the lines enter the L2, and each block that fails is a fault of the context
(R162). -/
def State.rTouchBy (s : State) (h : Half) (c : Nat) (k : AccKind) (walk : Nat → State → RWalk) (a n : Nat) : State :=
  s.each (blocksOf a n) fun b s => match walk (max a b) s with
    | .at pa => s.rl2Fill h c pa
    | .fault x r => s.rFault h c k (max a b) x r

/-- The engine reads at a context address. -/
def State.rTouch (s : State) (h : Half) (c : Nat) (k : AccKind) (va n : Nat) : State := s.rTouchBy h c k (fun a s => s.rWalk h c k a) va n

/-- The pages that hold `n` bytes of a program at a context address. -/
def State.progPages (s : State) (h : Half) (c va n : Nat) : List Nat :=
  (blocksOf va n).filterMap fun b => match s.rWalk h c .fetch (max va b) with
    | .at pa => some (pa / 4096)
    | .fault _ _ => none

/-- Pages that hold a program bound to a running job (R179). -/
def State.boundPages (s : State) (h : Half) : List Nat := (s.hs h).ctx.flatMap fun e => e.2.progs

/-- A store of a context, block by block: a block is dropped where its translation, its region or a bound program refuses it (R162, R179). It
stays in the L1 caches for now. -/
def State.rStoreBy (s : State) (h : Half) (c : Nat) (walk : Nat → State → RWalk) (a : Nat) (bs : List Byte) : State :=
  s.each (blocksOf a bs.length) fun b s =>
    let part := blockPart a bs b
    match walk part.1 s with
    | .fault x r => s.rFault h c .write part.1 x r
    | .at pa =>
      if (s.boundPages h).contains (pa / 4096) then s.rFault h c .write part.1 4 none
      else s.storeWait h c (pa, part.2)

/-- A store at a context address. -/
def State.rWrite (s : State) (h : Half) (c va : Nat) (bs : List Byte) : State := s.rStoreBy h c (fun a s => s.rWalk h c .write a) va bs

/-- A store of the engine to the save area or the miss ring, whose address RCX_SAVE and RCX_MISS give before the second stage. -/
def State.rWriteIpa (s : State) (h : Half) (c a : Nat) (bs : List Byte) : State := s.rStoreBy h c (fun a s => s.rIpa h c .write a) a bs

/-! ## Jobs (R158 to R161) -/

/-- The descriptor at a context address (R159). -/
def State.jobAt (s : State) (h : Half) (c va : Nat) : Job :=
  { typ := s.rRead h c va 1, flags := s.rRead h c (va + 1) 1, addr := s.rRead h c (va + 8) 8,
    len := s.rRead h c (va + 0x10) 4, value := s.rRead h c (va + 0x18) 8 }

/-- The ring entry of count `n` (R158). -/
def State.ringVa (s : State) (h : Half) (c n : Nat) : Nat :=
  s.get (pgRcx h c) F.RCX_RING_HI_ADDR * 2 ^ 32 + s.get (pgRcx h c) F.RCX_RING_LO_ADDR * 4096 + 64 * (n % 2 ^ s.ringLog h c)

/-- A reserved encoding in a descriptor (R159, R163): TYPE, or a reserved byte or bit that is not zero. -/
def State.jobBad (s : State) (h : Half) (c va : Nat) : Bool :=
  let j := s.jobAt h c va
  !(1 ≤ j.typ && j.typ ≤ 4) || 2 ≤ j.flags || s.rRead h c (va + 2) 6 ≠ 0 || s.rRead h c (va + 0x14) 4 ≠ 0 ||
  s.rRead h c (va + 0x20) 32 ≠ 0 || (3 ≤ j.typ && (j.addr % 8 ≠ 0 || j.len ≠ 0))

/-- A Waiting context that takes its next descriptor at an arbitration. -/
def State.takesJob (s : State) (h : Half) (c : Nat) : Bool :=
  s.rs h c = rsWaiting && (s.ctx h c).job.isNone && s.rHead h c ≠ s.rTail h c && s.rAllowed h c

/-! ## Shader groups (R156, R164, R171, R172) -/

def State.shGroup (s : State) (h : Half) (g : Nat) : ShaderGroup := tblGet (fun _ => {}) (s.hs h).groups g
def State.setShGroup (s : State) (h : Half) (g : Nat) (v : ShaderGroup) : State :=
  s.setHs h { s.hs h with groups := tblSet (fun _ => {}) (s.hs h).groups g v }

/-- The shader groups that a context holds. -/
def State.groupsOf (s : State) (h : Half) (c : Nat) : List Nat := (upTo 4).filter fun g => (s.shGroup h g).holder = c + 1

/-- The shader groups on whose cores an Async context has a workgroup. -/
def State.asyncOf (s : State) (h : Half) (c : Nat) : List Nat := (upTo 4).filter fun g => (s.shGroup h g).async.contains c

/-- Is the domain of a shader group On (R398)? -/
def State.groupOn (s : State) (h : Half) (g : Nat) : Bool := s.domain h (12 + g) = 2

/-- The shader groups that no context holds. -/
def State.freeGroups (s : State) (h : Half) : List Nat := (upTo 4).filter fun g => (s.shGroup h g).holder = 0 && s.groupOn h g

/-- Does the context run on the group: as its holder, with a workgroup there, or as the compositor? -/
def State.runsOn (s : State) (h : Half) (c g : Nat) : Bool :=
  (s.shGroup h g).holder = c + 1 || (s.shGroup h g).async.contains c || (c = 0 && (s.hs h).compositor = 2)

/-- The context leaves one group. -/
def State.groupLeave (s : State) (h : Half) (c g : Nat) : State :=
  s.setShGroup h g ((s.shGroup h g).without c)

/-- The context gives back its shader groups. -/
def State.groupsDrop (s : State) (h : Half) (c : Nat) : State := s.each (upTo 4) fun g s => s.groupLeave h c g

/-- Does what is left in a group belong to the Partition and world of a context? -/
def State.ownsMem (s : State) (h : Half) (c : Nat) (m : GroupMem) : Bool :=
  m.part = (s.rTag h c).part && m.trusted = ((s.rTag h c).world = .trusted)

/-- The contexts on a group: its Async workgroups and its holder. -/
def ShaderGroup.on (u : ShaderGroup) : List Nat := u.async ++ (if u.holder = 0 then [] else [u.holder - 1])

/-- The group passes to a context (R172): registers, workgroup memory, L1 caches and tile memory outside the reserve are cleared of everything but
what belongs to the context's Partition and world, and of what contexts that stay on the group hold there. -/
def State.groupPass (s : State) (h : Half) (c g : Nat) : State :=
  let u := s.shGroup h g
  s.setShGroup h g { u with mem := u.mem.filter fun m => s.ownsMem h c m || u.on.contains m.ctx }

/-- What a step leaves in the storage of the group it ran on, within the sizes of R156: the reserve for the compositor context (R170), else the
share of the context beside what the others on the group hold. What a context of the same Partition and world had left is overwritten. -/
def State.groupKeep (s : State) (h : Half) (c g : Nat) (lines : List Nat) (st : RasterStep) : State :=
  let u := s.shGroup h g
  if c = 0 then s.setShGroup h g { u with bank := st.regs.take (coresPerGroup * regReserve), reserve := st.tile.take tileReserve }
  else
    let t := s.rTag h c
    let old := ((u.mem.find? fun m => m.ctx = c).map GroupMem.l1).getD []
    let rest := u.mem.filter fun m => m.ctx ≠ c && u.on.contains m.ctx
    let room (size : Nat) (part : GroupMem → List Byte) : Nat := size - (rest.map fun m => (part m).length).sum
    let m : GroupMem :=
      { ctx := c, part := t.part, trusted := t.world = .trusted, l1 := old ++ lines.filter fun l => !(old.contains l),
        regs := st.regs.take (room (coresPerGroup * (regFile - regReserve)) GroupMem.regs),
        wmem := st.wmem.take (room (coresPerGroup * Config.rasterWorkgroupMemory) GroupMem.wmem),
        tile := st.tile.take (room (tileMemory - tileReserve) GroupMem.tile) }
    s.setShGroup h g { u with mem := m :: rest }

/-- Is there room on a group's cores for a further Async context beside the holder and the others there (R171)? -/
def State.asyncFits (s : State) (h : Half) (cs : List Nat) (g : Nat) : Bool :=
  let u := s.shGroup h g
  let need := (cs ++ u.on).map fun d => Config.rasterNeeds (s.ctx h d).list
  (need.map RasterNeeds.coreRegs).sum ≤ regFile - regReserve && (need.map RasterNeeds.wmem).sum ≤ Config.rasterWorkgroupMemory

/-- The tile memory of a render pass goes to the save area (R167). -/
def State.tileSave (s : State) (h : Half) (c : Nat) : State :=
  let s := s.rWriteIpa h c (s.get (pgRcx h c) F.RCX_SAVE_PAGE * 4096) (s.ctx h c).tile
  s.setCtx h c { s.ctx h c with saving := none }

/-- The tile memory of a render pass comes back from the save area (R167); a read that fails gives zeros and is a fault of the context (R162). -/
def State.tileRestore (s : State) (h : Half) (c : Nat) : State :=
  if !((s.ctx h c).saved) then s
  else
    let a := s.get (pgRcx h c) F.RCX_SAVE_PAGE * 4096
    let n := (s.ctx h c).tile.length
    let bytes := s.rBytesBy h c .read (s.rIpa h c .read) a n
    let s := s.rTouchBy h c .read (fun a s => s.rIpa h c .read a) a n
    s.setCtx h c { s.ctx h c with tile := bytes, saved := false }

/-- The state of a context that stops executing: Suspended, Tier-stopped, Waiting or Idle. -/
def State.rRest (s : State) (h : Half) (c : Nat) : Nat :=
  if (s.ctx h c).suspend then rsSuspended
  else if (s.ctx h c).job.isNone && s.rHead h c = s.rTail h c then rsIdle
  else if !(s.rAllowed h c) then rsTierStopped
  else rsWaiting

/-- A context leaves its shader groups; what it stored leaves the L1 caches. -/
def State.rLeave (s : State) (h : Half) (c : Nat) : State :=
  let s := (s.l1Out h c).groupsDrop h c
  let s := s.setRs h c (s.rRest h c)
  s.setCtx h c { s.ctx h c with suspend := false, prioHeld := none, saved := !((s.ctx h c).tile.isEmpty) }

/-- A context yields one group, or leaves with its last one (R166). -/
def State.rYield (s : State) (h : Half) (c g : Nat) : State :=
  if 4 ≤ g || (s.groupsOf h c ++ s.asyncOf h c).all (· = g) then s.rLeave h c else (s.l1Out h c).groupLeave h c g

/-- A context enters Faulted with a cause; its job is lost (R162, R182). -/
def State.rFaulted (s : State) (h : Half) (c cause : Nat) : State :=
  let s := (s.l1Out h c).groupsDrop h c
  let s := s.put (pgRcx h c) F.RCX_STATUS_CAUSE cause
  let s := s.setRs h c rsFaulted
  s.setCtx h c { stores := (s.ctx h c).stores }

/-- An unpredictable result of a context (R158, R163): R11 confines it to the context and its Partition, and its shader groups are free. -/
def State.rWild (s : State) (h : Half) (c off : Nat) : State := ((s.l1Out h c).groupsDrop h c).unpredictable (pgRcx h c) off

/-- The job of a context completes (R160): RCX_HEAD advances, the interrupt of FLAGS is raised, and the caches of the job go. -/
def State.jobDone (s : State) (h : Half) (c : Nat) : State :=
  match (s.ctx h c).job with
  | none => s
  | some j =>
    let s := s.incMod (pgRcx h c) F.RCX_HEAD_COUNT
    let s := s.whenB (j.flags % 2 = 1) fun s => s.raise (pgRcx h c)
    let s := s.setCtx h c { s.ctx h c with job := none, list := [], results := [], tile := [], misses := [], mapCache := [], progs := [] }
    s.rLeave h c

/-- A context that holds nothing stops in a state; a WAIT job is taken again later. -/
def State.rStopAt (s : State) (h : Half) (c st : Nat) : State :=
  let s := s.setRs h c st
  match (s.ctx h c).job with
  | none => s
  | some j => if j.typ = jtWait then s.setCtx h c { s.ctx h c with job := none } else s

/-! ## Arbitration (R161, R164, R166, R171) -/

/-- A Blocked context reads its WAIT word; at VALUE or above the job completes (R161). -/
def State.waitCheck (s : State) (h : Half) (c : Nat) : State :=
  match (s.ctx h c).job with
  | none => s
  | some j =>
    if s.rs h c ≠ rsBlocked then s
    else match s.rWalk h c .read j.addr with
      | .fault k r => (s.rFault h c .read j.addr k r).rFaulted h c k
      | .at _ => if j.value ≤ s.rRead h c j.addr 8 then s.jobDone h c else s

/-- A Waiting context takes its next job: a FENCE executes, a WAIT blocks, a GRAPHICS or COMPUTE job reads its command list and waits for shader
capacity. A ring of 2^1 to 2^3 entries, a reserved encoding, or needs beyond R156 make the result unpredictable (R158, R163). -/
def State.takeJob (s : State) (h : Half) (c : Nat) : State :=
  if !(s.takesJob h c) then s
  else if s.ringLog h c < 4 then s.rWild h c 0x14
  else
    let va := s.ringVa h c (s.rHead h c)
    match s.rWalk h c .read va with
    | .fault k r => (s.rFault h c .read va k r).rFaulted h c k
    | .at _ =>
      if s.jobBad h c va then s.rWild h c 0x18
      else
        let j := s.jobAt h c va
        let s := s.setCtx h c { s.ctx h c with job := some j }
        if j.typ = jtFence then s.setRs h c rsHolding
        else if j.typ = jtWait then (s.setRs h c rsBlocked).waitCheck h c
        else
          let list := s.rBytesBy h c .read (s.rWalk h c .read) j.addr j.len
          if !((Config.rasterNeeds list).fits) then s.rWild h c 0x18
          else
            let s := s.rTouch h c .read j.addr j.len
            let progs := (Config.rasterPrograms list).flatMap fun e => s.progPages h c e.1 e.2
            s.setCtx h c { s.ctx h c with list := list, results := [], tile := [], saved := false, progs := progs }

/-- A context that is ready for shader capacity. -/
def State.ready (s : State) (h : Half) (c : Nat) : Bool :=
  s.rs h c = rsWaiting && s.rAllowed h c &&
  (match (s.ctx h c).job with
   | none => false
   | some j => j.typ = jtCompute || (j.typ = jtGraphics && !(s.isAsync h c)))

/-- Where the round-robin of a context's priority stands: Async contexts are ordered among themselves (R171). -/
def State.rrKey (s : State) (h : Half) (c : Nat) : Nat := (if s.isAsync h c then 8 else 0) + s.prio h c

/-- Of the candidates, the one of highest priority; equals round-robin after the one served last at that priority (R164). -/
def State.pickCtx (s : State) (h : Half) (cands : List Nat) : Option Nat :=
  bestBy (fun c =>
    let last := tblGet (fun _ => 63) (s.hs h).rrPrio (s.rrKey h c)
    (7 - s.prio h c) * 64 + (c + 63 - last) % 64) cands

/-- A context has been served at its priority. -/
def State.served (s : State) (h : Half) (c : Nat) : State :=
  s.setHs h { s.hs h with rrPrio := tblSet (fun _ => 63) (s.hs h).rrPrio (s.rrKey h c) c }

/-- A context takes groups as their holder; what it had saved comes back. -/
def State.startOn (s : State) (h : Half) (c : Nat) (groups : List Nat) : State :=
  let s := s.each groups fun g s =>
    let s := s.groupPass h c g
    s.setShGroup h g { s.shGroup h g with holder := c + 1 }
  ((s.tileRestore h c).served h c).setRs h c rsHolding

/-- An Async context's workgroup is dispatched to cores of a group (R171). -/
def State.startAsync (s : State) (h : Half) (c g : Nat) : State :=
  let s := s.groupPass h c g
  let s := s.setShGroup h g { s.shGroup h g with async := (s.shGroup h g).async ++ [c] }
  (s.served h c).setRs h c rsHolding

/-- Ordinary contexts that can use a free group: those that are ready and those that execute already. -/
def State.wantsGroup (s : State) (h : Half) (c : Nat) : Bool :=
  c ≠ 0 && !(s.isAsync h c) && (s.ready h c || s.executing h c)

/-- Async contexts that can use cores of a group. -/
def State.wantsCores (s : State) (h : Half) (g c : Nat) : Bool :=
  c ≠ 0 && s.isAsync h c && (s.ready h c || s.executing h c) && !((s.shGroup h g).async.contains c) && s.asyncFits h [c] g

/-- Free shader groups pass to the first context in descending priority that can use them; on the cores of each group the first Async context that
fits runs in the room that the holder leaves (R164, R171). Nothing starts while the compositor runs. -/
def State.giveGroups (s : State) (h : Half) : State :=
  if (s.hs h).compositor = 2 then s
  else
    let fr := s.freeGroups h
    let s := if fr.isEmpty then s
      else match s.pickCtx h ((upTo 64).filter (s.wantsGroup h)) with
        | none => s
        | some c => s.startOn h c fr
    s.each ((upTo 4).filter (s.groupOn h)) fun g s => match s.pickCtx h ((upTo 64).filter (s.wantsCores h g)) with
      | none => s
      | some c => s.startAsync h c g

/-- The save of a context's tile memory ends, and the group for which it was made passes (R167, R183). -/
def State.saveEnd (s : State) (h : Half) (c : Nat) : State :=
  match (s.ctx h c).saving with
  | none => s
  | some g => (s.tileSave h c).rYield h c g

/-- An arbitration while saves go on: priorities of contexts that hold nothing take effect, WAIT words are read, jobs are taken, a compositor with a
job asks for its pause, and free capacity is given. -/
def State.arbitrateOn (s : State) (h : Half) : State :=
  let s := s.each (upTo 64) fun c s =>
    if s.rs h c = rsWaiting || s.rs h c = rsBlocked then s.setCtx h c { s.ctx h c with prioHeld := none } else s
  let s := s.each (upTo 64) fun c s => s.waitCheck h c
  let s := s.each (upTo 64) fun c s => s.takeJob h c
  let s := s.each (upTo 64) fun c s =>
    if s.rs h c = rsWaiting then s.setRs h c (s.rRest h c) else s
  let s := if s.ready h 0 && (s.hs h).compositor = 0 then s.setHs h { s.hs h with compositor := 1 }
    else if s.ready h 0 && (s.hs h).compositor = 2 then s.setRs h 0 rsHolding
    else s
  s.giveGroups h

/-- One arbitration, by which the saves that were under way have ended. -/
def State.arbitrate (s : State) (h : Half) : State := (s.each (upTo 64) fun c s => s.saveEnd h c).arbitrateOn h

/-- ARBITRATION (R164). -/
def execArbitration (h : Half) (s : State) : Res := .next (s.arbitrate h)

/-- RCX_DOORBELL (R158, R164, R183): a tail more than 2^n ahead of the head is out of range, and so is a ring size outside 2^4 to 2^16. The
arbitration of the doorbell sends a pause request for the compositor context to every shader core (R169), unless the tier stops it. -/
def execRcxDoorbell (rq : Requester) (ctx : Fin 64) (tail : Word) (s : State) : Res :=
  hostWrite rq (pgRcx rq.half ctx) s fun s =>
    let h := rq.half
    let c := ctx.val
    if s.ringLog h c < 4 || 2 ^ s.ringLog h c < (tail.toNat + 2 ^ 32 - s.rHead h c) % 2 ^ 32 then .next (s.rWild h c 0x18)
    else
      let s := s.put (pgRcx h c) F.RCX_TAIL_COUNT tail.toNat
      let s := if s.rs h c = rsIdle then s.setRs h c (s.rRest h c) else s
      .next (s.arbitrate h)

/-! ## The compositor context (R169, R170) -/

/-- A context is paused in place (R169): its registers and tile memory stay, and where it is of the Open world the L1 caches of its cores are
written back and invalidated. -/
def State.pauseCtx (s : State) (h : Half) (c : Nat) : State :=
  let s := s.setCtx h c { s.ctx h c with paused := true }
  if (s.rTag h c).world = .trusted then s
  else (s.l1Out h c).each (upTo 4) fun g s =>
    let u := s.shGroup h g
    s.setShGroup h g { u with mem := u.mem.map fun m => if s.ownsMem h c m then { m with l1 := [] } else m }

/-- COMPOSITOR_START (R169, R183): a save in progress ends, the warps of the other contexts are paused in place, the compositor's warps start in
their reserve, and GFE_LAT keeps the longest time since the doorbell, which the command carries. -/
def execCompositorStart (h : Half) (latencyUs : Nat) (s : State) : Res :=
  if (s.hs h).compositor ≠ 1 || s.rs h 0 ≠ rsWaiting || (s.ctx h 0).job.isNone then .next s
  else
    let s := s.each (upTo 64) fun c s => s.saveEnd h c
    let s := s.each (upTo 64) fun c s => if s.rs h c = rsHolding then s.pauseCtx h c else s
    let s := s.setRs h 0 rsHolding
    let s := s.setHs h { s.hs h with compositor := 2 }
    .next (s.put (pgGfe h) F.GFE_LAT_MAX_US (max (s.get (pgGfe h) F.GFE_LAT_MAX_US) (min 0xFFFF latencyUs)))

/-- Paused warps resume in place. -/
def State.unpause (s : State) (h : Half) : State :=
  let s := s.each (upTo 64) fun c s => if (s.ctx h c).paused then s.setCtx h c { s.ctx h c with paused := false } else s
  s.setHs h { s.hs h with compositor := 0 }

/-- COMPOSITOR_LEAVE (R169): the compositor context has left the engine, and the paused warps resume. -/
def execCompositorLeave (h : Half) (s : State) : Res :=
  if (s.hs h).compositor ≠ 2 || s.rs h 0 = rsHolding then .next s else .next (s.unpause h)

/-! ## Completion and pre-emption (R160, R166, R167) -/

/-- JOB_COMPLETE (R160, R164, R177): a context whose fault waits enters Faulted at this last pre-emption point instead. -/
def execJobComplete (h : Half) (ctx : Fin 64) (s : State) : Res :=
  if !(s.executing h ctx) then .next s
  else match (s.ctx h ctx).fault with
    | some k => .next ((s.rFaulted h ctx k).arbitrate h)
    | none => .next ((s.jobDone h ctx).arbitrate h)

/-- A FENCE writes VALUE to ADDR (R160); a result of the job says that it has. -/
def State.fenceWrite (s : State) (h : Half) (c : Nat) (j : Job) : State :=
  if (s.ctx h c).results.isEmpty then (((s.rWrite h c j.addr (leBytes 8 j.value)).rResult h c []).l1Out h c).l2Out h c else s

/-- FENCE_COMPLETE (R160): the writes of the jobs before leave the caches; VALUE is written once every one has reached DRAM and, where one lay in a
mirror region, the other half has acknowledged it. The job completes once VALUE is in DRAM. -/
def execFenceComplete (h : Half) (ctx : Fin 64) (s : State) : Res :=
  match (s.ctx h ctx).job with
  | none => .next s
  | some j =>
    if j.typ ≠ jtFence || s.rs h ctx ≠ rsHolding then .next s
    else
      let s := (s.l1Out h ctx).l2Out h ctx
      if (s.ctx h ctx).results.isEmpty && !(s.writesDone h ctx) then .next s
      else
        let s := s.fenceWrite h ctx j
        match (s.ctx h ctx).fault with
        | some k => .next ((s.rFaulted h ctx k).arbitrate h)
        | none => .next (if s.writesOut h ctx then (s.jobDone h ctx).arbitrate h else s)

/-- A context gives up group `g` (4: all): at a draw boundary inside a render pass its tile memory is saved first (R167). -/
def State.giveUp (s : State) (h : Half) (c g : Nat) : State :=
  if (s.ctx h c).tile.isEmpty then s.rYield h c g else s.setCtx h c { s.ctx h c with saving := some g }

/-- Must the context yield the group: to an ordinary context of higher priority that can use it, or, for an Async workgroup, because the holder
needs the room (R166, R171)? -/
def State.mustYield (s : State) (h : Half) (c g : Nat) : Bool :=
  if c = 0 then false
  else if s.isAsync h c then (s.asyncOf h c).contains g && !(s.asyncFits h [] g)
  else (s.groupsOf h c).contains g && (upTo 64).any fun d => s.wantsGroup h d && s.prio h c < s.prio h d

/-- PREEMPTION_POINT (R166, R167, R170, R182, R183): a fault before all, then SUSPEND, a tier stop, and a yield of the group; the arbitration of
that point follows. -/
def execPreemptionPoint (h : Half) (ctx : Fin 64) (group : Fin 4) (s : State) : Res :=
  let c := ctx.val
  if !(s.executing h c) then .next s
  else match (s.ctx h c).fault with
    | some k => .next ((s.rFaulted h c k).arbitrate h)
    | none =>
      let s := s.setCtx h c { s.ctx h c with prioHeld := none }
      if (s.ctx h c).suspend || !(s.rAllowed h c) then
        .next ((s.giveUp h c 4).arbitrateOn h)
      else if s.mustYield h c group then .next ((s.giveUp h c group).arbitrateOn h)
      else .next (s.arbitrate h)

/-- RCX_PRIO_WRITE (R164 to R166): 7 is refused; the new priority holds at the next arbitration, or for a Holding context at its next
pre-emption point. -/
def execRcxPrioWrite (rq : Requester) (ctx : Fin 64) (value : Word) (s : State) : Res :=
  hostWrite rq (pgRcx rq.half ctx) s fun s =>
    let p := pgRcx rq.half ctx
    let h := rq.half
    let c := ctx.val
    let v := value.toNat
    if v / 8 % 32 ≠ 0 || 512 ≤ v then .next (s.rWild h c 4)
    else
      let s := s.whenB (v.testBit 8) fun s => s.put p F.RCX_PRIO_REFUSED 0
      if c = 0 then .next s
      else if v % 8 = 7 then .next (s.put p F.RCX_PRIO_REFUSED 1)
      else
        let old := s.prio h c
        let s := s.put p F.RCX_PRIO_PRIO (v % 8)
        .next ((if s.rs h c = rsIdle then s else s.setCtx h c { s.ctx h c with prioHeld := some old }).arbitrate h)

/-- RCX_SUSPEND (R166, R170, R183): at the next pre-emption point, or at once where the context holds nothing. SUSPEND written with RESUME
is this command. -/
def execRcxSuspend (rq : Requester) (ctx : Fin 64) (s : State) : Res :=
  hostWrite rq (pgRcx rq.half ctx) s fun s =>
    let h := rq.half
    let c := ctx.val
    if s.rs h c = rsFaulted || s.rs h c = rsSuspended then .next s
    else if s.rs h c = rsHolding then .next (s.setCtx h c { s.ctx h c with suspend := true })
    else .next (s.rStopAt h c rsSuspended)

/-- RCX_RESUME (R166): a Suspended context returns to Waiting. -/
def execRcxResume (rq : Requester) (ctx : Fin 64) (s : State) : Res :=
  hostWrite rq (pgRcx rq.half ctx) s fun s =>
    .next (if s.rs rq.half ctx = rsSuspended then s.setRs rq.half ctx rsWaiting else s)

/-! ## Sparse textures (R174 to R176) -/

/-- The page shape in texels for a texel size in bits (R174). -/
def pageShape (bits : Nat) : Nat × Nat :=
  if bits = 8 then (256, 256)
  else if bits = 16 then (256, 128)
  else if bits = 32 then (128, 128)
  else if bits = 64 then (128, 64)
  else (64, 64)

/-- The size of a level in texels. -/
def SparseImage.levelSize (im : SparseImage) (l : Nat) : Nat × Nat := (max 1 (im.width / 2 ^ l), max 1 (im.height / 2 ^ l))

/-- The page counts PX[l] and PY[l] of a level (R175). -/
def SparseImage.pages (im : SparseImage) (l : Nat) : Nat × Nat :=
  let (w, v) := im.levelSize l
  let (pw, ph) := pageShape im.texelBits
  ((w + pw - 1) / pw, (v + ph - 1) / ph)

/-- The first level smaller than one page: it and those below it share the mip-tail page (R174, log entry 95). -/
def SparseImage.tail (im : SparseImage) : Nat :=
  ((upTo im.levels).find? fun l =>
    (im.levelSize l).1 < (pageShape im.texelBits).1 || (im.levelSize l).2 < (pageShape im.texelBits).2).getD im.levels

/-- A page of a sparse image: its number in the residency map, and the level, column and row of a miss record (R175, R176). -/
structure SparsePage where
  index : Nat
  level : Nat
  px : Nat
  py : Nat
  deriving DecidableEq, Repr

/-- The page of a texel. The mip-tail page of a layer follows the last level that has pages of its own. -/
def SparseImage.page (im : SparseImage) (level layer x y : Nat) : SparsePage :=
  let t := im.tail
  if t ≤ level then
    let before := if t = 0 then im.lbase.getD 0 0 else im.lbase.getD (t - 1) 0 + im.layers * (im.pages (t - 1)).2 * (im.pages (t - 1)).1
    ⟨before + layer, 0xFF, 0, 0⟩
  else
    let (px, py) := (x / (pageShape im.texelBits).1, y / (pageShape im.texelBits).2)
    ⟨im.lbase.getD level 0 + (layer * (im.pages level).2 + py) * (im.pages level).1 + px, level, px, py⟩

/-- A page of a sparse image as one number: layer, row, column, level, image. -/
def pageKey (image level px py layer : Nat) : Nat :=
  (((layer % 65536 * 65536 + py % 65536) * 65536 + px % 65536) * 256 + level % 256) * 65536 + image % 65536

/-- The 16 bytes of a miss record (R176). -/
def missBytes (image level group px py layer head : Nat) : List Byte :=
  b2 image ++ b1 level ++ b1 group ++ b2 px ++ b2 py ++ b2 layer ++ b2 0 ++ b4 head

/-- A miss record is written to the miss ring, or dropped where the ring is full (R176). The manual gives no read index, so whether
the ring is full is a free value (log entry 4); a LOG2 above 8 is a reserved encoding. -/
def State.missRecord (s : State) (h : Half) (c : Nat) (bs : List Byte) : State :=
  let p := pgRcx h c
  let n := s.get p F.RCX_MISS_PTR_LOG2
  if 8 < n then s.rWild h c 0x2C
  else
    let (full, s) := s.takeFree
    if full % 2 = 1 then s.incSat p F.RCX_MISS_PTR_DROPPED
    else
      let wr := s.get p F.RCX_MISS_PTR_WR
      (s.rWriteIpa h c (s.get p F.RCX_MISS_PAGE * 4096 + 16 * wr) bs).put p F.RCX_MISS_PTR_WR ((wr + 1) % 2 ^ (n + 4))

/-- The last 256 pages that missed at a shader group, oldest first. -/
def missAdd (m : List (Nat × Nat)) (g key : Nat) : List (Nat × Nat) :=
  let own := (m.filter fun e => e.1 = g) ++ [(g, key)]
  (m.filter fun e => e.1 ≠ g) ++ own.drop (own.length - 256)

/-- A texel access (R175 to R177): the map entry as the job caches it; a resident page gives the texel after a byte 1, a page that is not gives
zeros after a byte 0 and one miss record per page and job. -/
def State.rTexel (s : State) (h : Half) (c g : Nat) (im : SparseImage) (level layer x y : Nat) : State :=
  let pg := im.page level layer x y
  let va := im.map + 4 * pg.index
  let n := (im.texelBits + 7) / 8
  let s := if (tblFind va (s.ctx h c).mapCache).isSome then s else s.rTouch h c .read va 4
  let e := (tblFind va (s.ctx h c).mapCache).getD (s.rRead h c va 4)
  let s := s.setCtx h c { s.ctx h c with mapCache := tblInsert va e (s.ctx h c).mapCache }
  if e.testBit 31 then
    let at_ := e % 2 ^ 28 * 65536 + Config.texelOffset im.texelBits (x % (pageShape im.texelBits).1) (y % (pageShape im.texelBits).2) level % 65536 / n * n
    match s.rIpa h c .read at_ with
    | .at pa => (s.rl2Fill h c pa).rResult h c (1 :: s.rBytesBy h c .read (s.rIpa h c .read) at_ n)
    | .fault k r => (s.rFault h c .read at_ k r).rResult h c (1 :: List.replicate n 0)
  else
    let s := s.rResult h c (List.replicate (n + 1) 0)
    let key := pageKey im.number pg.level pg.px pg.py layer
    if (s.ctx h c).misses.contains (g, key) then s
    else
      let s := s.setCtx h c { s.ctx h c with misses := missAdd (s.ctx h c).misses g key }
      s.missRecord h c (missBytes im.number pg.level g pg.px pg.py layer (s.rHead h c))

/-! ## The steps of a job (R162, R176, R179 to R181) -/

/-- Arithmetic of a job: each operation gives its result by R180. -/
def State.rCompute (s : State) (h : Half) (c : Nat) : Nat → State
  | 0 => s
  | n + 1 => (s.rResult h c (Config.rasterArith (s.ctx h c).list (s.ctx h c).results).result).rCompute h c n

/-- One access of a job on a group; a failing access has no effect beyond the context (R162). -/
def State.rOp (s : State) (h : Half) (c g : Nat) : RasterOp → State
  | .read va n => (s.rTouch h c .read va n).rResult h c (s.rBytesBy h c .read (s.rWalk h c .read) va n)
  | .write va bs => (s.rWrite h c va bs).rResult h c []
  | .program va =>
    let bytes := s.rBytesBy h c .fetch (s.rWalk h c .fetch) va 64
    let s := s.setCtx h c { s.ctx h c with progs := s.progPages h c va 64 ++ (s.ctx h c).progs }
    (s.rTouch h c .fetch va 64).rResult h c bytes
  | .texel im level layer x y => s.rTexel h c g im level layer x y
  | .malformed => s.rWild h c 0x18

/-- The 64-byte lines that an access brings into the L1 caches. -/
def RasterOp.lines : RasterOp → List Nat
  | .read va n => blocksOf va n
  | .write va bs => blocksOf va bs.length
  | .program va => blocksOf va 64
  | .texel _ _ _ _ _ | .malformed => []

/-- One step of a job on a group: its access, and what the group's storage holds after it. -/
def State.rStep (s : State) (h : Half) (c g : Nat) (st : RasterStep) : State :=
  match st.op with
  | .malformed => s.rOp h c g .malformed
  | op =>
    let s := (s.rOp h c g op).groupKeep h c g op.lines st
    s.setCtx h c { s.ctx h c with tile := st.tile.take (if c = 0 then tileReserve else tileMemory - tileReserve) }

/-- RASTER_MEMORY_ACCESS (R162, R176, R179 to R181): the job of a context carries out its arithmetic up to its next access, and the access, on a group
that it runs on. What it does is a function of its command list and of the results so far alone, on either half. -/
def execRasterMemoryAccess (h : Half) (ctx : Fin 64) (group : Fin 4) (s : State) : Res :=
  let c := ctx.val
  if !(s.executing h c) || !(s.runsOn h c group) then .next s
  else
    let s := s.rCompute h c (Config.rasterArithCount (s.ctx h c).list (s.ctx h c).results)
    .next (s.rStep h c group (Config.rasterStep (s.ctx h c).list (s.ctx h c).results (s.ctx h c).tile))

/-! ## Tiers (R182) -/

/-- RASTER_TIER_REPORT (R182, R183): contexts that the tier does not allow stop, at once where they hold nothing; Tier-stopped contexts that it allows
wait again; in T4 the domains are to go down. -/
def execRasterTierReport (h : Half) (tier : Fin 5) (s : State) : Res :=
  let s := s.put (pgGfe h) F.GFE_LAT_TIER tier
  let s := s.each (upTo 64) fun c s =>
    if s.rAllowed h c then (if s.rs h c = rsTierStopped then s.setRs h c rsWaiting else s)
    else if s.rs h c = rsWaiting || s.rs h c = rsBlocked then s.rStopAt h c rsTierStopped
    else s
  let s := if (s.hs h).compositor = 1 && !(s.rAllowed h 0) then s.setHs h { s.hs h with compositor := 0 } else s
  .next (s.setHs h { s.hs h with gfeStop := tier.val = 4 })

/-- RASTER_T4_TIMEOUT (R182): a context that still holds enters Faulted with TIER_ABORT, and its job is lost. -/
def execRasterT4Timeout (h : Half) (s : State) : Res :=
  if !((s.hs h).gfeStop) then .next s
  else
    let s := s.each (upTo 64) fun c s => if s.rs h c = rsHolding then s.rFaulted h c 3 else s
    .next (s.unpause h)

end Sys2Proof.Machine
end

