-- ==== Sys2Proof/Machine/Halves.lean ====
section
/-! DEFINITION. A half from reset into service (R387, R388): reset, apply, measurement (R222, R223, R225), release, and the way from Starting to
Ready (R185, R198). -/

namespace Sys2Proof.Machine

/-! ## Catch-up of the mirror regions (R198) -/

/-- The catch-up engine of a half takes its next dirty granule, while the link is up and the other half is in service. -/
def State.catchupStart (s : State) (h : Half) : State :=
  let hs := s.hs h
  if hs.copying.isSome || !(s.flag (pgTwn h) F.TWN_STATUS_LINK) || !(s.inService (Half.other h)) then s
  else match hs.dirty with
    | [] => s
    | g :: _ => s.setHs h { hs with copying := some g, copyAgain := false, copyRead := 0, copyAt := 0, copyBuf := [] }

/-- CATCHUP_GRANULE_DONE (R198): the granule is in the other half; one written meanwhile is copied again. The blocks that DRAM_SLOT has not
shown one by one have taken their slots in the meantime. -/
def execCatchupGranuleDone (h : Half) (s : State) : Res :=
  match (s.hs h).copying with
  | none => .next s
  | some g =>
    let o := Half.other h
    let s := s.setDram o (tblOverlay byteZero (g * 65536) 65536 (tblWindow (g * 65536) 65536 (s.dram h)) (s.dram o))
    let s := s.setHs h { s.hs h with mirHand := (s.hs h).mirHand.map fun r => { r with granules := r.granules.erase g } }
    let hs := s.hs h
    let s := if hs.copyAgain then s.setHs h { hs with copyAgain := false, copyRead := 0, copyAt := 0, copyBuf := [] }
      else (s.setHs h { hs with copying := none }).setDirty h (hs.dirty.filter fun x => x ≠ g)
    .next ((s.catchupStart h).syncCheck)

/-! ## Release (R222 step 5, R387 step 10) -/

/-- The watchdog is loaded with TIMEOUT (R226). -/
def State.watchdogLoad (s : State) (h : Half) : State :=
  s.put (pgWld h) F.WLD_WDOG_REMAIN (s.get (pgWld h) F.WLD_WDCFG_TIMEOUT * 1000)

/-- The half reaches Starting (R185, R193, R198): its ports' Idle marks go, the twin link runs, a waiting ARM interrupt is raised, catch-up starts,
and the other half's hub sends its state (R246). -/
def State.halfStarting (s : State) (h : Half) : State :=
  let o := Half.other h
  let s := s.each (upTo 8) fun p s => s.setPort p (match h with
    | .A => { s.port p with idleA := false }
    | .B => { s.port p with idleB := false })
  let s := s.put (pgTwn h) F.TWN_STATUS_LINK (if s.inService o then s.get (pgTwn o) F.TWN_STATUS_LINK else 1)
  let s := s.setHalfState h hsStarting .halfReady
  let s := if (s.hs h).armIrq then (s.setHs h { s.hs h with armIrq := false }).raise (halfPg h 0x2003) else s
  (((s.catchupStart h).catchupStart o).twinSync o).syncCheck

/-- Is a PCIe partner present at the port of a half? -/
def State.pciIn (s : State) : Half → Bool
  | .A => s.pw.pciA
  | .B => s.pw.pciB

def State.setPciIn (s : State) (h : Half) (v : Bool) : State :=
  { s with pw := match h with
    | .A => { s.pw with pciA := v }
    | .B => { s.pw with pciB := v } }

/-- The PCI Function of a half runs discovery after a reset (R32, R457), if that is not under way. -/
def State.pciDiscover (s : State) (h : Half) : State := if s.pciIn h && s.disc (pgPci h) 0 = 0 then s.discSet (pgPci h) 0 1 else s

/-- A hart right after its reset: in M-mode at the reset vector of the image (R207, R222), its caches empty. -/
def State.hartStart (s : State) (h : Half) : Hart :=
  { seen := s.fetchView h, startAt := Config.imageResetVector (Die.num (Half.die h)) (s.image (Half.die h)) }

/-- The start of a half: harts start at the reset vector, the safety cores run, the pair agent sends heartbeats. -/
def State.halfRelease (s : State) (h : Half) : State :=
  let t := s.hartStart h
  let s := s.setHs h { s.hs h with stage := .running, harts := (upTo 8).map fun n => (n, t) }
  let s := s.put (pgSaf h) F.SAF_STATUS_RUN 1
  (s.watchdogLoad h).halfStarting h

/-! ## The course from apply to release -/

/-- The Trusted image descriptors of a half (section 0x000E). -/
def State.trustedImages (s : State) (h : Half) : List (Nat × Nat × Nat × List Byte × Bool) :=
  Config.imageTrusted (s.image (Half.die h))

/-- The half goes on as far as it can: after training and zero-fill the measurement begins, and with no image to measure it is released. -/
def State.halfGo (s : State) (h : Half) : State :=
  let s := if (s.hs h).stage = .training && (s.hs h).dram.trained then s.setHs h { s.hs h with stage := .filling } else s
  if (s.hs h).stage = .filling && (s.hs h).dram.zeroDone then
    if (s.trustedImages h).isEmpty then s.halfRelease h
    else s.setHs h { s.hs h with stage := .measuring, images := 0 }
  else s

/-- HALF_RESET_RELEASE (R388 step 4): 100 µs after the request the half leaves reset, unless it is held for Inspection or park. -/
def execHalfResetRelease (h : Half) (s : State) : Res :=
  if (s.hs h).stage ≠ .reset || (s.hs h).hold then .next s
  else
    let s := s.setHs h { s.hs h with stage := .applying }
    .next (((if s.halfState h = hsLost || s.halfState h = hsParked then s.setHalfState h hsDown else s).domRaise h).pciDiscover h)

/-- HALF_APPLY_DONE (R47, R225, R387 step 8, R388 step 5). -/
def execHalfApplyDone (h : Half) (s : State) : Res :=
  if (s.hs h).stage ≠ .applying then .next s
  else
    let slot := s.applySlot h
    let s := s.applyHalf h slot
    let s := s.mrExtend h 0 (s.manifestHash slot)
    let s := (s.rearmApplied h).domRaise h
    let s := s.setHs h { s.hs h with stage := .training }
    .next (s.halfGo h)

/-- HALF_RESET_REQUEST (R382, R388 steps 1 and 3): a half reset is requested with a cause of RST_CAUSE. -/
def execHalfResetRequest (h : Half) (cause : Fin 9) (s : State) : Res :=
  if cause.val = 0 then .next s else .next (s.halfResetReq h cause)

/-- RESET_NOTICE (R189, R190): the notice of a half reset reaches the Plinth, and then the half stops. -/
def execResetNotice (h : Half) (s : State) : Res :=
  .next (if (s.hs h).stage = .stopping then (s.halfNotice h).rearmGo else s)

/-- RST_HALF_RESET (R382, R394): for either half; the issuing half sees no DONE for itself, because RST_STATUS is cleared. -/
def execRstHalfReset (rq : Requester) (target : Half) (s : State) : Res :=
  hostWrite rq (pgRstH rq.half) s fun s =>
    let (second, s) := s.rstTurn rq.half
    if second then .next (s.rstDone rq.half 1)
    else
      let s := s.halfResetReq target 3
      .next (if target = rq.half then s else s.rstDone rq.half 0)

/-- NDMRESET (R382): accepted only while WLD_DBG.TRU_INV = 1. -/
def execNdmreset (h : Half) (s : State) : Res :=
  .next (if s.flag (pgWld h) F.WLD_DBG_TRU_INV then s.halfResetReq h 4 else s)

/-! ## Trusted restart (R221 to R224) -/

/-- Is invasive debug enabled for the world that a hart is in (R228)? -/
def State.invasive (s : State) (h : Half) (n : Nat) : Bool :=
  if s.flag (pgHart h n) F.MWORLD_WORLD then s.flag (pgWld h) F.WLD_DBG_TRU_INV else s.flag (pgWld h) F.WLD_DBG_OPEN_INV

/-- Does a hart execute nothing: the world controller stopped it (R222), its core is off or in retention (R366, R402, R405), or its half has not
left reset (R387, R388)? -/
def State.hartHeld (s : State) (h : Half) (n : Nat) : Bool :=
  (s.hart h n).stopped || s.domain h n ≠ 2 || !((s.hs h).stage = .running || (s.hs h).stage = .stopping)

/-- A halt request that waits is taken where invasive debug is enabled (R228). -/
def State.haltCheck (s : State) (h : Half) (n : Nat) : State :=
  let t := s.hart h n
  if t.haltReq && !(s.hartHeld h n) && s.invasive h n then s.setHart h n { t with halted := true, haltReq := false } else s

/-- A trap into M-mode (R211): PWORLD takes WORLD, and WORLD becomes Trusted. -/
def State.trapM (s : State) (h : Half) (n : Nat) : State :=
  let p := pgHart h n
  let s := s.put p F.MWORLD_PWORLD (s.get p F.MWORLD_WORLD)
  let s := s.worldSet h n 1
  (s.setHart h n { s.hart h n with mMode := true }).haltCheck h n

/-- An interrupt that waits in the S file or a guest file is taken by a hart in the Open world whose enables let that identity of that file (R218): the S file before the
guest files, the lowest identity first, and the enables are off from then on, as a trap leaves them (log entry 89). -/
def State.openTake (s : State) (h : Half) (n : Nat) : State :=
  let t := s.hart h n
  if s.flag (pgHart h n) F.MWORLD_WORLD || s.hartHeld h n || t.halted || t.trapHeld then s
  else match bestBy id (t.pendS.filter fun i => t.openEn.contains (1, i)) with
    | some i => s.setHart h n { t with pendS := t.pendS.erase i, sTaken := some (1, i), openEn := [] }
    | none => match bestBy id ((t.pendG.filter t.openEn.contains).map fun e => e.1 * 256 + e.2) with
      | some k => s.setHart h n { t with pendG := t.pendG.erase (k / 256, k % 256), sTaken := some (k / 256, k % 256), openEn := [] }
      | none => s

/-- A hart resumes at the instruction at which it stopped (R367): what waited for it is taken. -/
def State.hartResume (s : State) (h : Half) (n : Nat) : State := (s.haltCheck h n).openTake h n

/-- The release of a trusted restart (R222 step 5, R224): stopped harts start at the reset vector, held traps are taken, Trusted interrupts that
wait at Open harts are delivered, the watchdog is reloaded. -/
def State.restartRelease (s : State) (h : Half) : State :=
  let p := pgWld h
  let s := s.setHs h { s.hs h with restart := 0 }
  let s := s.each (upTo 8) fun n s =>
    let t := s.hart h n
    if t.stopped then (s.setHart h n { s.hartStart h with pendM := t.pendM, haltReq := t.haltReq }).haltCheck h n
    else if t.trapHeld then (s.setHart h n { t with trapHeld := false }).trapM h n
    else if !(s.hartHeld h n) && !t.halted && !(s.flag (pgHart h n) F.MWORLD_WORLD) && !t.pendM.isEmpty then s.trapM h n
    else s
  let s := s.watchdogLoad h
  let s := s.put p F.WLD_STATUS_BUSY 0
  let s := s.put p F.WLD_STATUS_DONE 1
  let s := s.put p F.WLD_STATUS_RESULT 0
  s.incSat p F.WLD_STATUS_RESTARTS

/-- The measurement engine writes blocks of an image to its load address: no region entry stands in its way (R223). -/
def State.measureStore (s : State) (h : Half) (a : Nat) (bs : List Byte) (blocks : List Nat) : State :=
  s.each blocks fun b s =>
    if (ctrlOf b).any fun c => c.1 ≤ 1 then s.storeBlock h (blockPart a bs b).1 (blockPart a bs b).2 else s

/-- How many blocks from the front of a list the twin-link queue takes now (R197). -/
def State.mirTakes (s : State) (h : Half) (blocks : List Nat) : Nat :=
  let free := mirQMax - (s.hs h).mirQ.length
  let copied (b : Nat) : Bool := s.mirrorLive h && (match s.mirrorOf h b with | none => false | some m => s.mirrorSrc h m)
  (((List.range (blocks.length + 1)).reverse).find? fun k => ((blocks.take k).filter copied).length ≤ free).getD 0

/-- MEASURE_IMAGE_DONE (R222, R223, R225): the next Trusted image has been copied to its load address and hashed; refused source reads give zeros
and are counted (R215). A digest that differs ends the start or the restart with MEASURE and a half reset. Blocks for which the twin-link
queue has no room wait (R197): the copy then ends with a later command of its own. -/
def execMeasureImageDone (h : Half) (s : State) : Res :=
  let hs := s.hs h
  let start := hs.stage = .measuring
  if !start && hs.restart ≠ 2 then .next s
  else match (s.trustedImages h)[hs.images]? with
    | none => .next s
    | some (src, load, len, digest, xspi) =>
      let going := hs.measOut ≠ 0
      let bytes := if going then hs.measRead
        else if xspi then (List.range len).map fun i => Config.xspiByte (src + i)
        else s.bytesAt h tagTrusted .read src len
      let blocks := (blocksOf load bytes.length).drop hs.measOut
      let k := s.mirTakes h blocks
      if !blocks.isEmpty && k = 0 then .next s else
      let s := if xspi || going then s else s.noteRead h tagTrusted .read src len
      let s := s.measureStore h load bytes (blocks.take k)
      if k < blocks.length then .next (s.setHs h { s.hs h with measOut := hs.measOut + k, measRead := bytes })
      else
      let s := s.setHs h { s.hs h with measAt := 0, measOut := 0, measRead := [] }
      if Config.sha384 bytes = digest then
        let s := s.mrExtend h (if start then 1 else 2) digest
        let s := s.setHs h { s.hs h with images := hs.images + 1 }
        .next (if hs.images + 1 = (s.trustedImages h).length then (if start then s.halfRelease h else s.restartRelease h) else s)
      else
        let s := s.put (pgWld h) F.WLD_STATUS_RESULT 1
        .next (s.halfResetReq h 5)

end Sys2Proof.Machine
end

