-- ==== Sys2Proof/Machine/Scratch.lean ====
section
/-! DEFINITION. The scratchpad of a half at its ports (R251 to R254, R258): what one cycle of ports F and E does. -/

namespace Sys2Proof.Machine

/-- States of an SPM. -/
def spOff : Nat := 0
def spMarching : Nat := 1
def spReady : Nat := 2
def spTesting : Nat := 3
def spClearing : Nat := 4
def spFailed : Nat := 5

def State.spmState (s : State) (h : Half) (n : Nat) : Nat := s.get (pgSpm h n) F.SPM_STATUS_STATE
def State.setSpmState (s : State) (h : Half) (n v : Nat) : State := s.put (pgSpm h n) F.SPM_STATUS_STATE v

/-- The size of one SPM. -/
def spmBank : Nat := 0x400000

/-- Bank, word within the bank and row of a byte offset within an SPM (R251). -/
def spBankOf (o : Nat) : Nat := o / 8 % 16
def spWordOf (o : Nat) : Nat := o / 128
def spRowOf (o : Nat) : Nat := spWordOf o / 64

/-- The 8-byte place of word w of a row of a bank: the inverse of the three above. -/
def spPlace (bank row w : Nat) : Nat := (row * 64 + w) * 16 + bank

/-- The address of a port access. -/
def spAddr (p : SpmPort) (n : Nat) : Nat := spmBase + n * spmBank + p.offset

/-- Does what issues an access use port E (R252): a queue unit's spill or a check-value scan? The march engine has commands of its own. -/
def Issuer.portE : Issuer → Bool
  | .engine code => (0x50 ≤ code && code < 0x54) || (0x200 ≤ code && code < 0x300)
  | _ => false

/-- An access of 1 to 64 bytes at any byte address of an SPM, at the port of what issues it (R252). -/
def spOk (port : Bool) (p : SpmPort) : Bool :=
  1 ≤ p.len && p.len ≤ 64 && p.offset < spmBank && Issuer.portE p.by_ == port && (match p.write with | none => true | some bs => bs.length = p.len)

def spKind (p : SpmPort) : AccKind := if p.write.isSome then .write else if p.fetch then .fetch else .read

/-- An access that crosses the boundary to the next SPM is two accesses (R252): its part in this SPM, and the rest. -/
def spSplit (p : SpmPort) : SpmPort × Option SpmPort :=
  let k := spmBank - p.offset
  if p.len ≤ k then (p, none)
  else ({ p with len := k, write := p.write.map fun bs => bs.take k },
    some { p with offset := 0, len := p.len - k, write := p.write.map fun bs => bs.drop k })

/-- The words that an access touches, as offsets divided by 8. -/
def spWords (p : SpmPort) : List Nat := (List.range ((p.offset + p.len - 1) / 8 - p.offset / 8 + 1)).map fun i => p.offset / 8 + i

/-- Does the region controller admit a word of an access (R215, R258)? -/
def State.spmAdmits (s : State) (h : Half) (n : Nat) (p : SpmPort) (w : Nat) : Bool :=
  s.admitBlock h (s.tag h p.by_) (spKind p) ((spmBase + n * spmBank + 8 * w) / 64 * 64)

/-- The words that a port's read meets with a double-bit error: those that read as UE, and those found so now (R254). -/
def State.spmBadWords (s : State) (h : Half) (n : Nat) (port : Bool) (p : SpmPort) (errs : List SpmErr) : List Nat :=
  if p.write.isSome then []
  else (spWords p).filter fun w => s.spmAdmits h n p w && (s.spmBad h n w || errs.any fun e => e.port = port && e.word = w && e.double)

/-- The words that a port's read corrects (R254). -/
def State.spmFixed (s : State) (h : Half) (n : Nat) (port : Bool) (p : SpmPort) (errs : List SpmErr) : List Nat :=
  if p.write.isSome then []
  else (spWords p).filter fun w =>
    s.spmAdmits h n p w && !((s.spmBadWords h n port p errs).contains w) && errs.any fun e => e.port = port && e.word = w && !e.double

/-- The bytes that a port reads: zeros in a word with an uncorrectable error; a hart fetches what its FENCE.I let it see (R230). -/
def State.spmRead (s : State) (h : Half) (n : Nat) (p : SpmPort) (bad : List Nat) : List Byte :=
  (List.range p.len).map fun i =>
    if bad.contains ((p.offset + i) / 8) then 0
    else match p.by_, p.fetch with
      | .hart k, true => memByte (s.hart h k).seen (spAddr p n + i)
      | _, _ => s.byteAt h (s.tag h p.by_) (spKind p) (spAddr p n + i)

/-- One port's write. -/
def State.spmStore (s : State) (h : Half) (n : Nat) (p : SpmPort) : State :=
  match p.write with
  | none => s
  | some bs => s.writeAt h (s.tag h p.by_) (spAddr p n) bs

/-- What one port's access leaves beside memory: refusals, corrected and uncorrectable errors, the data of a read. -/
def State.spmPort (s : State) (h : Half) (n : Nat) (port : Bool) (p : SpmPort) (errs : List SpmErr) : State :=
  if p.write.isSome then s
  else
    let bad := s.spmBadWords h n port p errs
    let fixed := s.spmFixed h n port p errs
    let data := s.spmRead h n p bad
    let s := s.noteRefusals h (s.tag h p.by_) (spKind p) (spAddr p n) p.len
    let s := s.setSpmU h n (if port then { s.spmU h n with lastE := data } else { s.spmU h n with lastF := data })
    let s := s.each fixed fun _ s => s.incSat (pgSpm h n) F.SPM_STATUS_CE
    s.each bad fun w s => s.spmUeNote h n port w

/-- What the access at port F answers: an access fault to a core whose access was refused or met an uncorrectable error, COLLIDED, or
the data. -/
def State.spmReply (s : State) (h : Half) (n : Nat) (p : SpmPort) (errs : List SpmErr) (collided : Bool) : Reply :=
  let bad := s.spmBadWords h n false p errs
  if Issuer.core p.by_ && (!bad.isEmpty || !(s.refusals h (s.tag h p.by_) (spKind p) (spAddr p n) p.len).isEmpty) then .accessFault
  else if collided then .collided
  else if p.write.isSome then .ok 0
  else .ok (leNat (s.spmRead h n p bad))

/-- The word that both ports write in one cycle (R253); a write that the region controller drops writes no word. -/
def State.spmShared (s : State) (h : Half) (n : Nat) (portF portE : Option SpmPort) : Option Nat :=
  match portF, portE with
  | some f, some e =>
    if f.write.isSome && e.write.isSome then (spWords f).find? fun w => (spWords e).contains w && s.spmAdmits h n f w && s.spmAdmits h n e w else none
  | _, _ => none

/-- What both ports of an SPM do in one cycle (R252 to R254, R258). Reads return the value from before the writes; where both write a byte, port
E's stands. -/
def State.spmCycle (s : State) (h : Half) (n : Nat) (portF portE : Option SpmPort) (errs : List SpmErr) : State :=
  let shared := s.spmShared h n portF portE
  let reply := match portF with
    | none => s.reply
    | some f => s.spmReply h n f errs shared.isSome
  let one (port : Bool) (p : Option SpmPort) (s : State) : State := match p with | none => s | some p => s.spmPort h n port p errs
  let store (p : Option SpmPort) (s : State) : State := match p with | none => s | some p => s.spmStore h n p
  let s := one true portE (one false portF s)
  let s := store portE (store portF s)
  let s := match shared with
    | none => s
    | some w =>
      let pg := pgSpm h n
      let first := !(s.flag pg F.SPM_COLL_VALID)
      let s := s.put pg F.SPM_STATUS_COLL 1
      let s := s.incSat pg F.SPM_COLL_COUNT
      let s := s.whenB first fun s => (s.put pg F.SPM_COLL_WORD w).put pg F.SPM_COLL_VALID 1
      s.raise pg
  { s with reply := reply }

/-- An engine's access at port E of the SPM that holds an address of the scratchpad window. -/
def State.spmEngine (s : State) (h : Half) (code a len : Nat) (write : Option (List Byte)) : State :=
  s.spmCycle h ((a - spmBase) / spmBank) none (some ⟨.engine code, false, (a - spmBase) % spmBank, len, write⟩) []

/-- The answer to an access in two parts: a fault or a collision of either, else the data one after the other. -/
def Reply.join (first : Reply) (len : Nat) (second : Reply) : Reply :=
  match first, second with
  | .accessFault, _ => .accessFault
  | _, .accessFault => .accessFault
  | .collided, _ => .collided
  | _, .collided => .collided
  | .ok a, .ok b => .ok (a + b * 2 ^ (8 * len))
  | r, _ => r

end Sys2Proof.Machine
end

