-- ==== Sys2Proof/Machine/Queues.lean ====
section
/-! DEFINITION. Queue units (R285 to R293) and the access through a stuck crossing (R284). -/

namespace Sys2Proof.Machine

/-- The middle's capacity in entries (R286); 0 once the spill area was lost (R291). -/
def State.quSpill (s : State) (h : Half) (q : Nat) : Nat :=
  if (s.qu h q).spillOff then 0 else s.get (pgQu h q) F.QU_CFG_SPILL * 8

/-- The places of the queue: 16 head, 16 tail and the middle. -/
def State.quPlaces (s : State) (h : Half) (q : Nat) : Nat := 32 + s.quSpill h q

/-- Entries held, the reserved slot included. -/
def Queue.total (u : Queue) : Nat := u.head.length + u.mid.length + u.tail.length

/-- Entries before the commit pointer (R289). -/
def Queue.committed (u : Queue) : Nat := match u.pkt with | none => u.total | some k => k.slot

/-- QU_STATUS and the two levels follow the queue; WMI is set when the pop side's level reaches WM. -/
def State.quShow (s : State) (h : Half) (q : Nat) : State :=
  let u := s.qu h q
  let p := pgQu h q
  let b (x : Bool) : Nat := if x then 1 else 0
  let was := s.get p F.QU_LVL_C_LEVEL
  let s := s.put p F.QU_STATUS_PKT (b u.pkt.isSome)
  let s := s.put p F.QU_STATUS_FULL (b (s.quPlaces h q ≤ u.total + u.late))
  let s := s.put p F.QU_STATUS_EMPTY (b (u.seen = 0))
  let s := s.put p F.QU_STATUS_IDLE (b u.pkt.isNone)
  let s := s.put p F.QU_LVL_P_LEVEL (u.total + u.late)
  let s := s.put p F.QU_LVL_C_LEVEL u.seen
  let wm := s.get p F.QU_WM_WM
  if was < wm && wm ≤ u.seen then (s.put p F.QU_STATUS_WMI 1).raise p else s

/-- `k` entries move from the middle to the head registers. -/
def Queue.take (u : Queue) (k : Nat) : Queue := { u with head := u.head ++ u.mid.take k, mid := u.mid.drop k, midAt := u.midAt + k }

/-- `k` entries move from the tail registers to the middle. -/
def Queue.give (u : Queue) (k : Nat) : Queue := { u with mid := u.mid ++ u.tail.take k, tail := u.tail.drop k }

/-- A burst of 8 entries moves from the middle to the head registers once they have 8 free places (R286); the last of the middle may be fewer. -/
def Queue.burstIn (u : Queue) : Queue := if u.head.length ≤ 8 then u.take (min 8 u.mid.length) else u

/-- Entries move towards the head: the middle by bursts, and the tail straight to the head registers while the middle is empty (R286). -/
def Queue.forwardHead (u : Queue) : Queue :=
  let u := u.burstIn.burstIn
  if u.mid.isEmpty then
    let k := min (16 - u.head.length) u.tail.length
    { u with head := u.head ++ u.tail.take k, tail := u.tail.drop k }
  else u

/-- A burst of 8 entries moves from the tail registers to the middle where it has room for it. -/
def Queue.spillOut (u : Queue) (room : Nat) : Queue := if 8 ≤ u.tail.length && u.mid.length + 8 ≤ room then u.give 8 else u

/-- The tail registers are full: a burst leaves them, after one that makes room for it. Where the free places lie so that no whole burst can move, a shorter
one does, since a push is dropped for want of a place alone (R290, log entry 137). -/
def Queue.makeRoom (u : Queue) (room : Nat) : Queue :=
  let u := if u.mid.length + 8 ≤ room then u.spillOut room else u.forwardHead.spillOut room
  if u.tail.length < 16 then u
  else
    let u := u.take (min (16 - u.head.length) u.mid.length)
    u.give (min 8 (room - u.mid.length))

/-- An entry joins the queue: the head registers while the middle and the tail are empty, else the tail registers, which spill first
when they are full. -/
def Queue.add (u : Queue) (room : Nat) (e : BitVec 64) : Queue :=
  if u.mid.isEmpty && u.tail.isEmpty && u.head.length < 16 then { u with head := u.head ++ [e] }
  else
    let u := if u.tail.length < 16 then u else u.makeRoom room
    { u with tail := u.tail ++ [e] }

/-- Replace the entry at a place counted from the head. -/
def Queue.setAt (u : Queue) (n : Nat) (e : BitVec 64) : Queue :=
  let a := u.head.length
  let b := a + u.mid.length
  if n < a then { u with head := u.head.set n e }
  else if n < b then { u with mid := u.mid.set (n - a) e }
  else { u with tail := u.tail.set (n - b) e }

/-! ## The spill area (R286, R291) -/

/-- The scratchpad address of the middle's place n, counted from the first entry ever spilled. -/
def State.quAddr (s : State) (h : Half) (q n : Nat) : Nat :=
  spmBase + s.get (pgQu h q) F.QU_SPBASE_BASE * 64 + 8 * (n % max 1 (s.quSpill h q))

/-- The queue with its middle as its reads of the spill area return it: zeros where they are refused or uncorrectable (R215, R254). -/
def State.quLoad (s : State) (h : Half) (q : Nat) : Queue :=
  let u := s.qu h q
  let t := s.tagOf h (pgQu h q)
  { u with mid := u.mid.mapIdx fun i _ => BitVec.ofNat 64 (s.natAt h t (s.quAddr h q (u.midAt + i)) 8) }

/-- The entry of a queue at place n of its middle. -/
def Queue.place (u : Queue) (n : Nat) : Option (BitVec 64) := if n < u.midAt then none else u.mid[n - u.midAt]?

/-- Does the spill area hold what the queue wrote to place n? -/
def State.quIntact (s : State) (h : Half) (q n : Nat) : Bool :=
  (s.qu h q).place n = some (BitVec.ofNat 64 (leNat (memBytes (s.spm h) (s.quAddr h q n - spmBase) 8)))

/-- Neighbouring entries of one 64-byte block as one access. -/
def burstRuns : List (Nat × List Byte) → List (Nat × List Byte)
  | [] => []
  | (a, bs) :: r => match burstRuns r with
    | (b, cs) :: t => if b = a + 8 && b % 64 ≠ 0 then (a, bs ++ cs) :: t else (a, bs) :: (b, cs) :: t
    | [] => [(a, bs)]

/-- A queue goes from `u` to `v`: entries that left its middle are read, and those that entered it or changed there are written, by accesses at port E with
the tag of its page (R252, R286). Where host software wrote over an entry that is read, the result is unpredictable within the queue unit
(R291). -/
def State.quStore (s : State) (h : Half) (q : Nat) (u v : Queue) : State :=
  let code := 0x200 + q
  let left := List.range' u.midAt (v.midAt - u.midAt)
  let hit := left.any fun n => !(s.quIntact h q n)
  let reads := burstRuns (left.map fun n => (s.quAddr h q n, List.replicate 8 0))
  let puts := burstRuns ((List.range' v.midAt v.mid.length).filterMap fun n =>
    match v.place n with
    | none => none
    | some e => if u.place n = some e then none else some (s.quAddr h q n, leBytes 8 e.toNat))
  let s := s.each reads fun e s => s.spmEngine h code e.1 e.2.length none
  let s := (s.each puts fun e s => s.spmEngine h code e.1 e.2.length (some e.2)).setQu h q v
  if hit then s.unpredictable (pgQu h q) 0 else s

/-- A push that finds no place by the push side's view (R290). -/
def State.quDrop (s : State) (h : Half) (q : Nat) : State :=
  let p := pgQu h q
  ((s.put p F.QU_STATUS_OVF 1).incSat p F.QU_STATUS_DROPS).raise p

/-- Is there a place by the push side's view? -/
def State.quRoom (s : State) (h : Half) (q : Nat) : Bool := (s.qu h q).total + (s.qu h q).late < s.quPlaces h q

/-- VALID is 1 in every stored entry (R285). -/
def quValid (d : BitVec 64) : BitVec 64 := d ||| 0x8000000000000000#64

/-- One entry is pushed (R285, R290). None where a packet would take more than 65,535 payload entries (R292). -/
def State.quPush (s : State) (h : Half) (q : Nat) (d : BitVec 64) : Option State :=
  if !(s.quRoom h q) then some (s.quDrop h q)
  else
    let u := s.quLoad h q
    let v := u.add (s.quSpill h q) (quValid d)
    match u.pkt with
    | none => some ((s.quStore h q u v).quShow h q)
    | some k => if 65535 ≤ k.count then none
        else some ((s.quStore h q u { v with pkt := some { k with count := k.count + 1 } }).quShow h q)

/-- OPEN (R288): a reserved slot at the tail; dropped as a push where there is no place. None while a packet is open (R292). -/
def State.quOpen (s : State) (h : Half) (q : Nat) : Option State :=
  let u := s.quLoad h q
  if u.pkt.isSome then none
  else if !(s.quRoom h q) then some (s.quDrop h q)
  else
    let v := u.add (s.quSpill h q) 0
    some ((s.quStore h q u { v with pkt := some { slot := u.total, count := 0, lost := false } }).quShow h q)

/-- The length word of a packet (R288). -/
def lengthWord (n : Nat) : BitVec 64 := BitVec.ofNat 64 (0xC000000000000000 + n % 65536)

/-- CLOSE (R288): the length word goes into the reserved slot and the commit pointer moves to the tail. None with no packet open. -/
def State.quClose (s : State) (h : Half) (q : Nat) : Option State :=
  let u := s.quLoad h q
  match u.pkt with
  | none => none
  | some k =>
    let v := if k.lost then u else u.setAt k.slot (lengthWord k.count)
    some ((s.quStore h q u { v with pkt := none }).quShow h q)

/-- An engine pushes a whole packet: OPEN, its entries, CLOSE (R288, R290). -/
def State.quPacket (s : State) (h : Half) (q : Nat) (es : List (BitVec 64)) : State :=
  match s.quOpen h q with
  | none => s
  | some s1 =>
    if (s1.qu h q).pkt.isNone then s1
    else
      let s2 := es.foldl (fun s e => (s.quPush h q e).getD s) s1
      (s2.quClose h q).getD s2

/-- Places that the push side sees free. -/
def State.quFree (s : State) (h : Half) (q : Nat) : Nat := s.quPlaces h q - ((s.qu h q).total + (s.qu h q).late)

/-- Empty the queue and clear its class F fields (R292). -/
def State.quReset (s : State) (h : Half) (q : Nat) : State :=
  let s := s.clearRegs (fun p => p = pgQu h q) clrF
  s.setQu h q {}

/-- The spill area is lost (R291): the middle is discarded and counted, SPLOST is set, and the queue runs without a middle. -/
def State.quSpillLost (s : State) (h : Half) (q : Nat) : State :=
  let u := s.qu h q
  let p := pgQu h q
  let a := u.head.length
  let n := u.mid.length
  let pk := u.pkt.map fun k =>
    if k.slot < a then k
    else if k.slot < a + n then { k with slot := a, lost := true }
    else { k with slot := k.slot - n }
  let u' := { u with mid := [], midAt := u.midAt + n, pkt := pk, spillOff := true }
  let u' := { u' with seen := min u'.seen u'.committed }
  let s := s.put p F.QU_STATUS_DROPS (min 0xFFFF (s.get p F.QU_STATUS_DROPS + n))
  let s := s.put p F.QU_STATUS_SPLOST 1
  (s.setQu h q u').quShow h q

/-- An SPM leaves Ready: every queue whose spill area it holds loses its middle. -/
def State.spmLeaves (s : State) (h : Half) (spm : Nat) : State :=
  s.each (upTo 256) fun q s =>
    if s.quSpill h q ≠ 0 && s.get (pgQu h q) F.QU_SPBASE_BASE * 64 / 0x400000 = spm then s.quSpillLost h q else s

/-- QU_PUSH (R285): the 64-bit store, or the write of PUSH_HI with the held low word. -/
def execQuPush (rq : Requester) (q : Fin 256) (form : QuPush) (s : State) : Res :=
  hostWrite rq (pgQu rq.half q) s fun s =>
    let d := match form with
      | .wide d => d
      | .high w => BitVec.ofNat 64 (w.toNat * 2 ^ 32 + s.get (pgQu rq.half q) F.QU_PUSH_LO_DATA)
    match s.quPush rq.half q d with
    | none => .next (s.unpredictable (pgQu rq.half q) 4)
    | some s => .next s

/-- QU_POP (R287, R288): by the pop side's view an empty queue returns zeros at once. -/
def execQuPop (rq : Requester) (q : Fin 256) (form : QuPop) (s : State) : Res :=
  hostRead rq (pgQu rq.half q) s fun s =>
    let h := rq.half
    let answer (e : BitVec 64) (s : State) : Res := match form with
      | .wide => .next { s with reply := .ok e.toNat }
      | .low => .next { (s.put (pgQu h q) F.QU_POP_HI_DATA (e.toNat / 2 ^ 32)) with reply := .ok (e.toNat % 2 ^ 32) }
    let u := s.quLoad h q
    let v := u.forwardHead
    match v.seen, v.head with
    | n + 1, e :: r =>
      let pk := v.pkt.map fun k => { k with slot := k.slot - 1 }
      answer e ((s.quStore h q u { v with head := r, seen := n, late := v.late + 1, pkt := pk }).quShow h q)
    | _, _ => answer 0 s

/-- QU_OPEN (R288, R292). -/
def execQuOpen (rq : Requester) (q : Fin 256) (s : State) : Res :=
  hostWrite rq (pgQu rq.half q) s fun s =>
    match s.quOpen rq.half q with
    | none => .next (s.unpredictable (pgQu rq.half q) 0x10)
    | some s => .next s

/-- QU_CLOSE (R288, R292). -/
def execQuClose (rq : Requester) (q : Fin 256) (s : State) : Res :=
  hostWrite rq (pgQu rq.half q) s fun s =>
    match s.quClose rq.half q with
    | none => .next (s.unpredictable (pgQu rq.half q) 0x10)
    | some s => .next s

/-- QU_POINTER_SYNC (R281, R289): the commit pointer reaches the pop side, or the head pointer the push side. -/
def execQuPointerSync (h : Half) (q : Fin 256) (toPopSide : Bool) (s : State) : Res :=
  let u := s.qu h q
  .next ((s.setQu h q (if toPopSide then { u with seen := u.committed } else { u with late := 0 })).quShow h q)

/-- QU_SPILL_TRANSFER (R252, R286): a burst of 8 entries between the registers and the spill area, through port E. -/
def execQuSpillTransfer (h : Half) (q : Fin 256) (out : Bool) (s : State) : Res :=
  let u := s.quLoad h q
  if out then .next (if u.tail.length < 8 || s.quSpill h q < u.mid.length + 8 then s else s.quStore h q u (u.give 8))
  else if u.mid.length < 8 || 8 < u.head.length then .next s
  else .next (s.quStore h q u (u.take 8))

/-- STUCK_ACCESS_TIMEOUT (R284): the access ends after 10 µs; a read returns zero, the data of a write is lost, a core takes its access fault, and one event names
the page. -/
def execStuckAccessTimeout (rq : Requester) (plinth : Bool) (page offset : Nat) (write : Bool) (_data : Word) (s : State) : Res :=
  let p : Pg := if plinth then plinthPg page else halfPg rq.half page
  let t := s.rqTag rq
  let tag := t.part % 16 + (match t.world with | .trusted => 16 | .opn => 0)
  let s := s.funcEvent p 0x05 ([0, 0, 0] ++ b4 offset ++ b1 (if write then 1 else 0) ++ b1 tag)
  .next { s with reply := if Issuer.core rq.by_ then .accessFault else .ok 0 }

end Sys2Proof.Machine
end

