-- ==== Sys2Proof/Machine/Cores.lean ====
section
/-! DEFINITION. Cores and worlds (R207 to R231): lockstep, the world and Partition tags of a hart, interrupts between worlds, the trusted
restart, measurement, the secure watchdog and debug. -/

namespace Sys2Proof.Machine

/-- LOCKSTEP_MISMATCH (R209): both cores are held, the mismatch is recorded and alerted, and the SAF Function is reset within 1 µs (`tick`); a
third mismatch within 1 s holds the pair until the next half reset. -/
def execLockstepMismatch (h : Half) (s : State) : Res :=
  let p := pgSaf h
  if !(s.flag p F.SAF_STATUS_RUN) then .next s
  else
    let s := s.put p F.SAF_STATUS_MISMATCH 1
    let s := s.incSat p F.SAF_STATUS_MISMATCHES
    let s := s.event (srcOf p) 0x0071 (b2 (s.get p F.SAF_STATUS_MISMATCHES)) (trig := true)
    let s := s.alert
    let recent := ((s.hs h).lockTimes.filter fun t => s.time < t + 1000000) ++ [s.time]
    let s := s.setHs h { s.hs h with lockTimes := recent }
    let s := s.put p F.SAF_STATUS_RUN 0
    .next (if 3 ≤ recent.length then s.put p F.SAF_STATUS_HELD 1
      else s.setHs h { s.hs h with saf := { (s.hs h).saf with hold := true } })

/-- The SAF Function is reset (R209): the pair starts again; the tightly coupled SRAM keeps its content. -/
def State.safReset (s : State) (h : Half) : State :=
  let f := (s.hs h).saf
  let s := s.setHs h { s.hs h with saf := { hold := false, resets := f.resets + 1, tcm := f.tcm } }
  s.put (pgSaf h) F.SAF_STATUS_RUN 1

/-- The size of the tightly coupled SRAM (R208). -/
def tcmSize : Nat := 0x80000

/-- What the safety cores read of it; a single-bit error is corrected, so that a word reads as it was written. None outside it. -/
def Safety.load (f : Safety) (a n : Nat) : Option (List Byte) := if a + n ≤ tcmSize then some (memBytes f.tcm a n) else none

/-- What they write to it. -/
def Safety.store (f : Safety) (a : Nat) (bs : List Byte) : Safety := if a + bs.length ≤ tcmSize then { f with tcm := memSetBytes f.tcm a bs } else f

/-- The time counter of every hart: 100 MHz, in step with module time, which the model keeps in µs (R207). -/
def State.hartTime (s : State) : Nat := 100 * s.time

/-! ## Tags of a hart (R211, R212) -/

/-- Can the hart's registers be written: it runs, or it is halted and a debugger with invasive debug enabled writes them (R228). -/
def State.hartWritable (s : State) (h : Half) (n : Nat) : Bool :=
  let t := s.hart h n
  !(s.hartHeld h n) && !t.trapHeld && (!t.halted || s.invasive h n)

/-- hpart takes a Partition of the hart's world; one of the other world leaves it unchanged (R212). -/
def State.setHpart (s : State) (h : Half) (n part : Nat) : State :=
  if s.trustedPart h part = s.flag (pgHart h n) F.MWORLD_WORLD then s.put (pgHart h n) F.HPART_PART part else s

/-- MPART takes a Trusted Partition; an Open one leaves it unchanged (R212). -/
def State.setMpart (s : State) (h : Half) (n part : Nat) : State :=
  if s.trustedPart h part then s.put (pgHart h n) F.MWORLD_MPART part else s

/-- HPART_WRITE (R211, R212): in HS-mode and M-mode; an instruction below HS-mode writes nothing (log entry 87). A reserved bit makes the result
unpredictable, confined to the hart's Partition tag: a free value, under the check that guards world separation. -/
def execHpartWrite (h : Half) (hart : Fin 8) (at_ : HpartValue) (s : State) : Res :=
  let value := at_.value
  if !(s.hartWritable h hart) || (at_.lower && !(s.hart h hart).mMode && !(s.hart h hart).halted) then .next s
  else if 16 ≤ value.toNat then
    let (v, s) := s.takeFree
    .next (s.setHpart h hart (v % 16))
  else .next (s.setHpart h hart value.toNat)

/-- MWORLD_WRITE (R211, R212): in M-mode only; PWORLD is written, MPART where it names a Trusted Partition; WORLD is read-only. A reserved bit
leaves PWORLD and MPART free, under the same check. -/
def execMworldWrite (h : Half) (hart : Fin 8) (value : Word) (s : State) : Res :=
  let v := value.toNat
  if !(s.hartWritable h hart) || !(s.hart h hart).mMode then .next s
  else if 4096 ≤ v ∨ v / 4 % 64 ≠ 0 then
    let (v, s) := s.takeFree
    let s := s.put (pgHart h hart) F.MWORLD_PWORLD v
    .next (s.setMpart h hart (v / 2 % 16))
  else
    let s := s.put (pgHart h hart) F.MWORLD_PWORLD (v / 2)
    .next (s.setMpart h hart (v / 256))

/-- M_MODE_TRAP (R211, R219, R224, R231): a trap of a hart stopped by a restart is discarded with its state; an Open hart that traps while a restart
runs is held at the trap. -/
def execMModeTrap (h : Half) (at_ : HartPoint) (s : State) : Res :=
  let hart := at_.hart
  let t := { s.hart h hart with l1d := at_.dirty }
  if s.hartHeld h hart || t.halted || t.trapHeld then .next s
  else if (s.hs h).restart ≠ 0 && !(s.flag (pgHart h hart) F.MWORLD_WORLD) then .next (s.setHart h hart { t with trapHeld := true })
  else .next ((s.setHart h hart t).trapM h hart)

/-- MRET (R211, R218, R219): WORLD takes PWORLD; M-mode code is Trusted. The dirty lines of a change of world are written back with the tag of
M-mode, before the mode changes. Interrupts that waited are taken on a return to the Open world. A hart that is held, halted or not in M-mode executes none. -/
def execMret (h : Half) (at_ : HartReturn) (s : State) : Res :=
  let hart := at_.hart
  let t := s.hart h hart
  let p := pgHart h hart
  if s.hartHeld h hart || t.halted || t.trapHeld || !t.mMode then .next s
  else
    let w := s.get p F.MWORLD_PWORLD
    let s := (s.setHart h hart { t with l1d := at_.dirty }).worldSet h hart w
    let s := s.setHart h hart { s.hart h hart with mMode := at_.toM && w = 1, openEn := at_.openEn }
    .next ((s.haltCheck h hart).openTake h hart)

/-! ## Interrupts (R216, R217) -/

/-- The APLIC domain that holds a source: M-level (false) or S-level (true); at reset the one of its world. -/
def State.irqOpen (s : State) (h : Half) (source : Nat) : Bool :=
  (tblFind source (s.hs h).irqDeleg).getD (!(Config.imageIrqTrusted (s.image (Half.die h)) source))

/-- APLIC_DELEGATE_WRITE (R216): a delegation to the other world's domain is ignored. -/
def execAplicDelegateWrite (h : Half) (source : Nat) (toOpen : Bool) (s : State) : Res :=
  let trusted := Config.imageIrqTrusted (s.image (Half.die h)) source
  .next (if toOpen = trusted then s else s.setHs h { s.hs h with irqDeleg := tblInsert source toOpen (s.hs h).irqDeleg })

/-- An identity joins a set of pending ones. -/
def pendAdd (l : List Nat) (n : Nat) : List Nat := if n = 0 ∨ l.contains n then l else l ++ [n]

/-- The wired sources of a half that are raised (R216, log entry 90): the page codes of its own pages, and those of Plinth pages above 0x10000, which
reach both halves as R192 says of PAIR. -/
def State.wired (s : State) (h : Half) : List Nat :=
  (s.irq.map keyPage).filterMap fun p =>
    if p.die = Half.die h then some p.code else if p.die = .P then some (0x10000 + p.code) else none

/-- What the M-level (false) or S-level (true) APLIC domain of a half has pending (R216). -/
def State.aplicPending (s : State) (h : Half) (sLevel : Bool) : List Nat := (s.wired h).filter fun n => s.irqOpen h n = sLevel

/-- The wired interrupts that the safety cores take: Trusted ones only (R216). -/
def State.safPending (s : State) (h : Half) : List Nat := (s.wired h).filter fun n => Config.imageIrqTrusted (s.image (Half.die h)) n

/-- MSI_WRITE (R210, R216, R218): a write with the tag of what issues it; file 0 is the M file, 1 the S file, 2 to 8 the guest files. One to the M file without the Trusted tag is dropped and
counted; one to an S or guest file waits while the hart is in the Trusted world. Identity 0 is none. -/
def execMsiWrite (h : Half) (hart : Fin 8) (by_ : Issuer) (file : Fin 9) (identity : Fin 256) (s : State) : Res :=
  let t := s.hart h hart
  if file.val = 0 then
    .next (if (s.tag h by_).world = .trusted then s.setHart h hart { t with pendM := pendAdd t.pendM identity }
      else s.incSat (pgWld h) F.WLD_STATUS_MSI_DROP)
  else if file.val = 1 then .next ((s.setHart h hart { t with pendS := pendAdd t.pendS identity }).openTake h hart)
  else if identity.val = 0 ∨ t.pendG.contains (file.val, identity.val) then .next s
  else .next ((s.setHart h hart { t with pendG := t.pendG ++ [(file.val, identity.val)] }).openTake h hart)

/-- TRUSTED_INTERRUPT (R217, R224): a Trusted interrupt pending at an Open hart is taken at the next instruction boundary; while a restart runs it
is held, and the release delivers it; a halted hart waits for R229. -/
def execTrustedInterrupt (h : Half) (at_ : HartPoint) (s : State) : Res :=
  let hart := at_.hart
  let t := s.hart h hart
  if t.pendM.isEmpty || s.hartHeld h hart || t.halted || t.trapHeld || s.flag (pgHart h hart) F.MWORLD_WORLD then .next s
  else
    let s := s.setHart h hart { t with l1d := at_.dirty }
    .next (if (s.hs h).restart ≠ 0 then s else s.trapM h hart)

/-! ## Trusted restart (R221, R222) -/

/-- Class F fields that are the running state of a composition pipe, not its shadows: CMP_SCHED, CMP_FILL (R221). -/
def pipeRunning (off : Nat) : Bool := off = 0x14 || off = 0x18

/-- Clear the class F fields of a page of a half, with what its engine holds beside them. A composition pipe keeps its active copies, its
running state and what it reports of it (R221); what the page holds of discovery words is dropped (R30). -/
def State.trustedPageClear (s : State) (h : Half) (code : Nat) : State :=
  let pg := halfPg h code
  let s := s.clearHeld fun p => p = pg
  match pg.kind with
  | some .cmp =>
    let kept := (s.reg pg 0x14, s.reg pg 0x18)
    let s := s.clearRegs (fun p => p = pg) clrF
    (s.setReg pg 0x14 kept.1).setReg pg 0x18 kept.2
  | some .rcx =>
    let c := code - 0x100
    let s := (s.groupsDrop h c).clearRegs (fun p => p = pg) clrF
    s.setCtx h c {}
  | some .qu => s.quReset h (code - 0x200)
  | some .cvu => (s.clearRegs (fun p => p = pg) clrF).setScan h (code - 0x50) {}
  | some .inst => s.instClear h ((code - 0x400) / 2)
  | _ => s.clearRegs (fun p => p = pg) clrF

/-- Is the page granted to the Trusted world of the half (R24, R452)? -/
def State.trustedPage (s : State) (h : Half) (pg : Pg) : Bool :=
  if trustedOnly pg then true
  else match s.grantee h pg with
    | none => true
    | some p => s.trustedPart h p

/-- WLD_RESTART (R222, R231; DESIGN CHOICE, log entry 127: mworld and hpart of a stopped hart take their reset values, as step 2 of R222 resets the
hart as a half reset does, though R383 keeps class H): a request while a restart runs is ignored. The Trusted harts stop and are reset, and Trusted raster contexts
are reset at once, whatever they do (R170); paused warps of Open contexts resume. -/
def execWldRestart (rq : Requester) (s : State) : Res :=
  let h := rq.half
  let p := pgWld h
  hostWrite rq p s fun s =>
    if (s.hs h).restart ≠ 0 then .next s
    else
      let s := s.put p F.WLD_STATUS_BUSY 1
      let s := s.put p F.WLD_STATUS_CAUSE (if rq.by_ = .safety then 2 else 1)
      let s := s.each (upTo 8) fun n s =>
        if s.flag (pgHart h n) F.MWORLD_WORLD then
          let s := (s.setReg (pgHart h n) 0x7C0 (regReset ((pgHart h n).key 0x7C0))).setReg (pgHart h n) 0x6C0 0
          s.setHart h n { stopped := true, pendM := (s.hart h n).pendM, haltReq := (s.hart h n).haltReq }
        else s
      let s := s.each (upTo 64) fun c s =>
        if s.trustedPage h (pgRcx h c) then s.trustedPageClear h (0x100 + c) else s
      let s := if s.rs h 0 = rsHolding then s else s.unpause h
      .next (s.setHs h { s.hs h with restart := 1, images := 0 })

/-- TRUSTED_CLEAR_DONE (R221, R222 step 3): class T fields, class F fields of Trusted pages with what they hold for reads (R30), the Trusted L2 ways
without write-back, and the scratchpad regions flagged clear; the measurement begins, or the release where there is no image. -/
def execTrustedClearDone (h : Half) (s : State) : Res :=
  if (s.hs h).restart ≠ 1 then .next s
  else
    let s := s.clearRegs (fun p => p.die = Half.die h) clrT
    let s := s.each (funcPages.filter fun c => s.trustedPage h (halfPg h c)) fun c s => s.trustedPageClear h c
    let s := s.l2DropTrusted h
    let s := s.each (Config.imageClear (s.image (Half.die h))) fun r s => s.spmClear h r.1 r.2
    let s := s.setHs h { s.hs h with restart := 2, images := 0 }
    .next (if (s.trustedImages h).isEmpty then s.restartRelease h else s)

/-- WLD_EXTEND (R225): one of MR4 to MR7 is extended by WLD_EXT. -/
def execWldExtend (rq : Requester) (mr : Fin 4) (s : State) : Res :=
  let h := rq.half
  hostWrite rq (pgWld h) s fun s =>
    .next (s.mrExtend h (4 + mr) ((upTo 12).flatMap fun w => b4 (s.reg (pgWld h) (0x40 + 4 * w)).toNat))

/-! ## Secure watchdog (R226, R227) -/

/-- WATCHDOG_KICK (R226): 0x5A reloads, any other value is ignored. -/
def execWatchdogKick (rq : Requester) (kick : Byte) (s : State) : Res :=
  hostWrite rq (pgWld rq.half) s fun s => .next (if kick = 0x5A then s.watchdogLoad rq.half else s)

/-- WATCHDOG_EXPIRY (R227): counted, recorded, alerted, and a half reset with cause secure watchdog. -/
def execWatchdogExpiry (h : Half) (s : State) : Res :=
  let p := pgWld h
  if (s.hs h).stage ≠ .running then .next s
  else
    let s := s.incSat p F.WLD_WDCFG_EXPIRIES
    let s := s.event (srcOf p) 0x0072 (b2 (s.get p F.WLD_WDCFG_EXPIRIES)) (trig := true)
    .next (s.alert.halfResetReq h 1)

/-! ## Debug (R228 to R230) -/

/-- WLD_DBG_WRITE (R225, R228): the Trusted enables take a write only in life-cycle state Provisioned with DBG_ALLOW_T = 1; a change of them is
measured. A reserved bit leaves free what the write could have set (R11). -/
def execWldDbgWrite (rq : Requester) (value : Word) (s : State) : Res :=
  let h := rq.half
  let p := pgWld h
  hostWrite rq p s fun s =>
    let tru := s.get p F.WLD_DBG_TRU_NINV + 2 * s.get p F.WLD_DBG_TRU_INV
    let ok := s.get pgLcs F.LCS_STATUS_STATE = 1 && s.flag p F.WLD_CFG_DBG_ALLOW_T
    let s := if 16 ≤ value.toNat then s.unpredictable p 0x30 else s
    let v := if 16 ≤ value.toNat then (s.reg p 0x30).toNat else value.toNat
    let s := (s.put p F.WLD_DBG_OPEN_NINV v).put p F.WLD_DBG_OPEN_INV (v / 2)
    let t := if ok then v / 4 % 4 else tru
    let s := (s.put p F.WLD_DBG_TRU_NINV t).put p F.WLD_DBG_TRU_INV (t / 2)
    let s := if t = tru then s else s.dbgMeasure h
    .next (s.each (upTo 8) fun n s => s.haltCheck h n)

/-- What counter sampling shows of a hart: nothing while non-invasive debug is disabled for its world (R228). -/
def State.samples (s : State) (h : Half) (n : Nat) : Option (Nat × Nat × Vector Nat 8) :=
  let on := if s.flag (pgHart h n) F.MWORLD_WORLD then s.flag (pgWld h) F.WLD_DBG_TRU_NINV else s.flag (pgWld h) F.WLD_DBG_OPEN_NINV
  if on then some ((s.hart h n).cycle, (s.hart h n).instret, (s.hart h n).hpm) else none

/-- DEBUG_HALT_REQUEST (R228): it waits until the hart is in a world where invasive debug is enabled. -/
def execDebugHaltRequest (h : Half) (hart : Fin 8) (s : State) : Res :=
  .next ((s.setHart h hart { s.hart h hart with haltReq := true }).haltCheck h hart)

/-- DEBUG_PREEMPT (R229): a hart halted in the Open world leaves Debug Mode for a pending Trusted interrupt and takes it. -/
def execDebugPreempt (h : Half) (at_ : HartPoint) (s : State) : Res :=
  let hart := at_.hart
  let t := s.hart h hart
  if !t.halted || s.hartHeld h hart || t.pendM.isEmpty || s.flag (pgHart h hart) F.MWORLD_WORLD || (s.hs h).restart ≠ 0 then .next s
  else
    let s := s.setHart h hart { t with halted := false, l1d := at_.dirty }
    .next ((s.put (pgWld h) F.WLD_STATUS_DBG_PRE 1).trapM h hart)

/-- HARTRESET (R382): the hart's architectural state only, no field; an unpowered core has none. -/
def execHartreset (h : Half) (hart : Fin 8) (s : State) : Res :=
  let t := s.hart h hart
  .next (if s.domain h hart = 0 then s else s.setHart h hart { s.hartStart h with stopped := t.stopped })

/-- FENCE_I (R230): the hart's fetch sees every earlier store. -/
def execFenceI (h : Half) (hart : Fin 8) (s : State) : Res :=
  let t := s.hart h hart
  .next (if s.hartHeld h hart || t.halted then s else s.setHart h hart { t with seen := s.fetchView h })

end Sys2Proof.Machine
end

