-- ==== Sys2Proof/Machine/Audio.lean ====
section
/-! DEFINITION. The nodes of a sample program on 24-bit samples (R325, R326, R334). -/

namespace Sys2Proof.Machine

/-- Clamp to −2^23 to 2^23 − 1. -/
def sat24 (v : Int) : Int := if v < -8388608 then -8388608 else if 8388607 < v then 8388607 else v

/-- One sample period on its way through a program: the value of each node so far with whether a sample was clamped on the way to it, the histories
and phases by node, and the samples that the sinks took by output. -/
structure AudioRun where
  vals : List (Int × Bool) := []
  hist : List (Nat × List (Int × Bool)) := []
  phase : List (Nat × Nat) := []
  outs : List (Nat × (Int × Bool)) := []

/-- The value of a node that has run. -/
def AudioRun.val (r : AudioRun) (n : Nat) : Int × Bool := r.vals.getD n (0, false)

def AudioRun.give (r : AudioRun) (v : Int × Bool) : AudioRun := { r with vals := r.vals ++ [v] }

/-- A result before its clamp becomes a sample; `clip` says that an input of it was clamped. -/
def clamped (y : Int) (clip : Bool) : Int × Bool := (sat24 y, clip || y ≠ sat24 y)

/-- An entry of the quarter-wave table on any of the four quarters: the phase's two highest bits choose the quarter. -/
def waveAt (k : Nat) : Int :=
  match k / 4096 % 4 with
  | 0 => Config.quarterWave (k % 4096)
  | 1 => Config.quarterWave (4096 - k % 4096)
  | 2 => -(Config.quarterWave (k % 4096))
  | _ => -(Config.quarterWave (4096 - k % 4096))

/-- The sine of a tone at a phase of 32 bits (R326): linear between the entries on both sides; the rounding is open (log entry 143). -/
def toneWave (p : Nat) : Int :=
  let a := waveAt (p / 2 ^ 18)
  let d := (waveAt (p / 2 ^ 18 + 1) - a) * (p % 2 ^ 18 : Nat)
  a + d / 2 ^ 18 + (if d % 2 ^ 18 ≠ 0 && Config.roundUp 1 d then 1 else 0)

/-- The cells that a node names. -/
def AudioNode.cells : AudioNode → List AudioCell
  | .gain _ g => [g]
  | .biquad _ b0 b1 b2 a1 a2 => [b0, b1, b2, a1, a2]
  | .tone rate amp => [rate, amp]
  | _ => []

/-- A node takes its turn (R326); one with a cell value that the routing graph does not expect gives a free value (R337). -/
def AudioRun.step (cell : AudioCell → Int) (odd : AudioCell → Bool) (free : Nat → Int) (inputs : List Int) (r : AudioRun) (n : AudioNode) : AudioRun :=
  let i := r.vals.length
  if n.cells.any odd then r.give (clamped (free i) false)
  else match n with
  | .source k => r.give (inputs.getD k 0, false)
  | .sink k x => { r.give (r.val x) with outs := tblInsert k (r.val x) r.outs }
  | .gain x g => r.give (clamped (((r.val x).1 * cell g + 8388608) / 16777216) (r.val x).2)
  | .mix xs => r.give (clamped ((xs.map fun x => (r.val x).1).sum) (xs.any fun x => (r.val x).2))
  | .biquad x b0 b1 b2 a1 a2 =>
    let h := tblGet (fun _ => []) r.hist i
    let z (k : Nat) : Int := (h.getD k (0, false)).1
    let y := (cell b0 * (r.val x).1 + cell b1 * z 0 + cell b2 * z 1 - cell a1 * z 2 - cell a2 * z 3 + 536870912) / 1073741824
    { r.give (clamped y (r.val x).2) with hist := tblInsert i [r.val x, (z 0, false), (y, false), (z 2, false)] r.hist }
  | .delay x len =>
    let h := tblGet (fun _ => []) r.hist i
    let line := r.val x :: h
    { r.give (line.getD len (0, false)) with hist := tblInsert i (line.take len) r.hist }
  | .tone rate amp =>
    let p := tblGet (fun _ => 0) r.phase i
    { r.give (clamped (Config.toneScale (toneWave p) (cell amp)) false) with phase := tblInsert i ((((p : Int) + cell rate) % 2 ^ 32).toNat) r.phase }
  | .thru x => r.give (r.val x)

/-- One sample period of a program (R325): every instruction once, in order. -/
def audioRun (program : List AudioNode) (cell : AudioCell → Int) (odd : AudioCell → Bool) (free : Nat → Int) (inputs : List Int)
    (hist : List (Nat × List (Int × Bool))) (phase : List (Nat × Nat)) : AudioRun :=
  program.foldl (AudioRun.step cell odd free inputs) { hist := hist, phase := phase }

/-- The forty outputs after a sample period: line outputs 0 to 7, then the slots of the TDM ports (R334). -/
def AudioRun.outputs (r : AudioRun) : List (Int × Bool) := (upTo 40).map fun m => tblGet (fun _ => (0, false)) r.outs m

end Sys2Proof.Machine
end

