-- ==== Sys2Proof/Machine/Feedback.lean ====
section
/-! DEFINITION. Haptic channels, headset ports and the audio engine (R315 to R337). -/

namespace Sys2Proof.Machine

/-! ## Haptic channels -/

def hcOff : Nat := 0
def hcIdle : Nat := 1
def hcPlaying : Nat := 2
def hcBraking : Nat := 3
def hcCoasting : Nat := 4
def hcLocked : Nat := 5

def State.hapState (s : State) (ch : Nat) : Nat := s.get pgHap (F.HAP_CH_STATE.at (4 * ch))

/-- A channel changes its state; BUSY and LOCK follow. -/
def State.setHap (s : State) (ch v : Nat) : State :=
  let s := s.put pgHap (F.HAP_CH_STATE.at (4 * ch)) v
  let s := s.putBit pgHap F.HAP_STATUS_BUSY ch (v = hcPlaying || v = hcBraking)
  s.putBit pgHap F.HAP_LOCK_LOCK ch (v = hcLocked)

def State.hapDrop (s : State) : State := s.incSat pgHap F.HAP_STATUS_DROPS

/-- Families 6 and 7 are Alert effects (R317). -/
def isAlert (effect : Nat) : Bool := 6 ≤ effect / 32

def State.hapClosed (s : State) (ch : Nat) : Bool := s.flag pgHap (F.HAP_CFG_CLOSED.at (4 * ch))

/-- ACC_FS in g/16. -/
def State.accFs (s : State) (ch : Nat) : Nat := s.get pgHap (F.HAP_CFG_ACC_FS.at (4 * ch))

/-- An effect starts on a channel (R320). -/
def State.hapStart (s : State) (ch effect : Nat) : State :=
  let c := s.chan ch
  let s := s.setChan ch { c with effect := effect, n := 0, pending := none, ending := 0, still := 0, abortNext := none }
  let s := s.put pgHap (F.HAP_CH_EFFECT.at (4 * ch)) effect
  s.setHap ch hcPlaying

/-- Is the domain of a channel On: HPA for channels 0 to 3, HPB for 4 to 7 (R315)? -/
def State.hapUsable (s : State) (ch : Nat) : Bool := s.pdomain (if ch < 4 then 16 else 17) = 2

/-- A play or a binding (R315, R320, R322, R324, R335): it starts on an Idle channel, waits for the next control sample on one that plays or brakes, and is
dropped otherwise: an Ordinary effect onto an Alert effect or in T3, any in T4, on a channel that is not Present or whose domain is not on. -/
def State.hapPlay (s : State) (ch effect : Nat) : State :=
  let st := s.hapState ch
  let busy := st = hcPlaying || st = hcBraking
  if s.disc pgHap ch ≠ 2 || !(s.hapUsable ch) || 4 ≤ s.tier || (3 ≤ s.tier && !(isAlert effect)) then s.hapDrop
  else if st = hcIdle then s.hapStart ch effect
  else if !busy || (st = hcPlaying && isAlert (s.chan ch).effect && !(isAlert effect)) then s.hapDrop
  else s.setChan ch { s.chan ch with pending := some effect }

/-- The bridge turns off and the channel is Idle. -/
def State.hapIdle (s : State) (ch : Nat) : State := (s.setChan ch {}).setHap ch hcIdle

/-- The brake phase begins (R319); a channel without closed loop has none. -/
def State.hapBrake (s : State) (ch : Nat) : State :=
  if s.hapClosed ch then (s.setChan ch { s.chan ch with pending := none, ending := 0, still := 0 }).setHap ch hcBraking
  else s.hapIdle ch

/-- HAP_PLAY (R320). -/
def execHapPlay (rq : Requester) (ch : Fin 8) (effect : Byte) (s : State) : Res :=
  hostWrite rq pgHap s fun s => .next (s.hapPlay ch effect.toNat)

/-- HAP_STOP (R320, R336): a playing channel starts Braking at once; ignored otherwise. -/
def execHapStop (rq : Requester) (ch : Fin 8) (s : State) : Res :=
  hostWrite rq pgHap s fun s => .next (if s.hapState ch = hcPlaying then s.hapBrake ch else s)

/-- A Locked channel is unlocked: Idle, or Off where its domain is not on (R315, log entry 40). -/
def State.hapUnlocked (s : State) (ch : Nat) : State := if s.hapUsable ch then s.hapIdle ch else (s.setChan ch {}).setHap ch hcOff

/-- HAP_UNLOCK (R322, R336): each named Locked channel returns to Idle; a Coasting one still goes to Locked. -/
def execHapUnlock (rq : Requester) (mask : BitVec 8) (s : State) : Res :=
  hostWrite rq pgHap s fun s =>
    .next (s.each (upTo 8) fun ch s => if mask.getLsbD ch && s.hapState ch = hcLocked then s.hapUnlocked ch else s)

/-- The frequency of an effect in Hz (R317). -/
def feltHz (e : Nat) : Nat := [125, 175, 250, 350].getD (e / 8 % 4) 125

/-- Does the target of an effect act at time t (µs) after its start (R317)? -/
def feltOn (e t : Nat) : Bool :=
  let f := feltHz e
  match e / 32 with
  | 0 => t * f < 1000000
  | 1 => t * f < 1000000 || (40000 ≤ t && (t - 40000) * f < 1000000)
  | 2 => t * f < 500000
  | 3 => t < 30000
  | 4 => t < 150000
  | 5 => t < 100000
  | 6 => t < 40000 || (100000 ≤ t && t < 140000) || (200000 ≤ t && t < 240000)
  | _ => t % 200000 < 100000

/-- Has the target of an effect ended at time t? -/
def feltOver (e t : Nat) : Bool :=
  let f := feltHz e
  match e / 32 with
  | 0 => 1000000 ≤ t * f
  | 1 => 40000 ≤ t && 1000000 ≤ (t - 40000) * f
  | 2 => 500000 ≤ t * f
  | 3 => 30000 ≤ t
  | 4 => 150000 ≤ t
  | 5 => 100000 ≤ t
  | 6 => 240000 ≤ t
  | _ => false

/-- sin of n / 250,000 of a right angle, n up to 250,000, in 2^-40: the series of the sine up to its eleventh power, within 2^-24. -/
def quarterSine (n : Nat) : Int :=
  let x : Int := 1727108826179 * n / 250000
  let sq : Int := x * x / 2 ^ 40
  let term (y : Int) (k : Nat) : Int := y * sq / 2 ^ 40 / (k * (k + 1) : Nat)
  let x3 := term x 2
  let x5 := term x3 4
  let x7 := term x5 6
  let x9 := term x7 8
  x - x3 + x5 - x7 + x9 - term x9 10

/-- sin(2π f t) in 2^-40, t in µs. -/
def sineAt (f t : Nat) : Int :=
  let p := f * t % 1000000
  let q := p % 250000
  match p / 250000 with
  | 0 => quarterSine q
  | 1 => quarterSine (250000 - q)
  | 2 => -(quarterSine q)
  | _ => -(quarterSine (250000 - q))

/-- The target acceleration in g/4096 (R317): (A / 8) × ACC_FS × sin(2π F t); the amplitude of a rising buzz grows linearly. The model's unit is its own, and
its rounding is open (log entry 143). -/
def feltTarget (e fs t : Nat) : Int :=
  if !(feltOn e t) then 0
  else
    let num := (e % 8 + 1 : Nat) * (fs * 32 : Nat) * sineAt (feltHz e) t * (if e / 32 = 5 then (t : Int) else 100000)
    let den : Int := 2 ^ 40 * 100000
    num / den + (if num % den ≠ 0 && Config.roundUp 0 num then 1 else 0)

def clampInt (lo hi v : Int) : Int := if v < lo then lo else if hi < v then hi else v

/-- The last eight samples. -/
def hapWindow (w : List HapPoint) (p : HapPoint) : List HapPoint := (w ++ [p]).drop ((w ++ [p]).length - 8)

def sumSq (l : List Int) : Int := l.foldl (fun a x => a + x * x) 0

/-- The abort condition that holds over the window (R321), the lowest value first. -/
def abortCause (w : List HapPoint) (closed : Bool) (elapsed : Nat) (boost : Int) : Option Nat :=
  let tt := sumSq (w.map (·.target))
  let mm := sumSq (w.map (·.meas))
  let full := w.length = 8
  let strong := w.filter fun p => boost ≤ 4 * (if p.drive < 0 then -p.drive else p.drive)
  if full && w.all (fun p => 2000 ≤ p.current) then some 1
  else if full && closed && 2000 < elapsed && 100 * mm < tt then some 1
  else if full && !strong.isEmpty && strong.all (fun p => p.current < 20) then some 2
  else if full && closed && (w.foldl (fun a p => a + p.target * p.meas) 0) < 0 && tt < 4 * mm then some 3
  else if closed && ((w.drop (w.length - 2)).filter fun p => p.failed).length = 2 then some 4
  else none

/-- The channel aborts (R322): bridge off, Coasting, recorded; a play that waits is dropped (R336). -/
def State.hapAbort (s : State) (ch cause : Nat) : State :=
  let c := s.chan ch
  let s := s.whenB c.pending.isSome State.hapDrop
  let s := s.put pgHap (F.HAP_CH_CAUSE.at (4 * ch)) cause
  let s := s.incSat pgHap (F.HAP_CH_ABORTS.at (4 * ch))
  let s := s.event (srcOf pgHap) 0x0090 (b1 ch ++ b1 c.effect ++ b1 cause ++ [0] ++ b4 (c.n * 125))
  let s := s.setChan ch { c with pending := none, abortNext := none, drive := 0, window := [], ending := 0, still := 0 }
  (s.setHap ch hcCoasting).raise pgHap

/-- For how much of the last 100 ms the boost controller has delivered more than 12 W, in µs (R316). -/
def Boost.high (b : Boost) (now : Nat) : Nat :=
  let spans := match b.since with
    | none => b.spans
    | some t => b.spans ++ [(t, now)]
  (spans.map fun e => e.2 - max e.1 (now - 100000)).sum

/-- The boost controller at a control sample (R316), where the drives that are wanted would take `mw` milliwatts: more than 30 W is never delivered, and more
than 12 W for 20 ms in any 100 ms. While a limit holds, the drives are folded by one common factor in 1/256, for which the manual gives no value: a free
value (log entry 4). -/
def State.hapFoldStep (s : State) (mw : Nat) : State :=
  let b := s.hapFold
  let spent := 20000 ≤ b.high s.time
  let limited := 30000 < mw || (12000 < mw && spent)
  let high := 12000 < mw && !spent
  let kept := b.spans.filter fun e => s.time < e.2 + 100000
  let b := match b.since, high with
    | none, true => { b with since := some s.time, spans := kept }
    | some t, false => { b with since := none, spans := kept ++ [(t, s.time)] }
    | _, _ => { b with spans := kept }
  if !limited then { s with hapFold := { b with fold := none } }
  else if b.fold.isSome then { s with hapFold := b }
  else
    let (v, s) := s.takeFree
    ({ s with hapFold := { b with fold := some (v % 257) } }).incSat pgHap F.HAP_STATUS_FOLDS

/-- What a channel drives and measures at a control sample (R316, R318): target and drive with the fold applied. -/
def State.hapPoint (s : State) (ch : Nat) (sample : HapSample) (braking : Bool) : HapPoint :=
  let c := s.chan ch
  let closed := s.hapClosed ch
  let meas := sample.acc.getD c.meas
  let (kff, kp, _) := Config.imageHaptic (s.image .P) ch
  let boost : Int := s.get pgHap F.HAP_BOOST_MV
  let fold : Int := (min 256 (s.hapFold.fold.getD 256) : Nat)
  let want := if braking then 0 else feltTarget c.effect (s.accFs ch) (c.n * 125)
  let u := clampInt (-boost) boost ((kff * want + (if closed then kp * (want - meas) else 0)) / 256)
  { target := want * fold / 256, meas := meas, current := sample.current, drive := if braking then u else u * fold / 256,
    failed := closed && sample.acc.isNone }

/-- The abort condition that this control sample would meet as the channel goes on (R321). -/
def State.hapMeets (s : State) (ch : Nat) (sample : HapSample) : Bool :=
  let c := s.chan ch
  let braking := s.hapState ch = hcBraking || feltOver c.effect (c.n * 125)
  (abortCause (hapWindow c.window (s.hapPoint ch sample braking)) (s.hapClosed ch) (c.n * 125) (s.get pgHap F.HAP_BOOST_MV)).isSome

/-- A play that waits: dropped where the sample meets an abort condition (R336), else it starts. -/
def State.hapTake (s : State) (ch : Nat) (sample : HapSample) : State :=
  match (s.chan ch).pending with
  | none => s
  | some e => if s.hapMeets ch sample then (s.setChan ch { s.chan ch with pending := none }).hapDrop else s.hapStart ch e

/-- HAP_CONTROL_SAMPLE (R316, R318 to R322): every 125 µs a channel reads its accelerometer and sets its bridge voltage. -/
def execHapControlSample (ch : Fin 8) (sample : HapSample) (mw : Nat) (s : State) : Res :=
  let st := s.hapState ch
  if st ≠ hcPlaying && st ≠ hcBraking && st ≠ hcCoasting then .next s
  else
    let fs := s.accFs ch
    let closed := s.hapClosed ch
    let c := s.chan ch
    let meas := sample.acc.getD c.meas
    let size : Int := if meas < 0 then -meas else meas
    let still := if size * 20 < fs * 256 then c.still + 1 else 0
    if st = hcCoasting then
      let s := s.setChan ch { c with meas := meas, still := still, ending := c.ending + 1 }
      .next (if 9 ≤ still || 160 ≤ c.ending + 1 then s.setHap ch hcLocked else s)
    else match c.abortNext with
      | some cause => .next (s.hapAbort ch cause)
      | none =>
        let s := (s.hapFoldStep mw).hapTake ch sample
        let c := s.chan ch
        let t := c.n * 125
        if s.hapState ch = hcPlaying && feltOver c.effect t && !closed then .next (s.hapIdle ch)
        else
          let ends := s.hapState ch = hcPlaying && feltOver c.effect t
          let s := s.whenB ends fun s => s.setHap ch hcBraking
          let c := if ends then { c with ending := 0, still := 0 } else c
          let braking := s.hapState ch = hcBraking
          if braking && (9 ≤ (if ends then 0 else still) || s.get pgHap (F.HAP_CFG_BRAKE_MAX.at (4 * ch)) * 1000 ≤ c.ending * 125) then .next (s.hapIdle ch)
          else
            let point := s.hapPoint ch sample braking
            let w := hapWindow c.window point
            .next (s.setChan ch { c with
              n := c.n + 1, ending := c.ending + (if braking then 1 else 0), still := if ends then 0 else still, meas := meas, drive := point.drive,
              window := w, abortNext := abortCause w closed t (s.get pgHap F.HAP_BOOST_MV) })

/-- A play that waits is dropped. -/
def State.hapUnwait (s : State) (ch : Nat) : State :=
  if (s.chan ch).pending.isSome then (s.setChan ch { s.chan ch with pending := none }).hapDrop else s

/-- Entry to T4 (R335): a playing channel brakes, and no play that waits starts. -/
def State.hapT4 (s : State) : State :=
  s.each (upTo 8) fun ch s =>
    let s := s.hapUnwait ch
    if s.hapState ch = hcPlaying then s.hapBrake ch else s

/-- Entry to T3 (R335, log entry 145): only Alert effects play; an Ordinary one that plays brakes, and one that waits is dropped. -/
def State.hapT3 (s : State) : State :=
  s.each (upTo 8) fun ch s =>
    let s := s.whenB ((s.chan ch).pending.any fun e => !(isAlert e)) fun s => s.hapUnwait ch
    if s.hapState ch = hcPlaying && !(isAlert (s.chan ch).effect) && (s.chan ch).pending.isNone then s.hapBrake ch else s

/-- HAP_LOAD_CHECK (R324): a load check begins at a position that is Absent or Faulted, where the image is applied and the bridges have power (R391,
R435). -/
def execHapLoadCheck (ch : Fin 8) (s : State) : Res :=
  let on := s.applied && s.pdomain (16 + ch.val / 4) = 2
  .next (if on && (s.disc pgHap ch = 0 || s.disc pgHap ch = 4) then s.discSet pgHap ch 1 else s)

/-- HAP_LOAD_CHECK_DONE (R324). -/
def execHapLoadCheckDone (ch : Fin 8) (milliohm : Nat) (accId : Option Word) (s : State) : Res :=
  if s.disc pgHap ch ≠ 1 then .next s
  else
    let (_, _, lo, hi) := Config.imageHaptic (s.image .P) ch
    let st := if 200000 < milliohm then 0
      else if milliohm < 500 || (s.hapClosed ch && accId.isNone) then 4
      else if milliohm < lo || hi < milliohm then 3
      else 2
    let s := s.discId pgHap ch (BitVec.ofNat 32 milliohm) (accId.getD 0)
    .next (s.discSet pgHap ch st)

/-! ## Audio engine -/

def State.audBank (s : State) : Nat := s.get pgAud F.AUD_STATUS_BANK

/-- The signed value of a cell that a program names: of the active bank, or an override cell. -/
def State.audioCell (s : State) (c : AudioCell) : Int :=
  match c with
  | .banked w => (s.cell s.audBank (w % 4096)).toInt
  | .ovr n => (s.reg pgAud (0x100 + 4 * (n % 16))).toInt

/-- The level meter of an output takes one sample (R334). -/
def State.meter (s : State) (m : Nat) (x : Int) (clip : Bool) : State :=
  let d := if s.flag pgAud F.AUD_CFG_RATE then 14 else 13
  let perMs := if s.flag pgAud F.AUD_CFG_RATE then 96 else 48
  let a := x.natAbs
  let fl := F.AUD_METER_VALUE.at (4 * m)
  let fp := F.AUD_PEAK_VALUE.at (4 * m)
  let l := s.get pgAud fl
  let l := max a (l - l / 2 ^ d)
  let p := s.get pgAud fp
  let hold := tblGet (fun _ => 0) s.audio.hold m
  let (p, hold) := if p ≤ a then (a, s.get pgAud F.AUD_CFG_HOLD * perMs) else if 0 < hold then (p, hold - 1) else (l, 0)
  let s := (s.put pgAud fl l).put pgAud fp p
  let s := s.whenB clip fun s => s.put pgAud (F.AUD_METER_CLIP.at (4 * m)) 1
  { s with audio := { s.audio with hold := tblSet (fun _ => 0) s.audio.hold m hold } }

/-- The inputs of a sample period (R331, log entry 144): line inputs 0 to 3, headset microphones from 4 on, slot s of TDM port p at 8 + 8p + s. A port that
repeats a frame shows those of the last period again. -/
def State.tdmInputs (s : State) (inputs : List Int) : List Int :=
  inputs.mapIdx fun i v => if 8 ≤ i && s.audio.repeats.contains ((i - 8) / 8) then s.audio.inputs.getD i v else v

/-- AUDIO_SAMPLE (R325 to R329, R334): the program of the tier, a pending swap, the outputs of the last period presented and metered, and one period
computed. Nothing runs while domain AUD is not On. A Plinth switch that waits for the sample boundary is taken first (R57). -/
def execAudioSample (inputs : List Int) (s : State) : Res :=
  if s.pdomain 19 ≠ 2 || 4 ≤ s.tier then .next s
  else
    let s := s.plinthTake [itemAudio]
    let bypass := s.tier = 3
    let s := if s.get pgAud F.AUD_STATUS_PROG = 2 then { s with audio := { s.audio with hist := [], phase := [], outputs := [] } } else s
    let s := s.put pgAud F.AUD_STATUS_PROG (if bypass then 1 else 0)
    let s := if s.flag pgAud F.AUD_STATUS_SWAP_PEND && !(s.flag pgAud F.AUD_STATUS_COPYING) then
        let s := s.put pgAud F.AUD_STATUS_BANK (1 - s.audBank)
        (s.put pgAud F.AUD_STATUS_SWAP_PEND 0).put pgAud F.AUD_STATUS_SWAPPED 1
      else s
    let s := s.each (upTo 40) fun m s => match s.audio.outputs[m]? with
      | none => s
      | some o => s.meter m o.1 o.2
    let image := s.slotCells (s.plinthSlot itemAudio)
    let program := Config.imageProgram image (s.flag pgAud F.AUD_CFG_RATE) bypass
    let odd (c : AudioCell) : Bool := !(Config.cellExpected image c (s.audioCell c))
    let s := if program.any (fun n => n.cells.any odd) then { s with free := s.free + 1 } else s
    let inputs := s.tdmInputs inputs
    let r := audioRun program s.audioCell odd (Config.audioOdd s.free) inputs s.audio.hist s.audio.phase
    .next { s with audio := { s.audio with outputs := r.outputs, hist := r.hist, phase := r.phase, inputs := inputs, repeats := [] } }

/-- AUD_SWAP (R328). -/
def execAudSwap (rq : Requester) (s : State) : Res :=
  hostWrite rq pgAud s fun s => .next (s.put pgAud F.AUD_STATUS_SWAP_PEND 1)

/-- AUD_COPY (R328). -/
def execAudCopy (rq : Requester) (s : State) : Res :=
  hostWrite rq pgAud s fun s => .next (s.put pgAud F.AUD_STATUS_COPYING 1)

/-- AUD_COPY_DONE (R328): the inactive bank equals the active one. -/
def execAudCopyDone (s : State) : Res :=
  if !(s.flag pgAud F.AUD_STATUS_COPYING) then .next s
  else
    let a := s.audBank
    let banks := (upTo 4096).foldl (fun t w => tblSet (fun _ => (0 : Word)) t ((1 - a) * 4096 + w) (s.cell a w)) s.audio.banks
    .next (({ s with audio := { s.audio with banks := banks } }).put pgAud F.AUD_STATUS_COPYING 0)

/-- AUD_OVERRIDE_WRITE (R329): it acts from the next sample boundary. -/
def execAudOverrideWrite (rq : Requester) (cell : Fin 16) (value : Word) (s : State) : Res :=
  hostWrite rq pgAud s (fun s => .next (s.setReg pgAud (0x100 + 4 * cell) value)) (0x100 + 4 * cell.val)

/-! ## Headset ports and TDM -/

/-- The AIO Function runs discovery on every headset port (R32): a port with nothing plugged in measures none and is Absent again. -/
def State.aioDiscover (s : State) : State := s.each (upTo 4) fun n s => s.discSet pgAio n 1

/-- HEADSET_PLUG (R332): the debounced plug switch moves the position to Probing. Nothing sees it before the image is applied or while AIO has no
power (R391, R435); a start probes every port. -/
def execHeadsetPlug (port : Fin 4) (s : State) : Res :=
  .next (if s.applied && s.pdomain 18 = 2 && s.disc pgAio port = 0 then s.discSet pgAio port 1 else s)

/-- TYPE of a measured microphone line (R332). -/
def headsetType (r : HeadsetReading) : Nat :=
  if !r.plugged then 0 else if r.ohms < 100 then 1 else if 1000 ≤ r.ohms && r.ohms ≤ 3000 then (if r.swapped then 3 else 2) else 4

/-- HEADSET_MEASURE_DONE (R332): outputs play only in Present; bias is applied to types 0b010 and 0b011 only. -/
def execHeadsetMeasureDone (port : Fin 4) (reading : HeadsetReading) (s : State) : Res :=
  if s.disc pgAio port ≠ 1 then .next s
  else
    let t := headsetType reading
    let d := 4 * port.val
    let st := if t = 0 then 0 else if t = 4 then 4 else if (Config.imageHeadset (s.image .P) port).contains t then 2 else 3
    let s := s.put pgAio (F.AIO_HS_TYPE.at d) t
    let s := s.put pgAio (F.AIO_HS_BIAS.at d) (if t = 2 || t = 3 then 1 else 0)
    let s := s.put pgAio (F.AIO_HS_MUTE.at d) (if st = 2 then 0 else 1)
    let s := s.discId pgAio port (BitVec.ofNat 32 (reading.ohms % 65536 * 65536 + t)) 0
    .next (s.discSet pgAio port st)

/-- HEADSET_UNPLUG (R332, R336): outputs muted, bias removed; the release of a held button is not reported. -/
def execHeadsetUnplug (port : Fin 4) (s : State) : Res :=
  if s.disc pgAio port = 0 then .next s
  else
    let d := 4 * port.val
    let s := s.put pgAio (F.AIO_HS_MUTE.at d) 1
    let s := s.put pgAio (F.AIO_HS_BIAS.at d) 0
    let s := s.put pgAio (F.AIO_HS_TYPE.at d) 0
    let s := s.put pgAio (F.AIO_HS_BTN.at d) 0
    .next (s.discSet pgAio port 0)

/-- The button of a resistance, as a mask (R333). -/
def buttonOf (ohms : Nat) : Nat :=
  if ohms ≤ 70 then 1 else if 110 ≤ ohms && ohms ≤ 180 then 2 else if 210 ≤ ohms && ohms ≤ 290 then 4
  else if 360 ≤ ohms && ohms ≤ 680 then 8 else 0

/-- HEADSET_BUTTON (R333): one button is recognised at a time; each change sets its BTN_CHG bit and raises the AIO interrupt. -/
def execHeadsetButton (port : Fin 4) (ohms : Option Nat) (s : State) : Res :=
  let d := 4 * port.val
  if !(s.flag pgAio (F.AIO_HS_BIAS.at d)) then .next s
  else
    let new := match ohms with | none => 0 | some r => buttonOf r
    let old := s.get pgAio (F.AIO_HS_BTN.at d)
    if new = old then .next s
    else
      let s := s.put pgAio (F.AIO_HS_BTN.at d) new
      let s := s.put pgAio (F.AIO_HS_BTN_CHG.at d) (s.get pgAio (F.AIO_HS_BTN_CHG.at d) ||| (new ^^^ old))
      .next (s.raise pgAio)

/-- TDM_FRAME_SLIP (R331): a follower repeats the frame of the last period in the next one, or has dropped the one that came; one event is written. The clock of a
leader port is the module's own and does not slip. -/
def execTdmFrameSlip (port : Fin 4) (dropped : Bool) (s : State) : Res :=
  if !(Config.imageTdmFollower (s.image .P) port) then .next s
  else
    let s := if dropped then s else { s with audio := { s.audio with repeats := port.val :: s.audio.repeats } }
    .next (s.funcEvent pgAio 0x07 (b1 port ++ b1 (if dropped then 1 else 0)))

end Sys2Proof.Machine
end

