-- ==== Sys2Proof/Machine/Instances.lean ====
section
/-! DEFINITION. The commands of the instance hub: operations of INST_CTRL (R247), mailbox commands (R238 to R241), timeouts, hosts and
the twin link (R242 to R246). -/

namespace Sys2Proof.Machine

/-! ## Operations of INST_CTRL (R247) -/

/-- INST_FREEZE. -/
def execInstFreeze (rq : Requester) (inst : Fin 64) (s : State) : Res :=
  let h := rq.half
  hostWrite rq (pgInst h inst) s fun s =>
    if s.instState h inst ≠ stRunning then .next (s.instDone h inst 1 2)
    else if (s.inst h inst).cur.isNone then .next ((s.instFrozen h inst 1).instDone h inst 1 0)
    else .next ((s.setInstState h inst stFreezing).instBusy h inst 1)

/-- INST_THAW: a Twin asks the other hub first, or, with the link down, the half states; while the other hub asks, the THAW of its Frozen twin is held
off (R247). -/
def execInstThaw (rq : Requester) (inst : Fin 64) (s : State) : Res :=
  let h := rq.half
  let o := Half.other h
  hostWrite rq (pgInst h inst) s fun s =>
    let st := s.instState h inst
    let wait (s : State) : State := (s.setInst h inst { s.inst h inst with asking := true }).instBusy h inst 2
    if (s.inst h inst).saving then .next (s.instDone h inst 2 1)
    else if st = stFrozen then .next (if (s.inst o inst).asking && !(s.twinGone o) then wait s else s.thawFrozen h inst)
    else if st = stTwin then
      if s.twinGone o then .next (s.thawed h inst)
      else if !(s.flag (pgTwn h) F.TWN_STATUS_LINK) then .next (s.instDone h inst 2 1)
      else .next (wait s)
    else .next (s.instDone h inst 2 2)

/-- THAW_TWIN_QUERY (R247): the other hub answers; of two hubs that ask at once Half A's THAW proceeds and Half B's completes with BUSY, whichever
answer comes first. -/
def execThawTwinQuery (h : Half) (inst : Fin 64) (s : State) : Res :=
  let o := Half.other h
  if !((s.inst h inst).asking) || s.instState h inst ≠ stTwin then .next s
  else
    let both := (s.inst o inst).asking && s.instState o inst = stTwin
    let st := s.instState o inst
    if s.twinGone o then .next ((s.askDone h inst).thawed h inst)
    else if !(s.flag (pgTwn h) F.TWN_STATUS_LINK) then .next (((s.askDone h inst).instDone h inst 2 1).heldThaw o inst)
    else if both then .next (((((s.askDone .A inst).askDone .B inst).instDone .B inst 2 1)).thawed .A inst)
    else if st = stRunning || st = stFreezing then .next ((s.askDone h inst).instDone h inst 2 1)
    else if st = stFrozen then .next (((s.askDone h inst).thawed h inst).heldThaw o inst)
    else .next ((s.askDone h inst).instDone h inst 2 2)

/-- INST_SAVE (R247, R248): the write waits while the twin-link queue has no room for it (R197). -/
def execInstSave (rq : Requester) (inst : Fin 64) (s : State) : Res :=
  let h := rq.half
  hostWrite rq (pgInst h inst) s fun s =>
    if s.instState h inst ≠ stFrozen then .next (s.instDone h inst 3 2)
    else if s.mirFull h (s.sblk h inst) 0x5000 then .next ((s.setInst h inst { s.inst h inst with saving := true }).instBusy h inst 3)
    else .next (s.saveNow h inst)

/-- The words of one set of a state block. -/
def bytesSet (bs : List Byte) : List (Nat × Word) :=
  (upTo 16).foldl (fun t k => layerSet t k ((upTo 10).map fun w => BitVec.ofNat 32 (leNat ((bs.drop (64 * k + 4 * w)).take 4)))) []

/-- One completion of a state block. -/
def bytesCpl (bs : List Byte) : Completion :=
  { seq := leNat (bs.take 4), status := leNat ((bs.drop 4).take 1), opcode := leNat ((bs.drop 5).take 1),
    frame := leNat ((bs.drop 8).take 4), time := leNat ((bs.drop 12).take 4) }

/-- A RESTORE has latched on its last pipe: Frozen, DONE. -/
def State.restoreEnd (s : State) (h : Half) (i : Nat) : State :=
  ((s.setInst h i { s.inst h i with restoring := none }).instFrozen h i 3).instDone h i 4 0

/-- A field of a state block, its bytes in little-endian order. -/
def blockNat (bs : List Byte) (o n : Nat) : Nat := leNat ((bs.drop o).take n)

/-- Is this a state block of the instance's template, whole (R248)? -/
def State.blockGood (s : State) (h : Half) (inst : Nat) (bs : List Byte) : Bool :=
  blockNat bs 0 4 = 0x42534E49 && blockNat bs 4 2 = 1 && blockNat bs 8 4 = s.templateCrc h inst &&
    blockNat bs 0x4FFC 4 = crc32c (bs.take 0x4FFC)

/-- The instance takes the state of a block (R248). -/
def State.blockLoad (s : State) (h : Half) (inst : Nat) (bs : List Byte) : State :=
  let p := pgInst h inst
  let n := min 1024 (blockNat bs 0x10 2)
  let cm := bytesSet (bs.drop 0x40)
  let s := s.setInst h inst { s.inst h inst with
    committed := cm, staging := bytesSet (bs.drop 0x440),
    window := (upTo n).map fun k => bytesCpl ((bs.drop (0x840 + 16 * k)).take 16), restoring := some (s.instPipes h inst) }
  let s := s.put p F.INST_STATE_SEQV (if n = 0 then 0 else 1)
  let s := s.setReg p 0xC (BitVec.ofNat 32 (blockNat bs 0xC 4))
  let s := s.put p F.INST_STATE_FACE (blockNat bs 0x14 1)
  let s := s.put (pgInsq h inst) F.INSQ_MBOX_LO_ADDR (blockNat bs 0x18 4 / 4096)
  let s := s.put (pgInsq h inst) F.INSQ_MBOX_HI_ADDR (blockNat bs 0x1C 2)
  let s := s.put (pgInsq h inst) F.INSQ_MBOX_HI_BUS (blockNat bs 0x1F 1 / 128)
  s.hubShadows h inst cm

/-- RESTORE with the bytes of the state block: INVALID_BLOCK, or the block is taken and the pipes follow (R248). -/
def State.restoreFrom (s : State) (h : Half) (inst : Nat) (bs : List Byte) : State :=
  if !(s.blockGood h inst bs) then s.instDone h inst 4 3
  else
    let s := (s.blockLoad h inst bs).instBusy h inst 4
    if (s.instPipes h inst).isEmpty then s.restoreEnd h inst else s

/-- INST_RESTORE (R247, R248). -/
def execInstRestore (rq : Requester) (inst : Fin 64) (s : State) : Res :=
  let h := rq.half
  let p := pgInst h inst
  hostWrite rq p s fun s =>
    let st := s.instState h inst
    if (st ≠ stIdle && st ≠ stFrozen) || (s.inst h inst).restoring.isSome || (s.inst h inst).saving then .next (s.instDone h inst 4 2)
    else
      let t := s.tagOf h p
      let bs := s.bytesAt h t .read (s.sblk h inst) 0x5000
      .next ((s.noteRead h t .read (s.sblk h inst) 0x5000).restoreFrom h inst bs)

/-- INST_RESET (R247). -/
def execInstReset (rq : Requester) (inst : Fin 64) (s : State) : Res :=
  let h := rq.half
  hostWrite rq (pgInst h inst) s fun s =>
    .next (((s.forward h inst .reset).hubReset h inst).instDone h inst 5 0)

/-- INST_FACE (R235, R247). -/
def execInstFace (rq : Requester) (inst : Fin 64) (direct : Bool) (s : State) : Res :=
  let h := rq.half
  hostWrite rq (pgInst h inst) s fun s =>
    let s := s.setInst h inst { s.inst h inst with faceReq := some direct }
    .next (if (s.inst h inst).cur.isNone then s.hubBoundary h inst else s.instBusy h inst 6)

/-! ## The queue page (R235, R236, R238) -/

/-- The light virtual function of an instance exists (R236): VF i + 1, named in the template, at an endpoint; instance 63 has none. -/
def State.lightVf (s : State) (h : Half) (i : Nat) : Option Nat :=
  if s.get (pgInst h i) F.INST_CFG_VF = i + 1 && i < 63 && !(s.flag (pgPci h) F.PCI_STATUS_ROOT) then some (i + 1) else none

/-- Does the queue page admit the requester (R235)? In Direct face the tenant only, by its Partition tag or through its light virtual function, whose
BAR aliases the page (R236); in Mediated face the manager's Partition. -/
def State.insqAdmits (s : State) (rq : Requester) (i : Nat) : Bool :=
  let h := rq.half
  let p := pgInst h i
  let vf := match rq.by_ with
    | .pcie (n + 1) => some (n + 1)
    | _ => none
  if s.flag p F.INST_STATE_FACE then
    (if s.get p F.INST_CFG_VF = 0 then
       vf.isNone && (s.rqTag rq).part = s.get p F.INST_CFG_TPART && (s.rqTag rq).world = worldOf (s.flag p F.INST_CFG_TWORLD)
     else vf.isSome && vf = s.lightVf h i)
  else vf.isNone && s.admits rq p

/-- INSQ_DOORBELL, through the BAR alias of a light virtual function or at the page itself: a virtual function reaches the page through its alias
alone, and nothing else does (R236). Ignored where the face does not admit the requester; counted in every state (R250). -/
def execInsqDoorbell (rq : Requester) (alias_ : Bool) (inst : Fin 64) (tail : Word) (s : State) : Res :=
  let h := rq.half
  if alias_ ≠ Issuer.lightVf rq.by_ then .next s
  else if !(s.pageOn (pgInsq h inst)) then .next (s.dropped rq)
  else if !(s.insqAdmits rq inst) then .next { s with reply := .ok 0 }
  else .next { (s.setInst h inst { s.inst h inst with tail := tail.toNat }).busFetch h inst with reply := .ok 0 }

/-! ## Mailbox commands (R237 to R241) -/

/-- May the hub take a command: Running, none in hand, one below the doorbell count, and room for its mailbox writes? -/
def State.hubMay (s : State) (h : Half) (i : Nat) : Bool :=
  s.instState h i = stRunning && (s.inst h i).cur.isNone && (s.reg (pgInsq h i) 0xC).toNat ≠ (s.inst h i).tail && !(s.hubWaits h i)

/-- The address of the next command in the ring (R237). -/
def State.cmdAddr (s : State) (h : Half) (i : Nat) : Nat :=
  let a := s.mboxAddr h i
  a + 0x1000 + 64 * ((s.reg (pgInsq h i) 0xC).toNat % ringSize (s.natAt h (s.mboxTag h i) (a + 4) 1))

/-- The 64 bytes of the next command (R238, R239): read with the tag of the requester that the face admits, or as they came over PCIe; a PCIe answer
to any request but the one in flight is discarded (R243). -/
def State.nextCommand (s : State) (h : Half) (i : Nat) (bus : BusRead) : Option (List Byte) :=
  if s.mboxBus h i then (if (s.inst h i).busReq = some bus.tag then some ((bus.cmd ++ List.replicate 64 0).take 64) else none)
  else some (s.bytesAt h (s.mboxTag h i) .read (s.cmdAddr h i) 64)

/-- A command is taken: refused reads of it are counted, and CMD_HEAD follows. The answer of a read over PCIe says that the writes sent before the read have
arrived. -/
def State.hubTake (s : State) (h : Half) (i : Nat) (bus : BusRead) : State :=
  let s := if s.mboxBus h i then
      let t := s.inst h i
      s.setInst h i { t with busReq := none, busRing := ringSize bus.log2, busTail := bus.cplTail % 2 ^ 32, busOut := t.busOut.filter fun e => bus.tag ≤ e.1 }
    else s.noteRead h (s.mboxTag h i) .read (s.cmdAddr h i) 64
  let n := (s.reg (pgInsq h i) 0xC).toNat + 1
  (s.setReg (pgInsq h i) 0xC (BitVec.ofNat 32 n)).mboxWrite h i 0xC (b4 (n % 2 ^ 32))

/-- What R241 says of a command with sequence S: none where it is executed, else the record to write. -/
def State.seqCheck (s : State) (h : Half) (i op : Nat) (seq : Word) : Option (Bool × Completion) :=
  let n := s.reg (pgInst h i) 0xC
  let fresh : Completion := { seq := seq.toNat, status := 0, opcode := op, frame := 0, time := s.time % 2 ^ 32 }
  let back := (n - seq).toNat
  if (s.inst h i).window.isEmpty || seq - n = 1 then none
  else if back ≤ 1023 then
    match (s.inst h i).window.find? fun c => c.seq = seq.toNat with
    | some c => some (true, c)
    | none => some (false, { fresh with status := 1 })
  else if back < 2 ^ 31 then some (false, { fresh with status := 1 })
  else some (false, { fresh with status := 2 })

/-- The fields of a command (R239): OPCODE, FLAGS bit 0, SEQ, LAYER, the ten words of BODY. -/
def cmdOp (c : List Byte) : Nat := leNat (c.take 1)
def cmdIrq (c : List Byte) : Bool := leNat ((c.drop 1).take 1) % 2 = 1
def cmdSeq (c : List Byte) : Word := BitVec.ofNat 32 (leNat ((c.drop 4).take 4))
def cmdLayer (c : List Byte) : Nat := leNat ((c.drop 8).take 1)
def cmdBody (c : List Byte) : List Word := (upTo 10).map fun w => BitVec.ofNat 32 (leNat ((c.drop (0x10 + 4 * w)).take 4))

/-- The frame of every mailbox command: the hub takes the next command of the ring. One with this row's opcode is executed by `run`, with its
completion record still to be filled; one with a reserved opcode leaves the instance unpredictable (R249); any other is its own row's. -/
def hubCommand (h : Half) (i op : Nat) (bus : BusRead) (s : State) (run : List Byte → Completion → State → Res) : Res :=
  if !(s.hubMay h i) then .next s
  else match s.nextCommand h i bus with
    | none => .next s
    | some cmd =>
      if cmdOp cmd = 0 || 4 < cmdOp cmd then .next ((s.hubTake h i bus).unpredictable (pgInst h i) 0)
      else if cmdOp cmd ≠ op then .next s
      else
        let s := s.hubTake h i bus
        match s.seqCheck h i op (cmdSeq cmd) with
        | some (replay, c) =>
          let s := s.whenB replay fun s => s.incSat (pgInst h i) F.INST_STATE_REPLAYS
          .next (s.hubFinish h i c (cmdIrq cmd))
        | none => run cmd { seq := (cmdSeq cmd).toNat, status := 0, opcode := op, frame := 0, time := s.time % 2 ^ 32 } s

/-- HUB_LAYER_SET: a LAYER beyond the valid map entries leaves the instance unpredictable (R249). -/
def execHubLayerSet (h : Half) (inst : Fin 64) (tag log2 cplTail : Nat) (cmd : List Byte) (s : State) : Res :=
  hubCommand h inst 1 ⟨⟨⟨log2, cplTail⟩, cmd⟩, tag⟩ s fun cmd c s =>
    if (s.instLayer h inst (cmdLayer cmd)).isNone then .next (s.unpredictable (pgInst h inst) 0)
    else
      let s := s.setInst h inst { s.inst h inst with staging := layerSet (s.inst h inst).staging (cmdLayer cmd) (cmdBody cmd) }
      .next ((s.forward h inst (.layer (cmdLayer cmd) (cmdBody cmd))).hubComplete h inst c (cmdIrq cmd))

/-- HUB_LAYER_OFF: a LAYER beyond the valid map entries leaves the instance unpredictable (R249). -/
def execHubLayerOff (h : Half) (inst : Fin 64) (tag : Nat) (ring : MboxRing) (cmd : List Byte) (s : State) : Res :=
  hubCommand h inst 2 ⟨⟨ring, cmd⟩, tag⟩ s fun cmd c s =>
    if (s.instLayer h inst (cmdLayer cmd)).isNone then .next (s.unpredictable (pgInst h inst) 0)
    else
      let ws := layerWords (s.inst h inst).staging (cmdLayer cmd)
      let ws := (ws.headD 0 &&& 0x7FFFFFFF) :: ws.tail
      let s := s.setInst h inst { s.inst h inst with staging := layerSet (s.inst h inst).staging (cmdLayer cmd) ws }
      .next ((s.forward h inst (.layer (cmdLayer cmd) ws)).hubComplete h inst c (cmdIrq cmd))

/-- HUB_NOP. -/
def execHubNop (h : Half) (inst : Fin 64) (tag : Nat) (read : MboxRead) (s : State) : Res :=
  hubCommand h inst 4 ⟨read, tag⟩ s fun cmd c s => .next (s.hubComplete h inst c (cmdIrq cmd))

/-- The pipes of an instance that hold a role (R240). -/
def State.livePipes (s : State) (h : Half) (i : Nat) : List Nat :=
  (s.instPipes h i).filter fun p => s.get (pgCmp h p) F.CMP_SCHED_ROLE ≠ 7

/-- The copy of a COMMIT with its GO; with every pipe Idle it completes at once with NO_PIPE (R240). -/
def State.commitCopy (s : State) (h : Half) (i : Nat) (c : HubCmd) : State :=
  let s := (s.hubCopy h i).forward h i .copyGo
  let live := s.livePipes h i
  if live.isEmpty then
    s.hubComplete h i { seq := c.seq, status := 4, opcode := 3, frame := 0, time := s.time % 2 ^ 32 } c.irq
  else s.setInst h i { s.inst h i with cur := some { c with copied := true, waitPipes := live } }

/-- HUB_COMMIT: N := S; `nearLatch` says that the copy may not start now (R240). -/
def execHubCommit (h : Half) (inst : Fin 64) (tag : Nat) (read : MboxRead) (nearLatch : Bool) (s : State) : Res :=
  hubCommand h inst 3 ⟨read, tag⟩ s fun cmd _ s =>
    let s := s.setReg (pgInst h inst) 0xC (cmdSeq cmd)
    let c : HubCmd := { opcode := 3, seq := (cmdSeq cmd).toNat, irq := cmdIrq cmd, copied := false, waitPipes := [], frame := 0, await := none }
    let s := s.setInst h inst { s.inst h inst with cur := some c }
    .next (if nearLatch then s else s.commitCopy h inst c)

/-- HUB_COMMIT_COPY: a COMMIT that waited for the latch markers copies now. -/
def execHubCommitCopy (h : Half) (inst : Fin 64) (s : State) : Res :=
  match (s.inst h inst).cur with
  | none => .next s
  | some c => .next (if c.opcode = 3 && !c.copied then s.commitCopy h inst c else s)

/-- HUB_COMMIT_COMPLETE: the last pipe of a COMMIT has latched (R240), or of a RESTORE (R247). -/
def execHubCommitComplete (h : Half) (inst : Fin 64) (s : State) : Res :=
  let s := if (s.inst h inst).restoring = some [] then s.restoreEnd h inst else s
  match (s.inst h inst).cur with
  | none => .next s
  | some c =>
    if c.opcode = 3 && c.copied && c.waitPipes.isEmpty && c.await.isNone && !(s.hubWaits h inst) then
      .next (s.hubComplete h inst { seq := c.seq, status := 0, opcode := 3, frame := c.frame, time := s.time % 2 ^ 32 } c.irq)
    else .next s

/-- INSTANCE_TIMEOUT (R242, R243): the PCIe requests in flight are cancelled, and the command in hand ends with TIMEOUT; what a COMMIT has written
stays. A command whose read had not come back is over too; its SEQ and OPCODE, which nobody has read, are free values (log entry 92). -/
def execInstanceTimeout (h : Half) (inst : Fin 64) (s : State) : Res :=
  if s.hubWaits h inst then .next s
  else match (s.inst h inst).cur with
  | none =>
    if (s.inst h inst).busReq.isNone then .next s
    else
      let (v, s) := s.takeFree
      let (w, s) := s.takeFree
      let t := s.inst h inst
      let n := (s.reg (pgInsq h inst) 0xC).toNat + 1
      let s := s.setInst h inst { t with busReq := none, busTag := t.busTag + 1, busOut := [] }
      let s := (s.setReg (pgInsq h inst) 0xC (BitVec.ofNat 32 n)).mboxWrite h inst 0xC (b4 (n % 2 ^ 32))
      .next (s.hubFinish h inst { seq := v % 2 ^ 32, status := 3, opcode := w % 256, frame := 0, time := s.time % 2 ^ 32 } false)
  | some c =>
    let r : Completion := { seq := c.seq, status := 3, opcode := c.opcode, frame := 0, time := s.time % 2 ^ 32 }
    let s := s.setInst h inst { s.inst h inst with busOut := [] }
    match c.await with
    | some _ => .next (s.hubFinish h inst r c.irq)
    | none => .next (((s.windowPut h inst r).forward h inst (.done r)).hubFinish h inst r c.irq)

/-- HOST_GONE (R244): every instance whose tenant is a light virtual function of the host is Frozen; commands in flight end without a
completion. A THAW that waits for the other hub ends with BUSY (log entry 141). -/
def execHostGone (h : Half) (s : State) : Res :=
  .next (s.each (upTo 64) fun i s =>
    if s.get (pgInst h i) F.INST_CFG_VF = 0 || s.instState h i = stFrozen then s
    else
      let freezing := s.instState h i = stFreezing
      let asking := (s.inst h i).asking
      let s := s.setInst h i { s.inst h i with cur := none, busReq := none, busOut := [] }
      let s := s.instFrozen h i 2
      let s := s.whenB asking fun s => ((s.askDone h i).instDone h i 2 1).heldEnd (Half.other h) i
      (s.whenB freezing fun s => s.instDone h i 1 0).hubBoundary h i)

/-! ## Twin effects (R245) -/

/-- TWIN_EFFECT: the Twin hub applies the oldest effect. -/
def execTwinEffect (h : Half) (inst : Fin 64) (s : State) : Res :=
  let t := s.inst h inst
  match t.fx with
  | [] => .next s
  | x :: rest =>
    let s := s.setInst h inst { t with fx := rest, fxSent := t.fxSent + 1 }
    .next (s.applyFx (Half.other h) inst x)

/-- TWIN_EFFECT_ACK: the effects so far are acknowledged; IN_STEP follows a whole state, and a completion that waited is written. -/
def execTwinEffectAck (h : Half) (inst : Fin 64) (s : State) : Res :=
  let t := s.inst h inst
  if t.fxSent = 0 || s.hubWaits h inst then .next s
  else
    let s := s.setInst h inst { t with fxSent := t.fxSent - 1 }
    if t.fxSent ≠ 1 || !t.fx.isEmpty then .next s
    else
      let s := if t.wholeSent then
          let s := s.setInst h inst { s.inst h inst with wholeSent := false }
          (s.put (pgInst h inst) F.INST_STATE_IN_STEP 1).put (pgInst (Half.other h) inst) F.INST_STATE_IN_STEP 1
        else s
      match t.cur with
      | none => .next s
      | some c => match c.await with
        | none => .next s
        | some r => .next (s.hubFinish h inst r c.irq)

end Sys2Proof.Machine
end

