-- ==== Sys2Proof/Machine/Pixel.lean ====
section
/-! DEFINITION. The pixel arithmetic of R60 to R75: formats, the compressed surface format, widening, scaling, blending, colour
table and output reduction. Everything here is a function of a layer's descriptor and of the bytes it was given. -/

namespace Sys2Proof.Machine

/-- A pixel of 12-bit channels. -/
structure Px where
  a : Nat
  r : Nat
  g : Nat
  b : Nat
  deriving DecidableEq, Repr

/-- Widening by bit replication to 12 bits (R68). -/
def widen (bits v : Nat) : Nat :=
  if bits = 2 then v * 0x555
  else if bits = 5 then (v <<< 7) ||| (v <<< 2) ||| (v >>> 3)
  else if bits = 6 then (v <<< 6) ||| v
  else if bits = 8 then (v <<< 4) ||| (v >>> 4)
  else (v <<< 2) ||| (v >>> 8)

/-- A layer descriptor as latched (LY registers). -/
structure Layer where
  num : Nat
  rsv : Bool
  en : Bool
  filter : Bool
  blend : Nat
  format : Nat
  ga : Nat
  addr : Nat
  stride : Nat
  pay : Nat
  srcX : Nat
  srcY : Nat
  srcW : Nat
  srcH : Nat
  dstX : Nat
  dstY : Nat
  dstW : Nat
  dstH : Nat
  stepX : Nat
  stepY : Nat
  deriving DecidableEq, Repr

/-- The reserved bits of the ten words of a descriptor, in offset order. -/
def layerRsv : List Nat :=
  [0x630FFF00, 0x3F, 0, 0x3F, 0xFFFF0000, 0xC000C000, 0xC000C000, 0xF000E000, 0xF000E000, 0]

/-- The descriptor L read from a bank of words by offset in the CMP page. -/
def layerOf (rd : Nat → Word) (l : Nat) : Layer :=
  let g (f : Fld) : Nat := (f.at (0x40 * l)).ofWord (rd (f.off + 0x40 * l))
  { num := l, rsv := (layerRsv.zipIdx).any (fun e => (rd (0x1000 + 0x40 * l + 4 * e.2)).toNat &&& e.1 ≠ 0), en := g F.LY_CTRL_EN ≠ 0, filter := g F.LY_CTRL_FILTER ≠ 0, blend := g F.LY_CTRL_BLEND, format := g F.LY_CTRL_FORMAT,
    ga := g F.LY_CTRL_GA, addr := g F.LY_ADDR_LO_ADDR * 64 + g F.LY_ADDR_HI_ADDR * 0x100000000, stride := g F.LY_ADDR_HI_STRIDE,
    pay := g F.LY_PAY_LO_PAY * 64 + g F.LY_PAY_HI_PAY * 0x100000000, srcX := g F.LY_SRC_POS_SRC_X, srcY := g F.LY_SRC_POS_SRC_Y,
    srcW := g F.LY_SRC_SIZE_SRC_W, srcH := g F.LY_SRC_SIZE_SRC_H, dstX := g F.LY_DST_POS_DST_X, dstY := g F.LY_DST_POS_DST_Y,
    dstW := g F.LY_DST_SIZE_DST_W, dstH := g F.LY_DST_SIZE_DST_H, stepX := g F.LY_STEP_STEP_X, stepY := g F.LY_STEP_STEP_Y }

/-- Is the format a compressed one (R60)? -/
def Layer.csf (l : Layer) : Bool := l.format = 8 || l.format = 9

/-- Bytes per pixel of an uncompressed format (R60). -/
def bytesPer (format : Nat) : Nat := if format = 0 then 2 else if format = 1 then 3 else 4

/-- A reserved encoding or a value outside R61, R62 or R77 in an enabled layer: its pixels are unpredictable (R81). -/
def Layer.bad (l : Layer) (hAct vAct : Nat) : Bool :=
  l.rsv || !(l.format ≤ 4 || l.csf) || l.blend = 3 || l.srcW = 0 || 8192 < l.srcW || l.srcH = 0 || 8192 < l.srcH ||
  l.dstW = 0 || 4096 < l.dstW || l.dstH = 0 || 2400 < l.dstH || hAct < l.dstX + l.dstW || vAct < l.dstY + l.dstH ||
  l.stepX < 0x800 || 0x8000 < l.stepX || l.stepY < 0x800 || 0x8000 < l.stepY || l.stride = 0 ||
  (if l.csf then l.stride * 64 < (l.srcX + l.srcW + 15) / 16 * 8 else l.stride * 64 < (l.srcX + l.srcW) * bytesPer l.format)

/-! ## Scaling positions (R69) -/

/-- k0, k1 and the phase for output index i. -/
def scalePos (i step size : Nat) : Nat × Nat × Nat :=
  let off : Int := (step - 16384 : Int) / 2
  let u : Int := i * step + off
  let k : Int := u / 16384
  let p : Int := (u - k * 16384) / 1024
  let cl (x : Int) : Nat := (max 0 (min x (size - 1 : Int))).toNat
  (cl k, cl (k + 1), p.toNat)

/-- The crop rows that a line of a layer needs: with nearest filtering the one taken, with bilinear both (log entry 10). -/
def Layer.rows (l : Layer) (y : Nat) : List Nat :=
  let (m0, m1, q) := scalePos (y - l.dstY) l.stepY l.srcH
  if l.filter then (if m0 = m1 then [m0] else [m0, m1]) else [if q < 8 then m0 else m1]

/-- The first and last crop columns that a line of a layer needs. DESIGN CHOICE (log entry 10): with bilinear filtering the column k1 of the last
pixel is needed also where the horizontal phase is 0. -/
def Layer.cols (l : Layer) : Nat × Nat :=
  let (a0, a1, p) := scalePos 0 l.stepX l.srcW
  let (b0, b1, p') := scalePos (l.dstW - 1) l.stepX l.srcW
  if l.filter then (a0, b1) else ((if p < 8 then a0 else a1), (if p' < 8 then b0 else b1))

/-- Does a line lie in the layer's destination rows? -/
def Layer.hasLine (l : Layer) (y : Nat) : Bool := l.en && l.dstY ≤ y && y < l.dstY + l.dstH

/-! ## The compressed surface format (R62 to R66) -/

/-- Channel widths A, R, G, B of an element. -/
def elemBits (format : Nat) : List Nat := if format = 9 then [2, 10, 10, 10] else [8, 8, 8, 8]

/-- The channels A, R, G, B of an element word. -/
def elemChans (format w : Nat) : List Nat :=
  if format = 9 then [w / 0x40000000 % 4, w / 0x100000 % 1024, w / 0x400 % 1024, w % 1024]
  else [w / 0x1000000 % 256, w / 0x10000 % 256, w / 0x100 % 256, w % 256]

/-- The address of the header of the tile at tile column tx, tile row ty (R62). -/
def Layer.headerAddr (l : Layer) (tx ty : Nat) : Nat := l.addr + ty * l.stride * 64 + tx * 8

def tileMode (hdr : Nat) : Nat := hdr / 2 ^ 60
def tileParam (hdr : Nat) : Nat := hdr / 2 ^ 32 % 65536
def tileWord (hdr : Nat) : Nat := hdr % 2 ^ 32

/-- The four code widths of a Delta tile, A, R, G, B. -/
def deltaWidths (hdr : Nat) : List Nat :=
  let p := tileParam hdr
  [p / 4096 % 16, p / 256 % 16, p / 16 % 16, p % 16]

/-- The index width of a Palette tile of c entries (R66). -/
def palBits (c : Nat) : Nat := if c = 1 then 0 else if c = 2 then 1 else if c ≤ 4 then 2 else if c ≤ 8 then 3 else 4

/-- The payload length of a tile in bytes; zero for Solid and for reserved modes. -/
def tileLen (hdr : Nat) : Nat :=
  if tileMode hdr = 1 then 1024
  else if tileMode hdr = 2 then 4 + (255 * (deltaWidths hdr).sum + 7) / 8
  else if tileMode hdr = 3 then (let c := tileParam hdr % 16 + 1; 4 * c + 32 * palBits c)
  else 0

/-- The payload address of a tile. -/
def Layer.tileAddr (l : Layer) (hdr : Nat) : Nat := l.pay + tileWord hdr * 64

/-- `n` bits of a stream from bit k, first bit least significant (R64). -/
def bitsAt (rd : Nat → Byte) (base k n : Nat) : Nat :=
  (List.range n).foldl (fun v i => v + (if (rd (base + (k + i) / 8)).getLsbD ((k + i) % 8) then 2 ^ i else 0)) 0

/-- One channel of a Delta pixel (R65). -/
def deltaChan (n w pred code : Nat) : Nat :=
  let res : Int := if 0 < w && 2 ^ (w - 1) ≤ code then (code : Int) - 2 ^ w else code
  ((pred + res) % (2 ^ n : Int)).toNat

/-- The channels of one pixel from its predictor: widths n, code widths w, the bit position. -/
def deltaPixel (rd : Nat → Byte) (base : Nat) : List Nat → List Nat → List Nat → Nat → List Nat
  | n :: ns, w :: ws, p :: ps, k => deltaChan n w p (bitsAt rd base k w) :: deltaPixel rd base ns ws ps (k + w)
  | _, _, _, _ => []

/-- All 256 elements of a Delta tile, last pixel first (R65). -/
def deltaTile (rd : Nat → Byte) (format base hdr : Nat) : List (List Nat) :=
  let ws := deltaWidths hdr
  let first := elemChans format (leNat ((List.range 4).map fun i => rd (base + i)))
  (List.range 255).foldl (fun acc i =>
    let pred := if (i + 1) % 16 = 0 then acc.getD 15 [] else acc.getD 0 []
    deltaPixel rd (base + 4) (elemBits format) ws pred (i * ws.sum) :: acc) [first]

/-- The element of pixel number i of a tile; none where the header or an index is a reserved encoding (R63, R65, R66, R81). -/
def tileElem (l : Layer) (rd : Nat → Byte) (hdr i : Nat) : Option (List Nat) :=
  let base := l.tileAddr hdr
  let word (k : Nat) : Nat := leNat ((List.range 4).map fun j => rd (base + 4 * k + j))
  if hdr / 2 ^ 48 % 4096 ≠ 0 then none
  else if tileMode hdr = 0 then (if tileParam hdr = 0 then some (elemChans l.format (tileWord hdr)) else none)
  else if tileMode hdr = 1 then (if tileParam hdr = 0 then some (elemChans l.format (word i)) else none)
  else if tileMode hdr = 2 then
    if ((deltaWidths hdr).zip (elemBits l.format)).all (fun e => e.1 ≤ e.2) then (deltaTile rd l.format base hdr)[255 - i]? else none
  else if tileMode hdr = 3 then
    if tileParam hdr / 16 ≠ 0 then none
    else
      let c := tileParam hdr + 1
      let n := palBits c
      let k := bitsAt rd (base + 4 * c) (n * i) n
      if k < c then some (elemChans l.format (word k)) else none
  else none

/-! ## Source pixels -/

/-- A source pixel of a layer widened to 12 bits (R60, R61, R68); the reader answers the byte of a kind (R89) at an address. None
where the tile is a reserved encoding. -/
def Layer.source (l : Layer) (rd : Nat → Nat → Byte) (cx cy : Nat) : Option Px :=
  let x := l.srcX + cx
  let y := l.srcY + cy
  if l.csf then
    let ha := l.headerAddr (x / 16) (y / 16)
    let hdr := leNat ((List.range 8).map fun i => rd 1 (ha + i))
    match tileElem l (rd 2) hdr (y % 16 * 16 + x % 16) with
    | some [a, r, g, b] => match elemBits l.format with
      | [na, nr, ng, nb] => some ⟨widen na a, widen nr r, widen ng g, widen nb b⟩
      | _ => none
    | _ => none
  else
    let n := bytesPer l.format
    let w := leNat ((List.range n).map fun i => rd 0 (l.addr + y * l.stride * 64 + x * n + i))
    if l.format = 0 then some ⟨4095, widen 5 (w / 2048), widen 6 (w / 32 % 64), widen 5 (w % 32)⟩
    else if l.format = 4 then some ⟨widen 2 (w / 0x40000000), widen 10 (w / 0x100000 % 1024), widen 10 (w / 1024 % 1024), widen 10 (w % 1024)⟩
    else some ⟨if l.format = 2 then widen 8 (w / 0x1000000) else 4095, widen 8 (w / 0x10000 % 256), widen 8 (w / 256 % 256), widen 8 (w % 256)⟩

/-- Bilinear filtering of one channel (R70). -/
def bilin (c00 c01 c10 c11 p q : Nat) : Nat :=
  let h0 := (c00 * (16 - p) + c01 * p + 8) / 16
  let h1 := (c10 * (16 - p) + c11 * p + 8) / 16
  (h0 * (16 - q) + h1 * q + 8) / 16

/-- The scaled pixel of a layer at an output position (R69, R70). -/
def Layer.scaled (l : Layer) (rd : Nat → Nat → Byte) (px py : Nat) : Option Px :=
  let (k0, k1, p) := scalePos (px - l.dstX) l.stepX l.srcW
  let (m0, m1, q) := scalePos (py - l.dstY) l.stepY l.srcH
  if l.filter then
    match l.source rd k0 m0, l.source rd k1 m0, l.source rd k0 m1, l.source rd k1 m1 with
    | some a, some b, some c, some d =>
      some ⟨bilin a.a b.a c.a d.a p q, bilin a.r b.r c.r d.r p q, bilin a.g b.g c.g d.g p q, bilin a.b b.b c.b d.b p q⟩
    | _, _, _, _ => none
  else l.source rd (if p < 8 then k0 else k1) (if q < 8 then m0 else m1)

/-- x·y / 4095 rounded half up (R71). -/
def mulUnit (x y : Nat) : Nat := (2 * x * y + 4095) / 8190

/-- One channel of blending (R72): mode, result so far, layer channel, alpha. -/
def blendChan (mode d s a : Nat) : Nat :=
  if mode = 0 then s
  else if mode = 1 then (2 * (s * a + d * (4095 - a)) + 4095) / 8190
  else min 4095 (s + mulUnit d (4095 - a))

/-- Global alpha, then blending, of one layer over the result so far (R71, R72). -/
def Layer.over (l : Layer) (d s : Px) : Px :=
  let g := widen 8 l.ga
  let a := mulUnit s.a g
  let k (c : Nat) : Nat := if l.blend = 2 then mulUnit c g else c
  ⟨0, blendChan l.blend d.r (k s.r) a, blendChan l.blend d.g (k s.g) a, blendChan l.blend d.b (k s.b) a⟩

/-- The colour table of one channel (R73). -/
def colourTable (t : Nat → Nat) (x : Nat) : Nat := (t (x / 16) * (16 - x % 16) + t (x / 16 + 1) * (x % 16) + 8) / 16

/-- Output reduction to 10 bits (R74); the value 0b11 of DMODE is reserved, and a stream under it is unpredictable (State.pipeWild). -/
def reduce10 (dmode x px py : Nat) : Nat :=
  if dmode = 0 then x / 4
  else if dmode = 1 then min 1023 ((x + 2) / 4)
  else min 1023 ((x + (if py % 2 = 0 then (if px % 2 = 0 then 0 else 2) else (if px % 2 = 0 then 3 else 1))) / 4)

/-- The container of a pixel on the pixel link (R75). -/
def container (r g b : Nat) : Nat := (r % 1024) * 0x100000 + (g % 1024) * 0x400 + b % 1024

/-- Does the layer cover an output pixel (R72)? -/
def Layer.covers (l : Layer) (px py : Nat) : Bool :=
  l.en && l.dstX ≤ px && px < l.dstX + l.dstW && l.dstY ≤ py && py < l.dstY + l.dstH

/-- One output pixel: the layers given in ascending descriptor order over the background, the colour table, the reduction
(R67); none where a tile that it reads holds a reserved encoding or an index beyond its palette (R81). -/
def composePixel (rd : Nat → Word) (layers : List (Layer × (Nat → Nat → Byte))) (dmode px py : Nat) : Option Nat :=
  let bg := rd 0x10
  let start : Px := ⟨0, widen 10 (F.CMP_BG_R.ofWord bg), widen 10 (F.CMP_BG_G.ofWord bg), widen 10 (F.CMP_BG_B.ofWord bg)⟩
  let out := layers.foldl (fun d lr =>
    if lr.1.covers px py then
      match d, lr.1.scaled lr.2 px py with
      | some d, some s => some (lr.1.over d s)
      | _, _ => none
    else d) (some start)
  let ct (c x : Nat) : Nat :=
    if F.CMP_CTRL_CT_EN.ofWord (rd 0x8) = 0 then x else colourTable (fun i => F.CMP_CT_VAL.ofWord (rd (0x2000 + 0x800 * c + 4 * i))) x
  out.map fun o => container (reduce10 dmode (ct 0 o.r) px py) (reduce10 dmode (ct 1 o.g) px py) (reduce10 dmode (ct 2 o.b) px py)

end Sys2Proof.Machine
end

