-- ==== Sys2Proof/Machine/Pipes.lean ====
section
/-! DEFINITION. Composition pipes: shadows and their latch (R78 to R80, R98, R103), the Damask schedule (R86 to R92), the line
pipeline (R84), underrun (R106 to R109), and the digest captured at a handover's first latch marker (R201). -/

namespace Sys2Proof.Machine

/-! ## The Damask schedule -/

/-- A value of the Damask section in force on a half. -/
def State.dam (s : State) (h : Half) (off n : Nat) : Nat := s.secNat (s.slotOf (Half.die h)) 5 off n

/-- The offset of the schedule of a pipe in a variant (R86). -/
def State.schedAt (s : State) (h : Half) (p v : Nat) : Nat := s.dam h (8 * (10 * p + v)) 4

/-- The variant in force on a pipe (CMP_SCHED). -/
def State.variant (s : State) (h : Half) (p : Nat) : Nat := s.get (pgCmp h p) F.CMP_SCHED_VARIANT

/-- A value of the header of the schedule in force (R87). -/
def State.sched (s : State) (h : Half) (p off n : Nat) : Nat := s.dam h (s.schedAt h p (s.variant h p) + off) n

/-- The band that holds a line (R88). -/
def State.bandOf (s : State) (h : Half) (p line : Nat) : Option Nat :=
  (upTo (inImage 1 64 5 (s.sched h p 2 2))).find? fun b => s.sched h p (32 + 32 * b) 2 ≤ line && line ≤ s.sched h p (34 + 32 * b) 2

/-- The descriptor that a layer slot of a band names (R88). -/
def State.bandSlot (s : State) (h : Half) (p b k : Nat) : Nat := inImage 0 15 5 (s.sched h p (32 + 32 * b + 8 + k) 1)

/-- The descriptors of a band in slot order, as (slot, descriptor). -/
def State.bandLayers (s : State) (h : Half) (p b : Nat) : List (Nat × Nat) :=
  (upTo (inImage 0 8 5 (s.sched h p (36 + 32 * b) 1))).map fun k => (k, s.bandSlot h p b k)

/-- The fetch slots of a band: layer slot, kind, MAX (R89). -/
def State.bandFetch (s : State) (h : Half) (p b : Nat) : List (Nat × Nat × Nat) :=
  let o := s.sched h p (32 + 32 * b + 0x10) 4
  let n := inImage 0 8 5 (s.sched h p (36 + 32 * b) 1)
  (upTo (inImage 0 16 5 (s.sched h p (37 + 32 * b) 1))).map fun i =>
    (inImage 0 (n - 1) 5 (s.sched h p (o + 8 * i) 1), inImage 0 2 5 (s.sched h p (o + 8 * i + 1) 1), s.sched h p (o + 8 * i + 2) 2)

/-- UPDATE_DIV and FAULT_LINES of the variant in force (R87). -/
def State.updateDiv (s : State) (h : Half) (p : Nat) : Nat := inImage 1 4 5 (s.sched h p 6 1)
def State.faultLines (s : State) (h : Half) (p : Nat) : Nat := inImage 1 255 5 (s.sched h p 7 1)

/-! ## Layers as latched -/

def State.vActive (s : State) (p : Nat) : Nat := s.get (pgScn p) F.SCN_VTIM0_V_ACTIVE
def State.vTotal (s : State) (p : Nat) : Nat := s.get (pgScn p) F.SCN_VTIM0_V_TOTAL
def State.hActive (s : State) (p : Nat) : Nat := s.get (pgScn p) F.SCN_HTIM0_H_ACTIVE
def State.portLine (s : State) (p : Nat) : Nat := s.get (pgScn p) F.SCN_LINE_LINE

/-- A word of a pipe's active copies (R78). -/
def State.actWord (s : State) (h : Half) (p off : Nat) : Word :=
  tblGet (fun o => regReset ((pgCmp h p).key o)) (s.pipe h p).act off

def State.actLayer (s : State) (h : Half) (p l : Nat) : Layer := layerOf (s.actWord h p) l

/-- The key of a layer slot that holds a descriptor. -/
def slotKey (k l : Nat) : Nat := 16 * k + l

/-- Is the offset that of a register with shadow fields (R78)? -/
def isShadow (off : Nat) : Bool :=
  off = 8 || off = 0x10 || (0x1000 ≤ off && off < 0x1400 && off % 0x40 ≤ 0x24) ||
  (0x2000 ≤ off && off < 0x3800 && (off - 0x2000) % 0x800 ≤ 0x400)

/-- The shadow words of a page that differ from their reset value. -/
def State.shadows (s : State) (h : Half) (p : Nat) : List (Nat × Word) :=
  (tblWindow ((pgCmp h p).key 0) 0x10000 s.regs).filter fun e => isShadow e.1

/-! ## Fetch (R91, R92, R99, R100) -/

/-- The rows held whole that a line may read: those that its fetch found held (R91). -/
def Pipe.haveOf (q : Pipe) (line : Nat) : List (Nat × Nat × Nat) :=
  match q.fetching with
  | some f => if f.line = line then f.have_ else (tblFind line q.haves).getD []
  | none => (tblFind line q.haves).getD []

/-- The chunk of a kind at an address that a line has: fetched for the line itself, or for an earlier one in a row that the line found held
(R91, R92). What was fetched for later lines is not seen (R76, R460). -/
def Pipe.chunkAt (q : Pipe) (line key kind addr : Nat) : Option Chunk :=
  let mine (c : Chunk) : Bool := c.lslot = key && c.kind = kind && c.addr = addr / 64 * 64
  match (q.buf ++ q.held).find? fun c => mine c && c.line = line with
  | some c => some c
  | none => (q.buf.reverse ++ q.held.reverse).find? fun c => mine c && c.line < line && (q.haveOf line).contains (key, kind, c.row)

/-- The byte of a kind at an address, zero where it was not fetched (R92). -/
def Pipe.byte (q : Pipe) (line key kind addr : Nat) : Byte :=
  match q.chunkAt line key kind addr with
  | none => 0
  | some c => c.bytes.getD (addr % 64) 0

/-- The rows (uncompressed) or tile rows (CSF) of the surface that a layer needs for a line. -/
def Layer.needRows (l : Layer) (y : Nat) : List Nat :=
  if l.csf then ((l.rows y).map fun m => (l.srcY + m) / 16).eraseDups else (l.rows y).map fun m => l.srcY + m

/-- The blocks of one row or tile row, as (row, address). -/
def Layer.rowBlocks (l : Layer) (kind : Nat) (hdr : Nat → Byte) (row : Nat) : List (Nat × Nat) :=
  let (c0, c1) := l.cols
  if kind = 0 && !l.csf then
    let n := bytesPer l.format
    let a := l.addr + row * l.stride * 64 + (l.srcX + c0) * n
    (blocksOf a ((c1 - c0 + 1) * n)).map fun b => (row, b)
  else if kind = 1 && l.csf then
    let t0 := (l.srcX + c0) / 16
    let t1 := (l.srcX + c1) / 16
    (blocksOf (l.headerAddr t0 row) ((t1 - t0 + 1) * 8)).map fun b => (row, b)
  else if kind = 2 && l.csf then
    let t0 := (l.srcX + c0) / 16
    let t1 := (l.srcX + c1) / 16
    (List.range (t1 - t0 + 1)).flatMap fun i =>
      let w := leNat ((List.range 8).map fun j => hdr (l.headerAddr (t0 + i) row + j))
      (blocksOf (l.tileAddr w) (tileLen w)).map fun b => (row, b)
  else []

/-- The descriptors that the variant in force composes on some line (R87, R102). -/
def State.inMask (s : State) (h : Half) (p l : Nat) : Bool := (s.sched h p 4 2).testBit l

/-- Is the stream of the pipe unpredictable (R81): an enabled descriptor of the variant has a reserved encoding or a value outside R61, R62 or R77,
or DMODE has the reserved value? -/
def State.pipeWild (s : State) (h : Half) (p : Nat) : Bool :=
  s.get (pgCmp h p) F.CMP_OUT_DMODE = 3 ||
  (upTo 16).any fun l => s.inMask h p l && (s.actLayer h p l).en && (s.actLayer h p l).bad (s.hActive p) (s.vActive p)

/-- The stream is unpredictable: by the registers of the pipe, or since a line read the content of a tile that R81 does not allow. -/
def State.streamWild (s : State) (h : Half) (p : Nat) : Bool := (s.pipe h p).wild || s.pipeWild h p

/-- The chunks that a line owes for a layer slot and kind, in ascending address order (R91), as (address, row). -/
def State.owed (s : State) (h : Half) (p line key kind : Nat) : List (Nat × Nat) :=
  let q := s.pipe h p
  let l := s.actLayer h p (key % 16)
  if !(l.hasLine line) || l.bad (s.hActive p) (s.vActive p) then []
  else
    let rows := (l.needRows line).filter fun r => !((q.haveOf line).contains (key, kind, r))
    (rows.flatMap fun r => l.rowBlocks kind (q.byte line key 1) r).foldl (fun t e => tblInsert e.2 e.1 t) []

/-- Does a request of the pipe for the header chunks of a layer slot still wait? -/
def State.headersOut (s : State) (h : Half) (p key : Nat) : Bool :=
  (s.hs h).dram.queue.any (fun r => r.pipe = some p && r.chunk.lslot = key && r.chunk.kind = 1) ||
  (s.pipe h p).granted.any (fun c => c.lslot = key && c.kind = 1)

/-- The capacity of the fetch buffer in chunks (R99). -/
def fetchBuffer : Nat := 5120

/-- The requests of a pipe that have not entered the fetch buffer yet. -/
def State.fetchOut (s : State) (h : Half) (p : Nat) : Nat :=
  ((s.hs h).dram.queue.countP fun r => r.pipe = some p) + (s.pipe h p).granted.length

/-- The tag under which a descriptor is fetched: the pipe's, or the tenant's where the hub owns it (R234). -/
def State.fetchTag (s : State) (h : Half) (p l : Nat) : Tag :=
  match s.hubOwner h p l with
  | some i => s.tenantTag h i
  | none => s.tagOf h (pgCmp h p)

/-- A request for a chunk is issued in the lane that CMP_FILL.URG gives (R100); outside the permitted regions it brings zeros and reads nothing
(R81, R215). -/
def State.issueChunk (s : State) (h : Half) (p : Nat) (t : Tag) (c : Chunk) : State :=
  if s.admitBlock h t .read c.addr && c.addr < dramSize then
    let r : DReq :=
      { requester := p, pipe := some p, chunk := c, addr := c.addr, world := t.world, part := t.part,
        urgent := s.flag (pgCmp h p) F.CMP_FILL_URG }
    s.setHs h { s.hs h with dram := { (s.hs h).dram with queue := (s.hs h).dram.queue ++ [r] } }
  else
    let s := if s.admitBlock h t .read c.addr then s else s.refuse h t .read c.addr
    s.setPipe h p { s.pipe h p with granted := (s.pipe h p).granted ++ [{ c with bytes := List.replicate 64 0 }] }

/-- The requests of the next fetch slot of a line are issued, as many as the fetch buffer has room for (R91, R99): the slots that name one layer
slot and kind share its owed chunks in list order. A slot for payloads waits until the headers are there. None where nothing can be issued
now. -/
def State.issueSlot (s : State) (h : Half) (p : Nat) (f : LineFetch) : Option (State × LineFetch) :=
  match f.slots.drop f.done with
  | [] => none
  | (k, kind, mx) :: _ =>
    let b := (s.bandOf h p f.line).getD 0
    let l := s.bandSlot h p b k
    let key := slotKey k l
    let room := fetchBuffer - ((s.pipe h p).buf.length + s.fetchOut h p)
    if kind = 2 && s.headersOut h p key then none
    else
      let before := ((f.slots.take f.done).filter fun e => e.1 = k && e.2.1 = kind).foldl (fun v e => v + e.2.2) 0
      let owed := s.owed h p f.line key kind
      let now := ((owed.drop before).take mx).drop f.sent
      if !now.isEmpty && room = 0 then none
      else
        let t := s.fetchTag h p l
        let s := s.each (now.take room) fun e s => s.issueChunk h p t { line := f.line, lslot := key, kind := kind, row := e.2, addr := e.1 }
        if room < now.length then some (s, { f with sent := f.sent + room })
        else
          let left := owed.drop (before + mx)
          let rows := ((owed.take (before + mx)).map fun e => e.2).eraseDups.filter fun r => !(left.any fun e => e.2 = r)
          some (s, { f with done := f.done + 1, sent := 0, whole := f.whole ++ rows.map fun r => (key, kind, r) })

/-- Rows held after a line's fetch (R91): the last two source rows of each layer slot, and the tile rows that a later line uses. -/
def State.keepRows (s : State) (h : Half) (p line : Nat) (all : List (Nat × Nat × Nat)) : List (Nat × Nat × Nat) :=
  let rows (k : Nat) := all.filter fun f => f.1 / 16 = k && f.2.1 = 0
  all.filter fun e =>
    if e.2.1 = 0 then ((rows (e.1 / 16)).drop ((rows (e.1 / 16)).length - 2)).contains e
    else
      let l := s.actLayer h p (e.1 % 16)
      l.hasLine (line + 1) && (l.needRows (line + 1)).any fun r => r ≤ e.2.2

/-- Fetch goes on as far as it may: within the lines allowed (R84), at most two beyond the one being composed, while the buffer
has room (R99). DESIGN CHOICE (log entry 129): the fetch slots of a line that was closed at its cut-off are carried out to their end, and the rows that
they fetched whole are held for later lines; R106 discards what the pipe holds for the line and does not speak of its fetch. -/
def State.fetchGo (s : State) (h : Half) (p : Nat) : Nat → State
  | 0 => s
  | fuel + 1 =>
    let q := s.pipe h p
    match q.fetching with
    | none =>
      if q.fetchNext < q.fetchUpTo && q.fetchNext ≤ q.closed + 2 && q.fetchNext < s.vActive p then
        match s.bandOf h p q.fetchNext with
        | none => (s.setPipe h p { q with fetchNext := q.fetchNext + 1 }).fetchGo h p fuel
        | some b =>
          (s.setPipe h p { q with fetching := some { line := q.fetchNext, slots := s.bandFetch h p b, have_ := q.heldWhole } }).fetchGo h p fuel
      else s
    | some f =>
      if f.slots.length ≤ f.done then
        let whole := s.keepRows h p f.line (f.have_ ++ f.whole.filter fun e => !(f.have_.contains e))
        let later := whole ++ (q.haves.filter fun e => q.closed ≤ e.1).flatMap fun e => e.2
        (s.setPipe h p { q with
          fetching := none, fetchNext := f.line + 1, haves := tblInsert f.line f.have_ q.haves, heldWhole := whole,
          held := if f.line < q.closed then q.held.filter (fun c => later.contains (c.lslot, c.kind, c.row)) else q.held }).fetchGo h p fuel
      else match s.issueSlot h p f with
        | none => s
        | some (s, f) => (s.setPipe h p { s.pipe h p with fetching := some f }).fetchGo h p fuel

/-- More than the steps that fetch can take at once: 3 lines of at most 16 slots. -/
def fetchFuel : Nat := 64

/-- Do chunks remain to be fetched for the line being composed or the next (R100)? -/
def State.chunksOwed (s : State) (h : Half) (p : Nat) : Bool :=
  let q := s.pipe h p
  let near (n : Nat) : Bool := n ≤ q.closed + 1
  (s.hs h).dram.queue.any (fun r => r.pipe = some p && near r.chunk.line) || q.granted.any (fun c => near c.line) ||
  (match q.fetching with | none => near q.fetchNext && q.fetchNext < q.fetchUpTo | some f => near f.line)

/-- CMP_FILL follows the pipe: FILL, and URG by the watermarks (R99, R100). -/
def State.fillShow (s : State) (h : Half) (p : Nat) : State :=
  let pg := pgCmp h p
  let fill := min fetchBuffer (s.pipe h p).buf.length
  let s := s.put pg F.CMP_FILL_FILL fill
  let owed := s.chunksOwed h p
  if !owed || s.get pg F.CMP_WM_WM_HI ≤ fill then s.put pg F.CMP_FILL_URG 0
  else if fill < s.get pg F.CMP_WM_WM_LO then s.put pg F.CMP_FILL_URG 1
  else s

/-- Fetch, then the fill level. -/
def State.fetchStep (s : State) (h : Half) (p : Nat) : State := ((s.fillShow h p).fetchGo h p fetchFuel).fillShow h p

/-! ## Compose -/

/-- Compose of the next line begins if its start has come, the one before is closed and the engine makes progress (R84, R107). -/
def State.composeStart (s : State) (h : Half) (p : Nat) : State :=
  let q := s.pipe h p
  match q.composing, q.waiting with
  | none, some w =>
    if q.closed ≤ w && !q.stalled && q.closed < s.vActive p then
      let s := s.setPipe h p { q with composing := some q.closed }
      s.put (pgCmp h p) F.CMP_SCHED_BAND ((s.bandOf h p q.closed).getD 0)
    else s
  | _, _ => s

/-- The pixels of a line of a pipe (R67, R90): the descriptors that the band names, in ascending number; none where the stream is unpredictable,
as it is from the first line on that read a reserved tile header or an index beyond its palette (R81). -/
def State.composeLine? (s : State) (h : Half) (p line : Nat) : Option (List Nat) :=
  let q := s.pipe h p
  let named := match s.bandOf h p line with
    | none => []
    | some b => s.bandLayers h p b
  let sorted := named.foldl (fun t e => tblInsert e.2 e.1 t) ([] : List (Nat × Nat))
  let layers := sorted.map fun e => (s.actLayer h p e.1, fun kind addr => q.byte line (slotKey e.2 e.1) kind addr)
  if s.streamWild h p then none
  else (List.range (s.hActive p)).mapM fun x => composePixel (s.actWord h p) layers (s.get (pgCmp h p) F.CMP_OUT_DMODE) x line

/-- The pixels of a line: free ones where its stream is unpredictable (R81). -/
def State.composeLine (s : State) (h : Half) (p line : Nat) : List Nat :=
  (s.composeLine? h p line).getD ((List.range (s.hActive p)).map fun x => Config.freePixel s.free x line % 2 ^ 30)

/-- An unpredictable line takes a free value, and may leave a wrong FRAMES count (R81). Once the content of a tile has made a line unpredictable,
the pipe's stream stays so until a reset of the pipe (R12, log entry 130). -/
def State.lineFree (s : State) (h : Half) (p line : Nat) : State :=
  if (s.composeLine? h p line).isSome then s
  else
    let s := s.setPipe h p { s.pipe h p with wild := (s.pipe h p).wild || !(s.pipeWild h p) }
    ({ s with free := s.free + 1 }).putFree (pgCmp h p) F.CMP_STATUS_FRAMES

/-- Is the line's fetch under way? Which of its rows will be held whole shows when it ends. -/
def Pipe.fetchesLine (q : Pipe) (line : Nat) : Bool :=
  match q.fetching with
  | none => false
  | some f => f.line = line

/-- Line n is closed: the chunks of rows that a later line has or may find held stay, the others of the lines up to n go; compose and fetch
go on. -/
def State.lineClosed (s : State) (h : Half) (p line : Nat) : State :=
  let q := s.pipe h p
  let haves := q.haves.filter fun e => line < e.1
  let whole := q.heldWhole ++ haves.flatMap (fun e => e.2) ++ (match q.fetching with | none => [] | some f => f.have_)
  let (mine, later) := q.buf.partition fun c => c.line ≤ line
  let keep := (q.held ++ mine).filter fun c => whole.contains (c.lslot, c.kind, c.row) || q.fetchesLine c.line
  let s := s.setPipe h p { q with buf := later, held := keep, haves := haves, composing := none, closed := line + 1 }
  (s.composeStart h p).fetchStep h p

/-- Is every chunk of lines up to n fetched (R84: compose ends once its bytes are there)? -/
def State.lineReady (s : State) (h : Half) (p line : Nat) : Bool :=
  let q := s.pipe h p
  (line < q.fetchNext) && !((s.hs h).dram.queue.any fun r => r.pipe = some p && r.chunk.line ≤ line) && !(q.granted.any fun c => c.line ≤ line)

/-- A packet goes onto the pixel link. -/
def State.sendPacket (s : State) (h : Half) (k : Packet) : State := s.setHs h { s.hs h with link := (s.hs h).link ++ [k] }

/-- Does the pipe run: its half in service and a schedule in force (R93)? -/
def State.pipeRuns (s : State) (h : Half) (p : Nat) : Bool :=
  s.inService h && s.get (pgCmp h p) F.CMP_SCHED_ROLE ≠ roleIdle

/-! ## Latch (R79, R98, R103) -/

/-- A latch of the pipe is to be acknowledged to the check unit (R148): where the GO of the lane concerned is pending, it is taken with the state
shadows as they stand; a later GO belongs to the next latch (R80). A half that is not in SRC is lane U's, also while SRC is Status or None (log
entry 100). -/
def State.ickTake (s : State) (h : Half) (p : Nat) : State :=
  let q := s.port p
  let f := if s.ownerOf p = some h then F.ICK_STATUS_PENDING_S else F.ICK_STATUS_PENDING_U
  let st := if s.flag (pgIck p) f then some ((upTo 16).map fun r => (r, s.get (pgIck p) (F.ICK_STATE_STATE.at (4 * r)))) else none
  let s := s.put (pgIck p) f 0
  s.setPort p (match h with
    | .A => { q with ackA := true, ickA := st }
    | .B => { q with ackB := true, ickB := st })

/-- A pipe's shadows are latched; a COMMIT or a RESTORE that waits for the pipe learns of it (R240, R247). -/
def State.latch (s : State) (h : Half) (p : Nat) : State :=
  let pg := pgCmp h p
  let s := s.setPipe h p { s.pipe h p with act := s.shadows h p }
  let s := s.put pg F.CMP_STATUS_PENDING 0
  let s := s.put pg F.CMP_STATUS_LATCHED 1
  let s := if s.streamWild h p then s.putFree pg F.CMP_STATUS_FRAMES else s.incMod pg F.CMP_STATUS_FRAMES
  let s := s.ickTake h p
  s.each (upTo 64) fun i s =>
    let t := s.inst h i
    let frame := (s.get (pgScn p) F.SCN_FRAME_FRAME + 1) % 2 ^ 32
    let cur := t.cur.map fun c =>
      if c.waitPipes.contains p then { c with waitPipes := c.waitPipes.filter (· ≠ p), frame := frame } else c
    s.setInst h i { t with cur := cur, restoring := t.restoring.map fun l => l.filter (· ≠ p) }

/-- The words that the handover state digest covers (R201): page × 0x10000 + offset, those that differ from their reset value. -/
def State.digestWords (s : State) (h : Half) : List (Nat × Word) :=
  (upTo 8).flatMap fun n => (s.shadows h n).map fun e => (n * 0x10000 + e.1, e.2)

/-- The digest of a half is captured for the handover of a port (R201). -/
def State.digestCapture (s : State) (h : Half) (p : Nat) : State :=
  let q := s.port p
  match q.ho with
  | none => s
  | some o =>
    let d := some (s.digestWords h)
    s.setPort p { q with ho := some (match h with | .A => { o with digestA := d } | .B => { o with digestB := d }) }

/-- A marker selects the pipe's variant and discards what it holds (R91, R94, R98). -/
def State.takeMarker (s : State) (h : Half) (p : Nat) (m : Marker) : State :=
  let pg := pgCmp h p
  let hs := s.hs h
  let s := s.setHs h { hs with dram := { hs.dram with queue := hs.dram.queue.filter fun r => r.pipe ≠ some p } }
  let q := s.pipe h p
  let s := s.setPipe h p { q with
    frame := m.frame, fetchNext := 0, fetchUpTo := 0, fetching := none, granted := [], buf := [], held := [], heldWhole := [],
    haves := [], composing := none, waiting := none, closed := 0 }
  let s := s.put pg F.CMP_SCHED_TIER m.tier
  let s := s.put pg F.CMP_SCHED_ROLE m.role
  if m.role = roleIdle then s.fillShow h p
  else
    let v := 2 * m.tier + (if m.role = roleStandby || m.role = roleSole then 1 else 0)
    let s := s.setPipe h p { s.pipe h p with reported := (s.pipe h p).reported && s.variant h p = v }
    let s := s.put pg F.CMP_SCHED_VARIANT v
    let s := s.setReg pg 0x24 (BitVec.ofNat 32 (s.sched h p 8 4 % 0x40000000))
    let s := s.put pg F.CMP_WM_WM_LO (s.sched h p 0xC 2)
    s.put pg F.CMP_WM_WM_HI (s.sched h p 0xE 2)

/-- Is the marker a latch point of the pipe (R98)? -/
def State.latchPoint (s : State) (h : Half) (p : Nat) (m : Marker) : Bool :=
  m.role ≠ roleIdle && m.frame % s.updateDiv h p = 0

def Port.marker (q : Port) : Half → Option Marker
  | .A => q.markA
  | .B => q.markB

/-- The marker of a port has reached the half. -/
def State.markerGone (s : State) (h : Half) (p : Nat) : State :=
  let q := s.port p
  s.setPort p (match h with | .A => { q with markA := none } | .B => { q with markB := none })

/-- CMP_GO (R79, R80): a second GO while PENDING has no further effect. -/
def execCmpGo (rq : Requester) (pipe : Fin 8) (s : State) : Res :=
  let pg := pgCmp rq.half pipe
  hostWrite rq pg s fun s => .next (s.put pg F.CMP_STATUS_PENDING 1)

/-- LATCH_MARKER (R95, R98, R103): the markers of a locked pair are taken together, at the even pipe's. -/
def execLatchMarker (h : Half) (pipe : Fin 8) (s : State) : Res :=
  let ps := (s.group pipe).filter fun p => ((s.port p).marker h).isSome
  if pipe.val ≠ (s.group pipe).headD pipe || ps.isEmpty then .next s
  else if !(s.inService h) then .next (s.each ps fun p s => s.markerGone h p)
  else
    let ms := ps.map fun p => (p, ((s.port p).marker h).getD {})
    let s := s.each ms fun e s => (s.markerGone h e.1).takeMarker h e.1 e.2
    let all := ms.all fun e => s.flag (pgCmp h e.1) F.CMP_STATUS_PENDING
    let s := if ms.any (fun e => s.latchPoint h e.1 e.2) && all && (!(s.locked pipe) || ms.length = 2) then
        s.each ms fun e s => s.whenB (e.2.role ≠ roleIdle) fun s => s.latch h e.1
      else s
    let s := s.each ms fun e s => s.whenB e.2.beginsHandover fun s => s.digestCapture h e.1
    .next (s.each ms fun e s => if e.2.role = roleIdle then s else
      (s.setPipe h e.1 { s.pipe h e.1 with fetchUpTo := 1 }).fetchStep h e.1)

/-- PIPE_LINE_START (R84): the port's line lets fetch of line n + 4 and compose of line n + 2 begin. -/
def execPipeLineStart (h : Half) (pipe : Fin 8) (s : State) : Res :=
  if !(s.pipeRuns h pipe) then .next s
  else
    let l := s.portLine pipe
    let vt := max 1 (s.vTotal pipe)
    let f := (l + 4) % vt
    let c := (l + 2) % vt
    let s := if f < s.vActive pipe then
        s.setPipe h pipe { s.pipe h pipe with fetchUpTo := max (s.pipe h pipe).fetchUpTo (f + 1) } else s
    let s := if c < s.vActive pipe then s.setPipe h pipe { s.pipe h pipe with waiting := some c } else s
    .next ((s.composeStart h pipe).fetchStep h pipe)

/-- FETCH_CHUNK_ARRIVAL (R460): a granted chunk enters the fetch buffer; one of a line already closed stays only if its row is one that a later
line finds held, or while the line's fetch is under way. -/
def execFetchChunkArrival (h : Half) (pipe : Fin 8) (s : State) : Res :=
  let q := s.pipe h pipe
  match q.granted with
  | [] => .next s
  | c :: rest =>
    let q := { q with granted := rest }
    let q := if c.line < q.closed then
        (if q.fetchesLine c.line || (q.heldWhole ++ q.haves.flatMap fun e => e.2).contains (c.lslot, c.kind, c.row) then { q with held := q.held ++ [c] }
         else q)
      else { q with buf := q.buf ++ [c] }
    .next ((s.setPipe h pipe q).fetchStep h pipe)

/-- LINE_CLOSE (R84, R108): the whole line has been composed. -/
def execLineClose (h : Half) (pipe : Fin 8) (s : State) : Res :=
  let q := s.pipe h pipe
  match q.composing with
  | none => .next s
  | some line =>
    if !(s.pipeRuns h pipe) || q.stalled || !(s.lineReady h pipe line) then .next s
    else
      let s := (s.sendPacket h { port := pipe, line := line, pixels := s.composeLine h pipe line }).lineFree h pipe line
      let pg := pgCmp h pipe
      let s := if q.run = 0 then s else
        s.event (srcOf pg) 0x0040 (b1 pipe ++ b1 1 ++ b2 0 ++ b2 line ++ b2 q.run ++ b2 q.frame)
      let s := s.put pg F.CMP_UNDER_RUN 0
      let s := s.setPipe h pipe { s.pipe h pipe with run := 0, reported := false }
      .next (s.lineClosed h pipe line)

/-- The pair supervisor hears of a pipe fault (R109, R190, R205): a failover trigger from the owner, the end of the handover from
the Owner-elect. -/
def State.pipeFault (s : State) (h : Half) (p : Nat) : State :=
  if s.ownerOf p = some h then s.trigger p 3
  else match (s.port p).ho with
    | none => s
    | some o => if o.target = h then (s.hoEnd p 5).rearmGo else s

/-- LINE_CUTOFF (R106 to R109; a run is reported once under each variant that is in force while it lasts): the line not yet closed at its cut-off is closed with a fill marker. `sent` counts the pixels already
sent; `stalled` says that the engine makes no progress now. -/
def execLineCutoff (h : Half) (pipe : Fin 8) (sent : Nat) (stalled : Bool) (s : State) : Res :=
  let q := s.pipe h pipe
  let line := q.closed
  if !(s.pipeRuns h pipe) || s.vActive pipe ≤ line || line ≠ (s.portLine pipe + 1) % (max 1 (s.vTotal pipe)) then .next s
  else
    let pg := pgCmp h pipe
    let n := if q.composing = some line then min sent (s.hActive pipe) else 0
    let fall := (s.reg pg 0x24).toNat % 0x40000000
    let s := s.sendPacket h { port := pipe, line := line, pixels := (s.composeLine h pipe line).take n ++ List.replicate (s.hActive pipe - n) fall }
    let s := if n = 0 then s else s.lineFree h pipe line
    let s := s.put pg F.CMP_UNDER_UNDER 1
    let s := s.incSat pg F.CMP_UNDER_COUNT
    let s := s.incSat pg F.CMP_UNDER_RUN
    let s := s.put pg F.CMP_UNDER_AT_FRAME q.frame
    let s := s.put pg F.CMP_UNDER_AT_LINE line
    let s := s.raise pg
    let s := if q.run = 0 then s.event (srcOf pg) 0x0040 (b1 pipe ++ b1 0 ++ b2 0 ++ b2 line ++ b2 0 ++ b2 q.frame) else s
    let s := s.setPipe h pipe { s.pipe h pipe with run := q.run + 1, stalled := stalled }
    let s := s.lineClosed h pipe line
    if !((s.pipe h pipe).reported) && s.faultLines h pipe ≤ s.get pg F.CMP_UNDER_RUN then
      let s := s.setPipe h pipe { s.pipe h pipe with reported := true }
      .next ((s.put pg F.CMP_UNDER_FAULT 1).pipeFault h pipe)
    else .next s

/-- COMPOSE_RESUME (R107): the engine makes progress again. -/
def execComposeResume (h : Half) (pipe : Fin 8) (s : State) : Res :=
  .next ((s.setPipe h pipe { s.pipe h pipe with stalled := false }).composeStart h pipe)

end Sys2Proof.Machine
end

