-- ==== Sys2Proof/Machine/Integrity.lean ====
section
/-! DEFINITION. The integrity check units (R139 to R155): rectangles and their CRCs, states and their commit, thresholds and
reactions, DARK, the sink CRC. -/

namespace Sys2Proof.Machine

/-! ## Symbol book (R146) -/

/-- A value of the symbol book in force for a port. -/
def State.book (s : State) (p off n : Nat) : Nat := s.secNat (s.plinthSlot (itemPort p)) 7 off n

/-- A value of the descriptor of a rectangle. -/
def State.rect (s : State) (p r off n : Nat) : Nat := s.book p (0x40 + 0x100 * p + 0x10 * r + off) n

/-- A value of the descriptor of a rectangle that R146 bounds; any other content is open (R46, log entry 128). -/
def State.rectIn (s : State) (p r off n lo hi : Nat) : Nat := inImage lo hi 7 (s.rect p r off n)

/-- The kind of a rectangle (R142): 0 Off, 1 Book, 2 Liveness. -/
def State.rectKind (s : State) (p r : Nat) : Nat := inImage 0 2 7 (s.rect p r 0xB 1 / 4 % 4)

/-- Is the rectangle checked in lane S (`u` false) or lane U? -/
def State.rectLane (s : State) (p r : Nat) (u : Bool) : Bool :=
  s.rectKind p r ≠ 0 && (s.rect p r 0xB 1).testBit (if u then 5 else 4)

/-- The rectangles that a lane computes. -/
def State.rects (s : State) (p : Nat) (u : Bool) : List Nat := (upTo 16).filter fun r => s.rectLane p r u

def State.rectX (s : State) (p r : Nat) : Nat := s.rectIn p r 0 2 0 (s.hActive p - 1)
def State.rectY (s : State) (p r : Nat) : Nat := s.rectIn p r 2 2 0 (s.vActive p - 1)
def State.rectW (s : State) (p r : Nat) : Nat := s.rectIn p r 4 2 1 (s.hActive p - s.rectX p r)
def State.rectH (s : State) (p r : Nat) : Nat := s.rectIn p r 6 2 1 (s.vActive p - s.rectY p r)
/-- The row after the last one of a rectangle. -/
def State.rectEnd (s : State) (p r : Nat) : Nat := s.rectY p r + s.rectH p r
def State.rectThresh (s : State) (p r : Nat) : Nat := inImage 1 15 7 (s.rect p r 0xC 1 % 16)
/-- The states of a rectangle and its liveness window (R146). -/
def State.rectStates (s : State) (p r : Nat) : Nat := s.rectIn p r 0xA 1 1 64
def State.rectLive (s : State) (p r : Nat) : Nat := s.rectIn p r 0xE 2 2 600
/-- A bit of REACT: 0 ALERT, 1 FAILOVER, 2 DARK. -/
def State.rectReact (s : State) (p r i : Nat) : Bool := (s.rect p r 0xD 1).testBit i

/-- The expected set of a book rectangle in a state (R147). -/
def State.rectSet (s : State) (p r st : Nat) : List Nat :=
  let size := s.rect p r 0xB 1 % 4 + 1
  (upTo size).map fun i => s.book p (0x840 + 4 * inImage 0 (s.book p 0 4 - 1) 7 (s.rect p r 8 2 + st * size + i)) 4

/-! ## Lanes -/

def State.lane (s : State) (p : Nat) (u : Bool) : Lane := if u then (s.port p).laneU else (s.port p).laneS

def State.setLane (s : State) (p : Nat) (u : Bool) (l : Lane) : State :=
  let q := s.port p
  s.setPort p (if u then { q with laneU := l } else { q with laneS := l })

/-- The bytes of a container (R143). -/
def pixelBytes (px : List Nat) : List Byte := px.flatMap fun v => leBytes 4 v

/-- A lane takes one line (R143, R144): `missing` says that lane U had no complete packet (R139). -/
def State.laneLine (s : State) (p : Nat) (u : Bool) (line : Nat) (px : List Nat) (missing : Bool) : State :=
  let l := s.lane p u
  let l := if line = 0 then { l with wait := false, crc := [], frameCrc := 0xFFFFFFFF, bad := false, badRects := [], mis := [], done := [] } else l
  let hit := (s.rects p u).filter fun r => s.rectY p r ≤ line && line < s.rectEnd p r
  let crc := hit.foldl (fun t r =>
    let start := if line = s.rectY p r then 0xFFFFFFFF else tblGet (fun _ => 0xFFFFFFFF) t r
    tblInsert r (crcRun crc32Poly start (pixelBytes ((px.drop (s.rectX p r)).take (s.rectW p r)))) t) l.crc
  s.setLane p u { l with
    crc := crc, frameCrc := crcRun crc32Poly l.frameCrc (pixelBytes px), bad := l.bad || missing,
    badRects := if missing then l.badRects ++ hit else l.badRects }

/-- Register offsets of the results of a lane. -/
def runFld (u : Bool) : Fld := if u then F.ICK_RSTAT_RUN_U else F.ICK_RSTAT_RUN_S
def matchFld (u : Bool) : Fld := if u then F.ICK_RSTAT_MATCH_U else F.ICK_RSTAT_MATCH_S
def misFld (u : Bool) : Fld := if u then F.ICK_MIS_MIS_U else F.ICK_MIS_MIS_S
def crcFld (u : Bool) : Fld := if u then F.ICK_CRC_U_CRC else F.ICK_CRC_S_CRC

/-- Does the frame mismatch in a rectangle whose CRC is `v` (R142, R147)? In a state at or above NSTATE the outcome is a free value
(R150). -/
def State.rectMismatch (s : State) (p r : Nat) (l : Lane) (v : Nat) : Bool × State :=
  if l.badRects.contains r then (true, s)
  else if s.rectKind p r = 2 then
    (tblFind r l.liveCrc = some v && s.rectLive p r ≤ tblGet (fun _ => 0) l.liveRun r, s)
  else
    let st := tblGet (fun _ => 0) l.act r
    if s.rectStates p r ≤ st then
      let (n, s) := s.takeFree
      (n % 2 = 1, s)
    else (!((s.rectSet p r st).contains v), s)

/-- DARK is set on a port: BLEN goes off at the next line boundary (R152). DESIGN CHOICE (log entry 132): a RELEASE that was written for an earlier
reaction and has not ended the hold yet no longer counts; the manual does not say. -/
def State.darkSet (s : State) (p : Nat) : State :=
  (s.put (pgIck p) F.ICK_STATUS_DARK 1).setPort p { s.port p with darkPend := true, darkArm := false, darkFrame := false }

/-- A lane S rectangle reached THRESH: its reactions in order (R152). DARK shows at once, BLEN goes off at the next line boundary; with FAILOVER
under way, both wait for that boundary and come only if SRC is not switched there. -/
def State.reactS (s : State) (p r : Nat) : State :=
  let s := s.whenB (s.rectReact p r 0) State.alert
  let fail := s.rectReact p r 1 && s.flag (pgIck p) F.ICK_STATUS_U_ACTIVE && s.rectLane p r true &&
    (s.lane p true).done.contains r && !((s.lane p true).mis.contains r)
  let s := s.whenB fail fun s => s.trigger p 5
  s.whenB (s.rectReact p r 2) fun s => if fail then s.setPort p { s.port p with darkIf := true } else s.darkSet p

/-- A rectangle's CRC is complete in a lane (R145, R151, R153). -/
def State.rectDone (s : State) (p : Nat) (u : Bool) (r : Nat) : State :=
  let pg := pgIck p
  let l := s.lane p u
  let v := tblGet (fun _ => 0xFFFFFFFF) l.crc r ^^^ 0xFFFFFFFF
  let (bad, s) := s.rectMismatch p r l v
  let same := tblFind r l.liveCrc = some v
  let l := { l with
    done := l.done ++ [r], mis := if bad then l.mis ++ [r] else l.mis,
    liveCrc := if s.rectKind p r = 2 then tblInsert r v l.liveCrc else l.liveCrc,
    liveRun := if s.rectKind p r = 2 then tblInsert r (if same then min 65535 (tblGet (fun _ => 0) l.liveRun r + 1) else 1) l.liveRun
      else l.liveRun }
  let s := s.setLane p u l
  let s := s.put pg ((crcFld u).at (4 * r)) v
  let s := s.put pg ((matchFld u).at (4 * r)) (if bad then 0 else 1)
  if !bad then s.put pg ((runFld u).at (4 * r)) 0
  else
    let run := s.get pg ((runFld u).at (4 * r))
    let new := min (s.rectThresh p r) (run + 1)
    let s := s.put pg ((runFld u).at (4 * r)) new
    let s := s.whenB (!u) fun s => s.incSat pg (F.ICK_RSTAT_COUNT.at (4 * r))
    if run < s.rectThresh p r && new = s.rectThresh p r then
      let s := (s.putBit pg (misFld u) r true).raise pg
      let s := s.event (srcOf pg) 0x0030
        (b1 p ++ b1 r ++ b1 (if u then 1 else 0) ++ b1 (tblGet (fun _ => 0) l.act r) ++ b4 v ++ b4 (s.get (pgScn p) F.SCN_FRAME_FRAME))
        (trig := s.rectReact p r 1 || s.rectReact p r 2)
      if u then s.whenB (s.rectReact p r 0) State.alert else s.reactS p r
    else s

/-- At the boundary of line n the rectangles that end with the line before are complete, lane U first, so that R152 finds its
results. -/
def State.rectsDone (s : State) (p line : Nat) : State :=
  let lane (u : Bool) (s : State) : State :=
    if s.flag (pgIck p) (if u then F.ICK_STATUS_U_ACTIVE else F.ICK_STATUS_S_ACTIVE) && !((s.lane p u).wait) then
      s.each ((s.rects p u).filter fun r => s.rectEnd p r = line && 0 < line) fun r s => s.rectDone p u r
    else s
  lane false (lane true s)

/-- The rectangles with DARK in lane S. -/
def State.darkRects (s : State) (p : Nat) : List Nat := (s.rects p false).filter fun r => s.rectReact p r 2

/-- The whole active area has been taken: frame CRCs, the end of DARK after a matched frame (R152), the sink CRC (R154). DESIGN CHOICE (log entry
133): ICK_STATUS.DARK clears here, at the end of the active area of the matched frame, while BLEN waits for the next frame boundary. -/
def State.frameDone (s : State) (p : Nat) : State :=
  let sa := s.flag (pgIck p) F.ICK_STATUS_S_ACTIVE && !((s.lane p false).wait)
  let ua := s.flag (pgIck p) F.ICK_STATUS_U_ACTIVE && !((s.lane p true).wait)
  let s := s.whenB sa fun s =>
    let l := s.lane p false
    let v := l.frameCrc ^^^ 0xFFFFFFFF
    let s := s.setLane p false { l with lastFrame := some v }
    let q := s.port p
    let s := s.setPort p { q with sinkHist := (match q.sinkAcc with | none => q.sinkHist | some a => (a :: q.sinkHist).take 4) }
    s.put (pgIck p) F.ICK_FCRC_CRC v
  let s := s.whenB ua fun s =>
    let l := s.lane p true
    s.setLane p true { l with lastFrame := if l.bad then none else some (l.frameCrc ^^^ 0xFFFFFFFF) }
  let q := s.port p
  let l := s.lane p false
  if sa && q.darkFrame && (s.darkRects p).all (fun r => l.done.contains r && !(l.mis.contains r)) then
    let s := s.put (pgIck p) F.ICK_STATUS_DARK 0
    s.setPort p { s.port p with darkArm := false, darkFrame := false, blAfterDark := true }
  else s

/-! ## Backlight under DARK -/

/-- Does DARK hold off BLEN of a port: its own or its locked partner's (R152)? -/
def State.darkHeld (s : State) (p : Nat) : Bool :=
  (s.group p).any fun q => s.flag (pgIck q) F.ICK_STATUS_DARK || (s.port q).blAfterDark

/-- BLEN goes off on the group of a port. -/
def State.blenOff (s : State) (p : Nat) : State := s.each (s.group p) fun q s => s.setPort q { s.port q with blen := false }

/-- DARK ends at a frame boundary: BLEN is as R123 asks on each port that nothing holds any more. -/
def State.darkRelease (s : State) (p : Nat) : State :=
  if !((s.port p).blAfterDark) then s
  else
    let s := s.setPort p { s.port p with blAfterDark := false }
    s.each (s.group p) fun q s => if s.darkHeld q then s else s.setPort q { s.port q with blen := (s.port q).blWant }

/-- A reset of the ICK Function or of its Partition also ends the hold (R152). -/
def State.darkReset (s : State) (p : Nat) : State :=
  let held := s.flag (pgIck p) F.ICK_STATUS_DARK
  let q := s.port p
  s.setPort p { q with
    darkArm := false, darkPend := false, darkIf := false, darkFrame := false, blAfterDark := q.blAfterDark || held, sinkRun := 0, ickA := none, ickB := none }

/-! ## Commands -/

/-- ICK_GO (R148). -/
def execIckGo (rq : Requester) (port : Fin 8) (s : State) : Res :=
  hostWrite rq (pgIck port) s fun s =>
    .next ((s.put (pgIck port) F.ICK_STATUS_PENDING_S 1).put (pgIck port) F.ICK_STATUS_PENDING_U 1)

/-- ICK_RELEASE (R152): without effect while DARK is clear. -/
def execIckRelease (rq : Requester) (port : Fin 8) (s : State) : Res :=
  hostWrite rq (pgIck port) s fun s =>
    .next (s.whenB (s.flag (pgIck port) F.ICK_STATUS_DARK) fun s => s.setPort port { s.port port with darkArm := true })

/-- ICK_LATCH_ACK (R148): the lane of the half takes the states that its pipe's latch found committed; that of a half not in SRC is lane U. -/
def execIckLatchAck (h : Half) (port : Fin 8) (s : State) : Res :=
  let q := s.port port
  let ack := match h with | .A => q.ackA | .B => q.ackB
  let st := match h with | .A => q.ickA | .B => q.ickB
  if !ack then .next s
  else
    let s := s.setPort port (match h with
      | .A => { q with ackA := false, ickA := none }
      | .B => { q with ackB := false, ickB := none })
    match st with
    | none => .next s
    | some st =>
      let act := st.foldl (fun t e => tblSet (fun _ => 0) t e.1 e.2) []
      if s.ownerOf port = some h then
        let s := s.setLane port false { s.lane port false with act := act }
        .next (s.showAct port)
      else .next (s.setLane port true { s.lane port true with act := act })

/-- May a sink check start (R155)? -/
def State.sinkAllowed (s : State) (p : Nat) : Bool :=
  s.flag (pgScn p) F.SCN_LINK_UP && s.flag (pgScn p) F.SCN_LINK_SINK_CRC && !(s.flag (pgScn p) F.SCN_STATUS_PSR) &&
  (s.ownerOf p).isSome && !((s.port p).sinkBusy)

/-- A sink check starts. DESIGN CHOICE (log entry 134): SINK_NOW while a check is under way does nothing, and a check that SINK_NOW started begins the
count of SINK_DIV frames anew; R154 says neither. -/
def State.sinkStart (s : State) (p : Nat) : State :=
  s.whenB (s.sinkAllowed p) fun s => s.setPort p { s.port p with sinkBusy := true, sinkCount := 0 }

/-- ICK_SINK_NOW (R154). -/
def execIckSinkNow (rq : Requester) (port : Fin 8) (s : State) : Res := hostWrite rq (pgIck port) s fun s => .next (s.sinkStart port)

/-- SINK_CHECK_DUE (R154): every SINK_DIV frames. -/
def execSinkCheckDue (port : Fin 8) (s : State) : Res :=
  if inImage 1 255 7 (s.get (pgIck port) F.ICK_SINKCFG_SINK_DIV) ≤ (s.port port).sinkCount then .next (s.sinkStart port) else .next s

/-- SINK_CRC_READ_DONE (R155). With no half in SRC the unit compares nothing (R134): a reading that arrives then counts as neither. DESIGN CHOICE (log
entry 135): in the event of a sink check the active state is 0 and the frame number is that of the frame in which the reading arrived. -/
def execSinkCrcReadDone (port : Fin 8) (reading : Option (Word × Word × Word)) (s : State) : Res :=
  let pg := pgIck port
  let q := s.port port
  if !q.sinkBusy then .next s
  else
    let s := s.setPort port { q with sinkBusy := false }
    match reading with
    | none => .next s
    | some v =>
      if (s.ownerOf port).isNone then .next s
      else if q.sinkHist.contains v then .next (s.setPort port { s.port port with sinkRun := 0 })
      else
        let s := s.incSat pg F.ICK_STATUS_SINK_MIS
        let t := inImage 1 15 7 (s.get pg F.ICK_SINKCFG_SINK_THRESH)
        let run := min t (q.sinkRun + 1)
        let s := s.setPort port { s.port port with sinkRun := run }
        if q.sinkRun < t && run = t then
          let s := s.put pg F.ICK_STATUS_SINK_FAIL 1
          let s := s.event (srcOf pg) 0x0030
            (b1 port ++ b1 0xFF ++ b1 0 ++ b1 0 ++ b4 v.1.toNat ++ b4 (s.get (pgScn port) F.SCN_FRAME_FRAME))
          let react := s.get pg F.ICK_SINKCFG_SINK_REACT
          let s := s.whenB (react.testBit 0) State.alert
          .next (s.whenB (react.testBit 1) fun s => s.darkSet port)
        else .next s

end Sys2Proof.Machine
end

