-- ==== Sys2Proof/Machine/Life.lean ====
section
/-! DEFINITION. Life cycle and keys (R372 to R379): the state in force, the key slots, the operations of the LCS page and of the service port. -/

namespace Sys2Proof.Machine

def lcBlank : Nat := 0
def lcProvisioned : Nat := 1
def lcService : Nat := 2
def lcRetired : Nat := 3

/-- The state word of a life-cycle state (R372). -/
def lcWord (st : Nat) : Nat := if st = 1 then 0x564F5250 else if st = 2 then 0x56524553 else if st = 3 then 0x49544552 else 0

/-- The state that a state word names; none is Blank. -/
def lcNamed (w : Nat) : Nat := if w = lcWord 1 then 1 else if w = lcWord 2 then 2 else if w = lcWord 3 then 3 else 0

/-- The life-cycle state in force (R372): the highest that either copy or the latch names. -/
def State.lcState (s : State) : Nat :=
  max (max (lcNamed (s.mramNat (storeBase + 0x10) 4)) (lcNamed (s.mramNat (storeBase + 0x14) 4))) s.pw.lcLatch

/-! ## Keys (R375) -/

def keyBase (slot : Nat) : Nat := storeBase + 0x1000 * (slot + 1)

def State.keyValid (s : State) (slot : Nat) : Bool :=
  crc32c (s.mramBytes (keyBase slot) 0xFFC) = s.mramNat (keyBase slot + 0xFFC) 4

def State.keyGenOf (s : State) (slot : Nat) : Nat := s.mramNat (keyBase slot) 2

/-- The key slot in force. -/
def State.keySlot (s : State) : Option Nat :=
  if s.keyValid 0 then (if s.keyValid 1 && s.keyGenOf 0 < s.keyGenOf 1 then some 1 else some 0)
  else if s.keyValid 1 then some 1 else none

/-- KEYGEN in force; 0 if none. -/
def State.keyGen (s : State) : Nat := match s.keySlot with | none => 0 | some k => s.keyGenOf k

/-- LCS_STATUS shows the state and the keys in force. -/
def State.lcShow (s : State) : State :=
  let s := s.put pgLcs F.LCS_STATUS_STATE s.lcState
  let s := s.put pgLcs F.LCS_STATUS_KSLOT (s.keySlot.getD 0)
  s.put pgLcs F.LCS_STATUS_KEYGEN s.keyGen

/-- Do both signatures over a message verify against the key slot in force (R39, R40)? -/
def State.ecdsaOk (s : State) (msg sig : List Byte) : Bool :=
  match s.keySlot with
  | none => false
  | some k => Config.ecdsaVerify (s.mramBytes (keyBase k + 0x10) 97) msg sig

def State.mldsaOk (s : State) (msg sig : List Byte) : Bool :=
  match s.keySlot with
  | none => false
  | some k => Config.mldsaVerify (s.mramBytes (keyBase k + 0x80) 1952) msg sig

/-! ## Operations -/

def fit (n : Nat) (bs : List Byte) : List Byte := (bs ++ List.replicate n 0).take n

/-- The 4 KB of a key slot for a key record (R375, R378). -/
def keySlotBytes (rec : List Byte) : List Byte :=
  let part (o n : Nat) : List Byte := fit n (rec.drop o)
  let body := fit 0xFFC (fit 0x10 (part 4 2) ++ fit 0x70 (part 0x10 97) ++ part 0x80 1952)
  body ++ b4 (crc32c body)

/-- The intent record (R373). -/
def intentBytes (op target : Nat) : List Byte :=
  let b := b4 0x544E5449 ++ b1 op ++ b1 target ++ List.replicate 6 0
  b ++ b4 (crc32c b)

/-- Zeros over the private parts of the device key pair, wherever they lie in its 8 KB (R373, R377). -/
def devicePrivateZeros : List (Nat × List Byte) :=
  Config.devicePrivate.map fun r => (storeBase + 0x3000 + r.1 % 0x2000, List.replicate (min r.2 (0x2000 - r.1 % 0x2000)) 0)

/-- The MRAM writes from step 2 of R373 on. -/
def transitionWrites (op target : Nat) : List (Nat × List Byte) :=
  (if op = 3 then (keyBase 0, List.replicate 0x2000 0) :: devicePrivateZeros else []) ++
  [(storeBase + 0x10, b4 (lcWord target)), (storeBase + 0x14, b4 (lcWord target)), (storeBase, List.replicate 4 0)]

/-- The MRAM writes of an operation in order (R373, R374, R378). -/
def State.lcsWrites (s : State) (o : LcsOp) (deviceKeys : List Byte) : List (Nat × List Byte) :=
  if o.op = 4 then [(keyBase (match s.keySlot with | some 0 => 1 | _ => 0), keySlotBytes o.record)]
  else
    (if o.op = 1 then [(keyBase 0, keySlotBytes o.record), (storeBase + 0x3000, fit 0x2000 deviceKeys)] else []) ++
    [(storeBase, intentBytes o.op o.op)] ++ transitionWrites o.op o.op

def State.writesAll (s : State) (ws : List (Nat × List Byte)) : State := s.each ws fun w s => s.setMram w.1 w.2

/-- Writes cut short after n bytes. -/
def writesCut : Nat → List (Nat × List Byte) → List (Nat × List Byte)
  | _, [] => []
  | n, (a, bs) :: r => if bs.length ≤ n then (a, bs) :: writesCut (n - bs.length) r else [(a, bs.take n)]

/-- An operation ends with a RESULT. -/
def State.lcsEnd (s : State) (result : Nat) : State :=
  let s := { s with lcs := none }
  let s := s.put pgLcs F.LCS_STATUS_BUSY 0
  let s := s.put pgLcs F.LCS_STATUS_DONE 1
  s.put pgLcs F.LCS_STATUS_RESULT result

/-- A power loss meets a write of the store: it stops at a word boundary, which one is a free value (R373, R375, R409). -/
def State.lcsCut (s : State) : State :=
  match s.lcs with
  | none => s
  | some o =>
    let (v, s) := s.takeFree
    let ws := s.lcsWrites o (Config.deviceKeys v)
    let total := (ws.map fun w => w.2.length).sum
    ({ s with lcs := none }).writesAll (writesCut (4 * (v % (total / 4 + 1))) ws)

/-- An open intent is rolled forward from step 2 (R373); one that fails its CRC is ignored. -/
def State.intentRoll (s : State) : State :=
  let b := s.mramBytes storeBase 12
  if s.mramNat storeBase 4 = 0x544E5449 && crc32c b = s.mramNat (storeBase + 12) 4 then
    s.writesAll (transitionWrites (s.mramNat (storeBase + 4) 1) (s.mramNat (storeBase + 5) 1))
  else s

/-- The checks of a key record (R374, R378): none where it is accepted. -/
def State.recordBad (s : State) (op : Nat) (rec : List Byte) : Option Nat :=
  let num (o n : Nat) : Nat := leNat (fit n (rec.drop o))
  let id := num 8 8
  if rec.length ≠ 0x2000 || num 0 4 ≠ 0x4450554B || (id ≠ 0 && id ≠ Config.moduleId) then some 5
  else if op = 1 then (if num 4 2 = 1 then none else some 4)
  else if !(s.ecdsaOk (rec.take 0x1000) (fit 96 (rec.drop 0x1000)) && s.mldsaOk (rec.take 0x1000) (fit 3309 (rec.drop 0x1060))) then some 3
  else if num 4 2 = s.keyGen + 1 then none else some 4

/-- Is an operation accepted in the life-cycle state (R372)? -/
def lcsAccepts (state op : Nat) : Bool :=
  if state = 0 then op = 1 else if state = 1 then 2 ≤ op && op ≤ 4 else if state = 2 then op = 3 || op = 4 else false

/-- An operation begins, or ends at once with the reason why not. -/
def State.lcsBegin (s : State) (op : Nat) (rec : List Byte) (service : Bool) (confirmed : Bool) : State :=
  if s.lcs.isSome then (s.put pgLcs F.LCS_STATUS_DONE 1).put pgLcs F.LCS_STATUS_RESULT 1
  else if !(lcsAccepts s.lcState op) then s.lcsEnd 2
  else if !confirmed then s.lcsEnd 6
  else match (if op = 1 || op = 4 then s.recordBad op rec else none) with
    | some r => s.lcsEnd r
    | none => ({ s with lcs := some { op := op, record := rec, service := service } }).put pgLcs F.LCS_STATUS_BUSY 1

/-- The key record at LCS_SRC, read with the Trusted tag (R378). -/
def State.lcsRecord (s : State) (h : Half) : List Byte := s.bytesAt h tagTrusted .read (s.get pgLcs F.LCS_SRC_PAGE * 4096) 0x2000

/-- Reads of the record that the region controller refuses are counted like any others (R215). -/
def State.lcsNote (s : State) (h : Half) : State := s.noteRead h tagTrusted .read (s.get pgLcs F.LCS_SRC_PAGE * 4096) 0x2000

/-- LCS_PROVISION (R374). -/
def execLcsProvision (rq : Requester) (s : State) : Res :=
  hostWrite rq pgLcs s fun s => .next ((s.lcsNote rq.half).lcsBegin 1 (s.lcsRecord rq.half) false true)

/-- LCS_SERVICE (R374). -/
def execLcsService (rq : Requester) (s : State) : Res :=
  hostWrite rq pgLcs s fun s => .next (s.lcsBegin 2 [] false true)

/-- LCS_RETIRE (R374): it needs CONFIRM = 0xC5. -/
def execLcsRetire (rq : Requester) (confirm : Byte) (s : State) : Res :=
  hostWrite rq pgLcs s fun s => .next (s.lcsBegin 3 [] false (confirm = 0xC5))

/-- LCS_KEY_UPDATE (R378). -/
def execLcsKeyUpdate (rq : Requester) (s : State) : Res :=
  hostWrite rq pgLcs s fun s => .next ((s.lcsNote rq.half).lcsBegin 4 (s.lcsRecord rq.half) false true)

/-- LCS_OPERATION_DONE (R373, R374, R378): the operation's writes are in MRAM; `deviceKeys` is what the entropy source gave PROVISION. The Trusted
debug enables read 0 outside Provisioned (R228). -/
def execLcsOperationDone (deviceKeys : List Byte) (s : State) : Res :=
  match s.lcs with
  | none => .next s
  | some o => .next (((s.writesAll (s.lcsWrites o deviceKeys)).lcsEnd 0).lcShow).dbgRefresh

/-- SVC_PROVISION (R374, R391): in Maquette, with the key record over the service port. -/
def execSvcProvision (record : List Byte) (s : State) : Res :=
  if s.mode ≠ mMaquette || !(s.flag pgSvc F.SVC_STATUS_ATTACHED) || s.lcState = lcRetired then .next s
  else .next (s.lcsBegin 1 record true true)

end Sys2Proof.Machine
end

