-- ==== Sys2Proof/Machine/Memory.lean ====
section
/-! DEFINITION. The memories of a half and its check-value units (R251 to R274). -/

namespace Sys2Proof.Machine

/-! ## Scratchpad (R251 to R258) -/

/-- SPM_ACCESS (R252 to R254, R258): an access that crosses into the next SPM is two, one after the other; what lies beyond SPM3 is no scratchpad,
where a core takes its access fault and another requester reads zeros. -/
def execSpmAccess (h : Half) (spm : Fin 4) (portF portE : Option SpmPort) (errs : List SpmErr) (s : State) : Res :=
  let okP (port : Bool) (p : Option SpmPort) : Bool := match p with | none => true | some p => spOk port p
  if !(okP false portF && okP true portE) then .next s
  else
    let s1 := s.spmCycle h spm (portF.map fun p => (spSplit p).1) (portE.map fun p => (spSplit p).1) errs
    let f2 := portF.bind fun p => (spSplit p).2
    let e2 := portE.bind fun p => (spSplit p).2
    if f2.isNone && e2.isNone then .next s1
    else if spm.val = 3 then
      .next (if f2.any fun p => Issuer.core p.by_ then { s1 with reply := .accessFault } else s1)
    else
      let later := errs.filterMap fun e => if e.word < spmBank / 8 then none else some { e with word := e.word - spmBank / 8 }
      let s2 := s1.spmCycle h (spm + 1) f2 e2 later
      .next (match portF, f2 with
        | some f, some _ => { s2 with reply := s1.reply.join (spSplit f).1.len s2.reply }
        | _, _ => { s2 with reply := s1.reply })

/-- SPM_REPAIR shows how many spare rows a bank uses. -/
def State.repairShow (s : State) (h : Half) (n : Nat) : State :=
  s.each (upTo 16) fun b s =>
    s.put (pgSpm h n) ⟨0x10 + 4 * (b / 8), 4 * (b % 8), 4⟩ ((s.spmU h n).repairs.filter fun e => e.1 / 512 = b).length

/-- A failing row is mapped to the next free spare of its bank, or reported as unrepaired (R257). A spare that fails its own march is consumed: the row
goes to the next. -/
def State.rowRepair (s : State) (h : Half) (n kind bank row : Nat) : State :=
  let u := s.spmU h n
  let used := tblGet (fun _ => 0) u.spent bank
  if used < 8 then
    (s.setSpmU h n { u with repairs := tblInsert (bank * 512 + row) used u.repairs, spent := tblSet (fun _ => 0) u.spent bank (used + 1) }).repairShow h n
  else
    let s := (s.setSpmU h n { u with repairs := tblErase (bank * 512 + row) u.repairs }).repairShow h n
    let s := s.putBit (pgSpm h n) F.SPM_UNREP_BANK bank true
    let s := s.alert
    s.funcEvent (pgSpm h n) 0x02 (b1 bank ++ [0, 0] ++ b2 row ++ b1 kind)

/-- A word is written with its check bits inverted, so that it reads as UE (R257). -/
def State.spmInvert (s : State) (h : Half) (n w : Nat) : State :=
  let data := BitVec.ofNat 64 (leNat (memBytes (s.spm h) (n * spmBank + 8 * w) 8))
  s.setSpmU h n { s.spmU h n with check := tblInsert w (~~~(Config.eccBits data)) (s.spmU h n).check }

/-- A march begins: kind 1 MARCH_D, 2 MARCH_P, 3 wake march. -/
def State.marchStart (s : State) (h : Half) (n kind : Nat) : State :=
  let s := s.setSpmU h n { s.spmU h n with march := some { kind := kind, abort := false } }
  let s := s.put (pgSpm h n) F.SPM_STATUS_BUSY 1
  s.setSpmState h n (if kind = 2 then spTesting else spMarching)

/-- A march ends. -/
def State.marchEnd (s : State) (h : Half) (n st : Nat) (done : Bool) : State :=
  let s := s.setSpmU h n { s.spmU h n with march := none }
  let s := s.put (pgSpm h n) F.SPM_STATUS_BUSY 0
  let s := s.whenB done fun s => s.put (pgSpm h n) F.SPM_STATUS_DONE 1
  s.setSpmState h n st

/-- SPM_WAKE_MARCH (R255, R257): domain SPn powers on; the repair map is rebuilt from nothing. -/
def execSpmWakeMarch (h : Half) (spm : Fin 4) (s : State) : Res :=
  if s.domain h (26 + spm) ≠ 1 || s.spmState h spm ≠ spOff then .next s
  else
    let s := s.setSpmU h spm {}
    let s := s.put (pgSpm h spm) F.SPM_UNREP_BANK 0
    .next ((s.repairShow h spm).marchStart h spm 3)

/-- SPM_MARCH_D (R256): the SPM is not Ready meanwhile. An SPM that is not Ready starts no march. -/
def execSpmMarchD (rq : Requester) (spm : Fin 4) (s : State) : Res :=
  hostWrite rq (pgSpm rq.half spm) s fun s =>
    .next (if s.spmState rq.half spm = spReady then (s.marchStart rq.half spm 1).spmLeaves rq.half spm else s)

/-- SPM_MARCH_P (R256): the SPM shows Testing. -/
def execSpmMarchP (rq : Requester) (spm : Fin 4) (s : State) : Res :=
  hostWrite rq (pgSpm rq.half spm) s fun s =>
    .next (if s.spmState rq.half spm = spReady then s.marchStart rq.half spm 2 else s)

/-- SPM_ABORT (R256): a preserving march stops after the row in progress. -/
def execSpmAbort (rq : Requester) (spm : Fin 4) (s : State) : Res :=
  hostWrite rq (pgSpm rq.half spm) s fun s =>
    match (s.spmU rq.half spm).march with
    | none => .next s
    | some m => .next (if m.kind = 2 then s.setSpmU rq.half spm { s.spmU rq.half spm with march := some { m with abort := true } } else s)

/-- MARCH_ROW_DONE (R256, R257): a row of a preserving march is written back, into a spare where it failed; its contents stay. The lost words
had an uncorrectable error when they were saved and are written with their check bits inverted. -/
def execMarchRowDone (h : Half) (spm : Fin 4) (bank : Fin 16) (row : Nat) (found : RowFound) (s : State) : Res :=
  match (s.spmU h spm).march with
  | none => .next s
  | some m =>
    if m.kind ≠ 2 || 512 ≤ row then .next s
    else
      let s := s.whenB found.bad fun s => s.rowRepair h spm 2 bank row
      let s := s.each found.lost fun w s => s.spmInvert h spm (spPlace bank row w)
      .next (if m.abort then s.marchEnd h spm spReady true else s)

/-- MARCH_DONE (R255 to R257): a destructive march leaves every word zero; a wake march that leaves a row unrepaired sends the SPM to Failed. -/
def execMarchDone (h : Half) (spm : Fin 4) (badRows : List (Fin 16 × Nat)) (s : State) : Res :=
  match (s.spmU h spm).march with
  | none => .next s
  | some m =>
    if m.kind = 2 then .next (s.marchEnd h spm spReady true)
    else
      let s := s.each (badRows.filter fun e => e.2 < 512) fun e s => s.rowRepair h spm m.kind e.1 e.2
      let s := s.setSpm h (memClear (s.spm h) (spm * spmBank) spmBank)
      let s := s.setSpmU h spm { s.spmU h spm with check := [] }
      .next (s.marchEnd h spm (if m.kind = 3 && s.get (pgSpm h spm) F.SPM_UNREP_BANK ≠ 0 then spFailed else spReady) true)

/-- MARCH_D of an Inspection on one SPM (R256, R257, R370): rows with a wrong read take spares, and every word is zero; no command is answered. -/
def State.inspMarch (s : State) (h : Half) (n : Nat) (rows : List (Fin 16 × Nat)) : State :=
  if s.domain h (26 + n) ≠ 2 then s
  else
    let s := s.each (rows.filter fun e => e.2 < 512) fun e s => s.rowRepair h n 1 e.1 e.2
    let s := s.setSpm h (memClear (s.spm h) (n * spmBank) spmBank)
    (s.setSpmU h n { s.spmU h n with check := [] }).marchEnd h n spReady false

/-- SPM_OFF_CLEAR_DONE (R255): every row, spares included, is zero; the domain's shutdown goes on. -/
def execSpmOffClearDone (h : Half) (spm : Fin 4) (s : State) : Res :=
  if s.spmState h spm ≠ spClearing then .next s
  else
    let s := s.setSpm h (memClear (s.spm h) (spm * spmBank) spmBank)
    .next (s.setSpmState h spm spOff)

/-! ## DRAM (R259 to R269) -/

/-- The channel of an address (R259). -/
def dramChan (a : Nat) : Nat := (a / 64 % 8) ^^^ (a / 2 ^ 22 % 8)
/-- The bank of an address within its channel. -/
def dramBank (a : Nat) : Nat := (a / 2 ^ 14 % 16) ^^^ (a / 2 ^ 18 % 16)
/-- The row of an address. -/
def dramRow (a : Nat) : Nat := a / 2 ^ 18 % 2 ^ 16
/-- The partial-array self-refresh segment of an address. -/
def dramSeg (a : Nat) : Nat := a / 2 ^ 31 % 8

/-- Slot byte k of the active table (R264): CLASS and U; bits 7:5 are reserved and zero (R46). -/
def State.slotByte (s : State) (h : Half) (k : Nat) : Nat × Bool :=
  let b := inImage 0 31 4 (s.secNat (s.slotOf (Half.die h)) 4 ((if h = .A then 0 else 0x2820) + 0x20 + 0x400 * s.get (pgDmc h 0) F.DMC_STATUS_TABLE + k) 1)
  (b % 16, b.testBit 4)

/-- The best-effort priority of a requester (R268). -/
def State.bePrio (s : State) (h : Half) (r : Nat) : Nat :=
  (s.reg (pgDmc h 0) (0x10 + 4 * (r / 16))).toNat / 2 ^ (2 * (r % 16)) % 4

/-- May a request be served now: its channel, a bank that can move data, a segment that is filled (R263, R266), and for a write to a mirror
region room in the twin-link queue (R197). -/
def State.canServe (s : State) (h : Half) (chan : Nat) (busy : BitVec 16) (r : DReq) : Bool :=
  let d := (s.hs h).dram
  dramChan r.addr = chan && !(busy.getLsbD (dramBank r.addr)) && d.zeroDone &&
    !(d.unfilled.any fun e => e.1 = dramSeg r.addr && e.2.testBit (dramChan r.addr / 4)) &&
    !(!r.mirror && (r.write.any fun bs => s.mirFull h r.addr bs.length))

/-- The DRAM of a half grants slots: it is trained and not in self-refresh. -/
def State.dramUp (s : State) (h : Half) (chan : Nat) : Bool := (s.hs h).dram.trained && !(s.flag (pgDmc h (chan / 4)) F.DMC_STATUS_SR)

/-- One slot of a channel has passed. -/
def State.slotNext (s : State) (h : Half) (chan : Nat) : State :=
  let d := (s.hs h).dram
  s.setHs h { s.hs h with dram := { d with slots := tblSet (fun _ => 0) d.slots chan ((tblGet (fun _ => 0) d.slots chan + 1) % 1024) } }

/-- The address of the block that a scan reads next. -/
def State.scanAddr (s : State) (h : Half) (n : Nat) : Nat :=
  let p := pgCvu h n
  s.get p F.CVU_BASE_HI_ADDR * 2 ^ 32 + s.get p F.CVU_BASE_LO_ADDR * 64 + 64 * (s.scan h n).blk

/-- Has a scan a block to read? -/
def State.scanGoes (s : State) (h : Half) (n : Nat) : Bool :=
  s.flag (pgCvu h n) F.CVU_STATUS_BUSY && (s.scan h n).blk < s.get (pgCvu h n) F.CVU_LEN_VALUE

/-- The request of a scan for its next block, where that lies in DRAM and is not refused (R271). -/
def State.scanReq (s : State) (h : Half) (n : Nat) : Option DReq :=
  let a := s.scanAddr h n
  let t := s.tagOf h (pgCvu h n)
  if s.scanGoes h n && a < dramSize && s.admitBlock h t .read a then
    some { source := .scan n, requester := 15, addr := a, world := t.world, part := t.part, m := t.m }
  else none

/-- The oldest mirror write that comes from the other half. -/
def State.mirrorReq (s : State) (h : Half) : Option DReq :=
  match (s.hs (Half.other h)).mirQ with
  | [] => none
  | w :: _ => some { source := .mirror, requester := 13, addr := w.addr, write := some w.bytes, mirror := true }

/-- The block that a catch-up of this half reads next. -/
def State.copyOutReq (s : State) (h : Half) : Option DReq :=
  let hs := s.hs h
  match hs.copying with
  | none => none
  | some g => if hs.copyRead < 1024 then some { source := .copyOut, requester := 13, addr := g * 65536 + 64 * hs.copyRead, mirror := true } else none

/-- The block that a catch-up of the other half writes here next. -/
def State.copyInReq (s : State) (h : Half) : Option DReq :=
  let o := s.hs (Half.other h)
  match o.copying, o.copyBuf with
  | some g, bs :: _ => some { source := .copyIn, requester := 13, addr := g * 65536 + 64 * o.copyAt, write := some bs, mirror := true }
  | _, _ => none

/-- The block of its source in DRAM that the measurement engine reads next (R223). -/
def State.measureReq (s : State) (h : Half) : Option DReq :=
  let hs := s.hs h
  if hs.stage ≠ .measuring && hs.restart ≠ 2 then none
  else match (s.trustedImages h)[hs.images]? with
    | none => none
    | some (src, _, len, _, xspi) =>
      let a := src / 64 * 64 + 64 * hs.measAt
      if !xspi && a < src + len && a < dramSize then some { source := .measure, requester := 14, addr := a, world := .trusted, part := noPart } else none

/-- A request waits behind an older write of its requester to the same block. -/
def oldestFirst : List DReq → List DReq
  | [] => []
  | r :: l => r :: (oldestFirst l).filter fun x => !(r.write.isSome && x.requester = r.requester && x.addr / 64 = r.addr / 64)

/-- All candidates for the slots of a half, the oldest first: the waiting requests, then what the engines of R265 that keep no queue ask for next (log
entry 138). -/
def State.waiting (s : State) (h : Half) : List DReq :=
  oldestFirst (s.hs h).dram.queue ++
  ([s.mirrorReq h, s.copyInReq h, s.copyOutReq h, s.measureReq h] ++ (upTo 4).map fun n => s.scanReq h n).filterMap id

/-- What a slot grants. -/
inductive Grant where
  | refresh (key : Nat) (extra : Bool)
  | training (key : Nat)
  | request (r : DReq)
  | nothing
  deriving DecidableEq, Repr

/-- The best-effort choice (R266 item 6): the requester of highest priority, ties round-robin, its oldest request. -/
def State.bestEffort (s : State) (h : Half) (chan : Nat) (q : List DReq) : Option DReq :=
  let last := tblGet (fun _ => 17) (s.hs h).dram.rr chan
  let who := bestBy (fun r => (3 - s.bePrio h r) * 32 + (r + 17 - last) % 18) ((upTo 18).filter fun r => q.any fun x => x.requester = r)
  match who with
  | none => none
  | some r => q.find? fun x => x.requester = r

/-- The channel of a piece of maintenance work. -/
def dueChan (k : Nat) : Nat := if k < 128 then k / 16 else (k - 128) % 8

/-- The class of a requester (R264): 0 or a reservation class; class 1 is no class of a requester (R46). -/
def reqClass (d : Dram) (r : Nat) : Nat :=
  let c := inImage 0 15 4 (tblGet (fun _ => 0) d.classMap r)
  if c = 1 then inImage 2 15 4 c else c

/-- The candidate that a channel grants in a slot (R266). Extra refresh takes free slots only, never one with U = 1 (R262). -/
def State.grant (s : State) (h : Half) (chan : Nat) (busy : BitVec 16) : Grant :=
  let d := (s.hs h).dram
  let (cls, u) := s.slotByte h (tblGet (fun _ => 0) d.slots chan)
  let mine (l : List Nat) : Option Nat := l.find? fun k => dueChan k = chan
  let q := (s.waiting h).filter (s.canServe h chan busy)
  let urgent := q.find? fun r => r.urgent
  let classed := if 2 ≤ cls then q.find? fun r => reqClass d r.requester = cls else none
  match (if cls = 1 then mine d.due else none), (if u then urgent else none), classed, urgent,
      (if cls = 0 && !u then mine d.extra else none), s.bestEffort h chan q with
  | some k, _, _, _, _, _ => if k < 128 then .refresh k false else .training k
  | _, some r, _, _, _, _ => .request r
  | _, _, some r, _, _, _ => .request r
  | _, _, _, some r, _, _ => .request r
  | _, _, _, _, some k, _ => .refresh k true
  | _, _, _, _, _, some r => .request r
  | _, _, _, _, _, _ => .nothing

/-- A granted burst opens its row, and its requester was served last (R260, R266). -/
def State.dramTake (s : State) (h : Half) (r : DReq) : State :=
  let d := (s.hs h).dram
  s.setHs h { s.hs h with dram := { d with
    openRows := tblSet (fun _ => 0) d.openRows (dramChan r.addr * 16 + dramBank r.addr) (dramRow r.addr + 1),
    rr := tblSet (fun _ => 17) d.rr (dramChan r.addr) r.requester } }

/-- A granted burst completes (R168, R266): a pipe's chunk takes its bytes, a write reaches DRAM, a read returns the burst; what a hart reads or
writes passes its L2 cluster (R220), and what it fetches is what its FENCE.I let it see (R230). -/
def State.serve (s : State) (h : Half) (r : DReq) : State :=
  let s := s.dramTake h r
  let s := s.setHs h { s.hs h with dram := { (s.hs h).dram with queue := (s.hs h).dram.queue.erase r } }
  let t : Tag := ⟨r.world, r.part, r.m, r.mirror⟩
  match r.pipe, r.write with
  | some p, _ => s.setPipe h p { s.pipe h p with granted := (s.pipe h p).granted ++ [{ r.chunk with bytes := s.bytesAt h t .read r.addr 64 }] }
  | none, some bs =>
    let s := s.writeAt h t r.addr bs
    match r.hart with
    | none => s
    | some n => s.hartStored h n t r.addr bs
  | none, none =>
    let burst := s.bytesAt h t (if r.fetch then .fetch else .read) (r.addr / 64 * 64) 64
    let answer := match r.hart, r.fetch with
      | some n, true => s.fetched h n (r.addr / 64 * 64) 64
      | _, _ => burst
    let s := s.setHs h { s.hs h with dram := { (s.hs h).dram with lastRead := answer } }
    match r.hart with
    | none => s
    | some n => s.hartFill h n t r.fetch r.addr burst

/-- The running CRC of a scan after the block at `a` (R270): address and sequence number where they fold in, then the 64 bytes. -/
def State.cvuFold (s : State) (h : Half) (p : Pg) (t : Tag) (a : Nat) (c : Scan) : Nat :=
  let crc := if s.flag p F.CVU_CTRL_FOLD_ADDR then crcRun crc32cPoly c.crc (leBytes 6 a) else c.crc
  let crc := if s.flag p F.CVU_CTRL_FOLD_SEQ then crcRun crc32cPoly crc (leBytes 4 c.seq) else crc
  crcRun crc32cPoly crc (s.bytesAt h t .read a 64)

/-- A block of a scan whose read is done: the refusals of its bytes are recorded, a scratchpad block is read at port E (R252, R254), the CRC, the sequence number and DONEBLK go on, and STOP ends
the scan (R270 to R272). -/
def State.cvuTaken (s : State) (h : Half) (n : Nat) (t : Tag) (a crc : Nat) (c : Scan) : State :=
  let p := pgCvu h n
  let refused := !(s.refusals h t .read a 64).isEmpty
  let s := (if dramSize ≤ a && !refused then s.spmEngine h (0x50 + n) a 64 none else s.noteRefusals h t .read a 64).whenB refused fun s =>
    s.put p F.CVU_STATUS_REFUSED 1
  let s := s.setScan h n { c with crc := crc, seq := (c.seq + 1) % 2 ^ 32, blk := c.blk + 1 }
  let s := (s.put p F.CVU_RUN_VALUE crc).put p F.CVU_DONEBLK_VALUE (c.blk + 1)
  if c.stop && c.blk + 1 < s.get p F.CVU_LEN_VALUE then (s.put p F.CVU_STATUS_BUSY 0).setScan h n {} else s

/-- The next block of a scan is read as one burst and folded (R270, R271). -/
def State.scanBlock (s : State) (h : Half) (n : Nat) : State :=
  let p := pgCvu h n
  let c := s.scan h n
  let t := s.tagOf h p
  let a := s.scanAddr h n
  s.cvuTaken h n t a (s.cvuFold h p t a c) c

/-- A write with the mirror tag reaches DRAM where the region controller admits it (R210, R213). -/
def State.mirrorStore (s : State) (h : Half) (r : DReq) : State :=
  let t : Tag := ⟨r.world, r.part, r.m, r.mirror⟩
  if s.admitBlock h t .mirror (r.addr / 64 * 64) then s.writeAt h t r.addr (r.write.getD []) else s.refuse h t .mirror (r.addr / 64 * 64)

/-- A mirror write of the other half is applied (R197): written here, and gone from that half's queue, where a SAVE may wait for room. -/
def State.mirrorApply (s : State) (h : Half) (q : DReq) : State :=
  let o := Half.other h
  let s := (s.dramTake h q).mirrorStore h q
  let s := s.setHs o { s.hs o with mirQ := (s.hs o).mirQ.drop 1, mirDone := (s.hs o).mirDone + 1 }
  (s.savesGo o).syncCheck

/-- What a grant does, for each kind of candidate. -/
def State.slotGrant (s : State) (h : Half) (r : DReq) : State :=
  let o := Half.other h
  match r.source with
  | .queue => s.serve h r
  | .mirror => s.mirrorApply h r
  | .copyOut =>
    let s := s.dramTake h r
    s.setHs h { s.hs h with copyRead := (s.hs h).copyRead + 1, copyBuf := (s.hs h).copyBuf ++ [memBytes (s.dram h) r.addr 64] }
  | .copyIn =>
    let s := (s.dramTake h r).mirrorStore h r
    s.setHs o { s.hs o with copyAt := (s.hs o).copyAt + 1, copyBuf := (s.hs o).copyBuf.drop 1 }
  | .measure => let s := s.dramTake h r; s.setHs h { s.hs h with measAt := (s.hs h).measAt + 1 }
  | .scan n => (s.dramTake h r).scanBlock h n

/-- The requester number of R265 for what issues a request here; pipes, check-value units and the twin link have commands of their own. -/
def Issuer.requester : Issuer → Option Nat
  | .hart n => some (9 + n.val / 4)
  | .safety => some 11
  | .pcie _ => some 12
  | .mirror => none
  | .engine code =>
    if 0x100 ≤ code ∧ code < 0x140 then some 8
    else if code = 0xA0 then some 14
    else if code = 0xB0 ∨ (0x400 ≤ code ∧ code < 0x480) then some 16
    else if code = 0x2003 then some 17
    else none

/-- Can what issues a request issue one now: a hart that is held cannot (R222, R366, R402), and at a halted hart only a debugger with invasive
debug enabled for its world can, with the hart's tag (R228). -/
def State.issues (s : State) (h : Half) : Issuer → Bool
  | .hart n => !(s.hartHeld h n) && (!(s.hart h n).halted || s.invasive h n)
  | .safety => s.flag (pgSaf h) F.SAF_STATUS_RUN
  | _ => true

/-- An arriving request passes its region controller first (R213 to R215); a refused one takes no slot: a core takes its access fault, another
requester reads zeros. -/
def State.dramArrive (s : State) (h : Half) (r : DramReq) : State :=
  let t := s.tag h r.by_
  let k : AccKind := if r.write.isSome then .write else if r.fetch then .fetch else .read
  match Issuer.requester r.by_ with
  | none => s
  | some n =>
    if dramSize ≤ r.addr || !(s.issues h r.by_) then s
    else if s.admitBlock h t k (r.addr / 64 * 64) then
      s.setHs h { s.hs h with dram := { (s.hs h).dram with queue := (s.hs h).dram.queue ++
        [{ requester := n, addr := r.addr, write := r.write.map fun bs => bs.take (64 - r.addr % 64), world := t.world, part := t.part, m := t.m,
           fetch := r.fetch, core := Issuer.core r.by_, hart := match r.by_ with | .hart k => some k.val | _ => none }] } }
    else
      let s := s.refuse h t k (r.addr / 64 * 64)
      if Issuer.core r.by_ then s.accessFault
      else if r.write.isSome then s else s.setHs h { s.hs h with dram := { (s.hs h).dram with lastRead := List.replicate 64 0 } }

/-- DRAM_SLOT (R260, R264 to R266): one slot of one channel. `busy` names the banks that cannot move data in it. -/
def execDramSlot (h : Half) (chan : Fin 8) (arrivals : List DramReq) (busy : BitVec 16) (s : State) : Res :=
  let s := s.each arrivals fun r s => s.dramArrive h r
  if !(s.dramUp h chan) then .next s
  else
    let g := s.grant h chan busy
    let s := s.slotNext h chan
    match g with
    | .nothing => .next s
    | .refresh k extra =>
      let d := (s.hs h).dram
      .next (s.setHs h { s.hs h with dram := { d with
        due := if extra then d.due else d.due.erase k, extra := if extra then d.extra.erase k else d.extra,
        openRows := tblErase k d.openRows } })
    | .training k =>
      let d := (s.hs h).dram
      let s := s.setHs h { s.hs h with dram := { d with due := d.due.erase k } }
      .next (if k < 136 then s else (s.put (pgDmc h (dueChan k / 4)) F.DMC_STATUS_DRIFT 1).alert)
    | .request r => .next (s.slotGrant h r)

/-- BANK_IDLE_CLOSE (R260): a bank without access for 64 controller clocks closes its page. -/
def execBankIdleClose (h : Half) (chan : Fin 8) (bank : Fin 16) (s : State) : Res :=
  let d := (s.hs h).dram
  .next (s.setHs h { s.hs h with dram := { d with openRows := tblErase (chan.val * 16 + bank.val) d.openRows } })

/-- Set a field of both DMCs. -/
def State.putDmc (s : State) (h : Half) (f : Fld) (v : Nat) : State := (s.put (pgDmc h 0) f v).put (pgDmc h 1) f v

/-- The DMCs, as bits, whose KEEP bit of a segment is 0 (R263). -/
def State.unkept (s : State) (h : Half) (g : Nat) : Nat :=
  (if (s.get (pgDmc h 0) F.DMC_PASR_KEEP).testBit g then 0 else 1) + (if (s.get (pgDmc h 1) F.DMC_PASR_KEEP).testBit g then 0 else 2)

/-- Does an address lie in a segment, on a channel of one of the DMCs in a mask? -/
def inSegment (g mask a : Nat) : Bool := dramSeg a = g && mask.testBit (dramChan a / 4)

/-- The cells of a segment on the channels of the DMCs in a mask are zero. -/
def State.segClear (s : State) (h : Half) (g mask : Nat) : State := s.setDram h (tblKeep (fun a => !(inSegment g mask a)) (s.dram h))

/-- The DRAM of a half enters the self-refresh of Night Watch (R263): the segments that a DMC does not keep lose their content on its channels, and wait for the
zero-fill that follows the wake. -/
def State.dramLose (s : State) (h : Half) : State :=
  let lost := (upTo 8).filterMap fun g =>
    let old := ((s.hs h).dram.unfilled.find? fun e => e.1 = g).elim 0 Prod.snd
    if old ||| s.unkept h g = 0 then none else some (g, old ||| s.unkept h g)
  let s := s.each lost fun e s => s.segClear h e.1 e.2
  s.setHs h { s.hs h with dram := { (s.hs h).dram with unfilled := lost } }

/-- Channels that failed their initial training (R261). -/
def State.trainFailed (s : State) (h : Half) (failed : BitVec 8) : State :=
  s.each (upTo 2) fun k s =>
    let bits := failed.toNat / 16 ^ k % 16
    if bits = 0 then s else (s.put (pgDmc h k) F.DMC_STATUS_TRAIN_FAIL bits).funcEvent (pgDmc h k) 0x03 (b1 bits)

/-- DRAM_TRAINING_DONE (R261, R263): a channel that fails keeps the half Down; otherwise the zero-fill that is owed starts, and the half
goes on. -/
def execDramTrainingDone (h : Half) (failed : BitVec 8) (s : State) : Res :=
  let hs := s.hs h
  let first := !hs.dram.trained && hs.stage ≠ .held && hs.stage ≠ .reset && hs.stage ≠ .stopping
  if !first && !hs.dram.retrain then .next s
  else if failed ≠ 0 then
    .next (s.trainFailed h failed)
  else
    let s := s.setHs h { hs with dram := { hs.dram with trained := true, retrain := false } }
    let s := s.putDmc h F.DMC_STATUS_SR 0
    let filling := !hs.dram.zeroDone || !hs.dram.unfilled.isEmpty
    let s := s.putDmc h F.DMC_STATUS_FILLING (if filling then 1 else 0)
    let s := s.putDmc h F.DMC_STATUS_READY (if filling then 0 else 1)
    .next (s.halfGo h)

/-- PERIODIC_TRAINING (R261): the training of a DMC's channels is due and takes maintenance slots (R266 item 1, DRAM_SLOT); with that of its last channel a
drift that it cannot correct sets DRIFT and asserts ALERT_N. -/
def execPeriodicTraining (h : Half) (dmc : Fin 2) (drift : Bool) (s : State) : Res :=
  let d := (s.hs h).dram
  let due := (upTo 4).map fun c => 128 + 4 * dmc.val + c + (if drift && c = 3 then 8 else 0)
  .next (if d.trained then s.setHs h { s.hs h with dram := { d with due := d.due ++ due.filter fun k => !(d.due.contains k) } } else s)

/-- REFRESH_DUE (R260, R262): the bank's page closes; what the device asks for above twice the base rate takes free slots. HOT holds until a base refresh comes
due of a bank that has asked for none since its last, and no bank of the DMC still does (log entry 139). -/
def execRefreshDue (h : Half) (chan : Fin 8) (bank : Fin 16) (aboveTwice : Bool) (s : State) : Res :=
  let d := (s.hs h).dram
  let k := chan.val * 16 + bank.val
  let hot := if aboveTwice then (if d.hot.contains k then d.hot else k :: d.hot) else d.hot.erase k
  let cools := !(d.hot.contains k) && !(hot.any fun x => x / 64 = k / 64)
  let s := s.setHs h { s.hs h with dram := { d with
    openRows := tblErase k d.openRows,
    due := if aboveTwice then d.due else d.due ++ [k],
    extra := if aboveTwice then d.extra ++ [k] else d.extra,
    hot := hot } }
  .next (if aboveTwice then s.put (pgDmc h (chan / 4)) F.DMC_STATUS_HOT 1
    else if cools then s.put (pgDmc h (chan / 4)) F.DMC_STATUS_HOT 0 else s)

/-- DRAM_ZERO_FILL_DONE (R263, R384): all 16 GB after power-on, or the next segment that Night Watch did not keep. -/
def execDramZeroFillDone (h : Half) (segment : Option (Fin 8)) (s : State) : Res :=
  let hs := s.hs h
  match segment with
  | none =>
    if hs.dram.zeroDone || !hs.dram.trained then .next s
    else
      let s := (s.setDram h []).setHs h { hs with dram := { hs.dram with zeroDone := true, unfilled := [] } }
      let s := (s.putDmc h F.DMC_STATUS_FILLING 0).putDmc h F.DMC_STATUS_READY 1
      .next (s.halfGo h)
  | some g =>
    match hs.dram.unfilled with
    | [] => .next s
    | x :: r =>
      if x.1 ≠ g.val || !hs.dram.trained || s.flag (pgDmc h 0) F.DMC_STATUS_SR then .next s
      else
        let s := (s.segClear h g x.2).setHs h { hs with dram := { hs.dram with unfilled := r } }
        .next (if r.isEmpty then (s.putDmc h F.DMC_STATUS_FILLING 0).putDmc h F.DMC_STATUS_READY 1 else s)

/-- The slot table for the tier and the half states (R267). -/
def State.tableFor (s : State) : Nat :=
  2 * s.tier + (if s.inService .A && s.inService .B then 0 else 1)

/-- SLOT_TABLE_SWITCH (R267, R274): at a rotation boundary both DMCs take the table of the latest tier and half states. -/
def execSlotTableSwitch (h : Half) (s : State) : Res :=
  if !((s.hs h).dram.slots.isEmpty) then .next s else .next (s.putDmc h F.DMC_STATUS_TABLE s.tableFor)

/-- DMC_BE_WRITE (R268): DMC_BE0 or DMC_BE1 of DMC0; only requesters 16 and 17 exist in DMC_BE1. -/
def execDmcBeWrite (rq : Requester) (n : Fin 2) (value : Word) (s : State) : Res :=
  hostWrite rq (pgDmc rq.half 0) s fun s =>
    if n.val = 1 && 16 ≤ value.toNat then .next (s.unpredictable (pgDmc rq.half 0) 0x14)
    else .next (s.setReg (pgDmc rq.half 0) (0x10 + 4 * n) value)

/-! ## Check-value units (R270 to R274) -/

/-- The RW fields of CVU_CTRL take a written value. -/
def State.cvuCtrl (s : State) (h : Half) (n : Nat) (v : Nat) : State :=
  s.setReg (pgCvu h n) 0 (BitVec.ofNat 32 (v % 256 / 8 * 8))

/-- CVU_START (R270, R273): a pass starts from RUN and SEQ0; LEN = 0 or a reserved bit makes the result unpredictable, confined to the unit. START
while a scan runs starts none (log entry 88). -/
def execCvuStart (rq : Requester) (cvu : Fin 4) (ctrl : Word) (s : State) : Res :=
  let h := rq.half
  let p := pgCvu h cvu
  hostWrite rq p s fun s =>
    if 256 ≤ ctrl.toNat ∨ ctrl.getLsbD 2 = true then .next (s.unpredictable p 0)
    else
      let s := s.cvuCtrl h cvu ctrl.toNat
      if s.flag p F.CVU_STATUS_BUSY then .next s
      else if s.get p F.CVU_LEN_VALUE = 0 then .next (s.unpredictable p 0)
      else
        let run := s.get p F.CVU_RUN_VALUE
        let s := s.setScan h cvu { run0 := run, seq := s.get p F.CVU_SEQ0_VALUE, crc := run, blk := 0, stop := ctrl.getLsbD 1 }
        .next ((s.put p F.CVU_STATUS_BUSY 1).put p F.CVU_DONEBLK_VALUE 0)

/-- A scan is to stop after the block in progress. -/
def State.cvuHalt (s : State) (h : Half) (n : Nat) : State :=
  if s.flag (pgCvu h n) F.CVU_STATUS_BUSY then s.setScan h n { s.scan h n with stop := true } else s

/-- A scan of DRAM ends with its last block done (R274). -/
def State.cvuStop (s : State) (h : Half) (n : Nat) : State :=
  if s.flag (pgCvu h n) F.CVU_STATUS_BUSY && s.scanAddr h n < dramSize then (s.put (pgCvu h n) F.CVU_STATUS_BUSY 0).setScan h n {} else s

/-- CVU_STOP (R272). -/
def execCvuStop (rq : Requester) (cvu : Fin 4) (s : State) : Res :=
  hostWrite rq (pgCvu rq.half cvu) s fun s => .next (s.cvuHalt rq.half cvu)

/-- CVU_BLOCK (R270, R271): one block is read as one burst and folded; refused blocks fold as zeros. A block in DRAM takes the slot of its channel that is
due, where R266 grants that slot to this scan; a block in the scratchpad is read at port E, and a refused one takes neither. -/
def execCvuBlock (h : Half) (cvu : Fin 4) (s : State) : Res :=
  if !(s.scanGoes h cvu) then .next s
  else match s.scanReq h cvu with
    | none => .next (s.scanBlock h cvu)
    | some r =>
      let c := dramChan r.addr
      .next (if s.dramUp h c && s.grant h c 0 = .request r then (s.slotNext h c).slotGrant h r else s)

/-- CVU_PASS_END (R270, R272, R274): the result, its comparison, and the next pass of a repeating scan. -/
def execCvuPassEnd (h : Half) (cvu : Fin 4) (s : State) : Res :=
  let p := pgCvu h cvu
  let c := s.scan h cvu
  if !(s.flag p F.CVU_STATUS_BUSY) || c.blk < s.get p F.CVU_LEN_VALUE then .next s
  else
    let result := c.crc ^^^ 0xFFFFFFFF
    let s := s.put p F.CVU_RESULT_VALUE result
    let s := (s.put p F.CVU_STATUS_DONE 1).incMod p F.CVU_STATUS_PASSES
    let s := s.raise p
    let expect := s.get p F.CVU_EXPECT_VALUE
    let s := if s.flag p F.CVU_CTRL_CMP && result ≠ expect then
        let s := (s.put p F.CVU_STATUS_MIS 1).funcEvent p 0x04 ([0, 0, 0] ++ b4 result ++ b4 expect ++ b2 (s.get p F.CVU_STATUS_PASSES))
        s.whenB (s.flag p F.CVU_CTRL_ALERT) State.alert
      else s
    .next (if s.flag p F.CVU_CTRL_REPEAT && !c.stop then
        let s := s.setScan h cvu { c with crc := c.run0, seq := s.get p F.CVU_SEQ0_VALUE, blk := 0 }
        (s.put p F.CVU_RUN_VALUE c.run0).put p F.CVU_DONEBLK_VALUE 0
      else (s.put p F.CVU_STATUS_BUSY 0).setScan h cvu {})

end Sys2Proof.Machine
end

