-- ==== Sys2Proof/Machine/Peer.lean ====
section
/-! DEFINITION. The Peer Link and the domain (R338 to R360), with the lock states of the display ports as far as membership and time move them. -/

namespace Sys2Proof

/-- The FLAGS byte of a header (R339). -/
def PeerHdr.flags (h : PeerHdr) : Nat := (if h.ackReq then 1 else 0) + (if h.all then 2 else 0) + (if h.alarm then 4 else 0) + (if h.observer then 8 else 0)

end Sys2Proof

namespace Sys2Proof.Machine

/-! ## Frames (R338, R339) -/

/-- Bytes 0x00 to 0x1B of a header, over which HCRC is taken (R339). -/
def hdrBytes (ver typ flags hops origin dest seq epoch domain len : Nat) : List Byte :=
  b1 ver ++ b1 typ ++ b1 flags ++ b1 hops ++ b4 origin ++ b4 dest ++ b4 seq ++ b4 epoch ++ b4 domain ++ leBytes 2 len ++ [0, 0]

/-- The EtherType of Peer Link frames (R338). -/
def peerEtherType : BitVec 16 := 0x88B5

/-- Is a received frame undamaged: its HCRC holds (R339)? -/
def hcrcHolds (h : PeerHdr) : Bool :=
  crc32c (hdrBytes (16 * h.major + h.minor) h.typ h.flags h.hops h.origin h.dest h.seq.toNat h.epoch.toNat h.domainId.toNat h.len) = h.hcrc.toNat

/-- A received frame of a TYPE that its FCS, EtherType and HCRC let through (R338 to R340). -/
def frameIs (typ : Nat) (h : PeerHdr) : Bool := h.fcsOk && h.etherType = peerEtherType && hcrcHolds h && h.typ = typ

/-- A frame ready to leave: source address, LEN and HCRC (R338, R339). -/
def Frame.sealed (f : Frame) (node : Nat) : Frame :=
  { f with src := 0x020000000000 + node, len := f.payload.length,
           hcrc := crc32c (hdrBytes 0x10 f.typ f.flags f.hops f.origin f.dest f.seq f.epoch f.domain f.payload.length) }

/-! ## The domain section and the module's own identity (R342, R345, R348) -/

/-- A value of the domain section in force. -/
def State.dom (s : State) (off n : Nat) : Nat := s.secNat (s.slotOf .P) 0xC off n

/-- A field of the domain section with its range (R345); of any other content the result is open (R46, log entry 128). -/
def State.domIn (s : State) (off n lo hi : Nat) : Nat := inImage lo hi 0xC (s.dom off n)

def State.memberTmo (s : State) : Nat := s.domIn 8 2 (max 375 (3 * s.domIn 6 2 125 4000)) 65535
def State.alarmTmo (s : State) : Nat := s.domIn 0xA 2 4 1000
def State.migTmo (s : State) : Nat := s.domIn 0xC 2 20 10000

def State.plkNode (s : State) : Nat := s.get pgPlk F.PLK_NODE_NODE
def State.memb (s : State) : Nat := s.get pgPlk F.PLK_STATUS_MEMB
def mbOutside : Nat := 0
def mbListening : Nat := 1
def mbMember : Nat := 2
def mbObserver : Nat := 3

def State.isPublisher (s : State) (node : Nat) : Bool :=
  (upTo (min 1024 (s.domIn 0x12 2 0 1024))).any fun i => s.dom (0x500 + 4 * i) 4 = node

/-- PRIO of a node's CAND entry. -/
def State.candPrio (s : State) (node : Nat) : Option Nat :=
  ((upTo (min 64 (s.domIn 0xF 1 0 64))).find? fun c => s.dom (0x100 + 16 * c) 4 = node).map fun c => s.domIn (0x104 + 16 * c) 1 0 254

/-- The module's rank (R348); an Observer announces priority1 255. -/
def State.ownRank (s : State) : GmIdentity :=
  ⟨if s.memb = mbObserver then 255 else (s.candPrio s.plkNode).getD 255, 248, 0xFE, 0xFFFF, 128, Config.moduleId⟩

def gmList (g : GmIdentity) : List Nat := [g.priority1, g.clockClass, g.clockAccuracy, g.variance, g.priority2, g.clockId]

/-- Does the first list come before the second? -/
def listLt : List Nat → List Nat → Bool
  | a :: r, b :: t => a < b || (a = b && listLt r t)
  | _, _ => false

def rankLt (a b : GmIdentity) : Bool := listLt (gmList a) (gmList b)

/-- The lowest rank announced to the module: of the two ports' grandmasters, one of priority1 255 is none. -/
def State.gmSeen (s : State) : Option GmIdentity :=
  (s.peer.gms.filter fun e => e.2.priority1 < 255).foldl
    (fun best e => match best with
      | none => some e.2
      | some b => if rankLt e.2 b then some e.2 else some b) none

/-- Is the module the grandmaster: none other is announced, or its own rank is not above the announced one? -/
def State.isGm (s : State) : Bool :=
  match s.gmSeen with
  | none => true
  | some g => !(rankLt g s.ownRank)

/-- The module's DOMAIN_DIGEST, from the manifest in force on the Plinth. -/
def State.domDigest (s : State) : List Byte := s.mramBytes (slotBase (s.slotOf .P) + 0x28) 48

/-! ## Lock states of the display ports (R351, R353) -/

/-- The group that PORTMAP names for a port (R345). -/
def State.lockGroup (s : State) (p : Nat) : Option Nat :=
  let g := s.dom (0xC0 + 8 * p) 1
  if g = 0xFF then none else some (inImage 0 7 0xC g)

/-- Does a port take part in frame lock (R351)? -/
def State.lockHolds (s : State) (p : Nat) : Bool :=
  s.get pgPlk F.PLK_STATUS_MEMB = 2 && s.get pgPlk F.PLK_STATUS_TIME = 2 &&
  (s.lockGroup p).isSome && (s.port p).run && !(s.locked p && p % 2 = 1)

/-- The trim of Holdover: floor(-R + 0.5) with R in ppb (R353). -/
def State.holdTrim (s : State) : Int := max (-500) (min 500 ((-s.peer.rate + 500) / 1000))

/-- A port in Pulling or Locked goes to Holdover, with the trim of that moment, once R351 ceases to hold; one of a module that is no Member, or
whose generator stopped, is Off (R112, R353, R358). -/
def State.lockRefresh (s : State) (p : Nat) : State :=
  let f := F.PLK_LOCK_STATE.at (4 * p)
  let st := s.get pgPlk f
  if s.get pgPlk F.PLK_STATUS_MEMB ≠ 2 || !((s.port p).run) then s.put pgPlk f 0
  else if (st = 1 || st = 2) && !(s.lockHolds p) then (s.put pgPlk f 3).setPort p { s.port p with holdTrim := s.holdTrim } else s

def State.lockRefreshAll (s : State) : State := s.each (upTo 8) fun p s => s.lockRefresh p

/-! ## Ports and error counters (R356 to R358) -/

def pkDown : Nat := 0
def pkUp : Nat := 1
def pkWarning : Nat := 2
def pkQuarantine : Nat := 3
def pkStopped : Nat := 4

def State.plkState (s : State) (p : Nat) : Nat := s.get pgPlk (F.PLK_PORT_STATE.at (4 * p))
def State.setPlkState (s : State) (p v : Nat) : State := s.put pgPlk (F.PLK_PORT_STATE.at (4 * p)) v

/-- Does a port send and receive: Up or Warning, with domain PLK On? -/
def State.plkUp (s : State) (p : Nat) : Bool := (s.plkState p = pkUp || s.plkState p = pkWarning) && s.pdomain 21 = 2

def State.plkTec (s : State) (p : Nat) : Nat := s.get pgPlk (F.PLK_PORT_TEC.at (4 * p))
def State.plkRec (s : State) (p : Nat) : Nat := s.get pgPlk (F.PLK_PORT_REC.at (4 * p))

/-- A PEER event (R419): 0 Warning, 1 Quarantine, 2 alarm held. -/
def State.peerEvent (s : State) (p kind : Nat) : State := s.event (srcOf pgPlk) 0x0080 (b1 p ++ b1 kind ++ b1 (s.plkTec p) ++ b1 (s.plkRec p))

/-- A frame leaves on a port; a port that does not run sends none (R357, R360). -/
def State.plkEmit (s : State) (p : Nat) (f : Frame) : State :=
  if s.plkUp p then { s with peer := { s.peer with sent := s.peer.sent ++ [{ f.sealed s.plkNode with port := p }] } } else s

/-- A frame of the domain leaves on a port; an Outside module sends none (R346). -/
def State.peerEmit (s : State) (p : Nat) (f : Frame) : State := if s.memb ≠ mbOutside then s.plkEmit p f else s

def Frame.isAlarm (f : Frame) : Bool := f.typ = 3

/-- Every alarm that waits for port p goes to the other port at once, or is held where that cannot send (R357). -/
def State.moveAlarms (s : State) (p : Nat) : State :=
  let o := 1 - p
  let hit (w : TxWait) : Bool := Frame.isAlarm w.frame && w.ports.contains p && !(w.acked.contains p)
  let ws := s.peer.waits
  if !(ws.any hit) then s
  else if s.plkUp o then
    let moved := ws.map fun (w : TxWait) => if hit w then { w with ports := (w.ports.filter fun x => x ≠ p && x ≠ o) ++ [o] } else w
    let s := { s with peer := { s.peer with waits := moved.filter fun (w : TxWait) => !(w.ports.all fun x => w.acked.contains x) } }
    s.each (ws.filter hit) fun w s => if w.acked.contains o then s else s.peerEmit o w.frame
  else
    let held := ws.map fun (w : TxWait) => if hit w then { w with held := true } else w
    let s := { s with peer := { s.peer with waits := held } }
    s.alert.peerEvent p 2

/-- A port that stops or loses its link has no neighbour (R342). -/
def State.neighbourGone (s : State) (p : Nat) : State := if s.plkState p = pkQuarantine then s else s.discSet pgPlk p 0

/-- The time state goes to Free where no grandmaster is known: none is announced, and the module is none itself (R350, log entry 148). -/
def State.timeFree (s : State) : State :=
  if s.gmSeen.isSome || (s.memb ≠ mbOutside && s.ownRank.priority1 < 255) then s
  else
    let s := { s with peer := { s.peer with syncGood := 0, syncs := [] } }
    (s.put pgPlk F.PLK_STATUS_TIME 0).lockRefreshAll

/-- The grandmaster announced on a port is known no more once the port runs no more. -/
def State.gmGone (s : State) (p : Nat) : State :=
  if s.plkUp p || (tblFind p s.peer.gms).isNone then s
  else ({ s with peer := { s.peer with gms := s.peer.gms.filter fun e => e.1 ≠ p } }).timeFree

/-- Warning and Quarantine follow the counters (R356). -/
def State.plkCheck (s : State) (p : Nat) : State :=
  let st := s.plkState p
  let hi := 128 ≤ s.plkTec p || 128 ≤ s.plkRec p
  if st = pkQuarantine then s
  else if s.plkTec p = 255 || s.plkRec p = 255 then
    let s := (s.setPlkState p pkQuarantine).peerEvent p 1
    ((s.alert.discSet pgPlk p 4).moveAlarms p).gmGone p
  else if st = pkUp && hi then ((s.setPlkState p pkWarning).peerEvent p 0).raise pgPlk
  else if st = pkWarning && !hi then s.setPlkState p pkUp
  else s

/-- An error raises REC, unless CLEARQ of the same cycle wins (R356, R359). -/
def State.recUp (s : State) (p : Nat) : State :=
  let (won, s) := s.sameCycle (tblFind p s.peer.cleared)
  if won then s else (s.put pgPlk (F.PLK_PORT_REC.at (4 * p)) (min 255 (s.plkRec p + 8))).plkCheck p

def State.recDown (s : State) (p : Nat) : State := (s.put pgPlk (F.PLK_PORT_REC.at (4 * p)) (s.plkRec p - 1)).plkCheck p

/-- An error raises TEC, unless CLEARQ of the same cycle wins. -/
def State.tecUp (s : State) (p : Nat) : State :=
  let (won, s) := s.sameCycle (tblFind p s.peer.cleared)
  if won then s else (s.put pgPlk (F.PLK_PORT_TEC.at (4 * p)) (min 255 (s.plkTec p + 8))).plkCheck p

def State.tecDown (s : State) (p : Nat) : State := (s.put pgPlk (F.PLK_PORT_TEC.at (4 * p)) (s.plkTec p - 1)).plkCheck p

/-- A port becomes Up: held alarms are sent on it with a fresh timeout (R357). -/
def State.plkRise (s : State) (p : Nat) : State :=
  let s := (s.setPlkState p pkUp).plkCheck p
  let s := s.whenB (s.disc pgPlk p = 0) fun s => s.discSet pgPlk p 1
  if !(s.plkUp p) then s
  else
    let ws := s.peer.waits
    let sent := ws.map fun (w : TxWait) => if w.held then { w with held := false, ports := [p], acked := [], started := s.time } else w
    let s := { s with peer := { s.peer with waits := sent } }
    s.each (ws.filter fun w => w.held) fun w s => s.peerEmit p w.frame

/-- The PCS of a port holds block lock, or loses it. -/
def State.plkLink (s : State) (p : Nat) (up : Bool) : State :=
  let rest := s.peer.linkUp.filter fun x => x ≠ p
  ({ s with peer := { s.peer with linkUp := if up then p :: rest else rest } }).put pgPlk (F.PLK_PORT_LINK.at (4 * p)) (if up then 1 else 0)

/-- A port loses its link: one that was Up is Down (R342). -/
def State.plkFall (s : State) (p : Nat) : State :=
  let s := s.plkLink p false
  let s := s.whenB (s.plkState p = pkUp || s.plkState p = pkWarning) fun s => s.setPlkState p pkDown
  (s.neighbourGone p).gmGone p

/-- Does T4 or Night Watch stop a port: the one that PLK_CFG.T4PORT does not name (R358)? -/
def State.peerHalt (s : State) (p : Nat) : Bool :=
  (s.tier = 4 || (s.mode = mNight && s.nightEntered.isSome)) && s.get pgPlk F.PLK_CFG_T4PORT ≠ p

/-- The ports as the tier, the mode and T4PORT have them: a port that stops keeps its counters and moves its alarms; one that returns is Down until
its link is up (R357, R358). A port in Quarantine stays there (R356). -/
def State.peerSettle (s : State) : State :=
  s.each [0, 1] fun p s =>
    if s.plkState p = pkQuarantine then s
    else if s.peerHalt p then
      if s.plkState p = pkStopped then s
      else ((((s.plkLink p false).setPlkState p pkStopped).neighbourGone p).moveAlarms p).gmGone p
    else if s.plkState p = pkStopped then s.setPlkState p pkDown else s

/-! ## Sequence numbers (R344) -/

def State.seqBase (s : State) : Nat := s.mramNat (storeBase + 0x20) 8

/-- The base rises by 2^20 and is stored. -/
def State.seqRaise (s : State) : State := s.setMram (storeBase + 0x20) (leBytes 8 (s.seqBase + 2 ^ 20))

/-- At each start the base is raised before the first frame. -/
def State.seqStart (s : State) : State :=
  let s := s.seqRaise
  { s with peer := { s.peer with seqNext := s.seqBase } }

/-- The next SEQ. -/
def State.takeSeq (s : State) : Nat × State :=
  let s := s.whenB (s.seqBase + 2 ^ 20 ≤ s.peer.seqNext) State.seqRaise
  (s.peer.seqNext % 2 ^ 32, { s with peer := { s.peer with seqNext := s.peer.seqNext + 1 } })

/-! ## Sending (R339 to R341, R354) -/

/-- A frame of the module's own, with its SEQ taken. -/
def State.ownFrame (s : State) (typ flags dest : Nat) (payload : List Byte) : Frame × State :=
  let (seq, s) := s.takeSeq
  ({ typ := typ, flags := flags + (if s.memb = mbObserver then 8 else 0), hops := s.domIn 0xE 1 1 31, origin := s.plkNode, dest := dest,
     seq := seq, epoch := s.get pgPlk F.PLK_EPOCH_VALUE, domain := s.dom 0 4, payload := payload }, s)

/-- The ports for a destination: both for ALL, else the one where its last frame arrived, else both (R341). -/
def State.portsFor (s : State) (all : Bool) (dest : Nat) : List Nat :=
  if all then [0, 1] else match tblFind dest s.peer.lastPort with
    | some p => [p]
    | none => [0, 1]

def State.addWait (s : State) (w : TxWait) : State := { s with peer := { s.peer with waits := s.peer.waits ++ [w] } }

/-- A frame that needs acknowledgement goes out on ports and waits (R354). An alarm none of whose ports runs goes to the other port or is
held (R357). -/
def State.sendAcked (s : State) (f : Frame) (ports : List Nat) (limit : Nat) (slot : Option Nat) : State :=
  let live := ports.filter s.plkUp
  let ps := if live.isEmpty && Frame.isAlarm f then (upTo 2).filter s.plkUp else live
  let w : TxWait := { frame := f, ports := if ps.isEmpty then ports else ps, acked := [], started := s.time, limit := limit, slot := slot,
                      held := ps.isEmpty && Frame.isAlarm f }
  (s.addWait w).each ps fun p s => s.peerEmit p f

/-- The sender's list of frames starts anew with each command that can send. -/
def State.txNew (s : State) : State := { s with peer := { s.peer with sent := [] } }

/-! ## Membership and authority (R346 to R348) -/

def State.setMemb (s : State) (v : Nat) : State :=
  if s.memb = v then s else (s.put pgPlk F.PLK_STATUS_MEMB v).lockRefreshAll

/-- The module goes Outside with a cause. It takes no part in the choice of a grandmaster any more (R346, log entry 112). -/
def State.goOutside (s : State) (cause : Nat) : State :=
  let s := s.put pgPlk F.PLK_STATUS_CAUSE cause
  let s := (s.put pgPlk F.PLK_STATUS_AUTH 0).setMemb mbOutside
  ({ s with peer := { s.peer with gms := [] } }).timeFree

/-- Is LOCK a current before LOCK b? -/
def lockBefore (a b : LockSeen) : Bool := b.epoch < a.epoch || (a.epoch = b.epoch && rankLt a.gm b.gm)

/-- The current LOCK (R347). -/
def State.curLock (s : State) : Option LockSeen :=
  (s.peer.locks.filter fun l => s.time ≤ l.seenAt + 1000 * s.memberTmo).foldl
    (fun best l => match best with
      | none => some l
      | some b => if lockBefore l b then some l else some b) none

/-- A module that is not Outside moves by the current LOCK (R347); the authority stays a Member. -/
def State.membRefresh (s : State) : State :=
  if s.memb = mbOutside || s.flag pgPlk F.PLK_STATUS_AUTH then s
  else match s.curLock with
    | none => s.setMemb mbListening
    | some l => (s.put pgPlk F.PLK_EPOCH_VALUE l.epoch).setMemb (if l.own then mbMember else mbObserver)

/-- The authority sends LOCK on every port. -/
def State.sendLock (s : State) : State :=
  let (f, s) := s.ownFrame 2 2 0 (s.domDigest ++ leBytes 8 Config.moduleId)
  (s.peerEmit 0 f).peerEmit 1 f

/-- A candidate that is grandmaster and has no current LOCK becomes the authority (R348). -/
def State.tryAuthority (s : State) (expired : Bool) : State :=
  if (s.memb = mbListening || s.memb = mbMember) && !(s.flag pgPlk F.PLK_STATUS_AUTH) && (s.candPrio s.plkNode).isSome && s.isGm &&
     s.curLock.isNone && (expired || s.peer.noLockSince + 1000 * s.memberTmo ≤ s.time) then
    let e := (s.peer.maxEpoch + 1) % 2 ^ 32
    let s := { s with peer := { s.peer with maxEpoch := e, bump := none } }
    let s := s.put pgPlk F.PLK_STATUS_AUTH 1
    let s := s.put pgPlk F.PLK_EPOCH_VALUE e
    (s.setMemb mbMember).sendLock
  else s

/-- A module that is no longer grandmaster stops being the authority (R348). -/
def State.dropAuthority (s : State) : State :=
  if s.flag pgPlk F.PLK_STATUS_AUTH && !s.isGm then (s.put pgPlk F.PLK_STATUS_AUTH 0).membRefresh else s

/-! ## Receiving (R339, R341, R349, R356) -/

/-- Any received frame changes REC (R356): whether it is good; none is received on a port that does not run. -/
def State.frameSeen (s : State) (p : Nat) (good : Bool) : Bool × State :=
  if !(s.plkUp p) then (false, s) else if good then (true, s.recDown p) else (false, s.recUp p)

/-- A received frame: whether it is a good one of this TYPE. One of another EtherType is dropped uncounted (R338, log entry 147), one of a reserved
TYPE is dropped (R340). -/
def State.peerGood (s : State) (p typ : Nat) (h : PeerHdr) : Bool × State :=
  if h.fcsOk && h.etherType ≠ peerEtherType then (false, s)
  else
    let (ok, s) := s.frameSeen p (h.fcsOk && hcrcHolds h)
    (ok && h.typ = typ, s)

/-- Does the frame belong to the module's domain? -/
def State.peerOurs (s : State) (h : PeerHdr) : Bool := h.major = 1 && h.domainId.toNat = s.dom 0 4

/-- The port of a frame's origin is noted, and the EPOCH that it carries (R341, R348). -/
def State.peerNote (s : State) (p : Nat) (h : PeerHdr) : State :=
  { s with peer := { s.peer with lastPort := tblInsert h.origin p s.peer.lastPort, maxEpoch := max s.peer.maxEpoch h.epoch.toNat } }

/-- A frame that is not dropped: good, of the domain, while the module is not Outside. -/
def State.peerRx (s : State) (p typ : Nat) (h : PeerHdr) : Bool × State :=
  let ours := s.peerOurs h
  let (ok, s) := s.peerGood p typ h
  if !ok || !ours || s.memb = mbOutside then (false, s) else (true, s.peerNote p h)

def seqDiff (a b : Nat) : Nat := (a + 2 ^ 32 - b) % 2 ^ 32

/-- The duplicate window of an origin (R349): the window after the frame, or none for a duplicate. -/
def windowTake (w : Option (Nat × List Nat)) (seq : Nat) : Option (Nat × List Nat) :=
  match w with
  | none => some (seq, [seq])
  | some (top, marks) =>
    let d := seqDiff seq top
    if 1 ≤ d && d < 2 ^ 31 then some (seq, seq :: marks.filter fun m => seqDiff seq m ≤ 63)
    else if seqDiff top seq ≤ 63 && !(marks.contains seq) then some (top, seq :: marks)
    else none

/-- The frame is acknowledged where it asks for it (R349, R354). -/
def State.ackBack (s : State) (p : Nat) (h : PeerHdr) : State :=
  if !h.ackReq then s
  else
    let (f, s) := s.ownFrame 8 0 h.origin (b4 h.origin ++ b4 h.seq.toNat)
    s.peerEmit p f

/-- A LOCK, ALARM, MIGRATE or MIG_DONE frame: dropped unless its origin is a publisher and it is no duplicate; what is accepted is
acknowledged, and a duplicate again. -/
def State.peerAccept (s : State) (p typ : Nat) (h : PeerHdr) : Bool × State :=
  let publisher := s.isPublisher h.origin
  let (ok, s) := s.peerRx p typ h
  if !ok || !publisher then (false, s)
  else match windowTake (tblFind h.origin s.peer.windows) h.seq.toNat with
    | none => (false, s.ackBack p h)
    | some w => (true, ({ s with peer := { s.peer with windows := tblInsert h.origin w s.peer.windows } }).ackBack p h)

/-- Is the frame for this module? -/
def State.forMe (s : State) (h : PeerHdr) : Bool := h.all || h.dest = s.plkNode

/-- An accepted frame is forwarded to the other port (R341); one that needs acknowledgement waits MEMBER_TMO for it. -/
def State.relay (s : State) (p : Nat) (h : PeerHdr) (typ : Nat) (payload : List Byte) : State :=
  if s.domIn 5 1 0 1 % 2 = 0 || (h.dest = s.plkNode && !h.all) || h.hops = 0 || h.origin = s.plkNode then s
  else
    let f : Frame := { typ := typ, flags := h.flags, hops := h.hops - 1, origin := h.origin, dest := h.dest, seq := h.seq.toNat, epoch := h.epoch.toNat,
                       domain := h.domainId.toNat, payload := payload }
    if !(s.plkUp (1 - p)) then s
    else if h.ackReq then s.sendAcked f [1 - p] s.memberTmo none
    else s.peerEmit (1 - p) f

/-- PEER_ANNOUNCE (R342, R343): the neighbour is recorded; a duplicate node address sends the module of higher module ID Outside. -/
def execPeerAnnounce (p : Fin 2) (hdr : PeerHdr) (moduleId : Nat) (digest : List Byte) (memb : Fin 4) (prio1 : Nat) (s : State) : Res :=
  let _ := digest
  let _ := prio1
  let ours := s.peerOurs hdr
  let (ok, s) := s.txNew.peerGood p 1 hdr
  if !ok then .next s
  else
    let s := s.discId pgPlk p (BitVec.ofNat 32 (hdr.origin % 2 ^ 18 + memb.val * 2 ^ 24)) (BitVec.ofNat 32 moduleId)
    let s := s.discSet pgPlk p (if ours then 2 else 3)
    if !ours || s.memb = mbOutside then .next s
    else
      let s := s.peerNote p hdr
      .next (if hdr.origin = s.plkNode && moduleId < Config.moduleId then s.goOutside 3 else s)

/-- PEER_LOCK (R341, R347, R348): a delivered LOCK joins those seen, in place of those of its origin with no higher EPOCH; an authority answers a
rival's EPOCH, and membership follows. -/
def execPeerLock (p : Fin 2) (hdr : PeerHdr) (digest : List Byte) (gm : GmIdentity) (s : State) : Res :=
  let (ok, s) := s.txNew.peerAccept p 2 hdr
  if !ok then .next s
  else
    let s := s.relay p hdr 2 (digest ++ leBytes 8 gm.clockId)
    if !(s.forMe hdr) then .next s else
    let e := hdr.epoch.toNat
    let l : LockSeen := { origin := hdr.origin, epoch := e, own := digest = s.domDigest, gm := gm, seenAt := s.time }
    let rival := s.flag pgPlk F.PLK_STATUS_AUTH && hdr.origin ≠ s.plkNode && s.get pgPlk F.PLK_EPOCH_VALUE ≤ e
    let s := { s with peer := { s.peer with
      locks := (s.peer.locks.filter fun (x : LockSeen) => (x.origin ≠ hdr.origin || e < x.epoch) && s.time ≤ x.seenAt + 1000 * s.memberTmo) ++ [l],
      bump := if rival then some (max e (s.peer.bump.getD 0)) else s.peer.bump } }
    .next s.membRefresh

/-- The entries of a delivered alarm (R355). -/
def alarmEntries (h : PeerHdr) (payload : List Byte) (lost : Bool) : List (BitVec 64) :=
  BitVec.ofNat 64 (2 ^ 63 + (if lost then 2 ^ 62 else 0) + h.origin % 2 ^ 18 * 2 ^ 42 + h.seq.toNat) ::
    (upTo 4).map fun e => BitVec.ofNat 64 (leNat (((payload ++ List.replicate 24 0).drop (6 * e)).take 6))

/-- A delivered alarm goes to one half's queue unit, as a whole or not at all. -/
def State.alarmPush (s : State) (h : Half) (hdr : PeerHdr) (payload : List Byte) : State :=
  let q := s.get pgPlk (match h with | .A => F.PLK_CFG_QA | .B => F.PLK_CFG_QB)
  if q = 0xFF || !(s.inService h) then s
  else
    let lost := s.peer.lost.contains (h, q)
    let sent := 6 ≤ s.quFree h q
    let s := if sent then s.quPacket h q (alarmEntries hdr payload lost) else s.quDrop h q
    let rest := s.peer.lost.filter fun x => x ≠ (h, q)
    { s with peer := { s.peer with lost := if sent then rest else (h, q) :: rest } }

/-- An ALARM is received (R355): whether it was delivered, and the state. -/
def State.alarmRx (s : State) (p : Nat) (hdr : PeerHdr) (payload : List Byte) : Bool × State :=
  let (ok, s) := s.txNew.peerAccept p 3 hdr
  if !ok then (false, s)
  else
    let s := s.relay p hdr 3 payload
    if s.forMe hdr then (true, (s.alarmPush .A hdr payload).alarmPush .B hdr payload) else (false, s)

/-- The whole transfer is answered (R355), by a Member that is a publisher (R349). -/
def State.migAnswer (s : State) (origin xfer status : Nat) : State :=
  if s.memb ≠ mbMember || !(s.isPublisher s.plkNode) then s
  else
    let (f, s) := s.ownFrame 5 1 origin (b4 xfer ++ b1 status)
    s.sendAcked f (s.portsFor false origin) s.migTmo none

/-- A fragment's kilobyte goes into the receive window (R355). -/
def State.migStore (s : State) (key : Nat × Nat) (frag : Nat) (got : List Nat) (data : List Byte) : State :=
  { s with peer := { s.peer with
      rxFrom := some key, rxFrags := got, rxWin := memSetBytes s.peer.rxWin (1024 * frag) ((data ++ List.replicate 1024 0).take 1024) } }

/-- A fragment for this module: written to the receive window, or, of a transfer that met a full window, noted until all have arrived and it is
refused. The twentieth completes the transfer (R355). -/
def State.migTake (s : State) (origin xfer frag : Nat) (data : List Byte) : State :=
  let key := (origin, xfer)
  let old := (s.peer.rxRefused.find? fun e => e.1 = key).map (·.2)
  if s.flag pgPlk F.PLK_STATUS_RX_FULL || old.isSome then
    let fr := frag :: (old.getD []).filter fun x => x ≠ frag
    let rest := s.peer.rxRefused.filter fun e => e.1 ≠ key
    if fr.length = 20 then ({ s with peer := { s.peer with rxRefused := rest } }).migAnswer origin xfer 1
    else { s with peer := { s.peer with rxRefused := rest ++ [(key, fr)] } }
  else
    let fr := frag :: (if s.peer.rxFrom = some key then s.peer.rxFrags else []).filter fun x => x ≠ frag
    let s := s.migStore key frag fr data
    if fr.length = 20 then
      let s := s.put pgPlk F.PLK_STATUS_RX_FULL 1
      let s := s.put pgPlk F.PLK_RXSRC_NODE origin
      let s := { s with peer := { s.peer with rxFrom := none, rxFrags := [] } }
      (s.raise pgPlk).migAnswer origin xfer 0
    else s

/-- PEER_MIGRATE (R355). -/
def execPeerMigrate (p : Fin 2) (hdr : PeerHdr) (xfer : Word) (frag : Nat) (data : List Byte) (s : State) : Res :=
  let (ok, s) := s.txNew.peerAccept p 4 hdr
  if !ok then .next s
  else
    let s := s.relay p hdr 4 (b4 xfer.toNat ++ b1 frag ++ [0, 0, 0] ++ data)
    .next (if !(s.forMe hdr) || 20 ≤ frag then s else s.migTake hdr.origin xfer.toNat frag data)

/-- A SEND ends with a RESULT (PLK_STATUS). -/
def State.sendEnd (s : State) (result : Nat) : State :=
  let s := s.put pgPlk F.PLK_STATUS_DONE 1
  (s.put pgPlk F.PLK_STATUS_RESULT result).raise pgPlk

/-- The MIGRATE transfer ends; its fragments wait no more. -/
def State.migEnd (s : State) (result : Nat) : State :=
  let me := s.plkNode
  let s := { s with peer := { s.peer with waits := s.peer.waits.filter fun w => !(w.frame.typ = 4 && w.frame.origin = me) } }
  (s.put pgPlk F.PLK_STATUS_BUSY 0).sendEnd result

/-- PEER_MIG_DONE (R354): the answer to the running transfer, before MIG_TMO. -/
def execPeerMigDone (p : Fin 2) (hdr : PeerHdr) (xfer : Word) (status : Nat) (s : State) : Res :=
  let inTime := s.time < s.peer.migAt + 1000 * s.migTmo
  let (ok, s) := s.txNew.peerAccept p 5 hdr
  if !ok then .next s
  else
    let s := s.relay p hdr 5 (b4 xfer.toNat ++ b1 status)
    if s.forMe hdr && s.flag pgPlk F.PLK_STATUS_BUSY && xfer.toNat = s.peer.xfer && inTime then
      .next (s.migEnd (if status = 0 then 0 else 5))
    else .next s

/-- PEER_IMAGE_REQ (R340): a Member answers from the slot in force on its Plinth where the manifest digest is the one requested; nothing beyond the
slot is answered. -/
def execPeerImageReq (p : Fin 2) (hdr : PeerHdr) (digest : List Byte) (blockOffset : Nat) (s : State) : Res :=
  let asked := digest = s.manifestHash (s.slotOf .P)
  let (ok, s) := s.txNew.peerRx p 6 hdr
  if !ok || s.memb ≠ mbMember || !asked || slotSize < blockOffset + 1024 then .next s
  else
    let (f, s) := s.ownFrame 7 0 hdr.origin (b4 blockOffset ++ s.mramBytes (slotBase (s.slotOf .P) + blockOffset) 1024)
    .next (s.peerEmit p f)

/-- An alarm slot ends Done or Failed (R354). -/
def State.alarmEnd (s : State) (slot : Nat) (ok : Bool) : State :=
  let s := s.putBit pgPlk F.PLK_ALQ_PEND slot false
  s.putBit pgPlk (if ok then F.PLK_ALQ_DONE else F.PLK_ALQ_FAIL) slot true

def waitIs (origin seq : Nat) (w : TxWait) : Bool := w.frame.origin = origin && w.frame.seq = seq

/-- Is the upper timeout of a frame over? A held alarm's is suspended (R354, R357). -/
def TxWait.expired (w : TxWait) (now : Nat) : Bool := !w.held && w.started + 1000 * w.limit ≤ now

/-- Does a frame wait for the acknowledgement of a port? -/
def TxWait.wants (w : TxWait) (origin seq p : Nat) : Bool := waitIs origin seq w && w.ports.contains p && !(w.acked.contains p)

/-- PEER_ACK (R354, R356, R359): a late ACK, and one that meets the expiry, is discarded. The first acknowledgement makes an alarm Done; a frame that
every port acknowledged waits no more (log entry 111). -/
def execPeerAck (p : Fin 2) (hdr : PeerHdr) (origin : Nat) (seq : Word) (s : State) : Res :=
  let (ok, s) := s.txNew.peerRx p 8 hdr
  if !ok then .next s
  else match s.peer.waits.find? fun w => w.wants origin seq.toNat p && !(w.expired s.time) with
    | none => .next s
    | some w =>
      let s := s.tecDown p
      let w' := { w with acked := p.val :: w.acked, slot := none }
      let all := w'.ports.all fun x => w'.acked.contains x
      let ws := s.peer.waits
      let s := { s with peer := { s.peer with
        waits := if all then ws.filter fun x => !(waitIs origin seq.toNat x) else ws.map fun x => if waitIs origin seq.toNat x then w' else x } }
      .next (match w.slot with
        | some k => s.alarmEnd k true
        | none => s)

/-- ANNOUNCE_TIMER (R340): every module that is not Outside announces itself on each Up port. -/
def execAnnounceTimer (s : State) : Res :=
  let s := s.txNew
  if s.memb = mbOutside then .next s
  else
    let (f, s) := s.ownFrame 1 0 0 (leBytes 8 Config.moduleId ++ s.domDigest ++ b1 s.memb ++ b1 (s.get pgPlk F.PLK_STATUS_TIME) ++ b1 s.ownRank.priority1)
    .next ((s.peerEmit 0 f).peerEmit 1 f)

/-- LOCK_TIMER (R340, R348): every 125 ms the authority sends LOCK, with a higher EPOCH after a rival's. -/
def execLockTimer (s : State) : Res :=
  let s := s.txNew.dropAuthority
  if !(s.flag pgPlk F.PLK_STATUS_AUTH) then .next s
  else
    .next (match s.peer.bump with
      | none => s.sendLock
      | some r =>
        let e := (r + 1) % 2 ^ 32
        (({ s with peer := { s.peer with maxEpoch := max s.peer.maxEpoch e, bump := none } }).put pgPlk F.PLK_EPOCH_VALUE e).sendLock)

/-- PEER_RETRY (R354, R356): an attempt was not acknowledged within 0.5 ms; the frame goes out again unless the attempts are over. A port that does not
run makes none (R357, R358). -/
def execPeerRetry (p : Fin 2) (origin : Nat) (seq : Word) (s : State) : Res :=
  let s := s.txNew
  match s.peer.waits.find? fun w => w.wants origin seq.toNat p && !w.held && s.plkUp p with
  | none => .next s
  | some w =>
    let s := s.tecUp p
    .next (if s.time + 500 ≤ w.started + 500 * w.limit && s.plkUp p then s.peerEmit p w.frame else s)

/-- PEER_TIMEOUT (R354): the upper timeout of a frame; a held alarm's is suspended (R357). -/
def execPeerTimeout (origin : Nat) (seq : Word) (s : State) : Res :=
  let s := s.txNew
  if s.flag pgPlk F.PLK_STATUS_BUSY && origin = s.plkNode && seqDiff seq.toNat s.peer.migSeq < 20 then .next (s.migEnd 3)
  else match s.peer.waits.find? fun w => waitIs origin seq.toNat w with
    | none => .next s
    | some w =>
      if w.held then .next s
      else
        let s := { s with peer := { s.peer with waits := s.peer.waits.filter fun x => !(waitIs origin seq.toNat x) } }
        .next (match w.slot with
          | some k => s.alarmEnd k false
          | none => s)

/-- CURRENT_LOCK_EXPIRY (R347, R348): no current LOCK is left; a candidate that is grandmaster becomes the authority, any other Member or
Observer goes to Listening. -/
def execCurrentLockExpiry (s : State) : Res :=
  let s := s.txNew
  if s.memb = mbOutside then .next s
  else
    let s := { s with peer := { s.peer with locks := [] } }
    .next (((s.tryAuthority true).membRefresh).tryAuthority true)

/-- NEIGHBOUR_TIMEOUT (R342): no ANNOUNCE for MEMBER_TMO. -/
def execNeighbourTimeout (p : Fin 2) (s : State) : Res :=
  .next (if s.disc pgPlk p = 2 || s.disc pgPlk p = 3 then s.discSet pgPlk p 0 else s)

/-- The ports are off (R435): without power or their domain, in Maquette, and in Armature Load but for a Peer Link fetch (R386). -/
def State.plkDark (s : State) : Bool :=
  s.pdomain 21 ≠ 2 ||
  s.mode = mOff || s.mode = mDormant || s.mode = mHoldUp || s.mode = mMaquette ||
  (s.mode = mLoad && !(s.start.stage = .fetching && s.start.boot = 4))

/-- The most recent image's DOMAIN_ID: of a Valid slot, that in force first (R339, log entry 48). -/
def State.imageDomain (s : State) : Option Nat :=
  ([s.slotOf .P, 1 - s.slotOf .P].find? fun k => s.slotState k = ssValid && (s.section? k 0xC).isSome).map fun k => s.secNat k 0xC 0 4

/-- IMAGE_REQ on a port (R340, R386): the digest of RST_FETCH and the offset of the next block. -/
def State.imageReq (s : State) (p : Nat) : State :=
  let digest := (upTo 12).flatMap fun w => b4 (s.reg pgRst (0x40 + 4 * w)).toNat
  let (f, s) := s.ownFrame 6 0 0 (digest ++ b4 s.start.got)
  s.plkEmit p { f with domain := s.imageDomain.getD f.domain }

/-- Does the start fetch its image from a boot source? -/
def State.fetching (s : State) (boot : Nat) : Bool := s.start.stage = .fetching && s.start.boot = boot

/-- PEER_PORT_LINK (R342, R357): the link of a port comes up or goes; a port in Quarantine or Stopped keeps its state. A Peer Link fetch that no
neighbour has answered yet asks on a port that comes up (R386). -/
def execPeerPortLink (p : Fin 2) (up : Bool) (s : State) : Res :=
  let s := s.txNew
  if s.plkState p = pkStopped || s.plkDark then .next s
  else if s.plkState p = pkQuarantine then .next (s.plkLink p up)
  else if up then
    .next (if s.plkState p ≠ pkDown then s
      else
        let s := (s.plkLink p true).plkRise p
        s.whenB (s.fetching 4 && (s.start.cands.isEmpty || s.start.cands = [p.val])) fun s => s.imageReq p)
  else .next (s.plkFall p)

/-- A value clamped to a signed field of `w` bits, as the field holds it. -/
def toSigned (w : Nat) (v : Int) : Nat := (max (-(2 ^ (w - 1))) (min (2 ^ (w - 1) - 1) v) % 2 ^ w).toNat

/-- The servo slews domain time after a Sync in Locked by no more than 500 ppm of the time since the Sync before (R350); by how much is a free value
(log entry 110). -/
def State.slew (s : State) : State :=
  let (v, s) := s.takeFree
  let bound := (s.time - s.peer.syncAt) / 2
  { s with peer := { s.peer with offset := s.peer.offset + ((v % (2 * bound + 1) : Nat) : Int) - (bound : Int), syncAt := s.time } }

/-- The gPTP frames of the latest one received are sent (R338): on a port that runs. -/
def State.gptpEmit (s : State) (p : Nat) (m : GptpOut) : State :=
  if s.plkUp p then { s with peer := { s.peer with gptp := s.peer.gptp ++ [(p, m)] } } else s

/-- A gPTP frame is received (R346, R350, R356): it counts at its port, and whether a module that takes part in the domain takes it. -/
def State.gptpRx (s : State) (rx : GptpRx) : Bool × State :=
  let s := { s with peer := { s.peer with gptp := [] } }
  let (ok, s) := s.frameSeen rx.port rx.fcsOk
  (ok && s.memb ≠ mbOutside, s)

/-- With RELAY = 1 the module is a time-aware relay: a Sync or an Announce goes on to the other port (R338, log entry 150). -/
def State.gptpRelay (s : State) (rx : GptpRx) (m : GptpOut) : State := if s.domIn 5 1 0 1 = 1 then s.gptpEmit (1 - rx.port) m else s

/-- GPTP_SYNC (R350, R353, R359): the servo takes one measured offset; that of an Outside module does not run (R346, log entry 112). In Unlocked the
last rate stays, and 16 consecutive offsets within 1 us end it. -/
def execGptpSync (sync : GptpSync) (ratePpb : Int) (s : State) : Res :=
  let (ok, s) := s.gptpRx sync.rx
  if !ok then .next s
  else
    let s := s.gptpRelay sync.rx .sync
    let o := sync.offsetNs
    let st := s.get pgPlk F.PLK_STATUS_TIME
    let q := s.peer
    let s := s.put pgPlk F.PLK_TOFF_VALUE (toSigned 32 o)
    let s := { s with peer := { q with rate := if st = 3 || ((st = 1 || st = 2) && 50000 < o.natAbs) then q.rate else ratePpb } }
    let s := if st = 2 && o.natAbs ≤ 50000 then s.slew else { s with peer := { s.peer with syncAt := s.time } }
    let setT (v : Nat) (s : State) : State := (s.put pgPlk F.PLK_STATUS_TIME v).lockRefreshAll
    let stepped (s : State) : State := setT 1 { s with peer := { s.peer with offset := q.offset - o, syncGood := 0, syncs := [] } }
    if st = 0 then .next (stepped s)
    else if st = 3 then
      let l := (q.syncs ++ [o]).drop (q.syncs.length - 15)
      let agree := l.all fun a => l.all fun b => a - b ≤ 1000
      .next (if 16 ≤ l.length && agree then stepped s else { s with peer := { s.peer with syncs := l } })
    else if 50000 < o.natAbs then .next (setT 3 { s with peer := { s.peer with syncGood := 0, syncs := [] } })
    else if st = 1 then
      let n := if o.natAbs ≤ 500 then q.syncGood + 1 else 0
      let s := { s with peer := { s.peer with syncGood := n } }
      .next (if 16 ≤ n then setT 2 s else s)
    else .next s

/-- GPTP_ANNOUNCE (R348, R350): the best master clock algorithm sees the grandmaster announced on a port. -/
def execGptpAnnounce (ann : GptpAnnounce) (s : State) : Res :=
  let (ok, s) := s.txNew.gptpRx ann.rx
  if !ok then .next s
  else
    let s := s.gptpRelay ann.rx (.announce ann.gm)
    let s := { s with peer := { s.peer with gms := tblInsert ann.rx.port.val ann.gm s.peer.gms } }
    .next (s.timeFree.dropAuthority.tryAuthority false)

/-- GPTP_PDELAY_REQ (R338, R346, R356): answered in every membership state, but not in Quarantine. -/
def execGptpPdelayReq (rx : GptpRx) (s : State) : Res :=
  let (_, s) := s.gptpRx rx
  .next (if rx.fcsOk && s.plkUp rx.port then ({ s with peer := { s.peer with pdelay := s.peer.pdelay + 1 } }).gptpEmit rx.port .pdelayResp else s)

/-- PCS_LOCK_LOSS (R356, R342): REC + 8, and the link is down. -/
def execPcsLockLoss (p : Fin 2) (s : State) : Res :=
  let s := s.txNew
  if s.plkState p = pkStopped then .next s
  else if s.plkState p = pkQuarantine then .next (s.plkLink p false)
  else .next ((s.recUp p).plkFall p)

/-- PCS_TRANSMIT_FAULT (R356): TEC + 8. -/
def execPcsTransmitFault (p : Fin 2) (s : State) : Res :=
  let s := s.txNew
  if s.plkState p = pkStopped || s.plkState p = pkQuarantine then .next s else .next (s.tecUp p)

/-- PLK_ENABLE (R346). -/
def execPlkEnable (rq : Requester) (s : State) : Res :=
  hostWrite rq pgPlk s fun s =>
    if s.memb ≠ mbOutside then .next s
    else if s.dom 4 1 ≠ 1 then .next (s.put pgPlk F.PLK_STATUS_CAUSE 2)
    else if !(s.flag pgPlk F.PLK_NODE_SET) then .next (s.put pgPlk F.PLK_STATUS_CAUSE 4)
    else if !(s.plkUp 0) && !(s.plkUp 1) then
      -- the manual names two causes and none for this condition: which of them is a free value
      let (v, s) := s.takeFree
      .next (s.put pgPlk F.PLK_STATUS_CAUSE (if v % 2 = 0 then 2 else 4))
    else
      let s := { s with peer := { s.peer with noLockSince := s.time } }
      .next (s.setMemb mbListening)

/-- PLK_DISABLE (R347). -/
def execPlkDisable (rq : Requester) (s : State) : Res :=
  hostWrite rq pgPlk s fun s => .next (if s.memb = mbOutside then s else s.goOutside 1)

/-- PLK_SEND (R354, R360): an ALARM takes a free slot, a MIGRATE transfer sends its 20 fragments. An ALARM that follows the other half's MIGRATE in
one cycle ends with BUSY (R359). -/
def execPlkSend (rq : Requester) (s : State) : Res :=
  hostWrite rq pgPlk s fun s =>
    let s := s.txNew
    let dest := s.get pgPlk F.PLK_TXDST_NODE
    let all := s.flag pgPlk F.PLK_TXDST_ALL
    let typ := s.get pgPlk F.PLK_TXDST_TYPE
    let (second, s) := if typ = 3 && s.flag pgPlk F.PLK_STATUS_BUSY && s.peer.migBy = some (Half.other rq.half) then s.sameCycle (some s.peer.migAt) else (false, s)
    if (typ ≠ 3 && typ ≠ 4) || (typ = 4 && all) then .next (s.unpredictable pgPlk 0)
    else if second then .next (s.sendEnd 1)
    else if s.memb ≠ mbMember || !(s.isPublisher s.plkNode) then .next (s.sendEnd 2)
    else if typ = 3 then
      match (upTo 8).find? fun k => !((s.get pgPlk F.PLK_ALQ_PEND).testBit k) with
      | none => .next (s.sendEnd 4)
      | some k =>
        let (f, s) := s.ownFrame 3 (5 + (if all then 2 else 0)) dest (memBytes s.peer.txWin 0 24)
        let s := s.putBit pgPlk F.PLK_ALQ_PEND k true
        .next ((s.sendAcked f (s.portsFor all dest) s.alarmTmo (some k)).sendEnd 0)
    else if s.flag pgPlk F.PLK_STATUS_BUSY then .next (s.sendEnd 1)
    else
      let (x, s) := s.takeFree
      let s := s.put pgPlk F.PLK_STATUS_BUSY 1
      let s := { s with peer := { s.peer with xfer := x % 2 ^ 32, migSeq := s.peer.seqNext % 2 ^ 32, migAt := s.time, migBy := some rq.half } }
      .next (s.each (upTo 20) fun i s =>
        let (f, s) := s.ownFrame 4 1 dest (b4 s.peer.xfer ++ b1 i ++ [0, 0, 0] ++ memBytes s.peer.txWin (1024 * i) 1024)
        s.sendAcked f (s.portsFor false dest) s.migTmo none)

/-- PLK_RX_DONE (R355): the receive window is free again. -/
def execPlkRxDone (rq : Requester) (s : State) : Res :=
  hostWrite rq pgPlk s fun s => .next (s.put pgPlk F.PLK_STATUS_RX_FULL 0)

/-- PLK_CLEARQ (R356): both counters to 0; a port leaves Quarantine. -/
def execPlkClearq (rq : Requester) (p : Fin 2) (s : State) : Res :=
  hostWrite rq pgPlk s fun s =>
    let s := s.txNew
    let was := s.plkState p = pkQuarantine
    let s := s.put pgPlk (F.PLK_PORT_TEC.at (4 * p)) 0
    let s := (s.put pgPlk (F.PLK_PORT_REC.at (4 * p)) 0).plkCheck p
    let s := { s with peer := { s.peer with cleared := tblInsert p.val s.time s.peer.cleared } }
    if !was then .next s
    else
      let s := ((s.setPlkState p pkDown).discSet pgPlk p 0).peerSettle
      .next (if s.plkState p = pkDown && s.flag pgPlk (F.PLK_PORT_LINK.at (4 * p)) then s.plkRise p else s)

/-- PLK_CANCEL: drops every queued alarm of the module. -/
def execPlkCancel (rq : Requester) (s : State) : Res :=
  hostWrite rq pgPlk s fun s =>
    let s := { s with peer := { s.peer with waits := s.peer.waits.filter fun (w : TxWait) => w.slot.isNone } }
    .next (s.put pgPlk F.PLK_ALQ_PEND 0)

/-- PLK_NODE_WRITE (R342): ignored unless MEMB is Outside; the address is class M. -/
def execPlkNodeWrite (rq : Requester) (value : Word) (s : State) : Res :=
  hostWrite rq pgPlk s fun s =>
    if value.toNat / 2 ^ 18 % 2 ^ 13 ≠ 0 then .next (s.unpredictable pgPlk 8)
    else if s.memb ≠ mbOutside then .next s
    else
      let s := (s.put pgPlk F.PLK_NODE_SET 1).put pgPlk F.PLK_NODE_NODE (value.toNat % 2 ^ 18)
      .next (s.setMram (storeBase + 0x28) (b4 (s.reg pgPlk 8).toNat))

end Sys2Proof.Machine
end

