-- ==== Sys2Proof/Machine/Touch.lean ====
section
/-! DEFINITION. Touch sources (R294 to R314): 0 to 7 are the sensors, 8 is the key set. Their registers, reports, reference, start and stop, and the
commands that act on them between frames. -/

namespace Sys2Proof.Machine

/-! ## Registers of a source -/

def pgSrc (src : Nat) : Pg := if src = 8 then pgTce else pgTaf src

/-- A field of TAF_STATUS, or the same field of TCE_SCAN for the keys. -/
def srcFld (src : Nat) (f : Fld) : Fld := if src = 8 then { f with off := 8 } else f

def State.srcGet (s : State) (src : Nat) (f : Fld) : Nat := s.get (pgSrc src) (srcFld src f)
def State.srcPut (s : State) (src : Nat) (f : Fld) (v : Nat) : State := s.put (pgSrc src) (srcFld src f) v

def tsOff : Nat := 0
def tsScanning : Nat := 1
def tsFlooded : Nat := 2
def tsTesting : Nat := 3
def tsStopped : Nat := 4

def State.srcState (s : State) (src : Nat) : Nat := s.srcGet src F.TAF_STATUS_STATE
def State.setSrcState (s : State) (src v : Nat) : State := s.srcPut src F.TAF_STATUS_STATE v

/-! ## Nodes (R296, R377) -/

/-- Self capacitance (KIND 1). -/
def State.srcSelf (s : State) (src : Nat) : Bool := inImage 0 1 8 (s.planRec src 4 1) = 1

/-- Entries of a source's list with a role (R295). -/
def State.roleCount (s : State) (src role : Nat) : Nat :=
  ((upTo (s.planCount src)).filter fun i => s.planEntry src i / 1024 % 4 = role).length

/-- Rows and columns of a source's nodes: drive by receive lines, one row of self lines, one node for each key. -/
def State.srcDims (s : State) (src : Nat) : Nat × Nat :=
  if src = 8 then (1, s.planCount 8)
  else if s.srcSelf src then (1, s.roleCount src 2)
  else (s.roleCount src 0, s.roleCount src 1)

def State.nodeCount (s : State) (src : Nat) : Nat := (s.srcDims src).1 * (s.srcDims src).2

/-- Is node n of a source one of self capacitance? A key's entry says so for itself. -/
def State.nodeSelf (s : State) (src n : Nat) : Bool :=
  if src = 8 then s.planEntry 8 n / 1024 % 4 = 2 else s.srcSelf src

/-- The banks of a source are powered, and the engine with them (R294). -/
def State.banksOn (s : State) (src : Nat) : Bool :=
  s.pdomain 20 = 2 && (s.planLines src).all fun l => s.pdomain (8 + l / 120 % 8) = 2

/-! ## The commissioning reference (R306, R377) -/

def refBase (slot : Nat) : Nat := storeBase + 0x20000 * (slot + 1)

def State.refValid (s : State) (slot : Nat) : Bool :=
  crc32c (s.mramBytes (refBase slot) 0x1FFFC) = s.mramNat (refBase slot + 0x1FFFC) 4

def State.refGen (s : State) (slot : Nat) : Nat := s.mramNat (refBase slot) 2

/-- The slot in force: the valid slot of higher generation. -/
def State.refSlot (s : State) : Option Nat :=
  if s.refValid 0 then (if s.refValid 1 && s.refGen 0 < s.refGen 1 then some 1 else some 0)
  else if s.refValid 1 then some 1 else none

/-- The place of a source's first count in a reference. -/
def State.refFirst (s : State) (src : Nat) : Nat := (upTo src).foldl (fun a i => a + s.nodeCount i) 0

/-- The reference counts of a source, where a reference is in force. -/
def State.refCounts (s : State) (src : Nat) : Option (List Nat) :=
  s.refSlot.map fun k => (upTo (s.nodeCount src)).map fun n => s.mramNat (refBase k + 0x10 + 2 * (s.refFirst src + n)) 2

/-- REF_GEN shows the slot in force. -/
def State.refShow (s : State) : State :=
  s.put pgTce F.TCE_STATUS_REF_GEN (match s.refSlot with | none => 0 | some k => s.refGen k)

/-- The counts of a source that CAPTURE_REF takes: those of its last clean frame; the manual gives none before one (log entry 4). A reference holds a
count for each of 256 keys (R377), and the manual gives none for a key that the plan does not have. -/
def State.captureCounts (s : State) (src : Nat) : List Nat × State :=
  let q := s.src src
  let known := if q.raw.length = s.nodeCount src then q.raw else []
  let n := (if src = 8 then 256 else s.nodeCount src) - known.length
  (known ++ (upTo n).map fun i => Config.freeValue (s.free + i) % 65536, { s with free := s.free + n })

/-- The bytes of a reference slot: header, counts, filling and CRC (R306). -/
def refImage (gen : Nat) (counts : List Nat) : List Byte :=
  let body := b2 gen ++ b2 0 ++ b4 counts.length ++ List.replicate 8 0 ++ counts.flatMap b2
  let body := (body ++ List.replicate 0x1FFFC 0).take 0x1FFFC
  body ++ b4 (crc32c body)

/-- CAPTURE_REF ends: the slot not in force is written, then its CRC and generation, and is in force (R306). -/
def State.captureEnd (s : State) : State :=
  if !(s.flag pgTce F.TCE_STATUS_REF_BUSY) then s
  else
    let slot := match s.refSlot with | some 0 => 1 | _ => 0
    let gen := (match s.refSlot with | none => 0 | some k => s.refGen k) + 1
    let (counts, s) := (upTo 9).foldl (fun (a : List Nat × State) src =>
      let (c, s) := a.2.captureCounts src
      (a.1 ++ c, s)) ([], s)
    let s := s.setMram (refBase slot) (refImage gen counts)
    let s := s.put pgTce F.TCE_STATUS_REF_BUSY 0
    let s := s.put pgTce F.TCE_STATUS_REF_DONE 1
    (s.put pgTce F.TCE_STATUS_REF_RESULT 0).refShow

/-! ## Report packets (R299) -/

def contactDown : Nat := 0
def contactMove : Nat := 1
def contactUp : Nat := 2

def bit (c : Bool) (n : Nat) : Nat := if c then 2 ^ n else 0

/-- The header entry. -/
def State.touchHeader (s : State) (src : Nat) (lost : Bool) : BitVec 64 :=
  let q := s.src src
  BitVec.ofNat 64 (2 ^ 63 + src * 2 ^ 56 + bit (s.srcState src = tsFlooded) 55 + bit (s.srcGet src F.TAF_STATUS_TAS = 1) 54 + bit lost 53 +
    s.srcGet src F.TAF_STATUS_SET * 2 ^ 51 + q.frameMode % 8 * 2 ^ 48 + (q.slot - 1) % 2 ^ 16 * 2 ^ 32 + s.time % 2 ^ 32)

/-- A contact entry, or a key entry for source 8. -/
def touchEntry (src id event : Nat) (c : Contact) : BitVec 64 :=
  if src = 8 then
    BitVec.ofNat 64 (2 ^ 63 + 2 * 2 ^ 60 + id % 256 * 2 ^ 52 + event * 2 ^ 50 + bit c.stale 49 + c.strength * 2 ^ 32)
  else
    BitVec.ofNat 64 (2 ^ 63 + 1 * 2 ^ 60 + id % 16 * 2 ^ 56 + event * 2 ^ 54 + bit c.stale 53 + bit c.hover 52 + c.size * 2 ^ 44 +
      c.strength * 2 ^ 32 + c.x * 2 ^ 16 + c.y)

/-- A packet goes to the queue unit of one half, while the half is in service and shows places for the whole packet and its length word. -/
def State.touchPush (s : State) (src : Nat) (h : Half) (es : List (BitVec 64)) : State :=
  let q := s.planRec src (match h with | .A => 0x22 | .B => 0x23) 1
  if q = 0xFF || !(s.inService h) then s
  else
    let u := s.src src
    let lost := match h with | .A => u.lostA | .B => u.lostB
    let sent := es.length + 2 ≤ s.quFree h q
    let s := if sent then s.quPacket h q (s.touchHeader src lost :: es) else s.incSat (pgSrc src) (srcFld src F.TAF_STATUS_DROPS)
    s.setSrc src (match h with
      | .A => { s.src src with lostA := !sent }
      | .B => { s.src src with lostB := !sent })

def State.touchReport (s : State) (src : Nat) (es : List (BitVec 64)) : State := (s.touchPush src .A es).touchPush src .B es

/-- Every contact of a source ends with Up, and every active key with Release; nothing is pushed where none is active. -/
def State.touchEndAll (s : State) (src : Nat) : State :=
  let q := s.src src
  let es := (q.contacts ++ q.held.map fun k => (k, ({} : Contact))).map fun e => touchEntry src e.1 (if src = 8 then 1 else contactUp) e.2
  let s := s.whenB (!es.isEmpty) fun s => s.touchReport src es
  let s := s.setSrc src { s.src src with contacts := [], held := [] }
  if src = 8 then s.each (upTo 8) fun w s => s.setReg pgTce (0x100 + 4 * w) 0 else s

/-! ## Start and stop (R307, R311, R312) -/

/-- The discovery positions of a source. -/
def State.srcPositions (s : State) (src : Nat) : List Nat := if src = 8 then upTo (s.planCount 8) else [0]

/-- A source starts: its slots run from 0, discovery begins with a test, and the next clean frame is its first. -/
def State.touchStart (s : State) (src : Nat) : State :=
  if s.planCount src = 0 then s.setSrc src {}
  else
    let s := s.setSrc src { run := true, testReq := true, raw := (s.src src).raw, lostA := (s.src src).lostA, lostB := (s.src src).lostB }
    let s := s.setSrcState src tsOff
    let s := (s.srcPut src F.TAF_STATUS_IDLE 1).srcPut src F.TAF_STATUS_FRUN 0
    s.each (s.srcPositions src) fun n s => s.discSet (pgSrc src) n 1

/-- A source that is not kept stops on entry to T4 and to Night Watch (R312, R366). -/
def State.touchStop (s : State) (src : Nat) : State :=
  if !(s.src src).run || s.kept src then s
  else
    let s := s.touchEndAll src
    let s := s.setSrc src { s.src src with run := false, inFrame := false, testing := false, testReq := false, t4Stop := true }
    let s := s.setSrcState src tsStopped
    s.srcPut src F.TAF_STATUS_IDLE 1

/-- Entry to T4; a CAPTURE_REF that runs completes first (R313). -/
def State.touchT4 (s : State) : State := s.captureEnd.each (upTo 9) fun src s => s.touchStop src

/-- The tier rises from T4, or Night Watch ends: the stopped sources restart. -/
def State.touchResume (s : State) : State :=
  s.each (upTo 9) fun src s => if (s.src src).t4Stop then s.touchStart src else s

/-- The plan of the image is applied: TAF_CFG shows it, the reference is chosen, and every source starts (R295, R306). -/
def State.touchApply (s : State) : State :=
  ((s.each (upTo 8) fun n s => s.tafShow n (s.slotOf .P)).refShow).each (upTo 9) fun src s => s.touchStart src

/-! ## Commands -/

/-- TAF_MODE (R300, R314): the mode applies from the next frame slot; one that the plan does not permit leaves the sensor's state free. -/
def execTafMode (rq : Requester) (sensor : Fin 8) (mode : BitVec 2) (s : State) : Res :=
  hostWrite rq (pgTaf sensor) s fun s =>
    let flags := s.planRec sensor 0x24 1
    if mode = 3 || (mode = 1 && flags / 2 % 2 = 0) || (mode = 2 && flags / 4 % 2 = 0) then .next (s.unpredictable (pgTaf sensor) 0)
    else .next (s.put (pgTaf sensor) F.TAF_CTRL_MODE mode.toNat)

/-- A test is asked for: it runs in the next frame slot (R310). -/
def State.askTest (s : State) (src : Nat) : State := s.setSrc src { s.src src with testReq := true }

/-- A rebase is asked for: it takes the next clean frame (R305). -/
def State.askRebase (s : State) (src : Nat) : State := s.setSrc src { s.src src with rebase := true }

/-- TAF_TEST (R310). -/
def execTafTest (rq : Requester) (sensor : Fin 8) (s : State) : Res :=
  hostWrite rq (pgTaf sensor) s fun s => .next (s.askTest sensor)

/-- TAF_REBASE (R305). -/
def execTafRebase (rq : Requester) (sensor : Fin 8) (s : State) : Res :=
  hostWrite rq (pgTaf sensor) s fun s => .next (s.askRebase sensor)

/-- TCE_TEST (R310). -/
def execTceTest (rq : Requester) (s : State) : Res :=
  hostWrite rq pgTce s fun s => .next (s.askTest 8)

/-- TCE_REBASE (R305). -/
def execTceRebase (rq : Requester) (s : State) : Res :=
  hostWrite rq pgTce s fun s => .next (s.askRebase 8)

/-- TCE_CAPTURE_REF (R306): TOUCHED while any contact or key is active. -/
def execTceCaptureRef (rq : Requester) (s : State) : Res :=
  hostWrite rq pgTce s fun s =>
    if s.flag pgTce F.TCE_STATUS_REF_BUSY then .next s
    else if (upTo 9).any fun src => !((s.src src).contacts.isEmpty && (s.src src).held.isEmpty) then
      .next ((s.put pgTce F.TCE_STATUS_REF_DONE 1).put pgTce F.TCE_STATUS_REF_RESULT 1)
    else .next (s.put pgTce F.TCE_STATUS_REF_BUSY 1)

/-- CAPTURE_REF_DONE (R306). -/
def execCaptureRefDone (s : State) : Res := .next s.captureEnd

/-- TOUCH_DISCOVERY_TIMER (R311): every 10 s while a position is Absent or Faulted. -/
def execTouchDiscoveryTimer (src : Fin 9) (pos : Fin 256) (s : State) : Res :=
  let p := pgSrc src
  if (s.src src).run && (s.srcPositions src).contains pos.val && (s.disc p pos = 0 || s.disc p pos = 4) then
    .next ((s.discSet p pos 1).askTest src)
  else .next s

/-- CONTACT_STALE (R309): the contact or pressed key has stayed for STALE_T; the next clean frame reports it once. -/
def execContactStale (src : Fin 9) (id : Fin 256) (s : State) : Res :=
  let q := s.src src
  match tblFind id q.contacts with
  | none => .next s
  | some c => .next (if c.stale then s else s.setSrc src { q with contacts := q.contacts.map fun e => if e.1 = id.val then (e.1, { c with stale := true, told := false }) else e })

end Sys2Proof.Machine
end

