-- ==== Sys2Proof/Machine/Night.lean ====
section
/-! DEFINITION. What entry to Night Watch does once the generators have stopped (R366 steps 3 and 4), and how domains leave retention (R367, R405). -/

namespace Sys2Proof.Machine

/-- The domains of a half that Night Watch holds in retention: AC, CL, GFE, SG, CP, SP. -/
def nightHeld : List Nat := [0, 1, 2, 3, 4, 5, 6, 7, 8, 9, 11, 12, 13, 14, 15, 16, 17, 18, 19, 20, 21, 22, 23, 26, 27, 28, 29]

/-- Channels of a domain HPA (16) or HPB (17). -/
def hapOf (d : Nat) : List Nat := if d = 16 then [0, 1, 2, 3] else if d = 17 then [4, 5, 6, 7] else []

/-- A Plinth domain is Off: the channels of HPA and HPB show Off, except those that wait for an UNLOCK, and AUD runs no program. -/
def State.pdomGone (s : State) (d : Nat) : State :=
  let s := s.setPdomain d 0
  let s := s.each (hapOf d) fun ch s =>
    if s.hapState ch = hcLocked || s.hapState ch = hcCoasting then s.setHap ch hcLocked else (s.setChan ch {}).setHap ch hcOff
  if d = 19 then s.put pgAud F.AUD_STATUS_PROG 2 else s

/-- A half enters the retention of Night Watch: its domains keep their fields, DRAM is in self-refresh and its unkept segments are lost (R263), a
scan stops after its last block (R274), and the PCIe link is down (R435). -/
def State.nightHalf (s : State) (h : Half) : State :=
  let s := s.each nightHeld fun d s => if s.domain h d = 2 then s.setDomain h d 3 else s
  let s := ((s.putDmc h F.DMC_STATUS_SR 1).putDmc h F.DMC_STATUS_READY 0).dramLose h
  (s.each (upTo 4) fun n s => s.cvuStop h n).pciDown h

/-- An operation of MOD_CTRL ends with a RESULT (MOD_STATUS): the MOD interrupt of both halves. -/
def State.modDone (s : State) (result : Nat) : State :=
  let s := s.put pgMod F.MOD_STATUS_BUSY 0
  let s := s.put pgMod F.MOD_STATUS_DONE 1
  (s.put pgMod F.MOD_STATUS_RESULT result).raiseBoth 0x2000

/-- Steps 3 and 4 of R366, once no generator runs any more. -/
def State.nightSettle (s : State) : State :=
  if s.mode ≠ mNight || s.nightEntered.isSome || (upTo 8).any (fun p => (s.port p).run) then s
  else
    let s := s.whenB (s.inService .A) fun s => s.nightHalf .A
    let s := s.whenB (s.inService .B) fun s => s.nightHalf .B
    let s := s.touchT4
    let s := s.each ([0, 1, 2, 3, 4, 5, 6, 7, 16, 17, 18, 19] ++ (List.range' 8 8).filter fun d => !(s.bankKept (d - 8))) fun d s => s.pdomGone d
    ({ s with nightEntered := some s.time }).peerSettle.modDone 0

/-- Domains leave retention as far as the tier lets them run, and their harts resume (R367, R405). -/
def State.domWake (s : State) (h : Half) : State :=
  let woken := (upTo 31).filter fun d => s.domain h d = 3 && !(s.tier = 4 && d < 10)
  let s := s.each woken fun d s => s.setDomain h d 2
  s.each (woken.filter fun d => d < 8) fun d s => s.hartResume h d

end Sys2Proof.Machine
end

