-- ==== Sys2Proof/Machine/Ports.lean ====
section
/-! DEFINITION. Display ports (R110 to R138): timing generator, line packets, source selection, status screen, discovery, link
training, panel outputs, PSR2, frame lock (R351 to R353), and what the pair supervisor does at latch lines and frame boundaries
(R95, R186, R204). -/

namespace Sys2Proof.Machine

/-! ## Timing -/

/-- The timing of a port: its registers, or the timing that R133 chose. -/
def State.timing (s : State) (p : Nat) : Timing :=
  (s.port p).timing.getD
    ⟨s.get (pgScn p) F.SCN_PCLK_KHZ, s.hActive p, s.get (pgScn p) F.SCN_HTIM0_H_TOTAL, s.vActive p, s.vTotal p,
      s.get (pgScn p) F.SCN_HTIM1_HS_START, s.get (pgScn p) F.SCN_HTIM1_HS_WIDTH, s.flag (pgScn p) F.SCN_HTIM1_HS_POL,
      s.get (pgScn p) F.SCN_VTIM1_VS_START, s.get (pgScn p) F.SCN_VTIM1_VS_WIDTH, s.flag (pgScn p) F.SCN_VTIM1_VS_POL⟩

/-- The polarities that the main stream attributes carry to the sink (R111): horizontal, vertical. -/
def State.syncPolarity (s : State) (p : Nat) : Bool × Bool := ((s.timing p).hsPol, (s.timing p).vsPol)

/-- The pixels of a line at which horizontal sync begins and ends, counted from the first active pixel (R111). -/
def State.hsync (s : State) (p : Nat) : Nat × Nat :=
  ((s.timing p).hActive + (s.timing p).hsStart, (s.timing p).hActive + (s.timing p).hsStart + (s.timing p).hsWidth)

/-- Is the current line one of vertical sync, which begins at the start of line V_ACTIVE + VS_START − 1 (R111)? -/
def State.inVsync (s : State) (p : Nat) : Bool :=
  let t := s.timing p
  t.vActive + t.vsStart ≤ s.portLine p + 1 && s.portLine p + 1 < t.vActive + t.vsStart + t.vsWidth

/-- Does the timing lie within R111? -/
def timingOk (t : Timing) : Bool :=
  25000 ≤ t.khz && t.khz ≤ 1250000 && 640 ≤ t.hActive && t.hActive ≤ 4096 && t.hActive % 2 = 0 &&
  t.hActive + 64 ≤ t.hTotal && t.hTotal ≤ 8191 && 1 ≤ t.hsStart && t.hsStart ≤ 2047 && 1 ≤ t.hsWidth && t.hsWidth ≤ 1023 &&
  t.hsStart + t.hsWidth ≤ t.hTotal - t.hActive && 1 ≤ t.vsStart && t.vsStart ≤ 255 && 1 ≤ t.vsWidth && t.vsWidth ≤ 63 &&
  t.vsStart + t.vsWidth ≤ t.vTotal - t.vActive && 480 ≤ t.vActive && t.vActive ≤ 2400 && t.vActive + 4 ≤ t.vTotal &&
  t.vTotal ≤ 4095 && 24 * (t.hTotal * t.vTotal) ≤ t.khz * 1000 && t.khz * 1000 ≤ 120 * (t.hTotal * t.vTotal)

/-- The timing of R133 where the sink's preferred one lies outside R111; the rule gives no porches and syncs. -/
def timing720 : Timing := { Config.sync720 with khz := 74250, hActive := 1280, hTotal := 1650, vActive := 720, vTotal := 750 }

/-! ## Line packets (R18) -/

def Port.arr (q : Port) : Half → List Packet
  | .A => q.arrA
  | .B => q.arrB

def Port.setArr (q : Port) (h : Half) (l : List Packet) : Port :=
  match h with
  | .A => { q with arrA := l }
  | .B => { q with arrB := l }

/-- The complete packet of a half for a line. -/
def Port.packet (q : Port) (h : Half) (line : Nat) : Option (List Nat) := ((q.arr h).find? fun k => k.line = line).map fun k => k.pixels

/-- LINE_PACKET_ARRIVAL (R18, R19): the next packet on the pixel link for the port; one that fails its CRC, or whose line boundary has
passed, counts as incomplete. -/
def execLinePacketArrival (h : Half) (port : Fin 8) (crcOk : Bool) (s : State) : Res :=
  match (s.hs h).link.find? fun k => k.port = port.val with
  | none => .next s
  | some k =>
    let s := s.setHs h { s.hs h with link := (s.hs h).link.erase k }
    let q := s.port port
    let vt := max 1 (s.timing port).vTotal
    let ahead := (k.line + vt - s.portLine port) % vt
    if crcOk && q.run && ((1 ≤ ahead && ahead ≤ 3) || (ahead = 0 && q.fresh)) then
      .next (s.setPort port (q.setArr h (q.arr h ++ [k])))
    else .next s

/-! ## Status screen (R130 to R133) -/

def ascii (t : String) : List Nat := t.toList.map Char.toNat

/-- The low `n` hexadecimal digits of a value. -/
def hexDigits : Nat → Nat → List Nat
  | 0, _ => []
  | n + 1, v => hexDigits n (v / 16) ++ [(if v % 16 < 10 then 48 else 55) + v % 16]

/-- The mode names of R361 in capitals. -/
def modeName (m : Nat) : String :=
  ["OFF", "DORMANT", "ARMATURE LOAD", "MAQUETTE", "BRING-UP", "PAIRED SERVICE", "SINGLE-HALF SERVICE", "HANDOVER", "SHED", "HOLD-UP",
    "NIGHT WATCH", "INSPECTION"].getD m ""

/-- The life-cycle names of R372. -/
def lcName (v : Nat) : String := ["Blank", "Provisioned", "Service", "Retired"].getD v ""

/-- The five lines of text of R132. -/
def State.statusText (s : State) (p k : Nat) : List Nat :=
  if k = 0 then ascii "TD8S-K3 PORT " ++ [48 + p]
  else if k = 1 then ascii (modeName s.mode)
  else if k = 2 then
    (if s.start.noImage then ascii "ARM NONE"
     else ascii "ARM SLOT " ++ [48 + s.slotOf .P] ++ ascii " GEN 0x" ++ hexDigits 4 (s.get pgArm (F.ARM_SLOT_GEN.at (4 * s.slotOf .P))))
  else if k = 3 then ascii "LC " ++ ascii (lcName (s.get pgLcs F.LCS_STATUS_STATE))
  else ascii "CODE 0x" ++ hexDigits 2 s.start.cause

/-- A line of the status screen (R132). -/
def State.statusLine (s : State) (p y : Nat) : List Nat :=
  let t := s.timing p
  let sc := max 1 (min (t.hActive / 640) (t.vActive / 360))
  let back := if s.mode = mMaquette then 0x3FF * 2 ^ 20 + 0x200 * 2 ^ 10 else 0x100 * 2 ^ 20 + 0x100 * 2 ^ 10 + 0x100
  let k := (y - 32 * sc) / (24 * sc)
  let row := (y - 32 * sc) % (24 * sc) / sc
  let text := if 32 * sc ≤ y && k < 5 && row < 16 then s.statusText p k else []
  (List.range t.hActive).map fun x =>
    let c := (x - 32 * sc) / (8 * sc)
    match (if 32 * sc ≤ x then text[c]? else none) with
    | none => back
    | some ch => if Config.glyph ch ((x - 32 * sc) % (8 * sc) / sc) row then 0x3FFFFFFF else back

/-! ## The generator (R110) -/

/-- The generator of a port starts at line 0 of frame 0; PPEN asserts (R123). -/
def State.genStart (s : State) (p : Nat) : State :=
  let q := s.port p
  let s := s.setPort p { q with
    run := true, fresh := true, tookAny := false, took := [], arrA := [], arrB := [], subRule := 0, subFirst := 0, subLen := 0, incRun := 0, electRun := 0,
    anyComplete := false, emptyFrames := 0, wholeA := false, wholeB := false, roleFrameA := 7, roleFrameB := 7, trig := none, shedSwitch := false,
    markA := none, markB := none, qualRun := 0, ppen := true, psrRun := 0, psrSub := false, video := false, nightStop := 0, t4Stop := false }
  let s := s.put (pgScn p) F.SCN_LINE_LINE 0
  let s := s.put (pgScn p) F.SCN_FRAME_FRAME 0
  let s := s.put (pgScn p) F.SCN_TRIM_TRIM 0
  s.laneRefresh p

/-- The pipes of a port become Idle. -/
def State.pipesIdle (s : State) (p : Nat) : State :=
  let idle : Marker := { tier := s.tier, role := 7, frame := 0, beginsHandover := false }
  let s := (s.setRole .A p 7).setRole .B p 7
  let s := s.put pgPair (F.PAIR_PORT_QUAL.at (4 * p)) 0
  let s := s.setPort p { s.port p with markA := none, markB := none, qualRun := 0 }
  (s.whenB (s.inService .A) fun s => s.takeMarker .A p idle).whenB (s.inService .B) fun s => s.takeMarker .B p idle

/-- The link of a port goes down and BLEN with it (R123). -/
def State.linkLost (s : State) (p : Nat) : State :=
  let s := s.put (pgScn p) F.SCN_LINK_UP 0
  s.setPort p { s.port p with video := false, blen := false, blWant := false, blStart := none, training := none, sent := none }

/-- The generator of a port stops: link down, PPEN and BLEN off unless the panel keeps its PSR2 frame (R110, R123, R137, R366); a shed switch that
waits for a line boundary is made now (R205). In the condition of R15 every generator keeps running. -/
def State.genStop (s : State) (p : Nat) (keepPanel : Bool) : State :=
  if s.copyFault then s
  else
    let s := s.whenB (s.port p).shedSwitch fun s => s.shedMove p
    let keep := (s.port p).blen
    let want := (s.port p).blWant
    let s := s.linkLost p
    let s := s.setPort p { s.port p with run := false, ppen := keepPanel, blen := keepPanel && keep, blWant := keepPanel && want, psrNight := keepPanel }
    ((s.pipesIdle p).laneRefresh p).lockRefresh p

/-! ## Discovery and training (R115 to R122) -/

/-- A position begins or repeats discovery (R115, R116). -/
def State.probe (s : State) (p : Nat) : State :=
  let s := s.setPort p { s.port p with auxFails := 0, auxWait := 1, caps := none, ident := none, training := none }
  s.discSet (pgScn p) 0 1

/-- Is HPD sensed (R435)? -/
def State.hpdSensed (s : State) : Bool := !(s.mode = mOff || s.mode = mDormant || s.mode = mHoldUp || s.mode = mNight)

/-- HPD is seen high (R115): an Absent position begins discovery. -/
def State.hpdUp (s : State) (p : Nat) : State :=
  let s := s.put (pgScn p) F.SCN_STATUS_HPD 1
  if s.disc (pgScn p) 0 = 0 then s.probe p else s

/-- HPD is seen low (R115, R31): Absent from any state, link down, video stops; the acceptance by command ends (R118). -/
def State.hpdDown (s : State) (p : Nat) : State :=
  let s := s.put (pgScn p) F.SCN_STATUS_HPD 0
  let s := s.discSet (pgScn p) 0 0
  let s := s.linkLost p
  s.setPort p { s.port p with byCommand := false, caps := none, ident := none, auxWait := 0, auxFails := 0, linkRead := false, sinkBusy := false }

/-- The pin is sensed again after a time in which it was not (R435): a level that differs from the one shown acts now. -/
def State.hpdAgain (s : State) (p : Nat) : State :=
  if (s.port p).hpd = s.flag (pgScn p) F.SCN_STATUS_HPD then s else if (s.port p).hpd then s.hpdUp p else s.hpdDown p

/-- AUX failed: the seventh failure in succession makes the position Faulted (R116). -/
def State.auxFail (s : State) (p : Nat) : State :=
  let q := s.port p
  if q.auxFails + 1 < 7 then s.setPort p { q with auxFails := q.auxFails + 1 }
  else
    let s := s.setPort p { q with auxFails := 0, auxWait := 0 }
    (s.put (pgScn p) F.SCN_LINK_RESULT 4).discSet (pgScn p) 0 4

/-- Does the sink include the timing (R117)? -/
def sinkIncludes (i : SinkId) (t : Timing) : Bool :=
  i.preferred = t || i.timings.contains t ||
  (match i.range with
   | none => false
   | some r => r.khzMin ≤ t.khz && t.khz ≤ r.khzMax && r.hzMin * (t.hTotal * t.vTotal) ≤ t.khz * 1000 &&
       t.khz * 1000 ≤ r.hzMax * (t.hTotal * t.vTotal))

/-- The identity check of a mode (R117). -/
def State.identityOk (s : State) (p mode : Nat) (i : SinkId) (t : Timing) : Bool :=
  let e := Config.imageSink (s.slotCells (s.plinthSlot (itemPort p))) p
  sinkIncludes i t && (mode = 0 || (i.manufacturer = e.1 && i.product = e.2.1)) && (mode ≠ 2 || i.serial = e.2.2)

/-- Does the port show the screen by R133: Maquette, or Armature Load before the port timing section is applied? -/
def State.preApply (s : State) : Bool := s.mode = mMaquette || s.mode = mLoad

/-- Payload capacity per lane in Mbit/s (R120). -/
def laneRate (code : Nat) : Nat :=
  if code = 1 then 1296 else if code = 2 then 2160 else if code = 3 then 4320 else if code = 4 then 6480
  else if code = 8 then 9697 else if code = 9 then 13091 else 0

/-- Is candidate `a` tried before `b` (R120)? -/
def candBefore (a b : Nat × Nat) : Bool :=
  let ca := laneRate a.1 * a.2
  let cb := laneRate b.1 * b.2
  cb < ca || (ca = cb && b.2 < a.2)

def candInsert (a : Nat × Nat) : List (Nat × Nat) → List (Nat × Nat)
  | [] => [a]
  | b :: r => if candBefore a b then a :: b :: r else b :: candInsert a r

/-- The candidate configurations in the order of R120 (R114, R133). -/
def State.candidates (s : State) (p : Nat) (caps : SinkCaps) : List (Nat × Nat) :=
  let pg := pgScn p
  let bounded := !(s.preApply)
  let edp := s.flag pg F.SCN_CFG_KIND
  let ok (r l : Nat) : Bool :=
    caps.rates.contains r && l ≤ caps.maxLanes && (!edp || r ≤ 4) && 30 * (s.timing p).khz ≤ laneRate r * l * 1000 &&
    (!bounded || (s.get pg F.SCN_CFG_MIN_RATE ≤ r && r ≤ s.get pg F.SCN_CFG_PREF_RATE &&
      s.get pg F.SCN_CFG_MIN_LANES ≤ l && l ≤ s.get pg F.SCN_CFG_PREF_LANES))
  ([1, 2, 3, 4, 8, 9].flatMap fun r => ([1, 2, 4].filter fun l => ok r l).map fun l => (r, l)).foldl (fun t c => candInsert c t) []

/-- Every candidate failed, or there is none (R121). -/
def State.trainFail (s : State) (p result : Nat) : State :=
  let s := s.setPort p { s.port p with training := none }
  let s := s.put (pgScn p) F.SCN_STATUS_TRAIN_FAIL 1
  (s.put (pgScn p) F.SCN_LINK_RESULT result).discSet (pgScn p) 0 4

/-- Training begins from the first candidate (R120, R121). -/
def State.train (s : State) (p : Nat) : State :=
  let q := s.port p
  let c := match q.caps with | none => [] | some caps => s.candidates p caps
  let s := s.put (pgScn p) F.SCN_LINK_UP 0
  let s := s.put (pgScn p) F.SCN_LINK_TRIES 0
  let s := s.put (pgScn p) F.SCN_LINK_RESULT 0
  let s := s.setPort p { s.port p with video := false, training := some { cands := c, tries := 0 } }
  if c.isEmpty then s.trainFail p 2 else s

/-- A sink is accepted: Present, and training begins (R117, R120); before the port timing section is applied the port takes the
timing of R133 and shows the screen. -/
def State.sinkAccept (s : State) (p : Nat) (t : Timing) (byCommand : Bool) : State :=
  let s := s.discSet (pgScn p) 0 2 byCommand
  let s := s.setPort p { s.port p with byCommand := (s.port p).byCommand || byCommand }
  let s := if s.preApply then
      let s := s.setPort p { s.port p with timing := some t }
      (s.setSource p 2).genStart p
    else s
  s.train p

/-- The identity has been read (R117, R119); a sink in Mismatch has no link and no video. -/
def State.identified (s : State) (p : Nat) (i : SinkId) : State :=
  let s := s.setPort p { s.port p with ident := some i, auxWait := 0 }
  let s := s.discId (pgScn p) 0 (BitVec.ofNat 32 (i.product % 65536 * 65536 + i.manufacturer % 65536)) (BitVec.ofNat 32 i.serial)
  let pre := s.preApply
  let t := if pre then (if timingOk i.preferred then i.preferred else timing720) else s.timing p
  let mode := if pre then 0 else (let m := s.get (pgScn p) F.SCN_CFG_IDMODE; if (s.port p).byCommand then min m 1 else m)
  if s.identityOk p mode i t then s.sinkAccept p t false else (s.linkLost p).discSet (pgScn p) 0 3

/-- HPD_PLUG (R115). -/
def execHpdPlug (port : Fin 8) (s : State) : Res :=
  let s := s.setPort port { s.port port with hpd := true }
  .next (if s.hpdSensed then s.hpdUp port else s)

/-- HPD_UNPLUG (R115, R31). -/
def execHpdUnplug (port : Fin 8) (s : State) : Res :=
  let s := s.setPort port { s.port port with hpd := false }
  .next (if s.hpdSensed then s.hpdDown port else s)

/-- HPD_IRQ (R115, R122): a link status read starts, whatever the state of the position. -/
def execHpdIrq (port : Fin 8) (s : State) : Res :=
  if !((s.port port).hpd) || !s.hpdSensed then .next s
  else
    let s := s.put (pgScn port) F.SCN_STATUS_HPD_IRQ 1
    .next (s.setPort port { s.port port with linkRead := true, readFails := 0 })

/-- AUX_TRANSACTION_DONE (R116, R117, R119). -/
def execAuxTransactionDone (port : Fin 8) (result : AuxResult) (s : State) : Res :=
  let q := s.port port
  if s.disc (pgScn port) 0 ≠ 1 then .next s
  else match result with
    | .failed => .next (s.auxFail port)
    | .dpcd caps =>
      if q.auxWait ≠ 1 then .next s
      else
        let s := s.put (pgScn port) F.SCN_LINK_SINK_CRC (if caps.sinkCrc then 1 else 0)
        .next (s.setPort port { s.port port with caps := some caps, auxWait := 2, auxFails := 0 })
    | .identity i => if q.auxWait ≠ 2 then .next s else .next (s.identified port i)

/-- DISCOVERY_RETRY (R116): every 5 s on a Faulted port while HPD stays high. -/
def execDiscoveryRetry (port : Fin 8) (s : State) : Res :=
  .next (if s.disc (pgScn port) 0 = 4 && (s.port port).hpd then s.probe port else s)

/-- SCN_ACCEPT (R118): the Lenient check takes a Mismatch sink into service. -/
def execScnAccept (rq : Requester) (port : Fin 8) (s : State) : Res :=
  hostWrite rq (pgScn port) s fun s =>
    if s.disc (pgScn port) 0 ≠ 3 then .next s
    else match (s.port port).ident with
      | none => .next s
      | some i => .next (if s.identityOk port 1 i (s.timing port) then s.sinkAccept port (s.timing port) true else s)

/-- SCN_RETRAIN (R116, R122): training again on a Present sink, discovery again on a Faulted one, else ignored. -/
def execScnRetrain (rq : Requester) (port : Fin 8) (s : State) : Res :=
  hostWrite rq (pgScn port) s fun s =>
    let d := s.disc (pgScn port) 0
    .next (if d = 2 && (s.port port).training.isNone then s.train port else if d = 4 && (s.port port).hpd then s.probe port else s)

/-- SCN_PSR_EN (R135, R136). -/
def execScnPsrEn (rq : Requester) (port : Fin 8) (enable : Bool) (s : State) : Res :=
  hostWrite rq (pgScn port) s fun s =>
    let s := s.put (pgScn port) F.SCN_CTRL_PSR_EN (if enable then 1 else 0)
    .next (if enable then s else s.setPort port { s.port port with psrExit := true })

/-- An attempt failed: each candidate is tried at most twice (R121). -/
def State.attemptFail (s : State) (p : Nat) (t : Training) : State :=
  if t.tries = 0 then s.setPort p { s.port p with training := some { t with tries := 1 } }
  else if t.cands.length ≤ 1 then s.trainFail p 3
  else s.setPort p { s.port p with training := some { cands := t.cands.tail, tries := 0 } }

/-- TRAIN_ATTEMPT_DONE (R121, R125). -/
def execTrainAttemptDone (port : Fin 8) (pass : Bool) (s : State) : Res :=
  match (s.port port).training with
  | none => .next s
  | some t =>
    let pg := pgScn port
    let s := s.incSat pg F.SCN_LINK_TRIES
    if !pass then .next (s.attemptFail port t)
    else
      let c := t.cands.headD (0, 0)
      let s := s.put pg F.SCN_LINK_UP 1
      let s := s.put pg F.SCN_LINK_CODING (if 8 ≤ c.1 then 1 else 0)
      let s := s.put pg F.SCN_LINK_RATE c.1
      let s := s.put pg F.SCN_LINK_LANES c.2
      let s := s.put pg F.SCN_LINK_RESULT 1
      .next (s.setPort port { s.port port with training := none })

/-- TRAIN_ATTEMPT_TIMEOUT (R121). -/
def execTrainAttemptTimeout (port : Fin 8) (s : State) : Res :=
  match (s.port port).training with
  | none => .next s
  | some t => .next ((s.incSat (pgScn port) F.SCN_LINK_TRIES).attemptFail port t)

/-- LINK_STATUS_READ_DONE (R122): seven failures in succession make the position Faulted; the link and video stay as they are (log entry 98). A
lost link is trained again from the first candidate, but for a sink in Mismatch, with which no link is trained (R117), and in Probing, where the discovery that
runs comes to training itself (R120, log entry 97). -/
def execLinkStatusReadDone (port : Fin 8) (result : LinkRead) (s : State) : Res :=
  let q := s.port port
  if !q.linkRead then .next s
  else match result with
    | .failed =>
      if q.readFails + 1 < 7 then .next (s.setPort port { q with readFails := q.readFails + 1 })
      else
        let s := s.setPort port { q with linkRead := false, readFails := 0, auxWait := 0, auxFails := 0 }
        .next ((s.put (pgScn port) F.SCN_LINK_RESULT 4).discSet (pgScn port) 0 4)
    | .intact => .next (s.setPort port { q with linkRead := false, readFails := 0 })
    | .lost =>
      let s := s.setPort port { q with linkRead := false, readFails := 0 }
      let s := (s.put (pgScn port) F.SCN_STATUS_LINK_LOSS 1).linkLost port
      .next (if s.disc (pgScn port) 0 = 2 || s.disc (pgScn port) 0 = 4 then s.train port else s)

/-- BLEN_DELAY_EXPIRY (R123): BLEN asserts unless DARK holds it off (R152). -/
def execBlenDelayExpiry (port : Fin 8) (s : State) : Res :=
  let q := s.port port
  if q.blStart.isNone then .next s
  else .next (s.setPort port { q with blStart := none, blWant := true, blen := !(s.darkHeld port) })

/-! ## Line boundaries (R127, R132, R190, R191) -/

/-- The rule of R127 by which a port takes line n from an owner, with the pixels; for a locked pair rule 1 needs both ports' packets
(R126). -/
def State.lineRule (s : State) (p n : Nat) (owner : Half) : Nat × List Nat :=
  let whole := (s.group p).all fun q => ((s.port q).packet owner n).isSome
  match (if whole then (s.port p).packet owner n else none) with
  | some px => (1, px)
  | none => match (s.port p).packet (Half.other owner) n with
    | some px => (2, px)
    | none => (3, if (s.port p).tookAny then (s.port p).took else List.replicate (s.timing p).hActive 0)

/-- The run of substituted lines ends: one event (R419). -/
def State.substEnd (s : State) (p : Nat) : State :=
  let q := s.port p
  if q.subRule = 0 then s
  else
    let s := s.event (srcOf (pgScn p)) 0x0021
      (b1 p ++ b1 q.subRule ++ b2 0 ++ b2 q.subFirst ++ b2 q.subLen ++ b4 (s.get (pgScn p) F.SCN_FRAME_FRAME))
    s.setPort p { s.port p with subRule := 0, subLen := 0 }

/-- A line taken under a rule joins the run of its rule (R419). -/
def State.substNote (s : State) (p n rule : Nat) : State :=
  if rule = 1 then s
  else
    let q := s.port p
    let s := s.setPort p { q with
      subRule := rule, subFirst := if q.subRule = 0 then n else q.subFirst, subLen := q.subLen + 1, psrSub := true }
    s.incSat (pgScn p) F.SCN_STATUS_SUBST

/-- The owner for line n once a switch due at this boundary is carried out; `due` says that one is. -/
def State.ownerAt (s : State) (p : Nat) (due : Bool) : Option Half :=
  match s.ownerOf p with
  | none => none
  | some o => if due && s.inService (Half.other o) then some (Half.other o) else some o

/-- A port takes active line n (R127) and both lanes check it (R139). -/
def State.takeLine (s : State) (p n : Nat) : State :=
  let q := s.port p
  match s.ownerOf p with
  | none =>
    if s.portSrc p = 2 then s.setPort p { q with took := s.statusLine p n, tookAny := true } else s
  | some o =>
    let (rule, px) := s.lineRule p n o
    let s := s.substNote p n rule
    let s := s.setPort p { s.port p with took := px, tookAny := true }
    let s := s.laneLine p false n px false
    let q := s.port p
    let s := s.setPort p { q with sinkAcc := some (Config.sinkCrc (if n = 0 then none else q.sinkAcc) px) }
    if s.flag (pgIck p) F.ICK_STATUS_U_ACTIVE then
      match (s.port p).packet (Half.other o) n with
      | some ux => s.laneLine p true n ux false
      | none => s.laneLine p true n (List.replicate (s.timing p).hActive 0) true
    else s

/-- What the boundary of active line n shows of the packets of both halves (R129, R131, R190); a line of an Idle pipe counts as incomplete (R18). -/
def State.notePackets (s : State) (p n : Nat) : State :=
  let q := s.port p
  let a := (q.packet .A n).isSome
  let b := (q.packet .B n).isSome
  let inc := match s.ownerOf p with
    | none => 0
    | some o => if (q.packet o n).isSome then 0 else q.incRun + 1
  let elect := match q.ho with
    | none => 0
    | some o => if (q.packet o.target n).isSome || q.roleFrame o.target ≠ roleElect then 0 else q.electRun + 1
  s.setPort p { q with
    wholeA := (n = 0 || q.wholeA) && a, wholeB := (n = 0 || q.wholeB) && b,
    anyComplete := ((n ≠ 0 && q.anyComplete) || a || b), incRun := inc, electRun := elect }

/-- What the PHY sends of an active line (R127, R130, R135): nothing without video or in PSR2, all-zero pixels while SRC is None, else the line
taken. The frame CRC of R135 runs over these lines whatever SRC is. -/
def State.sendLine (s : State) (p : Nat) : State :=
  let q := s.port p
  let px := if s.portSrc p = 3 then List.replicate (s.timing p).hActive 0 else q.took
  s.setPort p { q with
    sent := if q.video && !(s.flag (pgScn p) F.SCN_STATUS_PSR) then some px else none,
    shown := crcRun crc32Poly (if s.portLine p = 0 then 0xFFFFFFFF else q.shown) (pixelBytes px) }

/-- Packets of lines whose boundary is here are no longer waited for. -/
def State.dropPackets (s : State) (p n : Nat) : State :=
  let q := s.port p
  let keep (l : List Packet) : List Packet := l.filter fun k => k.line ≠ n
  s.setPort p { q with arrA := keep q.arrA, arrB := keep q.arrB }

/-- Both ports of a group, or the one port, pass the boundary of line n. -/
def State.lineBoundary (s : State) (ps : List Nat) (n : Nat) : State :=
  let s := s.each ps fun p s => (s.put (pgScn p) F.SCN_LINE_LINE n).setPort p { s.port p with fresh := false }
  let lead := ps.headD 0
  let active := n < (s.timing lead).vActive
  let old := ps.foldl (fun v p => match v, (s.port p).trig with
    | none, t => t
    | some c, none => some c
    | some c, some d => some (min c d)) none
  let shed := ps.any fun p => (s.port p).shedSwitch
  let s := if active then s.each ps fun p s => s.notePackets p n else s
  let two := active && ps.any fun p => 2 ≤ (s.port p).incRun
  let due := old.isSome || shed || two
  -- runs of substituted lines that end before this line (SCN page)
  let s := if active then s.each ps fun p s =>
      (match s.ownerAt p due with
       | none => s.substEnd p
       | some o => if (s.lineRule p n o).1 = (s.port p).subRule then s else s.substEnd p)
    else s
  -- rectangles that end with the line before (ICK page); DARK noted at an earlier boundary acts now (R152)
  let dark := ps.any fun p => (s.port p).darkPend
  let darkIf := ps.filter fun p => (s.port p).darkIf
  let src := s.portSrc lead
  let s := s.each ps fun p s => s.setPort p { s.port p with trig := none, shedSwitch := false, darkPend := false, darkIf := false }
  let s := s.each ps fun p s => s.rectsDone p n
  let s := if dark then s.blenOff lead else s
  let s := if n = (s.timing lead).vActive then s.each ps fun p s => s.frameDone p else s
  -- a switch due at this boundary (PAIR page)
  let s := match old with
    | some c => s.failover lead (if two then min c 4 else c) n
    | none => if two then s.failover lead 4 n else if shed then s.shedMove lead else s
  -- a DARK reaction that no switch made needless (R152)
  let s := if darkIf.isEmpty || s.portSrc lead ≠ src then s
    else (s.each darkIf fun p s => (s.darkSet p).setPort p { (s.darkSet p).port p with darkPend := false }).blenOff lead
  -- the same trigger on an Owner-elect ends the handover (R205)
  let s := if ps.any fun p => 2 ≤ (s.port p).electRun then s.hoEnd lead 5 else s
  let s := if active then s.each ps fun p s => ((s.takeLine p n).sendLine p).dropPackets p n else s
  -- a run ends at the last active line of its frame
  if n + 1 = (s.timing lead).vActive then s.each ps fun p s => s.substEnd p else s

/-- PORT_LINE_BOUNDARY (R83, R127, R145, R190): the even port of a locked pair paces both (R124). The boundary of line 0 follows
PORT_FRAME_BOUNDARY or the start of the generator. -/
def execPortLineBoundary (port : Fin 8) (s : State) : Res :=
  let q := s.port port
  let ps := s.group port
  let n := if q.fresh then 0 else s.portLine port + 1
  if !q.run || ps.headD port.val ≠ port.val || (s.timing port).vTotal ≤ n then .next s
  else .next ((s.oneCycle fun s => s.lineBoundary ps n).rearmGo)

/-! ## Latch lines (R95, R184, R193, R204) -/

/-- May the half's pipe have a role on the port: in service, and not Idle after a failover (R193)? -/
def State.pipeMay (s : State) (h : Half) (p : Nat) : Bool :=
  s.inService h && !(match h with | .A => (s.port p).idleA | .B => (s.port p).idleB)

/-- The half that owns a port: the one in SRC, or its home half where SRC is Status or None (R184). -/
def State.roleOwnerHalf (s : State) (p : Nat) : Half :=
  match s.ownerOf p with
  | some o => o
  | none => if s.pipeMay (s.home p) p then s.home p else Half.other (s.home p)

/-- The role that the pair supervisor gives a half's pipe at a latch line (R93, R184, R193, R204). -/
def State.roleAt (s : State) (h : Half) (p : Nat) : Nat :=
  let o := s.roleOwnerHalf p
  if !(s.pipeMay h p) then roleIdle
  else if !(s.pipeMay (Half.other h) p) then roleSole
  else match (s.port p).ho with
    | some x =>
      if x.phase = 2 then (if h = x.target then roleOwner else roleStandby)
      else if h = x.target then roleElect else roleOwner
    | none => if h = o then roleOwner else roleStandby

/-- Step 4 of R204: may the handover of the group be decided now? -/
def State.hoMayDecide (s : State) (p : Nat) : Bool :=
  (s.group p).all fun q =>
    let l := s.lane q false
    let u := s.lane q true
    match (s.port q).ho with
    | none => false
    | some o => o.phase = 1 && o.compared && l.lastFrame.isSome && u.lastFrame = l.lastFrame && !u.bad && u.mis.isEmpty

/-- The handover of a port at a latch line: L1 begins it, a later one decides it (R204). -/
def State.hoLatch (s : State) (p : Nat) : State :=
  let ok := s.hoMayDecide p
  s.each (s.group p) fun q s =>
    match (s.port q).ho with
    | none => s
    | some o =>
      if o.phase = 0 then s.setPort q { s.port q with ho := some { o with phase := 1, frames := 0 } }
      else if o.phase = 1 && ok then s.setPort q { s.port q with ho := some { o with phase := 2 } }
      else s

/-- The marker that a port's generator sends to a half. -/
def State.markerFor (s : State) (h : Half) (p : Nat) (begins : Bool) : Marker :=
  { tier := s.tier, role := s.role h p, frame := (s.get (pgScn p) F.SCN_FRAME_FRAME + 1) % 65536, beginsHandover := begins }

/-- LATCH_LINE_START (R85, R95): at line V_TOTAL − 4 the generator samples tier, roles and frame number; one sample serves a locked
pair. -/
def execLatchLineStart (port : Fin 8) (s : State) : Res :=
  let ps := s.group port
  if !((s.port port).run) || ps.headD port.val ≠ port.val || s.portLine port + 4 ≠ (s.timing port).vTotal || (s.port port).timing.isSome then .next s
  else
    let begins := match (s.port port).ho with | none => false | some o => o.phase = 0
    let s := s.hoLatch port
    .next (s.each ps fun p s =>
      let a := s.roleAt .A p
      let b := s.roleAt .B p
      let s := (s.setRole .A p a).setRole .B p b
      let s := if a = roleStandby || b = roleStandby || a = roleElect || b = roleElect then s
        else (s.put pgPair (F.PAIR_PORT_QUAL.at (4 * p)) 0).setPort p { s.port p with qualRun := 0 }
      s.setPort p { s.port p with
        markA := some (s.markerFor .A p begins), markB := some (s.markerFor .B p begins), ackA := false, ackB := false, ickA := none, ickB := none })

/-! ## Frame boundaries -/

/-- Frame lock of a port at a frame boundary (R351 to R353); `t` is the domain time of the start of line 0 in ps. -/
def State.frameLock (s : State) (p : Nat) (t : Int) : State :=
  let f := F.PLK_LOCK_STATE.at (4 * p)
  let st := s.get pgPlk f
  let setTrim (v : Int) (s : State) : State := s.each (s.group p) fun q s => s.put (pgScn q) F.SCN_TRIM_TRIM (v % 1024).toNat
  if !(s.lockHolds p) then
    let s := s.lockRefresh p
    if s.get pgPlk f = 3 then setTrim (s.port p).holdTrim s else setTrim 0 s
  else
    let g := (s.lockGroup p).getD 0
    let num : Int := s.domIn (0x40 + 16 * g) 8 1 (2 ^ 64)
    let den : Int := s.domIn (0x40 + 16 * g + 8) 4 1 (2 ^ 32)
    let phase : Int := (BitVec.ofNat 32 (s.dom (0xC0 + 8 * p + 4) 4)).toInt
    let base : Int := (s.dom 0x18 8 : Int) + phase
    let grid (k : Int) : Int := 1000 * (base + k * num / den)
    let k0 := (t - 1000 * base) * den / (1000 * num)
    let pick (a b : Int) : Int := if (t - grid b).natAbs < (t - grid a).natAbs then b else a
    let err := t - grid (pick (pick k0 (k0 + 1)) (k0 - 1))
    let trim : Int := (-s.peer.rate * 4 * num + err * 1000000 * den + 2000 * num) / (4000 * num)
    let clamped : Int := max (-500) (min 500 trim)
    let small := err.natAbs ≤ 1500000
    let q := s.port p
    let good := if small then q.lockGood + 1 else 0
    let bad := if small then 0 else q.lockBad + 1
    let (st, good, bad) :=
      if st = 1 && 16 ≤ good then (2, good, 0)
      else if st = 2 && 4 ≤ bad then (1, 0, bad)
      else if st = 1 || st = 2 then (st, good, bad)
      else (1, if small then 1 else 0, 0)
    let s := s.setPort p { q with lockGood := min good 16, lockBad := min bad 4 }
    let s := s.put pgPlk f st
    let ns := max (-8388607) (min 8388607 ((err + 500) / 1000))
    let s := s.put pgPlk (F.PLK_LOCK_ERR.at (4 * p)) (ns % 0x1000000).toNat
    setTrim clamped s

/-- The qualification of a port's standby after a frame (R186). -/
def State.qualFrame (s : State) (p : Nat) : State :=
  match s.ownerOf p with
  | none => s.put pgPair (F.PAIR_PORT_QUAL.at (4 * p)) 0
  | some o =>
    let u := s.lane p true
    let ok := s.flag (pgIck p) F.ICK_STATUS_U_ACTIVE && u.lastFrame.isSome && !u.bad && u.mis.isEmpty
    let run := if ok then min 255 ((s.port p).qualRun + 1) else 0
    let s := s.setPort p { s.port p with qualRun := run }
    s.put pgPair (F.PAIR_PORT_QUAL.at (4 * p))
      (if s.get pgPair F.PAIR_CFG_QUAL_FRAMES ≤ run && 0 < run && s.halfState (Half.other o) = hsReady && s.pairLinkOk then 1 else 0)

/-- Did half `h` deliver one whole frame as Owner or Sole (R131)? -/
def State.wholeFrom (s : State) (h : Half) (p : Nat) : Bool :=
  let q := s.port p
  (q.roleFrame h = roleOwner || q.roleFrame h = roleSole) && (match h with | .A => q.wholeA | .B => q.wholeB)

/-- The source of a group at a frame boundary: a decided handover (R204 step 5), after which the former owner must qualify anew (R186), a half that delivered a whole frame (R131), or Status
after two empty frames (R129). -/
def State.frameSource (s : State) (ps : List Nat) : State :=
  let lead := ps.headD 0
  match (s.port lead).ho with
  | some o =>
    if o.phase = 2 then
      let s := s.each ps fun p s =>
        let s := (s.setSource p (Half.num o.target)).put pgPair (F.PAIR_PORT_QUAL.at (4 * p)) 0
        s.setPort p { s.port p with qualRun := 0 }
      s.hoEnd lead 0
    else s.each ps fun p s => match (s.port p).ho with
      | none => s
      | some x => s.setPort p { s.port p with ho := some { x with frames := x.frames + 1 } }
  | none =>
    match s.ownerOf lead with
    | some _ => if ps.any fun p => 2 ≤ (s.port p).emptyFrames then s.each ps fun p s => s.setSource p 2 else s
    | none =>
      if (s.port lead).timing.isSome then s
      else if ps.all (s.wholeFrom .A) then s.each ps fun p s => s.setSource p 0
      else if ps.all (s.wholeFrom .B) then s.each ps fun p s => s.setSource p 1
      else s

/-- The PSR2 bookkeeping of a frame (R135): length of the run of equal frames without a substituted line. -/
def State.psrFrame (s : State) (p : Nat) : State :=
  let q := s.port p
  let crc := some (q.shown ^^^ 0xFFFFFFFF)
  let same := crc = q.psrStored
  let run := if q.psrSub then 0 else if same then min 255 (q.psrRun + 1) else 1
  s.setPort p { q with psrStored := crc, psrRun := run, psrExit := q.psrExit || !same || q.psrSub, psrSub := false }

/-- May a port be in PSR2 in the coming frame (R135)? -/
def State.psrMay (s : State) (p : Nat) : Bool :=
  let q := s.port p
  s.flag (pgScn p) F.SCN_CFG_KIND && s.flag (pgScn p) F.SCN_CFG_PSR_ALLOW && s.flag (pgScn p) F.SCN_CTRL_PSR_EN &&
  (match q.caps with | none => false | some c => c.psr2) && s.get (pgScn p) F.SCN_CFG2_PSR_IDLE ≤ q.psrRun && 0 < q.psrRun

/-- PSR2 of a group at a frame boundary: the ports of a locked pair enter and leave together (R135, R136). An unplug, a lost link or a stop of the
generator is none of the events that end it (log entry 98). A panel that keeps its frame through Night Watch is in PSR2 until its first full frame, which the
link must carry (R367). -/
def State.psrStep (s : State) (ps : List Nat) : State :=
  let inPsr := ps.any fun p => s.flag (pgScn p) F.SCN_STATUS_PSR
  let leave := (ps.any fun p => (s.port p).psrExit) && !(ps.any fun p => (s.port p).psrNight)
  let enter := ps.all s.psrMay
  let s := if inPsr then (if leave then s.each ps fun p s => s.put (pgScn p) F.SCN_STATUS_PSR 0 else s)
    else if enter then s.each ps fun p s => s.put (pgScn p) F.SCN_STATUS_PSR 1 else s
  s.each ps fun p s => s.setPort p { s.port p with psrExit := false }

/-- BL_DELAY runs from the end of the first frame of video in which SRC was not None (R123). -/
def State.blFrameEnd (s : State) (p : Nat) : State :=
  let q := s.port p
  if q.video && s.portSrc p ≠ 3 && q.blStart.isNone && !q.blWant then s.setPort p { q with blStart := some s.time } else s

/-- A port enters the frame that starts at this boundary. -/
def State.frameEnter (s : State) (p : Nat) : State :=
  let q := s.port p
  let s := s.setPort p { q with
    fresh := true, roleFrameA := s.role .A p, roleFrameB := s.role .B p, wholeA := false, wholeB := false, anyComplete := false,
    video := s.flag (pgScn p) F.SCN_LINK_UP, darkFrame := q.darkArm, sinkCount := min 255 (q.sinkCount + 1) }
  let s := s.put (pgScn p) F.SCN_LINE_LINE 0
  let s := s.incMod (pgScn p) F.SCN_FRAME_FRAME
  let s := s.laneRefresh p
  -- the first full frame on a panel that kept its frame through Night Watch ends PSR2 (R367)
  if (s.port p).psrNight && (s.port p).video then
    (s.put (pgScn p) F.SCN_STATUS_PSR 0).setPort p { s.port p with psrNight := false }
  else s

/-- Night Watch and T4 stop a port at a frame boundary (R137, R366); its lock state goes Off (R358). In the condition of R15
every generator keeps running. -/
def State.frameStops (s : State) (p : Nat) : State :=
  let q := s.port p
  let lockOff (s : State) : State := s.put pgPlk (F.PLK_LOCK_STATE.at (4 * p)) 0
  if s.copyFault then s
  else if q.t4Stop then lockOff (s.genStop p false)
  else if q.nightStop = 2 then (s.put (pgScn p) F.SCN_STATUS_PSR 0).setPort p { q with nightStop := 3 }
  else if q.nightStop = 3 then lockOff (((s.put (pgScn p) F.SCN_STATUS_PSR 1).setPort p { q with nightStop := 0 }).genStop p true)
  else if q.nightStop = 1 then lockOff ((s.setPort p { q with nightStop := 0 }).genStop p false)
  else s

/-- PORT_FRAME_BOUNDARY (R110, R112, R124): the frame of line V_TOTAL − 1 ends and line 0 of the next frame starts; a
Plinth switch that waits is taken, both ports of a locked pair at once, so that a pipe commit for that frame and the switch apply to it together (R57,
R58). -/
def execPortFrameBoundary (port : Fin 8) (domainTimePs : Int) (s : State) : Res :=
  let q := s.port port
  let ps := s.group port
  if !q.run || ps.headD port.val ≠ port.val || q.fresh || s.portLine port + 1 ≠ (s.timing port).vTotal then .next s
  else
    let s := s.each ps fun p s =>
      let q := s.port p
      let s := s.setPort p { q with emptyFrames := if (s.ownerOf p).isSome && !q.anyComplete then q.emptyFrames + 1 else 0 }
      ((s.blFrameEnd p).psrFrame p).qualFrame p
    let s := s.frameSource ps
    let s := s.psrStep ps
    let s := s.plinthTake (ps.map itemPort)
    let s := s.each ps fun p s => (s.frameEnter p).darkRelease p
    let s := s.frameLock port domainTimePs
    .next (((s.each ps fun p s => s.frameStops p).nightSettle).rearmGo)

/-- HOLDOVER_EXPIRY (R353): the port goes Off; TRIM is 0 from the next frame boundary. -/
def execHoldoverExpiry (port : Fin 8) (s : State) : Res :=
  .next (if s.get pgPlk (F.PLK_LOCK_STATE.at (4 * port)) = 3 then s.put pgPlk (F.PLK_LOCK_STATE.at (4 * port)) 0 else s)

end Sys2Proof.Machine
end

