-- ==== Sys2Proof/Machine/Loader.lean ====
section
/-! DEFINITION. The Armature loader (R33 to R59, R458, R459): the checks of an image, the operations of the ARM page, the scrub, and live
re-Armature. -/

namespace Sys2Proof.Machine

/-! ## The checks of an image (R41, R458) -/

/-- Where an image lies: a slot, or the xSPI flash from byte 0 (R386). -/
inductive ImgAt where
  | slot (k : Nat)
  | xspi
  deriving DecidableEq, Repr

/-- Bytes of an image. -/
def State.imgBytes (s : State) (i : ImgAt) (off n : Nat) : List Byte :=
  match i with
  | .slot k => s.mramBytes (slotBase k + off) n
  | .xspi => (List.range n).map fun j => Config.xspiByte (off + j)

def State.imgNat (s : State) (i : ImgAt) (off n : Nat) : Nat := leNat (s.imgBytes i off n)

def allZero (bs : List Byte) : Bool := bs.all fun b => b = 0

/-- The FLAGS that a section type must have (R37). -/
def typeFlags (t : Nat) : Nat :=
  if t = 1 || t = 2 || t = 3 then 7 else if t = 4 || t = 5 || t = 0xB || t = 0xE then 6 else 1

/-- A directory entry: TYPE, FLAGS, OFFSET, LENGTH (R36). -/
def State.dirEntry (s : State) (i : ImgAt) (e : Nat) : Nat × Nat × Nat × Nat :=
  let b := 0x1000 + 64 * e
  (s.imgNat i b 2, s.imgNat i (b + 2) 2, s.imgNat i (b + 4) 4, s.imgNat i (b + 8) 4)

/-- SECTION_COUNT, CVT_OFF, SIG_OFF, IMAGE_LEN, GEN, KEYGEN. -/
def State.imgCount (s : State) (i : ImgAt) : Nat := s.imgNat i 0x18 4
def State.imgCvt (s : State) (i : ImgAt) : Nat := s.imgNat i 0x1C 4
def State.imgSig (s : State) (i : ImgAt) : Nat := s.imgNat i 0x20 4
def State.imgLen (s : State) (i : ImgAt) : Nat := s.imgNat i 8 4
def State.imgGen (s : State) (i : ImgAt) : Nat := s.imgNat i 0xC 2
def State.imgKeyGen (s : State) (i : ImgAt) : Nat := s.imgNat i 0xE 2

/-- Check 1 (R458). -/
def State.imgFormat (s : State) (i : ImgAt) : Bool :=
  let n := s.imgCount i
  let cvt := s.imgCvt i
  let sig := s.imgSig i
  let len := s.imgLen i
  let es := (upTo (min n 64)).map (s.dirEntry i)
  let apart (a b : Nat × Nat × Nat × Nat) : Bool := a.2.2.1 + a.2.2.2 ≤ b.2.2.1 || b.2.2.1 + b.2.2.2 ≤ a.2.2.1
  s.imgNat i 0 4 = 0x544D5241 && s.imgNat i 4 2 = 1 && s.imgBytes i 0x10 8 = [0x54, 0x44, 0x38, 0x53, 0x2D, 0x4B, 0x33, 0] &&
  len % 4096 = 0 && 0x4000 ≤ len && len ≤ slotSize && 1 ≤ n && n ≤ 64 &&
  (upTo 16).all (fun t => (es.filter fun e => e.1 = t).length = 1 || t = 0 || (t = 15 && !(es.any fun e => e.1 = 15))) &&
  es.all (fun e => 1 ≤ e.1 && e.1 ≤ 15 && e.2.1 = typeFlags e.1 && e.2.2.1 % 4096 = 0 && 0x2000 ≤ e.2.2.1 && 1 ≤ e.2.2.2 && e.2.2.1 + e.2.2.2 ≤ cvt) &&
  (upTo es.length).all (fun a => (upTo a).all fun b => match es[a]?, es[b]? with
    | some x, some y => apart x y
    | _, _ => true) &&
  (upTo 64).all (fun e => e < n || allZero (s.imgBytes i (0x1000 + 64 * e) 64)) &&
  (upTo (min n 64)).all (fun e => allZero (s.imgBytes i (0x100C + 64 * e) 4)) &&
  cvt % 4096 = 0 && sig + 4096 = len && cvt + 4 + 4 * ((cvt + 0xFFFF) / 0x10000) ≤ sig && allZero (s.imgBytes i 0x58 4008)

/-- One 64 KB block against its check value (R38). -/
def State.blockOk (s : State) (i : ImgAt) (b : Nat) : Bool :=
  let cvt := s.imgCvt i
  crc32c (s.imgBytes i (0x10000 * b) (min 0x10000 (cvt - 0x10000 * b))) = s.imgNat i (cvt + 4 + 4 * b) 4

def State.manifestOk (s : State) (i : ImgAt) : Bool := crc32c (s.imgBytes i 0 0x2000) = s.imgNat i (s.imgCvt i) 4

/-- The first block of those named that fails its check value. -/
def State.badBlock (s : State) (i : ImgAt) : Option Nat :=
  (upTo ((s.imgCvt i + 0xFFFF) / 0x10000)).find? fun b => !(s.blockOk i b)

/-- Check 8: blocks and sections in stream order; where both end at one byte, the block first. RESULT and block. -/
def State.streamCheck (s : State) (i : ImgAt) : Nat × Nat :=
  let cvt := s.imgCvt i
  let bad := s.badBlock i
  let es := ((upTo (min 64 (s.imgCount i))).map fun e => (e, s.dirEntry i e)).filter fun e =>
    fit 48 (Config.sha384 (s.imgBytes i e.2.2.2.1 e.2.2.2.2)) ≠ s.imgBytes i (0x1010 + 64 * e.1) 48
  let sec := (es.map fun e => e.2.2.2.1 + e.2.2.2.2).foldl (fun a x => match a with
    | none => some x
    | some y => some (min x y)) none
  match bad, sec with
  | none, none => (0, 0)
  | some b, none => (7, b)
  | none, some e => (0xA, (e - 1) / 0x10000)
  | some b, some e => if min (0x10000 * (b + 1)) cvt ≤ e then (7, b) else (0xA, (e - 1) / 0x10000)

/-- The checks of R41 in their order: RESULT, and the failed block for CHECK_VALUE and DIGEST. -/
def State.imgCheck (s : State) (i : ImgAt) : Nat × Nat :=
  let m := s.imgBytes i 0 0x2000
  let sig := s.imgSig i
  if !(s.imgFormat i) then (3, 0)
  else if s.lcState ≠ lcProvisioned && s.lcState ≠ lcService then (4, 0)
  else if s.keySlot.isNone || s.imgKeyGen i ≠ s.keyGen then (5, 0)
  else if s.imgGen i < s.get pgArm F.ARM_FLOOR_FLOOR then (6, 0)
  else if !(s.manifestOk i) then (7, 0)
  else if !(s.ecdsaOk m (s.imgBytes i sig 96)) then (8, 0)
  else if !(s.mldsaOk m (s.imgBytes i (sig + 0x60) 3309)) then (9, 0)
  else s.streamCheck i

/-- The LOADER event (R41, R44, R55). -/
def State.loaderEvent (s : State) (slot result step block typ diff : Nat) : State :=
  s.event srcLoader 0x0060 (b1 slot ++ b1 result ++ b1 step ++ b1 0 ++ b4 block ++ b2 typ ++ b2 0 ++ b4 diff)

/-- A slot shown in ARM_ACTIVE is in force (R51). -/
def State.slotInForce (s : State) (k : Nat) : Bool := s.slotOf .A = k || s.slotOf .B = k || s.slotOf .P = k

/-- The check of a slot is recorded in ARM_SLOTn; a failure writes one LOADER event. -/
def State.slotChecked (s : State) (k : Nat) (r : Nat × Nat) : State :=
  let s := s.setSlotGen k (s.imgGen (.slot k))
  let s := s.setSlotState k (if r.1 = 0 then ssValid else ssInvalid)
  if r.1 = 0 then s else s.loaderEvent k r.1 0 r.2 0 0

/-! ## Commands of the ARM page -/

/-- A command ends at once with a RESULT, which the status screen shows too (R132). DESIGN CHOICE (log entry 103): an operation of the same half that
still runs goes on with BUSY = 1, while OP, DONE and RESULT already show the answer to the later command; the manual is silent. -/
def State.armAnswer (s : State) (h : Half) (result : Nat) : State :=
  let s := { s with start := { s.start with cause := result } }
  let s := s.put (pgArmH h) F.ARM_STATUS_DONE 1
  (s.put (pgArmH h) F.ARM_STATUS_RESULT result).raise (halfPg h 0x2003)

/-- Does an operation run (R52)? -/
def State.armBusy (s : State) : Bool := s.arm.isSome || s.rearm.isSome

/-- The frame of a command other than ABORT (R52). -/
def armCommand (rq : Requester) (op : Nat) (s : State) (f : State → Res) : Res :=
  hostWrite rq (pgArmH rq.half) s fun s =>
    let s := s.put (pgArmH rq.half) F.ARM_STATUS_OP op
    if s.copyFault then .next (s.armAnswer rq.half 3)
    else if s.armBusy then .next (s.armAnswer rq.half 1)
    else f s

/-- An operation starts. -/
def State.armStart (s : State) (h : Half) (o : ArmOp) : State :=
  ({ s with arm := some o }).put (pgArmH h) F.ARM_STATUS_BUSY 1

/-- The unpredictable result of R53: it reaches the ARM operation of the half and the target slot. -/
def State.armWild (s : State) (h : Half) (slot : Nat) : State :=
  let w := Config.wild s.free
  let s := { s with free := s.free + 1 }
  let s := s.setMram (slotBase slot) (w.mramBytes (slotBase slot) slotSize)
  let s := s.wildStatus pgArm [F.ARM_SLOT_STATE.at (4 * slot), F.ARM_SLOT_GEN.at (4 * slot)]
  let s := s.wildStatus (pgArmH h) [F.ARM_STATUS_DONE, F.ARM_STATUS_RESULT]
  s.whenB (w.free % 2 = 1) fun s => s.raise (halfPg h 0x2003)

/-- ARM_WRITE (R51, R53): the copy begins and the slot shows Writing. A length out of range leaves the outcome of the operation and the slot free
(log entry 81): the operation is over, and the slot's bytes, state and generation are those of an unknown state. -/
def execArmWrite (rq : Requester) (slot : Fin 2) (s : State) : Res :=
  armCommand rq 1 s fun s =>
    let n := s.get (pgArmH rq.half) F.ARM_LEN_BLOCKS
    if s.slotInForce slot then .next (s.armAnswer rq.half 2)
    else if n < 4 || 6144 < n then .next (s.armWild rq.half slot)
    else
      let o : ArmOp := { source := .half rq.half, op := 1, slot := slot, pageBase := s.get (pgArmH rq.half) F.ARM_SRC_PAGE, blocks := n }
      .next ((s.armStart rq.half o).setSlotState slot ssWriting)

/-- ARM_VERIFY (R41). -/
def execArmVerify (rq : Requester) (slot : Fin 2) (s : State) : Res :=
  armCommand rq 2 s fun s =>
    .next (s.armStart rq.half { source := .half rq.half, op := 2, slot := slot, checking := true })

/-- ARM_ERASE (R51): zeros over all of the slot. DESIGN CHOICE (log entry 102): while it runs the slot shows Writing, as with a WRITE; the manual names no
state before Empty. -/
def execArmErase (rq : Requester) (slot : Fin 2) (s : State) : Res :=
  armCommand rq 3 s fun s =>
    if s.slotInForce slot then .next (s.armAnswer rq.half 2)
    else .next ((s.armStart rq.half { source := .half rq.half, op := 3, slot := slot }).setSlotState slot ssWriting)

/-- ARM_REARM (R55, R380): the checks begin; BUSY during Inspection. -/
def execArmRearm (rq : Requester) (slot : Fin 2) (s : State) : Res :=
  armCommand rq 4 s fun s =>
    if s.insp.isSome then .next (s.armAnswer rq.half 1)
    else .next (({ s with rearm := some { source := rq.half, slot := slot } }).put (pgArmH rq.half) F.ARM_STATUS_BUSY 1)

/-- The GEN of the slot in force. -/
def State.genInForce (s : State) (d : Die) : Nat := s.imgGen (.slot (s.slotOf d))

/-- ARM_RAISE_FLOOR: BUSY while MIXED = 1; the floor is never lowered. -/
def execArmRaiseFloor (rq : Requester) (s : State) : Res :=
  armCommand rq 5 s fun s =>
    if s.flag pgArm F.ARM_ACTIVE_MIXED then .next (s.armAnswer rq.half 1)
    else
      let v := max (s.get pgArm F.ARM_FLOOR_FLOOR) (s.genInForce .P)
      .next (((s.put pgArm F.ARM_FLOOR_FLOOR v).setMram (storeBase + 0x30) (b2 v)).armAnswer rq.half 0)

/-- A REARM stops with a RESULT, an earlier reason before it (R59): each of its handovers that has not moved its port ends as a CANCEL ends it, and
every port stays with the half that holds it. -/
def State.rearmFail (s : State) (result : Nat) : State :=
  match s.rearm with
  | none => s
  | some a =>
    let mine := match s.hoRun with
      | some r => r.source = .rearm
      | none => false
    let s := { s with rearm := some { a with stop := some (a.stop.getD result) } }
    (s.whenB mine fun s => s.hoEndAll 7).rearmGo

/-- ARM_ABORT (R52, R59): accepted only before step 3 of a REARM. DESIGN CHOICE (log entry 123): the half that writes an accepted ABORT while the other
half's REARM runs sees OK; the manual gives the REARM its RESULT, ABORTED, but not the ABORT. -/
def execArmAbort (rq : Requester) (s : State) : Res :=
  hostWrite rq (pgArmH rq.half) s fun s =>
    let s := s.put (pgArmH rq.half) F.ARM_STATUS_OP 6
    if s.copyFault then .next (s.armAnswer rq.half 3)
    else match s.rearm with
      | none => .next (s.armAnswer rq.half (if s.arm.isSome then 1 else 0))
      | some a =>
        if 3 ≤ a.step then .next (s.armAnswer rq.half 1)
        else .next ((s.whenB (a.source ≠ rq.half) fun s => s.armAnswer rq.half 0).rearmFail 0xF)

/-! ## Copies and erasures -/

/-- The bytes of block k of a copy, read with the Trusted tag of the issuing half (R53), or from xSPI (R386). -/
def State.armBlock (s : State) (o : ArmOp) (k : Nat) : List Byte :=
  match o.source with
  | .half h => s.bytesAt h tagTrusted .read (o.pageBase * 4096 + 4096 * k) 4096
  | _ => (List.range 4096).map fun i => Config.xspiByte (4096 * k + i)

/-- The loader reads block k of its source, counts what the region controller refuses (R215), and writes it to the slot (R459). -/
def State.armCopy (s : State) (o : ArmOp) (k : Nat) : State :=
  let bs := s.armBlock o k
  let s := match o.source with
    | .half h => s.noteRead h tagTrusted .read (o.pageBase * 4096 + 4096 * k) 4096
    | _ => s
  s.setMram (slotBase o.slot + 4096 * k) bs

/-- Does the loader itself copy the image: from a source buffer or from xSPI? Images from the service port, PCIe and the Peer Link are written as
they arrive. -/
def ArmOp.copies (o : ArmOp) : Bool :=
  match o.source with
  | .half _ => true
  | _ => o.inPlace

/-- The blocks of a copy up to `upto` bytes that are not in the slot yet are read and written in ascending order (R459). -/
def State.armCopyTo (s : State) (o : ArmOp) (upto : Nat) : State :=
  let s := { s with arm := some { o with sent := upto } }
  s.each (List.range' (o.sent / 4096) (upto / 4096 - o.sent / 4096)) fun k s => s.armCopy o k

/-- One microsecond of a copy at 80 MB/s (R459). In the condition of R15 no MRAM is written (R52). -/
def State.armTick (s : State) : State :=
  match s.arm with
  | none => s
  | some o =>
    if o.op ≠ 1 || o.checking || !o.copies || s.copyFault then s else s.armCopyTo o (min (o.blocks * 4096) (o.sent + 80))

/-- An operation that the condition of R15 met cannot write MRAM any more (R52): it ends with FORMAT, and the slot it wrote is Invalid (log entry 105). -/
def State.armBroken (s : State) (o : ArmOp) : State := (s.setSlotState o.slot ssInvalid).armEnd o.source 3

/-- ARM_COPY_DONE (R53, R386, R459): what is left of the copy is in the slot, and its check begins. -/
def execArmCopyDone (s : State) : Res :=
  match s.arm with
  | none => .next s
  | some o =>
    if o.op ≠ 1 || o.checking || !o.copies then .next s
    else if s.copyFault then .next (s.armBroken o)
    else
      let s := s.armCopyTo o (o.blocks * 4096)
      .next { s with arm := some { o with sent := o.blocks * 4096, checking := true } }

/-- ARM_ERASE_DONE: the slot is Empty. -/
def execArmEraseDone (s : State) : Res :=
  match s.arm with
  | none => .next s
  | some o =>
    if o.op ≠ 3 then .next s
    else if s.copyFault then .next (s.armBroken o)
    else
      let s := { s with mram := memClear s.mram (slotBase o.slot) slotSize }
      let s := (s.setSlotState o.slot ssEmpty).setSlotGen o.slot 0
      .next (s.armEnd o.source 0)

/-- A power loss meets a copy or an erasure: it stops at a word boundary, which one is a free value (R51, R409). The blocks copied before stay as they
were read; of the next one some words may be in the slot. -/
def State.armCut (s : State) : State :=
  match s.arm with
  | none => s
  | some o =>
    if o.checking || (o.op ≠ 1 && o.op ≠ 3) || (o.op = 1 && !o.copies) then { s with arm := none }
    else
      let (v, s) := s.takeFree
      let s := { s with arm := none }
      if s.copyFault then s
      else if o.op = 3 then { s with mram := memClear s.mram (slotBase o.slot) (4 * (v % (slotSize / 4 + 1))) }
      else if o.blocks * 4096 ≤ o.sent then s
      else s.setMram (slotBase o.slot + o.sent / 4096 * 4096) ((s.armBlock o (o.sent / 4096)).take (4 * (v % 1025)))

/-! ## Scrub (R44) -/

/-- SCRUB_DUE: the scrub begins in a Service mode, or at the next entry to one. -/
def execScrubDue (s : State) : Res :=
  if s.scrub.since.isNone then .next s
  else .next (if isService s.mode then s.scrubBegin else { s with scrub := { s.scrub with due := true } })

/-- SCRUB_SLOT_DONE (DESIGN CHOICE, log entry 125: a scrub under way goes on to its end where MODE leaves the Service modes): the slot's manifest and block check values have been compared; while an operation runs the scrub pauses, and a slot that is not
Valid any more when the scrub reads it again is skipped. -/
def execScrubSlotDone (s : State) : Res :=
  match s.scrub.reading with
  | none => .next s
  | some k =>
    if s.armBusy then .next s
    else
      let i := ImgAt.slot k
      let bad := if s.slotState k ≠ ssValid then none else if !(s.manifestOk i) then some 0 else s.badBlock i
      let s := match bad with
        | none => s
        | some b => (s.setSlotState k ssInvalid).loaderEvent k 7 0 b 0 0
      .next { s with scrub := { s.scrub with reading := s.scrubNext (k + 1) } }

/-! ## Live re-Armature (R54 to R59) -/

/-- The first difference of two byte strings, the length of the shorter where it is a prefix. -/
def firstDiff : List Byte → List Byte → Option Nat
  | [], [] => none
  | [], _ :: _ => some 0
  | _ :: _, [] => some 0
  | a :: r, b :: t => if a = b then (firstDiff r t).map (· + 1) else some 0

/-- The bytes of a section of a slot. -/
def State.secBytes (s : State) (slot typ : Nat) : List Byte :=
  match s.section? slot typ with
  | none => []
  | some (o, n) => s.mramBytes (slotBase slot + o) n

/-- The checks of R55: the failing step with, at step 4, section type and offset. DESIGN CHOICE (log entry 101): of several sections that differ the
one with the lowest type is the first; the manual names no order. -/
def State.rearmChecks (s : State) (slot : Nat) : Option (Nat × Nat × Nat) :=
  let gen := s.imgGen (.slot slot)
  let stale := [Die.A, Die.B, Die.P].filter fun d => s.slotOf d ≠ slot
  let decl := s.secBytes slot 15
  let word (o : Nat) : Nat := leNat (fit 4 (decl.drop o))
  let preds := (upTo (min 8 (word 0))).map fun k => fit 48 (decl.drop (8 + 48 * k))
  let known := [Die.A, Die.B, Die.P].any fun d => preds.contains (fit 48 (s.manifestHash (s.slotOf d)))
  let unchanged := (List.range' 1 15).filter fun t => (word 4).testBit t
  let diffs := unchanged.filterMap fun t => (firstDiff (s.secBytes slot t) (s.secBytes (s.slotOf .P) t)).map fun o => (t, o)
  if s.slotState slot ≠ ssValid || stale.any (fun d => gen ≤ s.genInForce d) then some (1, 0, 0)
  else if decl.isEmpty || !known then some (2, 0, 0)
  else if !(unchanged.contains 3 && unchanged.contains 6) then some (3, 0, 0)
  else match diffs with
    | [] => none
    | (t, o) :: _ => some (4, t, o)

/-- The half that reloads first, and the step at which a REARM begins or resumes (R57, R59). DESIGN CHOICE (log entry 124): with both halves on the
target slot only steps 7 and 8 are left, and the half that owns fewer ports counts as the second; the manual does not say which half then is first. -/
def State.rearmPlan (s : State) (slot : Nat) : Half × Nat :=
  let a := s.slotOf .A = slot
  let b := s.slotOf .B = slot
  let fewer : Half := if (s.owned .A).length < (s.owned .B).length then .A else .B
  if a && b then (Half.other fewer, 7) else if a then (.A, 4) else if b then (.B, 4) else (fewer, 2)

/-- REARM_CHECKS_DONE (R55, R57, R59): a failure ends with INCOMPATIBLE; else the first half's ports are handed over, or a REARM that was
stopped goes on with the dies not yet on the slot. -/
def execRearmChecksDone (s : State) : Res :=
  match s.rearm with
  | none => .next s
  | some a =>
    if a.step ≠ 1 then .next s
    else match s.rearmChecks a.slot with
      | some (step, typ, off) =>
        let s := s.whenB (step = 4) fun s => s.put (pgArmH a.source) F.ARM_DIFF_OFFSET off
        .next ((s.loaderEvent a.slot 0xB step 0 typ off).rearmStop 0xB)
      | none =>
        let (first, step) := s.rearmPlan a.slot
        let a := { a with first := first, step := step }
        let s := { s with rearm := some a }
        let ps := s.rearmPorts a
        if step ≠ 2 || ps.isEmpty || s.hoRun.isSome then .next s.rearmGo
        else if ps.all (fun p => s.qualified (Half.other first) p) then .next (s.hoStart .rearm (Half.other first) ps)
        else .next (s.rearmFail 0x10)

/-- The half that takes the ports of a step of a REARM. -/
def Rearm.target (a : Rearm) : Half := if a.step = 4 then a.first else Half.other a.first

/-- May the handover of a port be issued: steps 5 and 7, once the half that was reset is Ready (R59), and step 2 where another request ran
when it began. -/
def State.rearmMay (s : State) (a : Rearm) (p : Nat) : Bool :=
  (a.step = 2 || a.step = 4 || a.step = 7) && a.stop.isNone && s.halfState (Rearm.target a) = hsReady && (s.rearmPorts a).contains p && (s.port p).ho.isNone

/-- REARM_HANDOVER_ISSUE (R57 steps 5 and 7, R59): a standby pipe that a handover waits for is qualified. -/
def execRearmHandoverIssue (port : Fin 8) (s : State) : Res :=
  match s.rearm with
  | none => .next s
  | some a =>
    let t := Rearm.target a
    let free := match s.hoRun with
      | none => true
      | some r => r.source = .rearm
    .next (if free && s.rearmMay a port && (s.group port).all (fun p => s.qualified t p) then s.hoStart .rearm t (s.group port) else s)

/-- REARM_QUAL_TIMEOUT (R59): HO_TIMEOUT frames of a port have passed in which its handover could not be issued. -/
def execRearmQualTimeout (port : Fin 8) (s : State) : Res :=
  match s.rearm with
  | none => .next s
  | some a => .next (if s.rearmMay a port then s.rearmFail 0x10 else s)

/-- REARM_START_WINDOW_TIMEOUT (R59): the half that was reset is not Ready within the start window. -/
def execRearmStartWindowTimeout (s : State) : Res :=
  match s.rearm with
  | none => .next s
  | some a =>
    let half := if a.step = 3 || a.step = 4 then some a.first else if a.step = 6 || a.step = 7 then some (Half.other a.first) else none
    .next (match half with
      | none => s
      | some h => if s.halfState h = hsReady then s else s.rearmFail 0x10)

end Sys2Proof.Machine
end

