-- ==== Sys2Proof/Machine/Patina.lean ====
section
/-! DEFINITION. The Patina recorder (R416 to R431): the ring and the snapshot descriptors in MRAM, and the commands of the
PAT page. -/

namespace Sys2Proof.Machine

/-- The 36 DATA bytes of an event. -/
def padTo (n : Nat) (bs : List Byte) : List Byte := (bs ++ List.replicate n 0).take n

/-- The 64 bytes of an event (R418). -/
def PatEvent.bytes (e : PatEvent) : List Byte :=
  let body := leBytes 8 (e.seq % 2 ^ 48) ++ leBytes 8 e.time ++ b2 e.src ++ b2 e.code ++ b1 (e.mode + 16 * e.tier) ++
    b1 ((if e.trig then 1 else 0) + (if e.host then 2 else 0) + (if e.gap then 4 else 0)) ++ b2 0 ++ padTo 36 e.data
  body ++ b4 (crc32c body)

/-- The bytes of ring slot i. -/
def State.ringSlot (s : State) (i : Nat) : List Byte := s.mramBytes (ringBase + 64 * (i % ringSlots)) 64

/-- The SEQ of a slot that holds a valid event (R418, R421). -/
def slotSeq (bs : List Byte) : Option Nat :=
  if leNat (bs.drop 60) = crc32c (bs.take 60) then some (leNat (bs.take 6)) else none

/-- The ring slots that hold any written byte. -/
def State.ringUsed (s : State) : List Nat :=
  s.mram.foldl (fun l c => if ringBase ≤ c.1 && c.1 < ringBase + 64 * ringSlots then
    (let i := (c.1 - ringBase) / 64; if l.head? = some i then l else i :: l) else l) []

/-- Every valid event of the ring as (SEQ, slot), in SEQ order. -/
def State.ringEvents (s : State) : List (Nat × Nat) :=
  s.ringUsed.foldl (fun l i => match slotSeq (s.ringSlot i) with | none => l | some q => tblInsert q i l) []

def State.descBytes (s : State) (p : Nat) : List Byte := s.mramBytes (descBase + 0x100 * p) 256

/-- Does position p hold a descriptor whose CRC verifies (R426)? -/
def State.descValid (s : State) (p : Nat) : Bool := leNat ((s.descBytes p).drop 0xFC) = crc32c ((s.descBytes p).take 0xFC)

/-- FIRST_SEQ and LAST_SEQ of a descriptor. -/
def State.descRange (s : State) (p : Nat) : Nat × Nat :=
  (s.mramNat (descBase + 0x100 * p + 8) 8, s.mramNat (descBase + 0x100 * p + 0x80) 8)

/-- Is SEQ q frozen: held by a valid snapshot, or among the last 4,096 events while one is Closing (R423)? -/
def State.seqFrozen (s : State) (q : Nat) : Bool :=
  (upTo 8).any (fun p => s.snapValid p && (s.descRange p).1 ≤ q && q ≤ (s.descRange p).2) ||
  (match s.pat.closing with
   | none => false
   | some c => match c.closed with
     | none => s.pat.nextSeq ≤ q + 4096
     | some (l, _) => l ≤ q + 4095 && q ≤ l)

/-- The first slot from i on that is not frozen (R421). -/
def State.freeSlot (s : State) : Nat → Nat → Nat
  | 0, i => i % ringSlots
  | n + 1, i => match slotSeq (s.ringSlot i) with
    | none => i % ringSlots
    | some q => if s.seqFrozen q then s.freeSlot n (i + 1) else i % ringSlots

/-- One event is written to the ring (R421); PAT_SEQ shows it. -/
def State.ringWrite (s : State) (e : PatEvent) : State :=
  let i := s.freeSlot ringSlots s.pat.nextSlot
  let s := s.setMram (ringBase + 64 * i) e.bytes
  let s := { s with pat := { s.pat with nextSlot := (i + 1) % ringSlots } }
  let s := s.put pgPat F.PAT_SEQ_LO_SEQ (e.seq % 2 ^ 32)
  s.put pgPat F.PAT_SEQ_HI_SEQ (e.seq / 2 ^ 32)

/-- The oldest n buffered events are written. -/
def State.flushN (s : State) (n : Nat) : State :=
  let now := s.pat.buf.take n
  ({ s with pat := { s.pat with buf := s.pat.buf.drop n } }).each now fun e s => s.ringWrite e

/-- The descriptor of a closing snapshot, CRC last (R425). -/
def State.descOf (s : State) (c : PatClosing) (last time : Nat) : List Byte :=
  let first := last - min (last - 1) 4095
  let head (lock : Nat) := b4 c.number ++ b1 lock ++ b1 0 ++ b2 c.code ++ leBytes 8 first ++ leBytes 8 c.trigSeq ++ leBytes 8 time
  let held := (s.ringEvents.filter fun e => first ≤ e.1 && e.1 ≤ last).flatMap fun e => s.ringSlot e.2
  let digest := Config.sha384 (c.prev ++ head 0 ++ held)
  let body := padTo 0xFC (head (if c.lock then 1 else 0) ++ c.prev ++ padTo 48 digest ++ leBytes 8 last)
  body ++ b4 (crc32c body)

/-- A snapshot closes: its events reach MRAM, then its descriptor (R423). -/
def State.closeSnap (s : State) : State :=
  match s.pat.closing with
  | none => s
  | some c =>
    let (last, time) := c.closed.getD (s.pat.nextSeq - 1, s.time)
    let s := { s with pat := { s.pat with closing := some { c with closed := some (last, time) } } }
    let s := s.flushN (s.pat.buf.filter fun e => e.seq ≤ last).length
    let s := s.setMram (descBase + 0x100 * c.pos) (s.descOf c last time)
    let s := s.putBit pgPat F.PAT_STATUS_VALID c.pos true
    let s := s.putBit pgPat F.PAT_STATUS_LOCKED c.pos c.lock
    let s := s.put pgPat F.PAT_STATUS_CLOSING 0
    { s with pat := { s.pat with closing := none } }

/-- PATINA_MRAM_WRITE (R417): up to n buffered events, at most 64 in one ms, and none during the start read. -/
def execPatinaMramWrite (n : Nat) (s : State) : Res :=
  if s.flag pgPat F.PAT_STATUS_SCAN then .next s
  else
    let ms := s.time / 1000
    let used := if s.pat.rateMs = ms then s.pat.rateCount else 0
    let k := min (min n s.pat.buf.length) (64 - used)
    let s := s.flushN k
    .next { s with pat := { s.pat with rateMs := ms, rateCount := used + k } }

/-- The start read ends (R421, R426): the newest event and the valid descriptors are known; the events that arose during the read are
numbered. Events still buffered from before a START of Maquette keep their numbers. -/
def State.scanDone (s : State) : State :=
  if !(s.flag pgPat F.PAT_STATUS_SCAN) then s
  else
    let newest := s.ringEvents.getLast?
    let q := match newest with | none => 0 | some e => e.1
    let slot := match newest with | none => 0 | some e => (e.2 + 1) % ringSlots
    let s := s.put pgPat F.PAT_STATUS_SCAN 0
    let s := s.put pgPat F.PAT_SEQ_LO_SEQ (q % 2 ^ 32)
    let s := s.put pgPat F.PAT_SEQ_HI_SEQ (q / 2 ^ 32)
    let s := s.each ((upTo 8).filter fun p => (s.pat.closing.map PatClosing.pos) ≠ some p) fun p s =>
      let v := s.descValid p
      (s.putBit pgPat F.PAT_STATUS_VALID p v).putBit pgPat F.PAT_STATUS_LOCKED p (v && s.mramNat (descBase + 0x100 * p + 4) 1 = 1)
    let early := s.pat.early
    let gap := s.pat.gap
    let s := { s with pat := { s.pat with early := [], gap := false, nextSeq := max (q + 1) s.pat.nextSeq, nextSlot := slot } }
    let s := s.each early fun e s => s.record e
    { s with pat := { s.pat with gap := s.pat.gap || gap } }

/-- PATINA_SCAN_DONE (R421). -/
def execPatinaScanDone (s : State) : Res := .next s.scanDone

/-- SNAPSHOT_CLOSE (R423). -/
def execSnapshotClose (s : State) : Res := .next s.closeSnap

/-- The die of an issuing half in SRC (R418). -/
def halfSrc (h : Half) (page : Nat) : Nat := srcOf (halfPg h page)

/-- PAT_HOST_EVENT (R419): the event carries PAT_HOST0 to PAT_HOST8. -/
def execPatHostEvent (rq : Requester) (code : BitVec 12) (s : State) : Res :=
  hostWrite rq pgPat s fun s =>
    .next (s.event (halfSrc rq.half 0x48) (0xF000 + code.toNat) ((upTo 9).flatMap fun w => b4 (s.reg pgPat (0x40 + 4 * w)).toNat)
      (trig := false) (host := true))

/-- PAT_SNAP (R422): the SNAP event is the trigger. -/
def execPatSnap (rq : Requester) (s : State) : Res :=
  hostWrite rq pgPat s fun s => .next (s.event (srcOf pgPat) 0x0005 (b1 (Half.num rq.half + 1)) (trig := true))

/-- LOCK of position p takes a value (R424, R430): in the descriptor, or in the one still to be written. -/
def State.setLock (s : State) (p : Nat) (v : Bool) : State :=
  if s.snapValid p then
    let a := descBase + 0x100 * p
    let s := s.setMram (a + 4) (b1 (if v then 1 else 0))
    let s := s.setMram (a + 0xFC) (b4 (crc32c (s.mramBytes a 0xFC)))
    s.putBit pgPat F.PAT_STATUS_LOCKED p v
  else match s.pat.closing with
    | none => s
    | some c => if c.pos = p then { s with pat := { s.pat with closing := some { c with lock := v } } } else s

/-- PAT_LOCK (R424). -/
def execPatLock (rq : Requester) (pos : Fin 8) (s : State) : Res := hostWrite rq pgPat s fun s => .next (s.setLock pos true)

/-- PAT_UNLOCK (R424). -/
def execPatUnlock (rq : Requester) (pos : Fin 8) (s : State) : Res := hostWrite rq pgPat s fun s => .next (s.setLock pos false)

/-- PAT_SLOT_READ (R428, R429): the read of a slot's first word copies the slot. -/
def execPatSlotRead (rq : Requester) (index : Fin 64) (s : State) : Res :=
  hostRead rq pgPat s (fun s =>
    let bs := s.ringSlot (s.get pgPat F.PAT_RSEL_SLOT + index)
    .next { s with pat := { s.pat with copies := tblInsert index bs s.pat.copies }, reply := .ok (leNat (bs.take 4)) }) (0x1000 + 64 * index.val)

end Sys2Proof.Machine
end

