-- ==== Sys2Proof/Machine/Twin.lean ====
section
/-! DEFINITION. The two halves (R184 to R206, R461, R462): heartbeats, mirror writes and the twin link, and the commands of the PAIR
and TWN pages. -/

namespace Sys2Proof.Machine

/-! ## Heartbeats (R188, R189) -/

/-- How many heartbeats are on the control link at once: retries end within 0.45 µs, and one is sent every 0.25 µs (R188, R189). -/
def hbInFlight : Nat := 2

/-- HEARTBEAT_SEND (R188): only a running half whose heartbeat is not withheld sends one, with its state and its count, over the control link
and, while the link is up, over the twin link; the count moves on. -/
def execHeartbeatSend (h : Half) (s : State) : Res :=
  let hs := s.hs h
  if hs.stage ≠ .running || hs.hbWithheld then .next s
  else
    let n := (hs.hbCount + 1) % 65536
    let beat := (s.halfState h, n)
    let s := s.setHs h { hs with hbCount := n, hbLink := (beat :: hs.hbLink).take hbInFlight }
    let o := Half.other h
    .next (if s.flag (pgTwn h) F.TWN_STATUS_LINK then s.setHs o { s.hs o with hbPeer := some beat } else s)

/-- Is a heartbeat's count above the last accepted, modulo 2^16 (R189, log entry 114)? -/
def hbFresh (acc : Option Nat) (count : Nat) : Bool :=
  match acc with
  | none => true
  | some a => let d := (count + 65536 - a) % 65536; 1 ≤ d && d < 32768

/-- HEARTBEAT_RECEIVE (R189): a heartbeat on the half's control link reaches the pair supervisor, the newest or, where it is late, one before it;
one whose count is at or below the last accepted is discarded. -/
def execHeartbeatReceive (h : Half) (late : Nat) (s : State) : Res :=
  let hs := s.hs h
  match hs.hbLink[late]? with
  | none => .next s
  | some (st, n) =>
    let hs := { hs with hbLink := hs.hbLink.erase (st, n) }
    .next (s.setHs h (if hbFresh hs.hbAcc n then { hs with hbAcc := some n } else hs))

/-- HEARTBEAT_TIMEOUT (R189, R190, R382): the half is declared Lost, and the pair supervisor requests its reset at once; a heartbeat that
Inspection withholds gives the reset its cause. -/
def execHeartbeatTimeout (h : Half) (s : State) : Res :=
  if !(s.inService h) then .next s
  else
    let cause := if (s.hs h).hbWithheld then 7 else 2
    .next ((((s.declareLost h 1).syncCheck).halfResetReq h cause).rearmGo)

/-! ## Mirror writes (R196 to R198) -/

/-- MIRROR_WRITE (R196 to R198): a write of a requester of the half to a mirror region, block by block under the requester's tag; while the
queue of 4,096 has no room the writer waits, and the half that is not the source refuses it as any region refusal (R215). -/
def execMirrorWrite (rq : Requester) (addr : Nat) (bytes : List Byte) (s : State) : Res :=
  let h := rq.half
  let t := s.rqTag rq
  let blocks := (blocksOf addr bytes.length).filter fun b => (s.mirrorOf h b).isSome
  if s.mirFull h addr bytes.length then .next s
  else
    let refused := blocks.any fun b => !(s.admitBlock h t .write b)
    let s := s.each blocks fun b s => s.writeAt h t (blockPart addr bytes b).1 (blockPart addr bytes b).2
    .next (if Issuer.core rq.by_ && refused then s.accessFault else s)

/-- Tokens of TWN_MFENCE are acknowledged in their order, each once every earlier mirror write is applied or marked (R197). -/
def State.mfenceCheck (s : State) (h : Half) : State :=
  let met := (s.hs h).mfence.takeWhile fun e => e.2 ≤ (s.hs h).mirDone
  match met.getLast? with
  | none => s
  | some (tok, _) =>
    (s.setHs h { s.hs h with mfence := (s.hs h).mfence.drop met.length }).put (pgTwn h) F.TWN_MACK_TOKEN tok.toNat

/-- MIRROR_WRITE_APPLY (R197): the oldest write of the half's queue takes the slot that is due of its channel in the other half's DRAM, as requester
13 and where R266 grants it that slot, and is written there; else it waits. -/
def execMirrorWriteApply (h : Half) (s : State) : Res :=
  let o := Half.other h
  match s.mirrorReq o with
  | none => .next s
  | some q =>
    let c := dramChan q.addr
    .next (if s.dramUp o c && s.grant o c 0 = .request q then (s.slotNext o c).mirrorApply o q else s)

/-- TWN_MFENCE (R197): the token waits for every mirror write issued before it. -/
def execTwnMfence (rq : Requester) (token : Word) (s : State) : Res :=
  hostWrite rq (pgTwn rq.half) s fun s =>
    .next (s.setHs rq.half { s.hs rq.half with mfence := (s.hs rq.half).mfence ++ [(token, (s.hs rq.half).mirSent)] })

/-- MFENCE_ACKNOWLEDGE (R197). -/
def execMfenceAcknowledge (h : Half) (s : State) : Res := .next (s.mfenceCheck h)

/-! ## The twin link (R198, R199, R246) -/

/-- TWIN_LINK_DOWN (R199): the writes that wait are marked dirty, ALERT_N asserts, and of two Ready halves the one that owns fewer ports, Half B
on a tie, becomes Syncing. -/
def execTwinLinkDown (s : State) : Res :=
  let both := s.halfState .A = hsReady && s.halfState .B = hsReady
  let mover := if (s.owned .A).length < (s.owned .B).length then Half.A else Half.B
  let s := s.each [Half.A, Half.B] fun h s =>
    if !(s.inService h) then s
    else
      let s := s.put (pgTwn h) F.TWN_STATUS_LINK 0
      let s := s.put (pgTwn h) F.TWN_STATUS_DOWN 1
      let s := ((s.queueDirty h).twinDrop h).mfenceCheck h
      s.put (pgTwn h) F.TWN_STATUS_SYNC 0
  let s := s.alert
  .next (if both then s.setHalfState mover hsSyncing else s)

/-- TWIN_LINK_UP (R198, R246): catch-up starts in both halves, and each Running hub sends its whole state. -/
def execTwinLinkUp (s : State) : Res :=
  let s := s.each [Half.A, Half.B] fun h s => if s.inService h then s.put (pgTwn h) F.TWN_STATUS_LINK 1 else s
  let s := (s.catchupStart .A).catchupStart .B
  let s := if s.inService .A && s.inService .B then (s.twinSync .A).twinSync .B else s
  .next s.syncCheck

/-- TWN_MIR_SRC_WRITE (R200): a 0 in the bit of a region that this half sources hands the region over; other bits are ignored. -/
def execTwnMirSrcWrite (rq : Requester) (value : Word) (s : State) : Res :=
  let h := rq.half
  hostWrite rq (pgTwn h) s fun s =>
    if 65536 ≤ value.toNat then .next (s.unpredictable (pgTwn h) 4)
    else
      let new := (upTo 16).filter fun m =>
        s.mirrorSrc h m && !(value.toNat.testBit m) && !((s.hs h).mirHand.any fun r => r.region = m)
      let hand (m : Nat) : MirHand := ⟨m, (s.hs h).mirSent, (s.hs h).dirty.filter fun g => s.inMirror h (g * 65536) m⟩
      .next (s.setHs h { s.hs h with mirHand := (s.hs h).mirHand ++ new.map hand })

/-- MIRROR_SOURCE_SWAP (R200): once every copy of the region that was made or owed before the request is acknowledged, both region
controllers swap. -/
def execMirrorSourceSwap (region : Fin 16) (s : State) : Res :=
  let go (h : Half) (s : State) : State :=
    let o := Half.other h
    let m := region.val
    match (s.hs h).mirHand.find? fun r => r.region = m with
    | none => s
    | some r =>
      if s.inService o && (s.handQueue h r).isEmpty && r.granules.isEmpty then
        let s := s.setHs h { s.hs h with mirHand := (s.hs h).mirHand.filter fun x => x.region ≠ m }
        (s.putBit (pgTwn h) F.TWN_MIR_SRC_SRC m false).putBit (pgTwn o) F.TWN_MIR_SRC_SRC m true
      else s
  .next (go .B (go .A s))

/-! ## Planned handovers (R201 to R205, R461) -/

/-- The shadow words of a CMP page in ascending order as four bytes each. -/
def digestOffsets : List Nat := ((List.range 0xE00).map fun i => 4 * i).filter isShadow

def digestWord (l : List (Nat × Word)) (page off : Nat) : Word :=
  (tblFind (page * 0x10000 + off) l).getD (regReset ((pgCmp .A page).key off))

/-- The CRC-32C of a page's shadow words (R201). -/
def pageDigest (l : List (Nat × Word)) (page : Nat) : Nat :=
  crc32c (digestOffsets.flatMap fun off => b4 (digestWord l page off).toNat)

/-- The first page whose CRCs differ, and its lowest differing offset (R202). -/
def digestDiff (a b : List (Nat × Word)) : Option (Nat × Nat) :=
  ((upTo 8).find? fun p => pageDigest a p ≠ pageDigest b p).map fun p =>
    (p, (digestOffsets.find? fun off => digestWord a p off ≠ digestWord b p off).getD 0)

/-- DIGEST_COMPARE (R202, R204 step 2): a difference ends the handover of the port with DIGEST; PAIR_DIFF keeps the first of a request. -/
def execDigestCompare (port : Fin 8) (s : State) : Res :=
  match (s.port port).ho with
  | none => .next s
  | some o =>
    match o.digestA, o.digestB with
    | some a, some b =>
      if o.phase ≠ 1 || o.compared then .next s
      else match digestDiff a b with
        | none => .next (s.setPort port { s.port port with ho := some { o with compared := true } })
        | some (page, off) =>
          let first := match s.hoRun with | none => true | some r => !r.diff
          let s := s.whenB first fun s => (s.put pgPair F.PAIR_DIFF_PAGE page).put pgPair F.PAIR_DIFF_OFFSET off
          let s := { s with hoRun := s.hoRun.map fun (r : HoRun) => { r with diff := true } }
          .next ((s.hoEnd port 3).rearmGo)
    | _, _ => .next s

/-- The ports of a bit mask. -/
def portsOf (m : BitVec 8) : List Nat := (upTo 8).filter fun p => m.getLsbD p

/-- The ports of a request with their locked partners. -/
def State.withPartners (s : State) (ps : List Nat) : List Nat := (upTo 8).filter fun p => ps.any fun q => (s.group q).contains p

/-- PAIR_HANDOVER (R203, R206): BUSY while a handover or a REARM runs; NOT_READY where a standby pipe is not qualified; a request that names no port
of the other half completes at once. A named port without a standby pipe leaves the command's status unpredictable and moves no port. -/
def execPairHandover (rq : Requester) (ports : BitVec 8) (target : Half) (s : State) : Res :=
  hostWrite rq pgPair s fun s =>
    if s.hoRun.isSome || s.rearm.isSome then .next (s.pairDone 1)
    else
      let ps := (s.withPartners (portsOf ports)).filter fun p => s.ownerOf p = some (Half.other target) && !((s.port p).t4Stop)
      if ps.any (fun p => s.role target p ≠ roleStandby) then .next (s.wildStatus pgPair [F.PAIR_STATUS_DONE, F.PAIR_STATUS_RESULT])
      else if ps.any (fun p => !(s.qualified target p)) then .next (s.pairDone 2)
      else if ps.isEmpty then .next (s.pairDone 0)
      else .next (s.hoStart (.command rq.half) target ps)

/-- PAIR_REJOIN (R193, R461): completes at once with OK; the Idle pipes of the named ports take their roles at the next latch marker. -/
def execPairRejoin (rq : Requester) (ports : BitVec 8) (s : State) : Res :=
  hostWrite rq pgPair s fun s =>
    let s := s.each (portsOf ports) fun p s => s.setPort p { s.port p with idleA := false, idleB := false }
    .next (s.pairDone 0)

/-- PAIR_CANCEL (R59, R461): every port of the running request that has not been handed over stays; the running command ends with CANCELLED. -/
def execPairCancel (rq : Requester) (s : State) : Res :=
  hostWrite rq pgPair s fun s =>
    match s.hoRun with
    | none => .next (s.pairDone 0)
    | some r =>
      let s := { s with hoRun := some { r with cancelled := true } }
      .next ((s.hoEndAll 7).rearmGo)

/-- HANDOVER_TIMEOUT (R204): HO_TIMEOUT frames of the port have passed after L1. -/
def execHandoverTimeout (port : Fin 8) (s : State) : Res :=
  match (s.port port).ho with
  | none => .next s
  | some o => .next (if o.phase = 1 && s.get pgPair F.PAIR_CFG_HO_TIMEOUT ≤ o.frames then (s.hoEnd port 4).rearmGo else s)

/-- AUTO_RETURN (R194): a port whose home half is qualified as its standby is handed back. -/
def execAutoReturn (port : Fin 8) (s : State) : Res :=
  let home := s.home port
  let ps := s.group port
  let idle := match s.hoRun with
    | none => true
    | some r => r.source = .auto && r.target = home
  .next (if s.flag pgPair F.PAIR_CFG_AUTO_RETURN && idle && s.rearm.isNone && s.insp.isNone && s.shed.isNone &&
      ps.all (fun p => s.qualified home p && (s.port p).ho.isNone && !((s.port p).t4Stop))
    then s.hoStart .auto home ps else s)

/-- Is the half held by its junction temperature (R413)? -/
def State.thermPark (s : State) : Half → Bool
  | .A => s.pw.thermParkA
  | .B => s.pw.thermParkB

/-- A parked half is no longer held in reset (R408, R413): the tier lets both halves serve, or no half serves, and the half has cooled. -/
def State.unparkHalf (s : State) (h : Half) : State :=
  if s.halfState h = hsParked && !(s.thermPark h) && (s.tier ≤ 1 || !(s.inService (Half.other h))) then s.setHs h { s.hs h with hold := false } else s

/-- HALF_PARK (R405, R408, R462): the parking half parks once every shed handover has ended and every shed switch is made; a rise to T1 or T0 meanwhile lets it
rejoin at once. -/
def execHalfPark (h : Half) (s : State) : Res :=
  match s.shed with
  | none => .next s
  | some r =>
    if r.half ≠ h || !r.issued || s.hoRun.isSome || (s.owned h).any (fun p => (s.port p).shedSwitch) then .next s
    else
      let s := s.parkHalf h
      .next (if s.tier ≤ 1 then s.unparkHalf h else s)

end Sys2Proof.Machine
end

