-- ==== Sys2Proof/Machine/Park.lean ====
section
/-! DEFINITION. Hold-up (R409) and what a loss of power or PORST_N leaves of the module (R382, R383). -/

namespace Sys2Proof.Machine

/-- The module loses every field of classes P, H, T and F, and every engine its state (R383). Fields of class A and the cells of the audio engine keep
the values of the image in force until an apply reloads them; pins, supplies, MRAM and the keep-alive region stay; scratchpad and DRAM cells stay
until the wake march and the zero-fill clear them. -/
def State.moduleClear (s : State) : State :=
  let pins := s.reg pgSvc 0 &&& 0x16#32
  let s := s.clearRegs (fun _ => true) clrPHTF
  let s := (s.setReg pgSvc 0 (s.reg pgSvc 0 ||| pins)).clearHeld fun _ => true
  let hpd := (upTo 8).filterMap fun p => if (s.port p).hpd then some (p, ({ hpd := true } : Port)) else none
  { pending := s.pending, free := s.free, ports := hpd, time := s.time, regs := s.regs, mram := s.mram, dramA := s.dramA, dramB := s.dramB,
    spmA := s.spmA, spmB := s.spmB, audio := { banks := s.audio.banks },
    start := { nextCause := s.start.nextCause, shortHold := s.start.shortHold },
    pw := { s.pw with vio33 := false, vio18 := false, alertDue := false, limitHold := false, thermParkA := false, thermParkB := false,
                      capA := 0, capB := 0, capP := 0, rstBy := none } }

/-- FAILS in MRAM and in RST_START (R389, R390): byte 0 FAILS, byte 1 FAILS before the current start. -/
def State.setFails (s : State) (v before : Nat) : State :=
  (s.put pgRst F.RST_START_FAILS v).setMram (storeBase + 0x2C) (b1 v ++ b1 before ++ b2 0)

/-- A start that ends in Hold-up before FAILS was set to 0 does not count (R390). -/
def State.failsBack (s : State) : State :=
  if s.start.counted then
    let v := s.mramNat (storeBase + 0x2D) 1
    let s := s.setFails v v
    { s with start := { s.start with counted := false } }
  else s

/-- A half is off: reset, held, every domain off, its DRAM content lost. -/
def State.halfOff (s : State) (h : Half) : State :=
  let s := (s.halfClear h).setHs h { stage := .held }
  let s := s.each (upTo 31) fun d s => s.setDomain h d 0
  let s := s.each (upTo 4) fun n s => s.put (pgSpm h n) F.SPM_STATUS_STATE 0
  (s.setDram h []).setHalfState h hsDown

/-- Hold-up begins (R409 steps 1 to 5): handovers, a REARM and an Inspection stop as under an unplanned fault; harts, contexts, outputs and PHYs
stop; both halves are off; the HOLDUP event closes a snapshot; writes in progress stop. -/
def State.holdup (s : State) (byCommand : Bool) (hupMv : Nat) (t : ModeTrigger) : State :=
  if s.mode = mHoldUp || s.mode = mOff || s.mode = mDormant then s
  else
    let s := { s with park := some { byCommand := byCommand } }
    let s := s.setMode mHoldUp t
    let s := s.event (srcOf pgShd) 0x0003 (b2 (hupMv / 100)) (trig := true)
    let c := s.pat.closing.map fun c => { c with closed := some (c.closed.getD (s.pat.nextSeq - 1, s.time)) }
    let s := { s with pat := { s.pat with closing := c } }
    let s := (s.hoEndAll 5).rearmStop 0xE
    let s := (s.inspEnd 5).failsBack
    let s := s.each (upTo 8) fun p s => if (s.port p).run then s.genStop p false else s
    let s := s.each (upTo 8) fun p s => s.setPort p { s.port p with ppen := false, blen := false, blWant := false, blStart := none }
    let s := s.armCut
    let s := (s.halfOff .A).halfOff .B
    let s := s.each [16, 17, 18, 19] fun d s => s.pdomGone d
    let s := s.each (upTo 9) fun src s => s.setSrc src {}
    ({ s with shed := none, scrub := { s.scrub with reading := none } }).lcsCut

/-- HUP and whether it is at or above 38 V are shown (R397). -/
def State.showHup (s : State) (mv : Nat) : State :=
  (s.put pgShd F.SHD_VOLT_HUP (min 0xFFFF mv)).put pgShd F.SHD_STATUS_HUP_OK (if 38000 ≤ mv then 1 else 0)

/-- HOLDUP_ENTRY (R409): VIN has been below 2.7 V for 2 µs, or was lost; the keep-alive rail then has nothing from it (R396). -/
def execHoldupEntry (hupMv : Nat) (s : State) : Res :=
  let s := { s with pw := { s.pw with vinGood := false, vinMv := 0 } }
  .next ((s.showHup hupMv).holdup false hupMv .holdup)

/-- HUP_BELOW_12V (R409): the events not yet written are lost, and the next start event records the short hold-up. -/
def execHupBelow12v (s : State) : Res :=
  match s.park with
  | none => .next s
  | some k =>
    let s := { s with pat := { s.pat with buf := [], early := [], closing := none }, start := { s.start with shortHold := true } }
    .next { s with park := some { k with short := true } }

end Sys2Proof.Machine
end

