-- ==== Sys2Proof/Machine/Power.lean ====
section
/-! DEFINITION. The shed controller (R395 to R415): the tier and what it does to the module, the switched domains, the VIO outputs and the
junction temperatures. -/

namespace Sys2Proof.Machine

/-! ## The tier (R403 to R405) -/

/-- The tier that VIN gives, in mV (R403). -/
def vinTier (mv : Nat) : Nat := if 8000 ≤ mv then 0 else if 6000 ≤ mv then 1 else if 4500 ≤ mv then 2 else if 3300 ≤ mv then 3 else 4

/-- VIN at or above which a tier is stepped up from. -/
def stepUpAt (tier : Nat) : Nat := [0, 8200, 6200, 4700, 3500].getD tier 0

/-- VIN and the tier it gives are shown. -/
def State.showVin (s : State) (mv : Nat) : State :=
  let s := { s with pw := { s.pw with vinMv := mv } }
  (s.put pgShd F.SHD_VOLT_VIN (min 0xFFFF mv)).put pgShd F.SHD_STATUS_VTIER (vinTier mv)

/-- Power is off, or on its way off. -/
def State.noPower (s : State) : Bool := s.mode = mOff || s.mode = mDormant || s.mode = mHoldUp

/-- HUP is read: it charges from Armature Load on, to at most 40 V (R397), and how high it stands is a free value that does not fall (log entry 152). -/
def State.hupRead (s : State) : State :=
  if s.noPower || s.flag pgShd F.SHD_STATUS_HUP_OK then s
  else
    let (v, s) := s.takeFree
    s.showHup (max (s.get pgShd F.SHD_VOLT_HUP) (v % 40001))

/-- The half that parks on entry to T2 or below (R205). -/
def State.parkingHalf (s : State) : Half := if s.halfState .A = hsReady then .B else .A

/-- Entry to T2 or T3 (R205, R408, R462): an Inspection and a REARM end, and one half parks. A half that has left Parked but serves nothing yet parks
again at once. -/
def State.shedTwo (s : State) : State :=
  let s := s.inspEnd 4
  let s := { s with rearm := s.rearm.map fun (a : Rearm) => { a with stop := some (a.stop.getD 0x0D) } }.rearmGo
  if s.shed.isSome then s
  else if s.halfState .A = hsParked then s.setHs .A { s.hs .A with hold := true }
  else if s.halfState .B = hsParked then s.setHs .B { s.hs .B with hold := true }
  else
    let h := s.parkingHalf
    if s.halfState h ≠ hsReady && (s.owned h).isEmpty then s.parkHalf h
    else (({ s with shed := some { half := h } }).parkFreeze h).shedIssue

/-- Entry to T4 as the pair supervisor sees it (R205): a handover stops at once and its owner serves; the ports of the half that parks switch at their next
line boundary, or now where no generator runs. -/
def State.shedFour (s : State) : State :=
  let s := s.inspEnd 4
  let s := { s with rearm := s.rearm.map fun (a : Rearm) => { a with stop := some (a.stop.getD 0x0D) } }
  let h := match s.hoRun with
    | some r => r.target
    | none => match s.shed with
      | some r => r.half
      | none => s.parkingHalf
  let s := (({ s with shed := none }).hoEndAll 6).rearmGo
  if s.halfState .A = hsParked then s.setHs .A { s.hs .A with hold := true }
  else if s.halfState .B = hsParked then s.setHs .B { s.hs .B with hold := true }
  else
    let s := s.each (s.owned h) fun p s =>
      if (s.port p).run then s.setPort p { s.port p with shedSwitch := true } else s.setSource p (Half.num (Half.other h))
    if s.inService h && (s.halfState h = hsReady || !(s.owned h).isEmpty) then { s with shed := some { half := h, issued := true } }.parkFreeze h
    else s.parkHalf h

/-- Entry to T4 as the other units see it (R137, R312, R335, R358, R405). -/
def State.unitsFour (s : State) : State :=
  let s := s.each [Half.A, Half.B] fun h s => s.each (upTo 10) fun d s => if s.domain h d = 2 then s.setDomain h d 3 else s
  let s := s.each (upTo 8) fun p s =>
    if s.flag (pgScn p) F.SCN_CFG_T4 then s else s.setPort p { s.port p with t4Stop := true }
  s.touchT4.hapT4.peerSettle

/-- What the tier in force does to a module in Bring-up or in service. -/
def State.tierApply (s : State) : State :=
  let s := if s.applied && s.tier = 3 then s.hapT3 else s
  if !s.applied then s
  else if s.tier = 4 then s.shedFour.unitsFour
  else if 2 ≤ s.tier then s.shedTwo
  else s

/-- A port starts at line 0 of frame 0 and trains again (R137, R367). -/
def State.portRestart (s : State) (p : Nat) : State :=
  let s := s.genStart p
  if s.disc (pgScn p) 0 = 2 then s.train p else s

/-- The load check of every channel after a return from T4, at start and after a Function reset (R324). -/
def State.hapDiscover (s : State) : State := s.each (upTo 8) fun ch s => s.discSet pgHap ch 1

/-- Domains that the tier and the REQ bits want go on. -/
def State.raiseAll (s : State) : State := ((s.domRaise .A).domRaise .B).pdomRaise

/-- The tier rises above T4 (R137, R312, R324, R358, R405). A port whose frame had not ended yet goes on. -/
def State.leaveFour (s : State) : State :=
  let s := (s.domWake .A).domWake .B
  let s := s.each (upTo 8) fun p s =>
    let q := s.port p
    if !q.t4Stop then s else if q.run then s.setPort p { q with t4Stop := false } else s.portRestart p
  s.touchResume.hapDiscover.peerSettle

/-- TIER_STEP_DOWN (R404): the tier in force becomes the tier that VIN gives. In Night Watch the tier changes alone (R414). -/
def execTierStepDown (vinMv : Nat) (s : State) : Res :=
  if s.noPower || vinMv < 2700 then .next s
  else
    let s := s.showVin vinMv
    .next (if s.tier < vinTier vinMv then (s.setTier (vinTier vinMv) .tier).tierApply else s)

/-- TIER_STEP_UP (R404, R408): one tier after the dwell; a power-limited hold keeps the tier (R414). -/
def execTierStepUp (vinMv : Nat) (s : State) : Res :=
  if s.noPower || vinMv < 2700 then .next s
  else
    let old := s.tier
    let s := s.showVin vinMv
    if old = 0 || vinMv < stepUpAt old || s.pw.limitHold then .next s
    else
      let s := s.setTier (old - 1) .tier
      if !s.applied then .next s
      else
        let s := if old = 4 then s.leaveFour else s
        let s := if s.tier ≤ 1 then (s.unparkHalf .A).unparkHalf .B else s
        .next s.raiseAll

/-- POWER_LIMIT_STEP (R407): one tier below the tier that VIN gives, held; T4 has none below it, and a worse tier in force stays. -/
def execPowerLimitStep (cause : Fin 4) (p1s p100 : BitVec 16) (s : State) : Res :=
  if s.noPower || cause.val = 0 then .next s
  else
    let s := s.put pgShd F.SHD_PIN_P1S p1s.toNat
    let s := s.put pgShd F.SHD_PIN_P100 p100.toNat
    let s := s.put pgShd F.SHD_STATUS_PLIM 1
    let t := max s.tier (min 4 (s.get pgShd F.SHD_STATUS_VTIER + 1))
    let s := s.funcEvent pgShd 0x09 (b1 cause ++ b1 t ++ [0] ++ b2 p1s.toNat ++ b2 p100.toNat)
    let s := { s with pw := { s.pw with limitHold := true } }
    .next (if s.tier < t then (s.setTier t .tier).tierApply else s)

/-- POWER_LIMIT_HOLD_END (R407): after at least 10 s the rules of R404 apply again. -/
def execPowerLimitHoldEnd (s : State) : Res := .next { s with pw := { s.pw with limitHold := false } }

/-! ## Switched domains (R398 to R402) -/

/-- PWR_REQ_WRITE (R399, R415): the pinned bits read 1. A reserved bit leaves the half's other requests free. -/
def execPwrReqWrite (rq : Requester) (value : Word) (s : State) : Res :=
  hostWrite rq (pgPwr rq.half) s fun s =>
    if value.getLsbD 31 then
      -- confined to the domains of the issuing half, the pinned ones apart (R415)
      let pins := 2 ^ 10 + 2 ^ 24 + 2 ^ 25 + 2 ^ 30
      let (v, s) := s.takeFree
      .next ((s.put (pgPwr rq.half) F.PWR_REQ_REQ (v ||| pins)).domRaise rq.half)
    else
      let pins := 2 ^ 10 + 2 ^ 24 + 2 ^ 25 + 2 ^ 30
      .next ((s.put (pgPwr rq.half) F.PWR_REQ_REQ (value.toNat ||| pins)).domRaise rq.half)

/-- SHD_REQ_WRITE (R399, R415); a reserved bit leaves the requests free. -/
def execShdReqWrite (rq : Requester) (value : Word) (s : State) : Res :=
  hostWrite rq pgShd s fun s =>
    if 2 ^ 22 ≤ value.toNat then
      let (v, s) := s.takeFree
      .next (s.put pgShd F.SHD_REQ_REQ v).pdomRaise
    else .next (s.put pgShd F.SHD_REQ_REQ value.toNat).pdomRaise

/-- A domain of a half is On: a core starts at the reset vector, in Retention while the tier or Night Watch holds it there. -/
def State.domOn (s : State) (h : Half) (d : Nat) : State :=
  let keep := (s.tier = 4 && d < 10) || (s.mode = mNight && nightHeld.contains d)
  let s := s.setDomain h d (if keep then 3 else 2)
  if d < 8 && (s.hs h).stage = .running then (s.put (pgHart h d) F.MWORLD_WORLD 1).setHart h d (s.hartStart h) else s

/-- A Plinth domain is On: the channels of HPA and HPB that show Off are Idle. -/
def State.pdomOn (s : State) (d : Nat) : State :=
  let s := s.setPdomain d 2
  s.each (hapOf d) fun ch s => if s.hapState ch = hcOff then s.setHap ch hcIdle else s

/-- DOMAIN_POWER_ON_DONE (R398, R402): a domain that needs another goes on after it; SPn only once its wake march has ended (R255), MC0 and MC1 once
the DRAM is trained (R261). -/
def execDomainPowerOnDone (die : Die) (domain : Fin 31) (s : State) : Res :=
  let d := domain.val
  let half (h : Half) : Res :=
    let needs := match domNeeds d with
      | none => true
      | some n => s.domain h n = 2 || s.domain h n = 3
    let march := 26 ≤ d && d < 30 && (s.spmState h (d - 26) = spOff || s.spmState h (d - 26) = spMarching)
    let train := (d = 24 || d = 25) && !(s.hs h).dram.trained
    if s.domain h d ≠ 1 || !needs || march || train then .next s else .next ((s.domOn h d).domRaise h)
  match die with
  | .A => half .A
  | .B => half .B
  | .P =>
    let needs := match pdomNeeds d with
      | none => true
      | some n => s.pdomain n = 2
    if s.pdomain d ≠ 1 || !needs then .next s else .next (s.pdomOn d).pdomRaise

/-- Is everything in a half's domain idle (R393, R400)? That a hart is in WFI the event itself says. -/
def State.domIdle (s : State) (h : Half) (d : Nat) : Bool :=
  if d < 8 then (s.hart h d).pendM.isEmpty && (s.hart h d).pendS.isEmpty && (s.hart h d).pendG.isEmpty
  else if 11 ≤ d && d < 16 then (upTo 64).all fun c => s.rs h c ≠ rsHolding
  else if 16 ≤ d && d < 24 then s.get (pgCmp h (d - 16)) F.CMP_SCHED_ROLE = 7
  else true

/-- Is everything in a Plinth domain idle? A port's link part is idle once its sink is Absent, or once T4 stopped its generator (R137). -/
def State.pdomIdle (s : State) (d : Nat) : Bool :=
  let quiet (src : Nat) : Bool := s.planCount src = 0 || s.srcGet src F.TAF_STATUS_IDLE = 1
  if d < 8 then s.disc (pgScn d) 0 = 0 || !(s.port d).run
  else if d < 16 then (upTo 9).all fun src => quiet src || !((s.planLines src).any fun l => l / 120 % 8 = d - 8)
  else if d = 16 || d = 17 then (hapOf d).all fun ch => !((s.get pgHap F.HAP_STATUS_BUSY).testBit ch)
  else if d = 20 then (upTo 9).all quiet
  else if d = 21 then s.memb = mbOutside && !(s.flag pgPlk F.PLK_STATUS_BUSY)
  else true

/-- Every domain that needs this one is off. -/
def State.domFree (s : State) (h : Half) (d : Nat) : Bool := (upTo 31).all fun e => domNeeds e ≠ some d || s.domain h e = 0
def State.pdomFree (s : State) (d : Nat) : Bool := (upTo 22).all fun e => pdomNeeds e ≠ some d || s.pdomain e = 0

/-- The shutdown of a half's domain starts: SPn leaves Ready, a march ends without DONE, and with CLR_OFF it is cleared first (R255, R274). -/
def State.domStop (s : State) (h : Half) (d : Nat) : State :=
  let s := s.setDomain h d 4
  if 26 ≤ d && d < 30 then
    let n := d - 26
    let s := (s.spmLeaves h n).setSpmU h n { s.spmU h n with march := none }
    let s := s.put (pgSpm h n) F.SPM_STATUS_BUSY 0
    s.setSpmState h n (if s.flag (pgSpm h n) F.SPM_CFG_CLR_OFF then spClearing else spOff)
  else s

/-- DOMAIN_SWITCH_OFF (R398 to R400): a held switch-off starts once everything in the domain is idle. A pinned domain is never switched. -/
def execDomainSwitchOff (die : Die) (domain : Fin 31) (s : State) : Res :=
  let d := domain.val
  let half (h : Half) : Res :=
    let on := s.domain h d = 2 || s.domain h d = 3
    if !on || s.domWanted h d || pinned d || !(s.domFree h d) || !(s.domIdle h d) then .next s else .next (s.domStop h d)
  match die with
  | .A => half .A
  | .B => half .B
  | .P => if s.pdomain d ≠ 2 || s.pdomWanted d || !(s.pdomFree d) || !(s.pdomIdle d) then .next s else .next (s.setPdomain d 4)

/-- A half's domain is Off: a core writes its L1 data cache back and keeps nothing but its fields (R8, log entry 57), an L2 cluster writes its
lines back (R402). -/
def State.domGone (s : State) (h : Half) (d : Nat) : State :=
  if d < 8 then ((s.l1Flush h d).setDomain h d 0).setHart h d {}
  else if d < 10 then (s.l2Flush h (d - 8)).setDomain h d 0
  else s.setDomain h d 0

/-- DOMAIN_SHUTDOWN_DONE (R401): a domain re-enabled meanwhile powers up now. SPn is off once its clearing has ended (R255). -/
def execDomainShutdownDone (die : Die) (domain : Fin 31) (s : State) : Res :=
  let d := domain.val
  let half (h : Half) : Res :=
    let st := s.domain h d
    if (st ≠ 4 && st ≠ 5) || (26 ≤ d && d < 30 && s.spmState h (d - 26) = spClearing) then .next s
    else .next ((s.domGone h d).domRaise h)
  match die with
  | .A => half .A
  | .B => half .B
  | .P =>
    let st := s.pdomain d
    if st ≠ 4 && st ≠ 5 then .next s
    else
      let s := if d = 21 then (s.plkFall 0).plkFall 1 else s
      .next (s.pdomGone d).pdomRaise

/-! ## VIO outputs (R397) -/

/-- VIO_OVERLOAD: the output turns off; fault bit, ALERT_N, event. -/
def execVioOverload (vio18 : Bool) (s : State) : Res :=
  let on := if vio18 then s.pw.vio18 else s.pw.vio33
  if !on then .next s
  else
    let s := { s with pw := if vio18 then { s.pw with vio18 := false } else { s.pw with vio33 := false } }
    let s := s.put pgShd (if vio18 then F.SHD_STATUS_VIO18_F else F.SHD_STATUS_VIO33_F) 1
    .next (s.alert.funcEvent pgShd 0x08 (b1 (if vio18 then 1 else 0)))

/-- VIO_FAULT_CLEAR: the output turns on again when software clears its bit. -/
def execVioFaultClear (rq : Requester) (vio18 : Bool) (s : State) : Res :=
  hostWrite rq pgShd s fun s =>
    let f := if vio18 then F.SHD_STATUS_VIO18_F else F.SHD_STATUS_VIO33_F
    if !(s.flag pgShd f) then .next s
    else .next { s.put pgShd f 0 with pw := if vio18 then { s.pw with vio18 := true } else { s.pw with vio33 := true } }

/-! ## Junction temperatures (R413) -/

/-- The threshold level of a die: 1 from 110 °C, 2 from 120 °C, 3 from 130 °C, each held down to 5 °C below. -/
def thermLevel (old : Nat) (t : Int) : Nat :=
  let at' (k : Nat) : Int := 100 + 10 * k
  let up := if 130 ≤ t then 3 else if 120 ≤ t then 2 else if 110 ≤ t then 1 else 0
  let kept := ((List.range (old + 1)).filter fun k => k = 0 || at' k - 5 ≤ t).foldl max 0
  max up kept

/-- The highest clock of a half's cores in MHz (R275, R413). -/
def State.coreMhz (s : State) (h : Half) : Nat := [2200, 1600, 1100].getD (s.get (pgPwr h) F.PWR_THERM_CAP) 1100

/-- The highest clock of a half's raster engine in MHz (R182, R275, R413): the lower one of the tier's and the cap's; in T4 it has none. -/
def State.rasterMhz (s : State) (h : Half) : Nat :=
  min ([1500, 1000, 1000, 600].getD s.tier 0) ([1500, 1000, 600].getD (s.get (pgPwr h) F.PWR_THERM_CAP) 600)

/-- A temperature as a two's complement byte; the manual gives none outside its range, and the byte is then free (log entry 4). -/
def State.thermByte (s : State) (t : Int) : Nat × State :=
  if -128 ≤ t && t ≤ 127 then ((t % 256).toNat, s) else (s.takeFree.1 % 256, s.takeFree.2)

/-- The signed value of a byte. -/
def signedByte (n : Nat) : Int := if n < 128 then n else (n : Int) - 256

/-- One event for each threshold crossed upward. -/
def State.thermEvents (s : State) (die old new byte : Nat) : State :=
  s.each ((List.range' 1 3).filter fun k => old < k && k ≤ new) fun k s => s.funcEvent pgShd 0x0A (b1 die ++ b1 k ++ b1 byte)

/-- The sensor of a half is read. -/
def State.thermHalf (s : State) (h : Half) (t : Int) : State :=
  let p := pgPwr h
  let old := match h with | .A => s.pw.capA | .B => s.pw.capB
  let new := thermLevel old t
  let (byte, s) := s.thermByte t
  let s := s.put p F.PWR_THERM_TJ byte
  let s := s.put p F.PWR_THERM_CAP (min 2 new)
  let s := s.whenB (signedByte (s.get p F.PWR_THERM_MAX) < t) fun s => s.put p F.PWR_THERM_MAX byte
  let s := { s with pw := match h with | .A => { s.pw with capA := new } | .B => { s.pw with capB := new } }
  let s := s.thermEvents (Half.num h + 1) old new byte
  let s := s.whenB (old < 2 && 2 ≤ new) State.alert
  let set (s : State) (b : Bool) : State := { s with pw := match h with | .A => { s.pw with thermParkA := b } | .B => { s.pw with thermParkB := b } }
  if old < 3 && new = 3 then
    if (s.hs h).stage = .held then set s true else (set s true).parkHalf h
  else if s.thermPark h && t < 115 then (set s false).unparkHalf h
  else s

/-- The sensor of the Plinth is read; at 130 °C the module parks. -/
def State.thermPlinth (s : State) (t : Int) : State :=
  let old := s.pw.capP
  let new := thermLevel old t
  let (byte, s) := s.thermByte t
  let s := s.put pgShd F.SHD_THERM_TJ byte
  let s := s.put pgShd F.SHD_THERM_LVL (min 1 new)
  let s := s.whenB (signedByte (s.get pgShd F.SHD_THERM_MAX) < t) fun s => s.put pgShd F.SHD_THERM_MAX byte
  let s := { s with pw := { s.pw with capP := new } }
  let s := s.thermEvents 0 old new byte
  let s := s.whenB (old < new) State.alert
  if old < 3 && new = 3 then s.hupRead.holdup false (s.hupRead.get pgShd F.SHD_VOLT_HUP) .holdup else s

/-- THERMAL_SAMPLE (R413): every 1 ms, in whole °C. The thresholds never change the tier. -/
def execThermalSample (tA tB tP : Int) (s : State) : Res :=
  if s.noPower then .next s else .next ((((s.thermHalf .A tA).thermHalf .B tB).thermPlinth tP).rearmGo)

end Sys2Proof.Machine
end

