-- ==== Sys2Proof/Machine/Modes.lean ====
section
/-! DEFINITION. The commands of the MOD page (R365 to R371, R380, R381): Night Watch, Inspection and Dormant, and what ends Night Watch. -/

namespace Sys2Proof.Machine

/-- The MOD page of a half. -/
def pgModH (h : Half) : Pg := halfPg h 0x2000

/-- A command that is turned away completes with a RESULT while what runs goes on (R365, R368, R380). -/
def State.modAnswer (s : State) (result : Nat) : State :=
  let s := s.put pgMod F.MOD_STATUS_DONE 1
  (s.put pgMod F.MOD_STATUS_RESULT result).raiseBoth 0x2000

def State.modBusy (s : State) : Bool := s.flag pgMod F.MOD_STATUS_BUSY

/-! ## Night Watch -/

/-- How a port stops for Night Watch (R366 step 2): with PSR_ALLOW through one full frame and PSR2, else at the next boundary with its panel outputs. -/
def State.nightStopOf (s : State) (p : Nat) : Nat := if s.flag (pgScn p) F.SCN_CFG_PSR_ALLOW then 2 else 1

/-- MOD_NIGHT (R365, R366). -/
def execModNight (rq : Requester) (s : State) : Res :=
  hostWrite rq (pgModH rq.half) s fun s =>
    let pr := s.get pgPair F.PAIR_STATUS_PAIRING
    let may := isService s.mode && pr ≤ 1 && s.tier ≤ 3 && s.hoRun.isNone && s.rearm.isNone && s.insp.isNone && !s.modBusy
    if !may then .next (s.modAnswer 1)
    else
      let s := s.setMode mNight .night
      let s := s.put pgMod F.MOD_STATUS_BUSY 1
      let s := s.each (upTo 8) fun p s => s.setPort p { s.port p with nightStop := s.nightStopOf p }
      .next s.nightSettle

/-- DRAM of a half leaves self-refresh: it is trained again (R261, R263). -/
def State.dramWake (s : State) (h : Half) : State :=
  if (s.hs h).dram.trained && s.flag (pgDmc h 0) F.DMC_STATUS_SR then s.setHs h { s.hs h with dram := { (s.hs h).dram with retrain := true } } else s

/-- Night Watch ends (R367), from whatever step its entry had reached (R380): MODE is what R362 gives, domains leave retention, stopped generators and
sources restart, and the tier that came meanwhile takes effect (R414). -/
def State.nightExit (s : State) : State :=
  if s.mode ≠ mNight then s
  else
    let busy := s.modBusy
    let s := { s with nightEntered := none }
    let s := s.setMode (s.serviceMode.getD mBringUp) .nightWake
    let s := s.each (upTo 8) fun p s => (s.setPort p { s.port p with nightStop := 0 }).hpdAgain p
    let s := (((s.domWake .A).domWake .B).dramWake .A).dramWake .B
    let s := s.each (upTo 8) fun p s =>
      if (s.port p).run then s
      else if s.tier < 4 || s.flag (pgScn p) F.SCN_CFG_T4 then s.portRestart p
      else s.setPort p { s.port p with t4Stop := true }
    let s := if s.tier < 4 then s.touchResume else s
    let s := if s.tier ≤ 1 then (s.unparkHalf .A).unparkHalf .B else s
    let s := s.peerSettle.tierApply.raiseAll
    if busy then s.modDone 0 else s

/-- MOD_WAKE (R367, R381): outside Night Watch the command is not permitted, and the status it reports is free (log entry 81). -/
def execModWake (rq : Requester) (s : State) : Res :=
  hostWrite rq (pgModH rq.half) s fun s =>
    if s.mode ≠ mNight then .next (s.wildStatus pgMod [F.MOD_STATUS_DONE, F.MOD_STATUS_RESULT]) else .next (s.nightExit.modDone 0)

/-- NIGHT_WATCH_WAKE (R367): a wake source of Night Watch. -/
def execNightWatchWake (source : NightWake) (s : State) : Res :=
  .next (s.whenB (source = .wakeN && s.mode = mNight) fun s => s.put pgSvc F.SVC_STATUS_WAKE 1).nightExit

/-- PEER_ALARM (R355, R367): the alarm is acknowledged, relayed and delivered; a delivered one ends Night Watch. -/
def execPeerAlarm (p : Fin 2) (hdr : PeerHdr) (payload : List Byte) (s : State) : Res :=
  let (delivered, s) := s.alarmRx p hdr payload
  .next (if delivered then s.nightExit else s)

/-! ## Inspection -/

/-- The half that owns fewer ports, Half B on a tie (R368). -/
def State.inspFirst (s : State) : Half := if (s.owned .A).length < (s.owned .B).length then .A else .B

/-- Step 1 of R369 for a half: a planned handover of every port it owns. -/
def State.inspHalf (s : State) (i : Insp) (h : Half) : State :=
  let ps := s.owned h
  let s := { s with insp := some { i with half := h, step := 1, owned := ps } }
  if ps.isEmpty then s else s.hoStart .inspection (Half.other h) ps

/-- MOD_INSPECT (R368). -/
def execModInspect (rq : Requester) (s : State) : Res :=
  hostWrite rq (pgModH rq.half) s fun s =>
    let qualified := (upTo 8).all fun p => match s.ownerOf p with
      | none => true
      | some o => s.qualified (Half.other o) p
    let may := isService s.mode && s.get pgPair F.PAIR_STATUS_PAIRING = 0 && s.tier ≤ 1 && qualified && s.rearm.isNone && s.lcs.isNone
    if s.modBusy then .next (s.modAnswer 1)
    else if !may then .next (s.modAnswer 2)
    else
      let h := s.inspFirst
      let s := { s.put pgMod F.MOD_STATUS_BUSY 1 with insp := some {} }
      .next ((s.setMode mInspect .inspect).inspHalf {} h)

/-- The outcome of an item: pass or fail, and COUNT (R370). -/
def inspNote (i : Insp) (item : Nat) (pass : Bool) (count : Nat) : Insp := { i with items := tblInsert item (if pass then 0 else 1, count) i.items }

/-- Did an item fail? -/
def Insp.failed (i : Insp) : Bool := i.items.any fun e => e.2.1 = 1

/-- Items 0 to 3 on a half in reset (R369 step 4, R370): MARCH_D on its four SPMs, the SRAM march, initial DRAM training, the lockstep check. -/
def State.inspItems (s : State) (i : Insp) (base : Nat) (f : InspFound) : State :=
  let h := i.half
  let s := s.each (upTo 4) fun n s => s.inspMarch h n ((f.rows.filter fun e => e.1.val = n).map fun e => e.2)
  let s := s.trainFailed h f.trainFail
  let whole := (upTo 4).all fun n => s.get (pgSpm h n) F.SPM_UNREP_BANK = 0
  let spares := ((upTo 4).map fun n => (s.spmU h n).repairs.length).sum
  let i := inspNote (inspNote i base whole spares) (base + 1) (f.sramBad = 0) 0
  { s with insp := some { inspNote (inspNote i (base + 2) (f.trainFail = 0) 0) (base + 3) f.lockstep 0 with step := 6 } }

/-- Is the half back, with every port qualified on it (item 5)? -/
def State.inspQualified (s : State) (h : Half) : Bool :=
  s.halfState h = hsReady && (upTo 8).all fun p => s.ownerOf p ≠ some (Half.other h) || s.qualified h p

/-- INSPECTION_STEP (R369, R370): the next step, once the one before has ended, by what its tests find. Lost must be declared within 1.0 us (a time beyond
COUNT's 16 bits leaves COUNT open, log entry 151), every port qualified within HO_TIMEOUT frames. A half whose ports did not move, or that does not
come back, cannot be tested further: the Inspection ends with FAILED. -/
def execInspectionStep (found : InspFound) (s : State) : Res :=
  match s.insp with
  | none => .next s
  | some i =>
    let h := i.half
    let base := match h with | .A => 0 | .B => 6
    if s.hoRun.isSome then .next s
    else if i.step = 1 then
      if (s.owned h).isEmpty then
        let s := s.setHs h { s.hs h with hbWithheld := true, hold := true }
        .next { s with insp := some { i with step := 2 } }
      else .next (s.inspEnd 3)
    else if i.step = 2 then
      if s.halfState h ≠ hsLost || !(s.inReset h) then .next s
      else
        let (ns, s) := if found.lostNs < 65536 then (found.lostNs, s) else (let (v, s) := s.takeFree; (v % 65536, s))
        .next { s with insp := some { inspNote i (base + 4) (found.lostNs ≤ 1000) ns with step := 4 } }
    else if i.step = 4 then
      -- the half then leaves reset and applies its slot
      let s := s.inspItems i base found
      .next (s.setHs h { s.hs h with hold := false, hbWithheld := false })
    else if i.step = 6 then
      let limit := s.get pgPair F.PAIR_CFG_HO_TIMEOUT
      let pass := s.inspQualified h && found.frames ≤ limit
      if !pass && found.frames < limit then .next s
      else
        let i := inspNote i (base + 5) pass 0
        let s := { s with insp := some i }
        if s.halfState h = hsReady then
          let ps := i.owned.filter fun p => (s.group p).all fun q => s.qualified h q
          let s := { s with insp := some { i with step := 7 } }
          .next (if ps.isEmpty then s else s.hoStart .inspection h ps)
        else .next (s.inspEnd 3)
    else if !i.second then .next (s.inspHalf { i with second := true } (Half.other h))
    else
      let i := inspNote (inspNote i 12 (found.icks = 0xFF) 0) 13 found.comparator 0
      .next ({ s with insp := some i }.inspEnd (if i.failed then 3 else 0))

/-! ## Dormant -/

/-- MOD_DORMANT (R363, R380, R409): the park begins, and BUSY holds while it runs; it is permitted in the Service modes and in Night Watch, and elsewhere the
status it reports is free (log entry 81). -/
def execModDormant (rq : Requester) (s : State) : Res :=
  hostWrite rq (pgModH rq.half) s fun s =>
    if s.modBusy then .next (s.modAnswer 1)
    else if isService s.mode || s.mode = mNight then .next ((s.hupRead.holdup true (s.hupRead.get pgShd F.SHD_VOLT_HUP) .dormant).put pgMod F.MOD_STATUS_BUSY 1)
    else .next (s.wildStatus pgMod [F.MOD_STATUS_DONE, F.MOD_STATUS_RESULT])

end Sys2Proof.Machine
end

