-- ==== Sys2Proof/Machine/Scan.lean ====
section
/-! DEFINITION. The scan frames of a touch source (R296 to R311): floods, discovery, baselines, contacts, keys, reports and bindings. -/

namespace Sys2Proof.Machine

/-! ## The start of a frame slot (R296, R302 to R304, R310) -/

/-- A flooded frame is discarded and the next slot uses the next set; the eighth in succession makes the source Flooded. -/
def State.touchFlood (s : State) (src : Nat) : State :=
  let n := min 15 (s.srcGet src F.TAF_STATUS_FRUN + 1)
  let s := s.srcPut src F.TAF_STATUS_FRUN n
  let set := s.srcGet src F.TAF_STATUS_SET
  let s := if 8 ≤ n && s.srcState src ≠ tsFlooded then
      let s := (s.setSrcState src tsFlooded).touchReport src []
      s.funcEvent (pgSrc src) 0x06 (b1 src ++ b1 set ++ [0] ++ b2 ((s.src src).slot - 1))
    else s
  s.srcPut src F.TAF_STATUS_SET ((set + 1) % max 1 (s.planSets src))

/-- Does a position of the source scan: Present, or Probing between its test and its first clean frames (R311)? -/
def State.touchScans (s : State) (src : Nat) : Bool :=
  (s.srcPositions src).any fun n => s.disc (pgSrc src) n = 1 || s.disc (pgSrc src) n = 2

/-- TOUCH_FRAME_SLOT: the slot runs a test, or a scan frame; `amplitude` is the largest of any listen window. A Plinth switch that waits for the
scan-frame boundary is taken first (R57). -/
def execTouchFrameSlot (src : Fin 9) (amplitude : Nat) (saturated : Bool) (s : State) : Res :=
  let q := s.src src
  if !q.run || q.inFrame then .next s
  else
    let s := s.plinthTake [itemTouch src]
    let mode := if src.val = 8 then 0 else s.get (pgTaf src) F.TAF_CTRL_MODE
    let s := s.setSrc src { q with slot := q.slot + 1, frameMode := mode }
    let flooded := saturated || s.planRec src 0x16 2 < amplitude
    if q.testing || !(s.banksOn src) || !(q.testReq || s.touchScans src) then .next s
    else if flooded then .next (s.touchFlood src)
    else
      let s := s.srcPut src F.TAF_STATUS_IDLE 0
      if q.testReq then .next ((s.setSrc src { s.src src with testReq := false, testing := true }).setSrcState src tsTesting)
      else
        let s := s.setSrc src { s.src src with inFrame := true }
        .next (if s.srcState src = tsFlooded then s else s.setSrcState src tsScanning)

/-! ## Discovery by clean frames (R311) -/

def absDiff (a b : Nat) : Nat := if a ≤ b then b - a else a - b

/-- Does node n of a clean frame deviate from its reference by more than TAS_LIM? Without a reference none does. -/
def State.tasOff (s : State) (src : Nat) (refs : Option (List Nat)) (raw : List Nat) (n : Nat) : Bool :=
  match refs with
  | none => false
  | some r => s.planRec src 0x1A 2 < absDiff (raw.getD n 0) (r.getD n 0)

/-- A Probing position after a clean frame: Mismatch at the second frame in succession in which too many of its nodes deviate, else Present. -/
def State.touchProbe (s : State) (src pos : Nat) (refs : Option (List Nat)) (raw : List Nat) : State :=
  let p := pgSrc src
  if s.disc p pos ≠ 1 then s
  else
    let nodes := if src = 8 then [pos] else upTo (s.nodeCount src)
    let off := 40 * nodes.length < 100 * (nodes.filter (s.tasOff src refs raw)).length
    let seen := (s.src src).deviant.contains pos
    let s := if seen then s
      else if src = 8 then s.discId p pos (BitVec.ofNat 32 (s.planEntry 8 pos % 1024)) (BitVec.ofNat 32 ((refs.getD []).getD pos 0))
      else s.discId p pos (BitVec.ofNat 32 (s.planCount src * 65536 + nodes.length)) (BitVec.ofNat 32 (crc32c (raw.flatMap b2)))
    let keep := (s.src src).deviant.filter fun x => x ≠ pos
    if off && !seen then s.setSrc src { s.src src with deviant := keep ++ [pos] }
    else (s.setSrc src { s.src src with deviant := keep }).discSet p pos (if off then 3 else 2)

/-! ## Baselines and signals (R296, R305, R307, R308) -/

/-- The signal of a node from a baseline. -/
def State.signalOf (s : State) (src n : Nat) (base raw : Nat) : Int :=
  if s.nodeSelf src n then (raw : Int) - base else (base : Int) - raw

/-- The signals of a clean frame: a TAS node's against its reference. -/
def State.signals (s : State) (src : Nat) (raw : List Nat) : List Int :=
  let q := s.src src
  (upTo (s.nodeCount src)).map fun n =>
    let base := match tblFind n q.tasNodes with
      | some r => r
      | none => tblGet (fun _ => 0) q.baseline n / 256
    s.signalOf src n base (raw.getD n 0)

/-- TAS shows whether a node is under it. -/
def State.tasShow (s : State) (src : Nat) : State := s.srcPut src F.TAF_STATUS_TAS (if (s.src src).tasNodes.isEmpty then 0 else 1)

/-- The first clean frame, a rebase, and the lift-off of TAS nodes; the other baselines move in `touchDrift`. -/
def State.touchBase (s : State) (src : Nat) (refs : Option (List Nat)) (raw : List Nat) : State :=
  let q := s.src src
  let nodes := upTo (s.nodeCount src)
  let all := nodes.foldl (fun t n => tblSet (fun _ => 0) t n (256 * raw.getD n 0)) ([] : List (Nat × Nat))
  let s := if q.rebase then s.setSrc src { q with rebase := false, firstClean := false, baseline := all, tasNodes := [], tasNext := [] }
    else if q.firstClean then
      let tas := (nodes.filter (s.tasOff src refs raw)).map fun n => (n, (refs.getD []).getD n 0)
      s.setSrc src { q with firstClean := false, baseline := all, tasNodes := tas, tasNext := [] }
    else
      let base := q.tasNext.foldl (fun t n => tblSet (fun _ => 0) t n (256 * raw.getD n 0)) q.baseline
      let left := q.tasNodes.filter fun e => !(q.tasNext.contains e.1)
      let lift := left.filter fun e => s.signalOf src e.1 (tblGet (fun _ => 0) base e.1 / 256) (raw.getD e.1 0) < -(s.planRec src 0x18 2 : Int)
      s.setSrc src { q with baseline := base, tasNodes := left, tasNext := lift.map fun e => e.1 }
  s.tasShow src

/-- The baseline of each node under no contact moves one 256th of the way to its raw count (R305). -/
def State.touchDrift (s : State) (src : Nat) (raw : List Nat) (under : List Nat) : State :=
  let q := s.src src
  let base := (upTo (s.nodeCount src)).foldl (fun (t : List (Nat × Nat)) n =>
    if under.contains n then t else
      let b := tblGet (fun _ => 0) t n
      tblSet (fun _ => 0) t n (((b : Int) + (256 * (raw.getD n 0 : Int) - (b : Int)) / 256).toNat)) q.baseline
  s.setSrc src { q with baseline := base }

/-! ## Contacts of a sensor (R297, R299, R300, R309) -/

/-- The nodes of the 3 × 3 around node n on a grid. -/
def around (rows cols n : Nat) : List (Option Nat) :=
  [0, 1, 2].flatMap fun dr => [0, 1, 2].map fun dc =>
    let r := n / cols + dr
    let c := n % cols + dc
    if 1 ≤ r && r ≤ rows && 1 ≤ c && c ≤ cols then some ((r - 1) * cols + (c - 1)) else none

/-- The contact threshold of a frame's mode; Hover finds contacts from HOVER_THR on. -/
def State.touchThr (s : State) (src mode : Nat) : Nat :=
  if mode = 1 then s.planRec src 0x12 2 else if mode = 2 then s.planRec src 0x14 2 else s.planRec src 0x10 2

/-- The local maxima above a threshold; of equal neighbours the one of lower number. -/
def maxima (rows cols : Nat) (sig : List Int) (thr : Nat) : List Nat :=
  (upTo (rows * cols)).filter fun n =>
    let v := sig.getD n 0
    (thr : Int) < v && (around rows cols n).all fun o => match o with
      | none => true
      | some m => m = n || sig.getD m 0 < v || (sig.getD m 0 = v && n < m)

/-- A contact as a maximum shows it; every node above the threshold belongs to a contact that is alone. -/
def State.contactAt (s : State) (src mode : Nat) (sig : List Int) (alone : Bool) (n : Nat) : Contact :=
  let (rows, cols) := s.srcDims src
  let v := (sig.getD n 0).toNat
  let near := (around rows cols n).map fun o => match o with
    | none => (0 : Int)
    | some m => sig.getD m 0
  let xMax := s.planRec src 0x1E 2
  let yMax := s.planRec src 0x20 2
  let xy := Config.touchInterp near (n / cols, n % cols) (rows, cols) (xMax, yMax)
  let x := min xMax xy.1
  let y := min yMax xy.2
  { x := x, y := y, size := min 255 (if alone then (sig.filter fun v => (s.touchThr src mode : Int) < v).length else Config.touchSize sig (s.touchThr src mode) n), strength := min 4095 (v / 16),
    hover := mode = 2 && v ≤ s.planRec src 0x10 2, ax := x, ay := y }

/-- A contact that goes on: it takes the new place; beyond STILL_R of where it last moved to it has moved, and is not stale. -/
def State.contactNext (s : State) (src : Nat) (old new : Contact) : Contact :=
  let d := absDiff new.x old.ax ^ 2 + absDiff new.y old.ay ^ 2
  if (s.planRec src 0x1C 2) ^ 2 < d then new
  else { new with ax := old.ax, ay := old.ay, stale := old.stale, told := old.stale }

/-- Continue the old contacts in order of ID: each takes the first maximum left that continues it. Answers (ID, old, new or none) and the maxima left. -/
def contactMatch (olds : List (Nat × Contact)) (found : List Contact) : List (Nat × Contact × Option Contact) × List Contact :=
  olds.foldl (fun acc e =>
    match acc.2.find? fun f => Config.touchSame (e.2.x, e.2.y) (f.x, f.y) with
    | none => (acc.1 ++ [(e.1, e.2, none)], acc.2)
    | some f => (acc.1 ++ [(e.1, e.2, some f)], acc.2.erase f)) ([], found)

/-- Give the new contacts IDs that no contact of the frame uses; which one is a free value (log entry 4). -/
def State.contactIds (s : State) (used : List Nat) (new : List Contact) : List (Nat × Contact) × State :=
  let a := new.foldl (fun (a : List (Nat × Contact) × State) c =>
    let ids := (upTo 16).filter fun i => !(used.contains i) && (tblFind i a.1).isNone
    let (v, s) := a.2.takeFree
    match ids[v % max 1 ids.length]? with
    | none => (a.1, s)
    | some i => (tblInsert i c a.1, s)) ([], s)
  a

/-- A stale contact that was reported so is left out of packets (R309). -/
def Contact.silent (old new : Contact) : Bool := new.stale && old.told

/-- The first binding that a Down or a Press meets starts its effect (R323). -/
def State.bindings (s : State) (src : Nat) (hit : Bool → Nat × Nat × Nat × Nat → Bool) : State :=
  match (Config.imageBindings (s.image .P)).find? fun b => b.1 = src && hit b.2.1 b.2.2.1 with
  | none => s
  | some (_, _, _, ch, eff) => s.hapPlay (ch % 8) (eff % 256)

/-- A Down of a kept source or a Press of a kept key ends Night Watch (R367). -/
def State.touchWake (s : State) (src : Nat) (hit : Bool) : State := if hit && s.kept src && s.mode = mNight then s.nightExit else s

/-- The contacts of a sensor after a clean frame: packet, baselines, bindings. `steps` are the raw counts of the self-capacitance steps that Hover
adds (R300). -/
def State.sensorFrame (s : State) (src : Nat) (raw steps : List Nat) (rebased : Bool) : State :=
  let q := s.src src
  let (rows, cols) := s.srcDims src
  let sig := if steps.isEmpty then s.signals src raw else Config.hoverSignals (s.signals src raw) steps
  let thr := s.touchThr src q.frameMode
  let tops := if rebased then [] else maxima rows cols sig thr
  let tops := if 16 < tops.length then ((Config.touchPick sig).filter fun n => tops.contains n).eraseDups.take 16 else tops
  let (kept, left) := contactMatch q.contacts (tops.map fun n => s.contactAt src q.frameMode sig (tops.length = 1) n)
  let live := kept.filterMap fun e => e.2.2.map fun c => (e.1, e.2.1, s.contactNext src e.2.1 c)
  let ended := kept.filter fun e => e.2.2.isNone
  let taken := q.contacts.map fun e => e.1
  let used := if 16 < taken.length + left.length then live.map (fun e => e.1) else taken
  let (news, s) := s.contactIds used left
  let es := (live.filter fun e => !(Contact.silent e.2.1 e.2.2)).map (fun e => touchEntry src e.1 contactMove e.2.2) ++
    ended.map (fun e => touchEntry src e.1 contactUp e.2.1) ++ news.map (fun e => touchEntry src e.1 contactDown e.2)
  let now := (live.map fun e => (e.1, e.2.2)).foldl (fun t e => tblInsert e.1 e.2 t) news
  let s := s.setSrc src { s.src src with contacts := now }
  let s := s.whenB (!now.isEmpty || !ended.isEmpty) fun s => s.touchReport src es
  let under := (upTo (rows * cols)).filter fun n => (thr : Int) < sig.getD n 0 || tops.any fun m => (around rows cols m).contains (some n)
  let s := s.touchDrift src raw under
  let s := s.each news fun e s =>
    s.bindings src fun press r => !press && r.1 ≤ e.2.x && e.2.x ≤ r.2.2.1 && r.2.1 ≤ e.2.y && e.2.y ≤ r.2.2.2
  s.touchWake src (!news.isEmpty)

/-! ## Keys (R301, R308) -/

/-- The neighbour group of a key; none for 0x3F. -/
def State.keyGroup (s : State) (n : Nat) : Option Nat := let g := s.planEntry 8 n / 2 ^ 26; if g = 0x3F then none else some g

/-- The keys pressed after a clean frame: a pressed key until its signal falls below TOUCH_THR; else, of a group, the key of highest signal. -/
def State.keysDown (s : State) (sig : List Int) (old : List Nat) : List Nat :=
  let thr : Int := s.planRec 8 0x10 2
  let n := s.planCount 8
  let on := (upTo n).filter fun k => s.disc pgTce k = 2
  let stay := on.filter fun k => old.contains k && thr ≤ sig.getD k 0
  on.filter fun k =>
    stay.contains k ||
    (thr < sig.getD k 0 && (match s.keyGroup k with
      | none => true
      | some g => on.all fun j => j = k || s.keyGroup j ≠ some g ||
          (!(stay.contains j) && (sig.getD j 0 < sig.getD k 0 || (sig.getD j 0 = sig.getD k 0 && k < j)))))

/-- The keys after a clean frame: packet, TCE_KEY, baselines, bindings. A key active at start is reported Active, with no Press before its release. -/
def State.keyFrame (s : State) (raw : List Nat) (first rebased : Bool) : State :=
  let q := s.src 8
  let sig := s.signals 8 raw
  let thr : Int := s.planRec 8 0x10 2
  let held := if rebased then [] else (upTo (s.planCount 8)).filter fun k => thr ≤ sig.getD k 0 && (q.held.contains k || (first && thr < sig.getD k 0))
  let olds := q.contacts.map fun e => e.1
  let down := if rebased then [] else (s.keysDown sig (olds ++ held)).filter fun k => !(held.contains k)
  let at' (k : Nat) : Contact := { strength := min 4095 ((sig.getD k 0).toNat / 16) }
  let live := q.contacts.filter fun e => down.contains e.1
  let nexts := live.map fun e => (e.1, e.2, ({ at' e.1 with stale := e.2.stale, told := e.2.stale } : Contact))
  let ended := q.contacts.filter fun e => !(down.contains e.1)
  let news := (down.filter fun k => !(olds.contains k)).map fun k => (k, at' k)
  let es := (nexts.filter fun e => !(Contact.silent e.2.1 e.2.2)).map (fun e => touchEntry 8 e.1 2 e.2.2) ++
    held.map (fun k => touchEntry 8 k 2 (at' k)) ++ ended.map (fun e => touchEntry 8 e.1 1 e.2) ++
    (q.held.filter fun k => !(held.contains k)).map (fun k => touchEntry 8 k 1 (at' k)) ++ news.map (fun e => touchEntry 8 e.1 0 e.2)
  let now := (nexts.map fun e => (e.1, e.2.2)).foldl (fun t e => tblInsert e.1 e.2 t) (news.foldl (fun t e => tblInsert e.1 e.2 t) [])
  let s := s.setSrc 8 { s.src 8 with contacts := now, held := held }
  let s := s.each (upTo 8) fun w s =>
    s.setReg pgTce (0x100 + 4 * w) (BitVec.ofNat 32 ((upTo 32).foldl (fun v b => if down.contains (32 * w + b) then v + 2 ^ b else v) 0))
  let s := s.whenB (!now.isEmpty || !ended.isEmpty || !held.isEmpty || !q.held.isEmpty) fun s => s.touchReport 8 es
  let s := s.touchDrift 8 raw ((upTo (s.planCount 8)).filter fun k => thr < sig.getD k 0 || down.contains k)
  let s := s.each news fun e s => s.bindings 8 fun press r => press && r.1 = e.1
  s.touchWake 8 (!news.isEmpty)

/-- The self-capacitance steps that Hover adds to the frame of a mutual sensor: one for each line of its plan that is driven and received (R294,
R300). -/
def State.hoverSteps (s : State) (src mode : Nat) : Nat := if mode = 2 && src < 8 && !(s.srcSelf src) then s.roleCount src 2 else 0

/-- A sensor unplugged in a frame (R313): the frame is discarded, its contacts end with Up, and discovery runs again. -/
def State.touchUnplug (s : State) (src : Nat) : State :=
  let s := (s.srcPut src F.TAF_STATUS_IDLE 1).touchEndAll src
  ((s.setSrc src { s.src src with inFrame := false }).discSet (pgSrc src) 0 1).askTest src

/-- TOUCH_FRAME_END: a frame ended clean; `raw` holds the raw counts of its nodes, and then of the steps that Hover adds. A frame in which the sensor was
unplugged has none. -/
def execTouchFrameEnd (src : Fin 9) (raw : List (BitVec 16)) (s : State) : Res :=
  let q := s.src src
  let n := s.nodeCount src
  if q.inFrame && src.val < 8 && raw.isEmpty && n ≠ 0 then .next (s.touchUnplug src)
  else if !q.inFrame || raw.length ≠ n + s.hoverSteps src q.frameMode then .next s
  else
    let steps := (raw.drop n).map fun v => v.toNat
    let raw := (raw.take n).map fun v => v.toNat
    let refs := s.refCounts src
    let s := s.srcPut src F.TAF_STATUS_FRUN 0
    let s := (s.srcPut src F.TAF_STATUS_IDLE 1).setSrcState src tsScanning
    let s := s.setSrc src { q with inFrame := false, raw := raw }
    let s := s.each (s.srcPositions src) fun n s => s.touchProbe src n refs raw
    let s := s.touchBase src refs raw
    .next (if src.val = 8 then s.keyFrame raw q.firstClean q.rebase
      else if s.disc (pgTaf src) 0 = 2 then s.sensorFrame src raw steps q.rebase
      else if s.touchScans src then s
      else s.setSrcState src tsOff)

/-! ## Electrode tests (R310, R311, R313) -/

def LineTest.isOpen (l : LineTest) : Bool := l.count * 4 < l.ref
def LineTest.isShort (l : LineTest) : Bool := l.drive < l.coupled * 2 || l.stuck

/-- The lines of each entry of the plan list: two for a mutual key. -/
def splitLines : List Nat → List LineTest → List (List LineTest)
  | [], _ => []
  | n :: r, l => l.take n :: splitLines r (l.drop n)

/-- The reference of a line that a test drives alone: the stored reference of its node where the line is a node of its own, of a self sensor or a self key
(R306); else, and while no reference is in force, the one measured for the line (log entry 142). -/
def State.testRef (s : State) (src i measured : Nat) : Nat :=
  let at_ (n : Nat) : Nat := match s.refCounts src with
    | none => measured
    | some l => l.getD n measured
  if src = 8 then (if s.planEntry 8 i / 1024 % 4 = 2 then at_ i else measured)
  else if s.srcSelf src then at_ ((upTo i).filter fun k => s.planEntry src k / 1024 % 4 = 2).length
  else measured

/-- A mask register of a test: one bit for each entry. -/
def State.maskRegs (s : State) (p : Pg) (off : Nat) (l : List Bool) : State :=
  s.each (upTo 8) fun w s =>
    s.setReg p (off + 4 * w) (BitVec.ofNat 32 ((upTo 32).foldl (fun v b => if l.getD (32 * w + b) false then v + 2 ^ b else v) 0))

/-- The verdict of a test on a position: open in every line, faulted, or good. A Probing position goes to Absent or Faulted, or waits for clean
frames; any other found open throughout is probed again. -/
def State.testVerdict (s : State) (src pos : Nat) (lines : List LineTest) : State :=
  let p := pgSrc src
  let gone := !lines.isEmpty && lines.all LineTest.isOpen
  let bad := lines.any fun l => LineTest.isOpen l || LineTest.isShort l
  let st := s.disc p pos
  if st = 1 then (if gone then s.discSet p pos 0 else if bad then s.discSet p pos 4 else s)
  else if gone && (st = 2 || st = 3) then
    let s := if src = 8 then s else s.touchEndAll src
    (s.discSet p pos 1).askTest src
  else s

/-- ELECTRODE_TEST_DONE (R310, R311): `lines` in the order of the plan's list, two for a mutual key. -/
def execElectrodeTestDone (src : Fin 9) (lines : List LineTest) (s : State) : Res :=
  if !(s.src src).testing || lines.length ≠ (s.planLines src).length then .next s
  else
    let p := pgSrc src
    let counts := (upTo (s.planCount src)).map fun i => if src.val = 8 && s.planEntry 8 i / 1024 % 4 ≠ 2 then 2 else 1
    let entries := (splitLines counts lines).mapIdx fun i ls => ls.map fun l => { l with ref := s.testRef src i l.ref }
    let base := if src.val = 8 then 0x200 else 0x100
    let s := s.maskRegs p base (entries.map fun l => l.any LineTest.isOpen)
    let s := s.maskRegs p (base + 0x20) (entries.map fun l => l.any LineTest.isShort)
    let s := s.srcPut src F.TAF_STATUS_TESTED 1
    let s := s.srcPut src F.TAF_STATUS_IDLE 1
    let s := s.setSrc src { s.src src with testing := false }
    let s := if src.val = 8 then s.each (upTo (s.planCount 8)) fun n s => s.testVerdict 8 n (entries.getD n []) else s.testVerdict src 0 entries.flatten
    .next (s.setSrcState src (if !(s.touchScans src) then tsOff else if 8 ≤ s.srcGet src F.TAF_STATUS_FRUN then tsFlooded else tsScanning))

end Sys2Proof.Machine
end

