-- ==== Sys2Proof/Machine/Start.lean ====
section
/-! DEFINITION. A start (R382 to R392): power-on, PORST_N, straps, the boot sources, the loader's check, the apply of the Plinth, Maquette, the
failed-start rule, and the end of a park. -/

namespace Sys2Proof.Machine

/-! ## Maquette (R389 to R392) -/

/-- The start enters Maquette: MQ_CAUSE, or 0 where a received image failed and `code` is the loader RESULT (R392). It does not count (R389). Both halves
are in reset again, the PCI Function of a start from PCIe with them, and the ports of a Peer Link fetch are off (R391). -/
def State.enterMaquette (s : State) (mq code : Nat) : State :=
  let s := { s with start := { s.start with cause := code, stage := .maquette, cands := [] }, arm := none }
  let pci (p : Pg) : Bool := p = pgPci .A
  let s := (s.clearRegs pci clrHTF).clearHeld pci
  let s := s.whenB (s.start.boot = 4) fun s => (s.plkFall 0).plkFall 1
  let s := s.put pgRst F.RST_START_MQ_CAUSE mq
  let s := s.failsBack.event srcMode 0x00A0 (b1 code)
  s.setMode mMaquette .startRule

/-! ## The beginning of a start (R387 steps 1 and 4) -/

/-- What a start of any cause shows: stored fields, the open intent rolled forward (R373), the latch (R372), the sequence base (R344), and the
ring to be read (R421). -/
def State.startStores (s : State) : State :=
  let s := s.intentRoll
  let s := { s with pw := { s.pw with lcLatch := s.lcState } }
  let s := (s.lcShow.refShow).seqStart
  let s := s.put pgRst F.RST_START_FAILS (s.mramNat (storeBase + 0x2C) 1)
  let s := s.put pgArm F.ARM_FLOOR_FLOOR (s.mramNat (storeBase + 0x30) 2)
  let s := s.setReg pgPlk 8 (BitVec.ofNat 32 (s.mramNat (storeBase + 0x28) 4 % 2 ^ 18 + s.mramNat (storeBase + 0x28) 4 / 2 ^ 31 * 2 ^ 31))
  let s := s.each (upTo 12) fun w s => s.setReg pgRst (0x40 + 4 * w) (BitVec.ofNat 32 (s.mramNat (storeBase + 0x40 + 4 * w) 4))
  s.put pgPat F.PAT_STATUS_SCAN 1

/-- RST_CAUSE.START and the START event (R387, R419). -/
def State.startNote (s : State) (cause : Nat) (short : Bool) : State :=
  let s := (s.put (pgRstH .A) F.RST_CAUSE_START cause).put (pgRstH .B) F.RST_CAUSE_START cause
  s.event srcMode 0x0001 (b1 cause ++ b1 (if short then 1 else 0))

/-- A start of the module (R382, R383, R396): every class but K and M is cleared, MODE is Armature Load, and the tier is the one that VIN gives. -/
def State.startBegin (s : State) (cause vinMv : Nat) (t : ModeTrigger) : State :=
  let old := if s.start.stage = .off && s.mode = mLoad then mOff else s.mode
  let oldTier := s.tier
  let short := s.start.shortHold
  let s := s.moduleClear
  let s := { s with start := { stage := .straps }, pw := { s.pw with vio33 := true, vio18 := true } }
  let s := s.startStores
  let s := s.put pgMod F.MOD_STATUS_MODE mLoad
  let s := s.put pgMod F.MOD_STATUS_TIER (vinTier vinMv)
  let s := (s.showVin vinMv).put pgShd F.SHD_STATUS_TIER (vinTier vinMv)
  let s := s.startNote cause short
  let s := s.event srcMode 0x0002 (b1 old ++ b1 mLoad ++ b1 oldTier ++ b1 (vinTier vinMv) ++ [Config.triggerCode t])
  (s.each (upTo 8) fun p s => s.hpdAgain p).pdomRaise.peerSettle

/-- A wake source (R412): an enabled one starts a Dormant module where VIN is good, and is latched where it is not; in Hold-up it waits for the
end of the park. -/
def State.wakeBy (s : State) (code : Nat) : State :=
  if !((s.get pgKal F.KAL_WAKE_EN).testBit (code - 1)) then s
  else if s.mode = mDormant then
    if s.pw.vinGood then
      let s := { s.put pgKal F.KAL_WAKE_CAUSE code with pw := { s.pw with wakeLatch := none } }
      s.startBegin s.start.nextCause s.pw.vinMv .wake
    else { s with pw := { s.pw with wakeLatch := some (s.pw.wakeLatch.getD code) } }
  else if s.mode = mHoldUp then { s with park := s.park.map fun (k : Park) => { k with wake := some (k.wake.getD code) } }
  else s

/-- POWER_ON (R363, R387, R412): VIN has become good; a latched wake source of a Dormant module starts it too. -/
def execPowerOn (vinMv : Nat) (s : State) : Res :=
  if vinMv < 3300 || s.pw.vinGood then .next s
  else
    let s := { s with pw := { s.pw with vinGood := true, vinMv := vinMv } }
    if !s.pw.porstN then .next s
    else if s.mode = mDormant then .next (s.wakeBy (s.pw.wakeLatch.getD 1))
    else if s.mode = mHoldUp then .next { s with park := s.park.map fun (k : Park) => { k with wake := some (k.wake.getD 1) } }
    else if s.start.stage = .off then .next (s.startBegin s.start.nextCause vinMv .vin)
    else .next s

/-- PORST_N_ASSERT (R363, R382, R394): Off at once; writes of MRAM stop at a word boundary. -/
def execPorstNAssert (s : State) : Res :=
  let s := (s.armCut.lcsCut).moduleClear
  let s := { s with pw := { s.pw with porstN := false }, start := {} }
  .next (s.put pgMod F.MOD_STATUS_MODE mOff)

/-- PORST_N_RELEASE (R382, R385): with VIN good a start begins; else the module stays off, Dormant where VKA is present. -/
def execPorstNRelease (vinMv : Nat) (s : State) : Res :=
  if s.pw.porstN then .next s
  else
    let s := { s with pw := { s.pw with porstN := true } }
    if s.pw.vinGood then .next (s.startBegin 2 vinMv .porst)
    else .next (s.put pgMod F.MOD_STATUS_MODE (if s.pw.vka then mDormant else mOff))

/-- START_WINDOW_EXPIRY (R389, R394): the module restarts as by PORST_N. -/
def execStartWindowExpiry (s : State) : Res :=
  if s.start.reached || s.noPower || s.start.stage = .off || s.start.stage = .maquette then .next s
  else .next ((s.armCut.lcsCut).startBegin 4 s.pw.vinMv .startRule)

/-- FAILS_CLEAR (R389): 15 min without interruption in Service modes. -/
def execFailsClear (s : State) : Res :=
  match s.start.since with
  | none => .next s
  | some _ => .next { s.setFails 0 0 with start := { s.start with counted := false } }

/-! ## Straps and boot sources (R385, R386, R50) -/

/-- The straps are sampled (R385): CLKMODE 0b11 is taken as 0b00. -/
def State.strapTake (s : State) (boot clk : Nat) : State :=
  let rsv := if clk = 3 then 1 else 0
  let s := s.put pgRst F.RST_STRAP_BOOT boot
  let s := s.put pgRst F.RST_STRAP_CLKMODE (if clk = 3 then 0 else clk)
  let s := s.put pgRst F.RST_STRAP_RSV rsv
  let s := { s with start := { s.start with boot := boot } }
  s.event srcReset 0x0004 (b1 boot ++ b1 clk ++ b1 rsv)

/-- The slots that a start from MRAM checks, in order (R50). -/
def State.bootSlots (s : State) (boot : Nat) : List Nat :=
  if boot = 1 then [0] else if boot = 2 then [1]
  else if s.imgGen (.slot 0) < s.imgGen (.slot 1) then [1, 0] else [0, 1]

/-- The target slot of an image that arrives (R386): the one that is not Valid, else the one with the lower GEN, slot 1 on a tie. -/
def State.fetchTarget (s : State) : Nat :=
  if s.slotState 0 ≠ ssValid then 0 else if s.slotState 1 ≠ ssValid then 1
  else if s.slotGen 0 < s.slotGen 1 then 0 else 1

/-- The loader begins the check of a slot for a start. -/
def State.startCheck (s : State) (slot : Nat) : State :=
  { s with arm := some { source := .start, op := 2, slot := slot, checking := true }, start := { s.start with stage := .checking } }

/-- The bytes of an image begin to arrive in the target slot. -/
def State.fetchBegin (s : State) : State :=
  let k := s.fetchTarget
  let s := { s with arm := some { source := .start, op := 1, slot := k }, start := { s.start with stage := .fetching, target := k, got := 0, cands := [] } }
  s.setSlotState k ssWriting

/-- The start goes on from its straps (R385, R386, R389): failed-start rule, strap, life cycle, boot source; for PCIe, Half A's PCI Function alone
leaves reset. -/
def State.bootGo (s : State) : State :=
  let boot := s.start.boot
  let fails := s.get pgRst F.RST_START_FAILS
  if 3 ≤ fails then s.enterMaquette 0x84 0x84
  else if boot = 7 then s.enterMaquette 0x83 0x83
  else
    let s := { s.setFails (min 15 (fails + 1)) fails with start := { s.start with counted := true } }
    if s.lcState ≠ lcProvisioned && s.lcState ≠ lcService then s.enterMaquette 0x82 0x82
    else if boot ≤ 2 then
      let l := s.bootSlots boot
      ({ s with start := { s.start with cands := l.drop 1 } }).startCheck (l.headD 0)
    else if boot = 4 && allZero (s.mramBytes (storeBase + 0x40) 48) then s.enterMaquette 0x85 0x85
    else
      let s := s.slotChecked 0 (s.imgCheck (.slot 0))
      let s := s.slotChecked 1 (s.imgCheck (.slot 1))
      if boot = 3 then
        { s with arm := some { source := .start, op := 2, slot := s.fetchTarget, checking := true, inPlace := true },
                 start := { s.start with stage := .checking, target := s.fetchTarget, cands := [] } }
      else if boot = 4 then (((s.fetchBegin).txNew).imageReq 0).imageReq 1
      else (s.whenB (boot = 5) fun s => s.pciDiscover .A).fetchBegin

/-- STRAP_SAMPLE (R385). -/
def execStrapSample (boot : BitVec 3) (clkmode : BitVec 2) (s : State) : Res :=
  if s.start.stage ≠ .straps then .next s else .next (s.strapTake boot.toNat clkmode.toNat).bootGo

/-! ## The apply of the Plinth (R47, R110, R130, R387 step 6) -/

/-- A port takes the port timing section: SRC is Status or None, the generator starts at line 0 of frame 0 where the tier lets it run, and discovery
begins again with the expected identity. -/
def State.portApply (s : State) (p : Nat) : State :=
  let s := s.setPort p { s.port p with timing := none }
  let s := (s.linkLost p).setSource p (if s.flag (pgScn p) F.SCN_CFG_STATUS then 2 else 3)
  let s := if s.tier = 4 && !(s.flag (pgScn p) F.SCN_CFG_T4) then s.setPort p { s.port p with t4Stop := true } else s.genStart p
  if (s.port p).hpd then s.probe p else s

/-- A half leaves reset at a start; in T2 to T4 Half B stays Parked (R387, R396). -/
def State.halfFirst (s : State) (h : Half) : State :=
  if 2 ≤ s.tier && h = .B then
    (s.setHs h { s.hs h with stage := .reset, hold := true }).setHalfState h hsParked
  else ((s.setHs h { s.hs h with stage := .applying }).domRaise h).pciDiscover h

/-- The Plinth applies a verified slot, and MODE is Bring-up. -/
def State.plinthApply (s : State) (slot : Nat) : State :=
  let s := ((s.setSlot .A slot).setSlot .B slot).setSlot .P slot
  let s := (s.applyImage .P (s.slotCells slot)).each (upTo 8) fun p s => s.sinkCfgShow p slot
  let s := s.each (upTo 8) fun p s => s.portApply p
  let s := ((s.audioLoad slot).touchApply).hapDiscover.aioDiscover.pdomRaise
  let s := s.setMode mBringUp .loader
  (s.halfFirst .A).halfFirst .B

/-- The start uses a slot. -/
def State.startUse (s : State) (slot : Nat) : State :=
  let s := { s with arm := none, start := { s.start with stage := .done, noImage := false, cands := [] } }
  s.plinthApply slot

/-! ## The end of a check (R41, R43, R50, R386) -/

/-- The xSPI image was checked in place: a slot with its manifest is used, or it is copied into the target slot. -/
def State.xspiChecked (s : State) : State :=
  let r := s.imgCheck .xspi
  if r.1 ≠ 0 then (s.loaderEvent 0xFF r.1 0 r.2 0 0).enterMaquette 0 r.1
  else
    let m := s.imgBytes .xspi 0 0x2000
    match [0, 1].find? fun k => s.slotState k = ssValid && s.manifest k = m with
    | some k => s.startUse k
    | none =>
      let o : ArmOp := { source := .start, op := 1, slot := s.start.target, inPlace := true, blocks := s.imgLen .xspi / 4096 }
      ({ s with arm := some o, start := { s.start with stage := .fetching } }).setSlotState s.start.target ssWriting

/-- A slot that a start checked: it is used, or the next one is checked, or the start enters Maquette. -/
def State.startChecked (s : State) (slot result : Nat) : State :=
  if result = 0 then s.startUse slot
  else if 3 ≤ s.start.boot then s.enterMaquette 0 result
  else match s.start.cands with
    | k :: r => ({ s with start := { s.start with cands := r } }).startCheck k
    | [] => s.enterMaquette 0x81 0x81

/-- LOADER_CHECK_DONE (R41, R43, R50): the result is recorded in ARM_SLOTn and in ARM_STATUS of the issuing half; a start goes on. -/
def execLoaderCheckDone (s : State) : Res :=
  match s.arm with
  | none => .next s
  | some o =>
    if !o.checking then .next s
    else if o.inPlace && o.op = 2 then .next s.xspiChecked
    else
      let r := s.imgCheck (.slot o.slot)
      let s := s.slotChecked o.slot r
      let s := { s with start := { s.start with cause := r.1 } }
      .next (match o.source with
        | .start => s.startChecked o.slot r.1
        | src => s.armEnd src r.1)

/-- PLINTH_SWITCH (R57 step 8): the switch begins. What has no boundary of its own takes the new sections at once; each port, touch source and the
sample programs take them at theirs (State.plinthTake), and the REARM completes once all have. -/
def execPlinthSwitch (s : State) : Res :=
  match s.rearm with
  | none => .next s
  | some a => .next (if a.step ≠ 8 || s.hoRun.isSome then s else ({ s with rearm := some { a with switching := true } }).plinthTake [])

/-! ## Images that arrive (R386, R391, R439) -/

/-- Bytes of an image are written into a slot as they arrive; nothing beyond the slot is written, and nothing at all in the condition of R15. -/
def State.imageBytes (s : State) (slot off : Nat) (bs : List Byte) : State :=
  if s.copyFault then s else s.setMram (slotBase slot + off) (bs.take (slotSize - off))

/-- The last byte of an image has arrived: its check begins. -/
def State.imageEnd (s : State) : State :=
  match s.arm with
  | none => s
  | some o => { s with arm := some { o with checking := true }, start := if o.source = .start then { s.start with stage := .checking } else s.start }

/-- PEER_IMAGE_DATA (R340, R386): the next 1,024 bytes, from the neighbour that answered first. -/
def execPeerImageData (p : Fin 2) (hdr : PeerHdr) (blockOffset : Nat) (data : List Byte) (last : Bool) (s : State) : Res :=
  let (ok, s) := s.txNew.peerGood p 7 hdr
  let mine := s.start.cands.isEmpty || s.start.cands = [p.val]
  if !ok || hdr.major ≠ 1 || hdr.domainId.toNat ≠ s.imageDomain.getD hdr.domainId.toNat || !(s.fetching 4) || !mine || blockOffset ≠ s.start.got then .next s
  else
    let s := s.imageBytes s.start.target s.start.got data
    let got := s.start.got + data.length
    let s := { s with start := { s.start with got := got, cands := [p.val] } }
    let len := s.imgLen (.slot s.start.target)
    .next (if last || (12 ≤ got && len ≤ got) || slotSize ≤ got then s.imageEnd else s.imageReq p)

/-- PCIE_BOOT_DATA_WRITE (R386): bytes at an offset of BAR0. -/
def execPcieBootDataWrite (offset : Nat) (data : List Byte) (s : State) : Res :=
  if !(s.fetching 5) || slotSize ≤ offset then .next s else .next (s.imageBytes s.start.target offset data)

/-- PCIE_BOOT_LENGTH (R386): the length ends the transfer. -/
def execPcieBootLength (len : Nat) (s : State) : Res :=
  if !(s.fetching 5) then .next s else .next ({ s with start := { s.start with got := len } }.imageEnd)

/-- Does the service port take a command of Maquette (R391)? -/
def State.svcTakes (s : State) : Bool :=
  s.flag pgSvc F.SVC_STATUS_ATTACHED && s.mode = mMaquette && s.lcState ≠ lcRetired && !s.copyFault && !s.armBusy

/-- SVC_READ (R371, R391, R428): a ring slot by its number, a snapshot descriptor counted from there, or after those the inspection record (log
entry 151). -/
def execSvcRead (position : Nat) (s : State) : Res :=
  if !(s.flag pgSvc F.SVC_STATUS_ATTACHED) then .next s
  else
    let bs := if position < ringSlots then s.ringSlot position
      else if position < ringSlots + 8 then s.descBytes (position - ringSlots)
      else if position = ringSlots + 8 then s.mramBytes (storeBase + 0x5000) 4096 else []
    .next { s with svc := { s.svc with reply := bs } }

/-- SVC_WRITE (R391): the slot shows Writing, and the image's bytes follow in bulk OUT transfers. -/
def execSvcWrite (slot : Fin 2) (s : State) : Res :=
  if !s.svcTakes then .next s
  else .next ({ s with arm := some { source := .service, op := 1, slot := slot }, svc := { s.svc with got := 0 } }.setSlotState slot ssWriting)

/-- SVC_VERIFY (R391). -/
def execSvcVerify (slot : Fin 2) (s : State) : Res :=
  if !s.svcTakes then .next s
  else .next { s with arm := some { source := .service, op := 2, slot := slot, checking := true } }

/-- SVC_START (R385, R391): FAILS is 0, the straps are sampled again, and the start goes on in Armature Load. No reset class is cleared (R383). -/
def execSvcStart (boot : BitVec 3) (clkmode : BitVec 2) (s : State) : Res :=
  if !(s.svcTakes && s.lcs.isNone) then .next s
  else
    let s := { s.setFails 0 0 with start := { stage := .straps } }
    let s := (s.startStores.put pgRst F.RST_START_MQ_CAUSE 0).startNote 5 false
    .next ((s.setMode mLoad .service).strapTake boot.toNat clkmode.toNat).bootGo

/-- SERVICE_BULK_OUT (R386, R391, R459): image bytes of a fetch or a WRITE; a zero-length packet ends the image. -/
def execServiceBulkOut (data : List Byte) (s : State) : Res :=
  if !(s.flag pgSvc F.SVC_STATUS_ATTACHED) then .next s
  else match s.arm with
    | none => .next s
    | some o =>
      let fetch := o.source = .start && s.fetching 6
      let write := o.source = .service && o.op = 1 && !o.checking
      if !fetch && !write then .next s
      else if data.isEmpty then .next s.imageEnd
      else if fetch then
        .next { s.imageBytes o.slot s.start.got data with start := { s.start with got := s.start.got + data.length } }
      else .next { s.imageBytes o.slot s.svc.got data with svc := { s.svc with got := s.svc.got + data.length } }

/-- SERVICE_WRITE_STALL (R439): a WRITE whose data stopped arriving, or whose port detached, leaves its slot Invalid. -/
def execServiceWriteStall (s : State) : Res :=
  let stalled := match s.arm with
    | none => true
    | some o => o.source = .service && o.op = 1 && !o.checking
  if !stalled then .next s
  else
    let s := { s with arm := none }
    .next (s.each [0, 1] fun k s => if s.slotState k = ssWriting then s.setSlotState k ssInvalid else s)

/-! ## The end of a park, and the wake sources (R409, R411, R412) -/

/-- PARK_COMPLETE (R409 steps 5 and 6): what is buffered is in MRAM unless HUP fell short; the module is Dormant where VKA is present, and Off
otherwise. A wake source that met the park then starts it. -/
def execParkComplete (s : State) : Res :=
  match s.park with
  | none => .next s
  | some k =>
    let s := if k.short then s else
      (let s := s.scanDone.closeSnap
       s.flushN s.pat.buf.length)
    let s := { s with start := { s.start with nextCause := if k.byCommand then 1 else 3 } }
    let s := s.moduleClear.put pgMod F.MOD_STATUS_MODE (if s.pw.vka then mDormant else mOff)
    .next (match k.wake with
      | none => s
      | some c =>
        if s.mode = mDormant then s.wakeBy c
        else if c = 1 && s.pw.vinGood then s.startBegin s.start.nextCause s.pw.vinMv .vin
        else s)

def WakeSource.code : WakeSource → Nat
  | .vin => 1
  | .wakeN => 2
  | .rtc => 3
  | .tamper => 4

/-- DORMANT_WAKE (R412, R436, R446): a wake source acts; WAKE_N is not seen while PORST_N is low. -/
def execDormantWake (source : WakeSource) (s : State) : Res :=
  if !s.pw.porstN then .next s
  else
    let s := s.whenB (source = .wakeN) fun s => s.put pgSvc F.SVC_STATUS_WAKE 1
    .next (s.wakeBy (WakeSource.code source))

/-- The RTC count of 32.768 kHz ticks, 48 bits. -/
def State.rtc (s : State) : Nat := s.get pgKal F.KAL_RTC_HI_TICK * 2 ^ 32 + s.get pgKal F.KAL_RTC_LO_TICK

/-- RTC_ALARM (R412): TICK bits 46:15 equal KAL_ALARM. -/
def execRtcAlarm (s : State) : Res :=
  .next (if s.rtc / 2 ^ 15 % 2 ^ 32 = s.get pgKal F.KAL_ALARM_SEC && s.pw.porstN then s.wakeBy 3 else s)

/-- TAMPER_EVENT (R411, R412): the latch is set, and a wake source acts. -/
def execTamperEvent (s : State) : Res :=
  let s := s.put pgKal F.KAL_WAKE_TAMPER 1
  .next (if s.pw.porstN then s.wakeBy 4 else s)

/-- KEEP_ALIVE_POWER_UP (R396, R411): every class K field is cleared, and FRESH reads 1. From VIN, which has reached 2.7 V, or from VKA. -/
def execKeepAlivePowerUp (fromVka : Bool) (s : State) : Res :=
  let s := s.clearRegs (fun _ => true) clrK
  let s := { s with pw := { s.pw with rtcAcc := 0, lcLatch := 0, wakeLatch := none, rtcHeld := none, vka := s.pw.vka || fromVka,
                                      vinMv := if fromVka then s.pw.vinMv else max 2700 s.pw.vinMv } }
  .next (if fromVka && s.mode = mOff && s.pw.porstN then s.put pgMod F.MOD_STATUS_MODE mDormant else s)

/-- VKA_LOSS (R383, R396): without VIN the keep-alive region loses its supply, and Dormant falls to Off. -/
def execVkaLoss (s : State) : Res :=
  let s := { s with pw := { s.pw with vka := false, wakeLatch := none } }
  .next (if s.mode = mDormant then s.put pgMod F.MOD_STATUS_MODE mOff else s)

end Sys2Proof.Machine
end

