-- ==== Sys2Proof/Machine/Package.lean ====
section
/-! DEFINITION. The pins and the small pages: the alert latch and the service port (R438, R439), the keep-alive page (R411), and the PCI link
partner (R457). -/

namespace Sys2Proof.Machine

/-! ## Signal groups (R435) -/

/-- The signal groups of R435, each with the pins that behave alike; display lanes, panel outputs and Peer Link ports by port, touch lines by
source, haptic outputs by channel, PCIe by half. -/
inductive SignalGroup where
  | vio
  | display (port : Nat)
  | hpd
  | panel (port : Nat)
  | touch (source : Nat)
  | haptic (channel : Nat)
  | headset
  | peer (port : Nat)
  | pcie (h : Half)
  | xspi
  | service
  | debug
  | alert
  deriving DecidableEq, Repr

/-- The states of a signal group: `byRule` is what the unit's own registers show (R114, R123, R124, R397, R438, R439). -/
inductive SignalState where
  | off
  | released
  | low
  | heldGnd
  | muted
  | idle
  | sensed
  | notSensed
  | detached
  | linkDown
  | available
  | byRule
  deriving DecidableEq, Repr

/-- The state that a signal group takes in the mode (R435). -/
def State.signal (s : State) (g : SignalGroup) : SignalState :=
  let gone := s.mode = mOff || s.mode = mDormant
  let early := s.mode = mLoad || s.mode = mMaquette
  let night := s.mode = mNight
  let park := s.mode = mHoldUp
  match g with
  | .vio => if gone then .off else .byRule
  | .display p => if gone then .released else if park || night || (early && !(s.flag (pgScn p) F.SCN_LINK_UP)) then .off else .byRule
  | .hpd => if s.hpdSensed then .sensed else .notSensed
  | .panel p => if gone || park || (night && !(s.port p).psrNight) then .low else .byRule
  | .touch src => if gone then .released else if park || early || (night && !(s.kept src)) then .heldGnd else .byRule
  | .haptic ch => if gone || early || night || park || s.disc pgHap ch ≠ 2 then .released else .byRule
  | .headset => if gone || night then .released else if early || park then .muted else .byRule
  | .peer p =>
    if gone || park || s.mode = mMaquette || (s.mode = mLoad && s.start.boot ≠ 4) then .off
    else if night && s.get pgPlk F.PLK_CFG_T4PORT ≠ p then .off
    else .byRule
  | .pcie h =>
    if gone || park || (early && !(h = .A && s.mode = mLoad && s.start.boot = 5)) then .off else if night then .linkDown else .byRule
  | .xspi => if gone then .released else if early then .byRule else .idle
  | .service => if gone then .detached else .byRule
  | .debug => if gone || park then .released else .available
  | .alert => if gone then .released else .byRule

/-- The alert latch stays for 100 ms after it was last set (R438). -/
def alertHoldUs : Nat := 100000

/-- SVC_ALERT_CLEAR (R438). -/
def execSvcAlertClear (rq : Requester) (s : State) : Res :=
  hostWrite rq pgSvc s fun s =>
    if !(s.flag pgSvc F.SVC_ALERT_CLEAR) then .next s
    else if s.time < s.pw.alertLast + alertHoldUs then .next { s with pw := { s.pw with alertDue := true } }
    else .next s.alertOff

/-- ALERT_CLEAR_DELAYED (R438): 100 ms have passed. In the condition of R15 the latch cannot be cleared. -/
def execAlertClearDelayed (s : State) : Res := .next (if s.pw.alertDue && !s.copyFault then s.alertOff else s)

/-- May the service port be attached, where VBUS is present (R439): by SERVICE_N or in Maquette, and the Plinth has power (R435)? -/
def State.svcMay (s : State) (serviceLow : Bool) : Bool :=
  (serviceLow || s.mode = mMaquette) && s.mode ≠ mOff && s.mode ≠ mDormant && s.start.stage ≠ .off

/-- SERVICE_ATTACH (R439): VBUS_SENSE is above 4.0 V, with the level of SERVICE_N after its filter. -/
def execServiceAttach (serviceLow : Bool) (s : State) : Res :=
  let s := (s.put pgSvc F.SVC_STATUS_VBUS 1).put pgSvc F.SVC_STATUS_SERVICE (if serviceLow then 1 else 0)
  .next (if s.svcMay serviceLow && !(s.flag pgSvc F.SVC_STATUS_ATTACHED) then
    (s.put pgSvc F.SVC_STATUS_ATTACHED 1).incSat pgSvc F.SVC_STATUS_SESSIONS
  else s)

/-- A command in progress at detachment ends there (R439): a check or a PROVISION stops, and a WRITE leaves its slot in Writing. -/
def State.svcEnd (s : State) : State :=
  let s := match s.arm with
    | none => s
    | some o => if o.source = ArmSource.service then { s with arm := none } else s
  match s.lcs with
  | none => s
  | some o => if o.service then s.lcsCut.put pgLcs F.LCS_STATUS_BUSY 0 else s

/-- SERVICE_DETACH (R439, R446): the levels of VBUS_SENSE and SERVICE_N no longer allow the port. -/
def execServiceDetach (vbus serviceLow : Bool) (s : State) : Res :=
  let s := (s.put pgSvc F.SVC_STATUS_VBUS (if vbus then 1 else 0)).put pgSvc F.SVC_STATUS_SERVICE (if serviceLow then 1 else 0)
  .next (if s.flag pgSvc F.SVC_STATUS_ATTACHED && !(vbus && s.svcMay serviceLow) then
    (s.put pgSvc F.SVC_STATUS_ATTACHED 0).svcEnd
  else s)

/-- KAL_INC (R411): each named counter counts by one, saturating. -/
def execKalInc (rq : Requester) (mask : BitVec 4) (s : State) : Res :=
  hostWrite rq pgKal s fun s =>
    .next (s.each (upTo 4) fun n s => if mask.getLsbD n then s.incSat pgKal (F.KAL_MCNT_COUNT.at (4 * n)) else s)

/-- KAL_RTC_HI_WRITE (R411): all 48 bits are set, the low word to the held write of KAL_RTC_LO, or to itself where none is held. A write to the
reserved bits leaves the count free (R6). -/
def execKalRtcHiWrite (rq : Requester) (value : Word) (s : State) : Res :=
  hostWrite rq pgKal s fun s =>
    if 65536 ≤ value.toNat then .next ((s.unpredictable pgKal 0xC).wildStatus pgKal [F.KAL_RTC_LO_TICK])
    else
      let s := s.put pgKal F.KAL_RTC_HI_TICK value.toNat
      let s := match s.pw.rtcHeld with
        | none => s
        | some lo => s.put pgKal F.KAL_RTC_LO_TICK lo.toNat
      .next { s with pw := { s.pw with rtcHeld := none, rtcAcc := 0 } }

/-- Is the PCI Function of a half in reset? That of Half A alone leaves it for a start from PCIe (R386). -/
def State.pciHeld (s : State) (h : Half) : Bool := s.inReset h && !(h = .A && s.mode = mLoad && s.start.boot = 5 && s.start.stage ≠ .straps)

/-- PCI_PRESENCE_CHANGE (R31, R244, R457): a half whose PCI Function is in reset sees nothing before it runs discovery again. -/
def execPciPresenceChange (h : Half) (event : PciEvent) (s : State) : Res :=
  let p := pgPci h
  let s := s.setPciIn h (event ≠ .removed)
  if s.pciHeld h || s.noPower then .next s
  else match event with
    | .presence => .next (if s.disc p 0 = 2 || s.disc p 0 = 3 then s else s.discSet p 0 1)
    | .trained device vendor subsystem lanes speed vfs =>
      let s := (s.put p F.PCI_STATUS_LINK 1).put p F.PCI_STATUS_VFS vfs
      let s := (s.put p F.PCI_STATUS_WIDTH lanes).put p F.PCI_STATUS_SPEED speed
      let id := BitVec.ofNat 32 (device.toNat % 65536 * 65536 + vendor.toNat % 65536)
      let s := (s.discSet p 0 1).discId p 0 id subsystem
      let want := Config.imagePci (s.image (Half.die h)) (Half.num h)
      .next (s.discSet p 0 (if id = want.1 && subsystem = want.2 then 2 else 3))
    | .trainingFailed => .next (((s.pciDown h).discSet p 0 1).discSet p 0 4)
    | .removed => .next ((s.pciDown h).discSet p 0 0)

end Sys2Proof.Machine
end

