-- ==== Sys2Proof/Machine/Reset.lean ====
section
/-! DEFINITION. The resets narrower than a half (R382, R383, R393, R394): one Function, or every Function of a Partition. -/

namespace Sys2Proof.Machine

/-! ## One Function -/

/-- The pages of a Function: both pages of an instance, else the page itself (R452). -/
def funcOf (pg p : Pg) : Bool :=
  p.die = pg.die &&
    (p.code = pg.code || (pg.die ≠ .P && 0x400 ≤ pg.code && pg.code < 0x480 && p.code / 2 = pg.code / 2))

/-- The class F fields of a Function take their reset values, and its discovery holding registers are dropped (R30, R383). -/
def State.funcClear (s : State) (pg : Pg) : State := (s.clearRegs (funcOf pg) clrF).clearHeld (funcOf pg)

/-- A Function of a half is reset: its class F fields and its engine's state. -/
def State.halfUnitReset (s : State) (h : Half) (code : Nat) : State :=
  let pg := halfPg h code
  let s := if pg.kind = some .rcx then s.groupsDrop h (code - 0x100) else s
  let s := s.funcClear pg
  match pg.kind with
  | some .cmp => s.setPipe h code {}
  | some .rcx =>
    let s := s.setCtx h (code - 0x100) {}
    if code = 0x100 then (s.setHs h { s.hs h with compositor := 0 }).unpause h else s
  | some .qu => s.quReset h (code - 0x200)
  | some .cvu => s.setScan h (code - 0x50) {}
  | some .inst => s.instClear h ((code - 0x400) / 2)
  | some .insq => s.instClear h ((code - 0x401) / 2)
  | some .pci => s.pciDiscover h
  | _ => s

/-- A touch source starts anew (R311), or stays stopped in T4. -/
def State.touchAgain (s : State) (src : Nat) : State :=
  if (s.src src).t4Stop then (s.setSrc src { t4Stop := true }).setSrcState src tsStopped else (s.setSrc src {}).touchStart src

/-- An SCN Function is reset (R113): the generator runs on, the link is down, and discovery begins again, with HPD at the level of the pin (log entry
96). The source is None, on both ports of a locked pair (R126); in the condition of R15 every source stays. DESIGN CHOICE (log entry 131): an acceptance
by command ends with the reset as with an unplug (R118 names the unplug alone), since the discovery that follows is that of a sink just found. -/
def State.scnReset (s : State) (n : Nat) : State :=
  let s := (s.each (s.group n) fun p s => s.setSource p 3).linkLost n
  let src := s.portSrc n
  let s := (s.funcClear (pgScn n)).put (pgScn n) F.SCN_STATUS_SRC src
  let s := s.setPort n { s.port n with caps := none, ident := none, byCommand := false, linkRead := false }
  if (s.port n).hpd then (s.put (pgScn n) F.SCN_STATUS_HPD 1).probe n else s

/-- An ICK Function is reset (R152): counts and recorded results go and DARK ends; each lane keeps its active states and compares again from the next
frame. -/
def State.ickReset (s : State) (n : Nat) : State :=
  let u := s.get (pgIck n) F.ICK_STATUS_U_ACTIVE
  let s := ((s.darkReset n).funcClear (pgIck n)).put (pgIck n) F.ICK_STATUS_U_ACTIVE u
  let q := s.port n
  let s := s.setPort n { q with
    laneS := { act := q.laneS.act, wait := true }, laneU := { act := q.laneU.act, wait := true }, sinkCount := 0, sinkBusy := false,
    sinkHist := [], sinkAcc := none }
  (s.showAct n).laneRefresh n

/-- The HAP Function is reset (R324): channels are Idle where their domain is On, and every load is checked again. -/
def State.hapReset (s : State) : State :=
  let s := { s.funcClear pgHap with hap := [], hapFold := {} }
  let s := s.each [16, 17] fun d s => if s.pdomain d = 2 then s.each (hapOf d) fun ch s => s.setHap ch hcIdle else s
  s.hapDiscover

/-- The PLK Function is reset: the module is Outside with nothing queued; a port that T4 or Night Watch stops is Stopped, and one whose PCS holds
block lock is Up again. What it knows since the start of the module stays (R341, R344). -/
def State.plkReset (s : State) : State :=
  let q := s.peer
  let s := { s.funcClear pgPlk with peer := { seqNext := q.seqNext, lastPort := q.lastPort, linkUp := q.linkUp } }
  let s := s.peerSettle
  let s := s.each (upTo 2) fun p s => if s.plkState p = pkDown && q.linkUp.contains p then (s.plkLink p true).plkRise p else s
  s.lockRefreshAll

/-- A Plinth Function is reset. The cells of the audio engine are class A and stay (R49, R330). -/
def State.plinthUnitReset (s : State) (code : Nat) : State :=
  let pg := plinthPg code
  match pg.kind with
  | some .scn => s.scnReset code
  | some .ick => s.ickReset (code - 0x10)
  | some .taf => (s.funcClear pg).touchAgain (code - 0x20)
  | some .tce => ((s.funcClear pg).refShow).touchAgain 8
  | some .hap => s.hapReset
  | some .aud => { s.funcClear pg with audio := { banks := s.audio.banks } }
  | some .aio => (s.funcClear pg).aioDiscover
  | some .plk => s.plkReset
  | some .pat => { s.funcClear pg with pat := { s.pat with copies := [] } }
  | _ => s.funcClear pg

def State.unitReset (s : State) (pg : Pg) : State :=
  match pg.die with
  | .A => s.halfUnitReset .A pg.code
  | .B => s.halfUnitReset .B pg.code
  | .P => s.plinthUnitReset pg.code

/-! ## RST_CTRL -/

/-- Is the page a resettable Function of a half, and is it idle (R393)? -/
def State.halfFuncIdle (s : State) (h : Half) (code : Nat) : Option Bool :=
  match (halfPg h code).kind with
  | some .cmp => some (s.get (pgCmp h code) F.CMP_SCHED_ROLE = 7)
  | some .rcx => (let st := s.rs h (code - 0x100); some (st = rsIdle || st = rsSuspended || st = rsFaulted))
  | some .inst => (let st := s.instState h ((code - 0x400) / 2); some (st = stIdle || st = stFrozen || st = stTwin))
  | some .qu => some (s.flag (halfPg h code) F.QU_STATUS_IDLE)
  | some .cvu => some (!(s.flag (halfPg h code) F.CVU_STATUS_BUSY))
  | _ => none

def State.plinthFuncIdle (s : State) (code : Nat) : Option Bool :=
  match (plinthPg code).kind with
  | some .taf => some (s.srcGet (code - 0x20) F.TAF_STATUS_IDLE = 1)
  | some .tce => some (s.srcGet 8 F.TAF_STATUS_IDLE = 1)
  | some .scn => some (s.disc (pgScn code) 0 = 0)
  | some .ick => some (!(s.flag (plinthPg code) F.ICK_STATUS_S_ACTIVE) && !(s.flag (plinthPg code) F.ICK_STATUS_U_ACTIVE))
  | some .hap => some (s.get pgHap F.HAP_STATUS_BUSY = 0)
  | some .plk => some (s.memb = mbOutside && !(s.flag pgPlk F.PLK_STATUS_BUSY))
  | _ => none

/-- Is the domain of a Function off (R393, R398)? -/
def State.funcOff (s : State) (h : Half) (plinth : Bool) (code : Nat) : Bool :=
  if plinth then
    (if code < 8 then s.pdomain code = 0 else if 0x20 ≤ code && code < 0x29 then s.pdomain 20 = 0
     else if code = 0x30 then s.pdomain 16 = 0 else if code = 0x40 then s.pdomain 21 = 0 else false)
  else match domainOf code with
    | none => false
    | some d => s.domain h d = 0

/-- Does the number name a page of the window (R452, R454)? SG0 to SG3 have pages without registers. -/
def pageExists (h : Half) (plinth : Bool) (code : Nat) : Bool :=
  if plinth then code < 0x80 && (plinthPg code).kind.isSome
  else code < 0x480 && ((halfPg h code).kind.isSome || (0x21 ≤ code && code < 0x25))

/-- RST_FUNC_RESET (R393, R394): a reserved PAGE leaves the status of the issuing half free; a Function that is not idle is left as an unknown state
has it, and the command ends (log entry 81). -/
def execRstFuncReset (rq : Requester) (plinth : Bool) (page : Nat) (s : State) : Res :=
  let h := rq.half
  hostWrite rq (pgRstH h) s fun s =>
    let (second, s) := s.rstTurn h
    if second then .next (s.rstDone h 1)
    else if !(pageExists h plinth page) then .next (s.wildStatus (pgRstH h) [F.RST_STATUS_DONE, F.RST_STATUS_RESULT])
    else match (if plinth then s.plinthFuncIdle page else s.halfFuncIdle h page) with
      | none => .next (s.rstDone h 2)
      | some idle =>
        let pg := if plinth then plinthPg page else halfPg h page
        .next ((if !idle && !(s.funcOff h plinth page) then s.unpredictable pg 0 else s.unitReset pg).rstDone h 0)

/-- RST_PART_RESET (R12, R383): every Function granted to the Partition, Plinth Functions included; harts go on. DESIGN CHOICE (log entry 106): these
are the pages that the grants of the issuing half name, in that half and on the Plinth; the manual does not say whether the Partition of the same
number in the other half is reset too. -/
def execRstPartReset (rq : Requester) (part : Fin 16) (s : State) : Res :=
  let h := rq.half
  hostWrite rq (pgRstH h) s fun s =>
    let (second, s) := s.rstTurn h
    if second then .next (s.rstDone h 1)
    else
    let mine := funcPages.filter fun c => s.granted h part (halfPg h c)
    let minePl := plinthPages.filter fun c => s.granted h part (plinthPg c)
    let s := s.each mine fun c s => s.halfUnitReset h c
    let s := s.each minePl fun c s => s.plinthUnitReset c
    .next (s.rstDone h 0)

end Sys2Proof.Machine
end

