-- ==== Sys2Proof/Machine/Registers.lean ====
section
/-! DEFINITION. Host accesses to register pages: the address map (R447 to R450), a write by access code (R5, R6), the read that holds a discovery
record (R30), and the disagreement of the Plinth control copies (R15). -/

namespace Sys2Proof.Machine

/-- The page behind a register address of a half (R447, R448), with the page whose grant and domain admit the access. MOD is one controller;
RST and ARM hold part of their registers per half. -/
def regPage (h : Half) (addr : Nat) : Option (Pg × Pg) :=
  let g := addr / 0x10000
  let off := addr % 0x10000
  let own (p : Pg) : Option (Pg × Pg) := if p.kind.isSome then some (p, p) else none
  if 0xF00000 ≤ g ∧ g < 0xF00480 then own (halfPg h (g - 0xF00000))
  else if 0xF10000 ≤ g ∧ g < 0xF10010 then own (halfPg h (0x1000 + (g - 0xF10000)))
  else if g = 0xF10100 then some (pgMod, halfPg h 0x2000)
  else if g = 0xF10101 then some (pgPwr h, pgPwr h)
  else if g = 0xF10102 then some (if off < 0xC then pgRstH h else pgRst, pgRstH h)
  else if g = 0xF10103 then some (if 0x10 ≤ off ∧ off < 0x20 then pgArm else pgArmH h, pgArmH h)
  else if 0xF20000 ≤ g ∧ g < 0xF20071 then own (plinthPg (g - 0xF20000))
  else none

/-- Is the address that of DRAM, scratchpad or PCIe, which no register write reaches (R447)? -/
def notRegister (addr : Nat) : Bool :=
  addr < dramSize || (spmBase ≤ addr && addr < spmBase + spmSize) || 0x10000000000 ≤ addr

/-- Offsets of a page that hold a read-only window: discovery words (R28), PAT and LCS windows (R376, R371, R428), the receive window of PLK. -/
def roWindow (k : PageKind) (off : Nat) : Bool :=
  (0xF000 ≤ off && (off - 0xF000) / 16 < positions k && off % 16 ≠ 0) ||
  (match k with
   | .pat => 0x1000 ≤ off && off < 0x2800
   | .lcs => (0x4000 ≤ off && off < 0x4064) || (0x4100 ≤ off && off < 0x48A0) || (0x8000 ≤ off && off < 0x9000)
   | .plk => 0x6000 ≤ off && off < 0xB000
   | _ => false)

def allBits : Nat := 0xFFFFFFFF

/-- Bits that a row of their own writes: REGISTER_WRITE leaves them as they are. -/
def ownBits (k : PageKind) (off : Nat) : Nat :=
  match k with
  | .scn => if off = 0 then 1 else 0
  | .rcx => if off = 4 ∨ off = 0x18 then allBits else 0
  | .taf => if off = 0 then allBits else 0
  | .hap => if off = 8 then allBits else 0
  | .aud => if 0x100 ≤ off ∧ off < 0x140 then allBits else 0
  | .pwr => if off = 0 then allBits else 0
  | .shd => if off = 0xC then allBits else if off = 0 then 2 ^ 28 + 2 ^ 29 else 0
  | .dmc => if off = 0x10 ∨ off = 0x14 then allBits else 0
  | .twn => if off = 4 then allBits else 0
  | .wld => if off = 0x30 then allBits else 0
  | .kal => if off = 0xC then allBits else 0
  | .plk => if off = 8 then allBits else 0
  | .svc => if off = 4 then allBits else 0
  | _ => 0

/-- Write-only words that the module keeps for a later command: WLD_EXT (R225), PAT_HOST (R419) and QU_PUSH_LO (R285). -/
def heldWord (k : PageKind) (off : Nat) : Bool :=
  (k = .wld && 0x40 ≤ off && off < 0x70) || (k = .pat && 0x40 ≤ off && off < 0x64) || (k = .qu && off = 0)

/-- The word after a host write (R5): RW bits take the value, W1C bits written as 1 clear, W1S bits written as 1 are set; RO and WO
bits stay. -/
def written (r : RegD) (own : Nat) (held : Bool) (old v : Word) : Word :=
  let skip := BitVec.ofNat 32 own
  let rw := BitVec.ofNat 32 (r.bits fun f => f.acc = .rw || (held && f.acc = .wo)) &&& ~~~skip
  let w1c := BitVec.ofNat 32 (r.bits fun f => f.acc = .w1c) &&& ~~~skip
  let w1s := BitVec.ofNat 32 (r.bits fun f => f.acc = .w1s) &&& ~~~skip
  (((old &&& ~~~rw) ||| (v &&& rw)) &&& ~~~(v &&& w1c)) ||| (v &&& w1s)

/-- The reserved bits that a value sets (R6). -/
def reservedSet (r : RegD) (v : Word) : Word := v &&& ~~~(BitVec.ofNat 32 (r.bits fun _ => true))

/-- Is a write to this register ignored by its chapter: a hub-owned descriptor (R233), or the scan's set-up while it runs (R272)? -/
def State.writeIgnored (s : State) (h : Half) (p : Pg) (k : PageKind) (off : Nat) : Bool :=
  match k with
  | .cmp => 0x1000 ≤ off && off < 0x1400 && (s.hubOwner h p.code ((off - 0x1000) / 0x40)).isSome
  | .cvu => 8 ≤ off && off < 0x1C && s.flag p F.CVU_STATUS_BUSY
  | _ => false

/-- What a write does beside its own word: clearing VALID clears COUNT (R231, R258), the key store keeps RST_FETCH (R386), T4PORT names
the port that runs in T4 (R358). -/
def State.writeAlso (s : State) (p : Pg) (k : PageKind) (off : Nat) (v : Word) : State :=
  match k with
  | .spm => if off = 8 ∧ v.getLsbD 31 = true then s.put p F.SPM_COLL_COUNT 0 else s
  | .wld => if off = 0x10 ∧ v.getLsbD 31 = true then s.put p F.WLD_RFAULT0_COUNT 0 else s
  | .plk => if off = 0x14 then s.peerSettle else s
  | .rst => if 0x40 ≤ off then s.setMram (storeBase + off) (leBytes 4 v.toNat) else s
  | _ => s

/-- How many operations the OP field of a command register at offset 0 of a page has; the encodings 0 and above are reserved. -/
def opCount : PageKind → Option Nat
  | .arm => some 6
  | .pair | .rst | .spm => some 3
  | .mod | .lcs | .pat => some 4
  | .inst | .plk => some 6
  | _ => none

/-- Does a value written to the register at `off` carry a reserved OP (R9)? -/
def reservedOp (k : PageKind) (off : Nat) (v : Word) : Bool :=
  match opCount k with
  | none => false
  | some n => off = 0 && (v.toNat % 16 = 0 || n < v.toNat % 16)

/-- A reserved encoding written to a register (R6, R9): the result is unpredictable, confined as the chapter of the page says: to the command and
its status (R206, R381, R394, R431 and the SPM and ARM status), to the domains (R415), else as `State.unpredictable` has it. -/
def State.reservedWrite (s : State) (h : Half) (p : Pg) (k : PageKind) (off : Nat) : State :=
  if off = 0 then
    match k with
    | .pair => s.wildStatus pgPair [F.PAIR_STATUS_DONE, F.PAIR_STATUS_RESULT]
    | .mod => s.wildStatus pgMod [F.MOD_STATUS_DONE, F.MOD_STATUS_RESULT]
    | .lcs => s.wildStatus pgLcs [F.LCS_STATUS_DONE, F.LCS_STATUS_RESULT]
    | .rst => s.wildStatus (pgRstH h) [F.RST_STATUS_DONE, F.RST_STATUS_RESULT]
    | .arm => s.wildStatus (pgArmH h) [F.ARM_STATUS_DONE, F.ARM_STATUS_OP, F.ARM_STATUS_RESULT]
    | .pat =>
      let (v, s) := (s.wildStatus pgPat [F.PAT_STATUS_MISSED]).takeFree
      let (w, s) := s.takeFree
      s.whenB (v % 2 = 1) fun s => s.event (0x0D00 + Half.num h) (0x800 + v / 2 % 0x800) (leBytes 36 w) (host := true)
    | .spm => s.wildStatus p [F.SPM_STATUS_DONE, F.SPM_STATUS_COLL, F.SPM_STATUS_UE, F.SPM_STATUS_CE]
    | _ => s.unpredictable p off
  else s.unpredictable p off

/-- A write to a register that the page holds. -/
def State.regWrite (s : State) (h : Half) (p : Pg) (k : PageKind) (off : Nat) (r : RegD) (v : Word) : State :=
  let res := reservedSet r v
  let old := s.reg p off
  let new := written r (ownBits k off) (heldWord k off) old v
  if k = .cmp ∧ isShadow off then
    let keep := BitVec.ofNat 32 (r.bits fun _ => true)
    if s.writeIgnored h p k off then s else s.setReg p off ((new &&& keep) ||| res)
  else if res ≠ 0 || reservedOp k off v then s.reservedWrite h p k off
  else if s.writeIgnored h p k off then s
  else if k = .aud ∧ 0x4000 ≤ off then s.setCell (1 - s.audBank) ((off - 0x4000) / 4) v
  else if k = .kal ∧ off = 8 then { s with pw := { s.pw with rtcHeld := some v } }
  else (s.setReg p off new).writeAlso p k off v

/-! ## Reads -/

/-- The bits of a register that a read returns (R5, R6): WO fields and reserved bits read as zero. -/
def RegD.readable (r : RegD) : Word := BitVec.ofNat 32 (r.bits fun f => f.acc ≠ .wo)

/-- A word of a read window: the slot copies and the descriptors of PAT (R428, R429; a slot whose first word was not read shows the slot itself,
log entry 113), the public keys and the inspection record of LCS (R376, R371), the transmit and receive windows of PLK. -/
def State.windowWord (s : State) (k : PageKind) (off : Nat) : Word :=
  let word (bs : List Byte) : Word := BitVec.ofNat 32 (leNat (bs.take 4))
  match k with
  | .pat =>
    if off < 0x2000 then
      let i := (off - 0x1000) / 64
      let bs := match tblFind i s.pat.copies with
        | some bs => bs
        | none => s.ringSlot (s.get pgPat F.PAT_RSEL_SLOT + i)
      word (bs.drop (off % 64))
    else word (s.mramBytes (descBase + (off - 0x2000)) 4)
  | .lcs =>
    if off < 0x4100 then word (s.mramBytes (storeBase + 0x3000 + Config.devicePublic 0 + (off - 0x4000)) (min 4 (0x4061 - off)))
    else if off < 0x8000 then word (s.mramBytes (storeBase + 0x3000 + Config.devicePublic 1 + (off - 0x4100)) 4)
    else word (s.mramBytes (storeBase + 0x5000 + (off - 0x8000)) 4)
  | .plk =>
    if off < 0x6000 then word (memBytes s.peer.txWin (off - 0x1000) 4) else word (memBytes s.peer.rxWin (off - 0x6000) 4)
  | _ => 0

/-- What a host reads at an offset of a page (R5, R6, R30): a register by its access codes, the held words of a discovery record, a read window,
the inactive bank of a sample program (R328). An offset that holds no register reads zero. -/
def State.readReg (s : State) (p : Pg) (off : Nat) : Word :=
  match p.kind with
  | none => 0
  | some k =>
    if 0xF000 ≤ off ∧ (off - 0xF000) / 16 < positions k ∧ off % 16 ≠ 0 then tblGet (fun _ => 0) s.held (p.key off)
    else if roWindow k off ∨ (k = .plk ∧ 0x1000 ≤ off ∧ off < 0x6000) then s.windowWord k off
    else match regAt k off with
      | none => 0
      | some r =>
        if k = .aud ∧ 0x4000 ≤ off then s.cell (1 - s.audBank) ((off - 0x4000) / 4) else s.reg p off &&& r.readable

/-! ## The two host accesses -/

/-- REGISTER_WRITE (R5, R6, R213, R447 to R450): a host store to a register page. -/
def execRegisterWrite (rq : Requester) (addr width : Nat) (value : Word) (s : State) : Res :=
  if notRegister addr then .next s
  else match regPage rq.half addr with
    | none => .next (s.dropped rq)
    | some (p, via) =>
      let off := addr % 0x10000
      match p.kind with
      | none => .next (s.dropped rq)
      | some k =>
        let f (s : State) : Res :=
          if s.writeIgnored rq.half p k (off / 4 * 4) && (width ≠ 4 || addr % 4 ≠ 0) then .next s
          else if width ≠ 4 ∨ addr % 4 ≠ 0 then .next (s.unpredictable p off)
          else if k = .plk ∧ 0x1000 ≤ off ∧ off < 0x6000 then
            .next { s with peer := { s.peer with txWin := memSetBytes s.peer.txWin (off - 0x1000) (leBytes 4 value.toNat) } }
          else if roWindow k off then .next s
          else match regAt k off with
            | none => .next (s.dropped rq)
            | some r => .next (s.regWrite rq.half p k off r value)
        if k = .insq then
          if !(s.pageOn p) then .next (s.dropped rq)
          else if !(s.insqAdmits rq ((p.code - 0x401) / 2)) then .next { s with reply := .ok 0 }
          else f { s with reply := .ok 0 }
        else hostWrite rq via s f off

/-- DREC_STATUS_READ (R30): the position's identity and time words are held; CHG stays. -/
def execDrecStatusRead (rq : Requester) (plinth : Bool) (page : Nat) (pos : Fin 256) (s : State) : Res :=
  let p := if plinth then plinthPg page else halfPg rq.half page
  let n := match p.kind with
    | none => 0
    | some k => positions k
  let at_ := 0xF000 + 0x10 * pos.val
  hostRead rq p s (fun s =>
    if n ≤ pos.val then .next (s.dropped rq)
    else
      let hold (o : Nat) (l : List (Nat × Word)) : List (Nat × Word) := tblSet (fun _ => 0) l (p.key (at_ + o)) (s.reg p (at_ + o))
      .next { s with held := hold 0xC (hold 8 (hold 4 s.held)), reply := .ok (s.readReg p at_).toNat }) at_

/-- PLINTH_COPY_DISAGREE (R15): the condition holds until power-on or PORST_N; handovers and a REARM cannot go on. -/
def execPlinthCopyDisagree (group : Word) (s : State) : Res :=
  if s.copyFault then .next s
  else
    let s := { s with copyFault := true }
    let s := (s.event srcCopy 0x0073 (b4 group.toNat) (trig := true)).alert
    .next ((s.hoEndAll 5).rearmStop 0x0E)

end Sys2Proof.Machine
end

