-- ==== Sys2Proof/Machine/Dispatch.lean ====
section
/-! DEFINITION. The dispatch of commands to their meanings: one arm per row of spec/opcode_table.json. -/

namespace Sys2Proof.Machine

def exec (i : Instr) (s : State) : Host.Outcome State Fault Refusal :=
  match i with
  | .registerWrite rq addr width value => Sys2Proof.Machine.execRegisterWrite rq addr width value s
  | .plinthCopyDisagree group => Sys2Proof.Machine.execPlinthCopyDisagree group s
  | .linePacketArrival h port crcOk => Sys2Proof.Machine.execLinePacketArrival h port crcOk s
  | .portLineBoundary port => Sys2Proof.Machine.execPortLineBoundary port s
  | .drecStatusRead rq plinth page pos => Sys2Proof.Machine.execDrecStatusRead rq plinth page pos s
  | .armWrite rq slot => Sys2Proof.Machine.execArmWrite rq slot s
  | .armVerify rq slot => Sys2Proof.Machine.execArmVerify rq slot s
  | .armErase rq slot => Sys2Proof.Machine.execArmErase rq slot s
  | .armRearm rq slot => Sys2Proof.Machine.execArmRearm rq slot s
  | .armRaiseFloor rq => Sys2Proof.Machine.execArmRaiseFloor rq s
  | .armAbort rq => Sys2Proof.Machine.execArmAbort rq s
  | .armCopyDone => Sys2Proof.Machine.execArmCopyDone s
  | .loaderCheckDone => Sys2Proof.Machine.execLoaderCheckDone s
  | .armEraseDone => Sys2Proof.Machine.execArmEraseDone s
  | .scrubDue => Sys2Proof.Machine.execScrubDue s
  | .scrubSlotDone => Sys2Proof.Machine.execScrubSlotDone s
  | .rearmChecksDone => Sys2Proof.Machine.execRearmChecksDone s
  | .rearmHandoverIssue port => Sys2Proof.Machine.execRearmHandoverIssue port s
  | .rearmQualTimeout port => Sys2Proof.Machine.execRearmQualTimeout port s
  | .rearmStartWindowTimeout => Sys2Proof.Machine.execRearmStartWindowTimeout s
  | .plinthSwitch => Sys2Proof.Machine.execPlinthSwitch s
  | .cmpGo rq pipe => Sys2Proof.Machine.execCmpGo rq pipe s
  | .latchLineStart port => Sys2Proof.Machine.execLatchLineStart port s
  | .latchMarker h pipe => Sys2Proof.Machine.execLatchMarker h pipe s
  | .pipeLineStart h pipe => Sys2Proof.Machine.execPipeLineStart h pipe s
  | .fetchChunkArrival h pipe => Sys2Proof.Machine.execFetchChunkArrival h pipe s
  | .lineClose h pipe => Sys2Proof.Machine.execLineClose h pipe s
  | .lineCutoff h pipe sent stalled => Sys2Proof.Machine.execLineCutoff h pipe sent stalled s
  | .composeResume h pipe => Sys2Proof.Machine.execComposeResume h pipe s
  | .portFrameBoundary port domainTimePs => Sys2Proof.Machine.execPortFrameBoundary port domainTimePs s
  | .blenDelayExpiry port => Sys2Proof.Machine.execBlenDelayExpiry port s
  | .hpdPlug port => Sys2Proof.Machine.execHpdPlug port s
  | .hpdUnplug port => Sys2Proof.Machine.execHpdUnplug port s
  | .hpdIrq port => Sys2Proof.Machine.execHpdIrq port s
  | .auxTransactionDone port result => Sys2Proof.Machine.execAuxTransactionDone port result s
  | .discoveryRetry port => Sys2Proof.Machine.execDiscoveryRetry port s
  | .scnAccept rq port => Sys2Proof.Machine.execScnAccept rq port s
  | .scnRetrain rq port => Sys2Proof.Machine.execScnRetrain rq port s
  | .scnPsrEn rq port enable => Sys2Proof.Machine.execScnPsrEn rq port enable s
  | .trainAttemptDone port pass => Sys2Proof.Machine.execTrainAttemptDone port pass s
  | .trainAttemptTimeout port => Sys2Proof.Machine.execTrainAttemptTimeout port s
  | .linkStatusReadDone port result => Sys2Proof.Machine.execLinkStatusReadDone port result s
  | .ickGo rq port => Sys2Proof.Machine.execIckGo rq port s
  | .ickRelease rq port => Sys2Proof.Machine.execIckRelease rq port s
  | .ickSinkNow rq port => Sys2Proof.Machine.execIckSinkNow rq port s
  | .ickLatchAck h port => Sys2Proof.Machine.execIckLatchAck h port s
  | .sinkCheckDue port => Sys2Proof.Machine.execSinkCheckDue port s
  | .sinkCrcReadDone port reading => Sys2Proof.Machine.execSinkCrcReadDone port reading s
  | .rcxDoorbell rq ctx tail => Sys2Proof.Machine.execRcxDoorbell rq ctx tail s
  | .compositorStart h latencyUs => Sys2Proof.Machine.execCompositorStart h latencyUs s
  | .compositorLeave h => Sys2Proof.Machine.execCompositorLeave h s
  | .arbitration h => Sys2Proof.Machine.execArbitration h s
  | .jobComplete h ctx => Sys2Proof.Machine.execJobComplete h ctx s
  | .fenceComplete h ctx => Sys2Proof.Machine.execFenceComplete h ctx s
  | .preemptionPoint h ctx group => Sys2Proof.Machine.execPreemptionPoint h ctx group s
  | .rcxPrioWrite rq ctx value => Sys2Proof.Machine.execRcxPrioWrite rq ctx value s
  | .rcxSuspend rq ctx => Sys2Proof.Machine.execRcxSuspend rq ctx s
  | .rcxResume rq ctx => Sys2Proof.Machine.execRcxResume rq ctx s
  | .rasterMemoryAccess h ctx group => Sys2Proof.Machine.execRasterMemoryAccess h ctx group s
  | .rasterTierReport h tier => Sys2Proof.Machine.execRasterTierReport h tier s
  | .rasterT4Timeout h => Sys2Proof.Machine.execRasterT4Timeout h s
  | .heartbeatSend h => Sys2Proof.Machine.execHeartbeatSend h s
  | .heartbeatReceive h late => Sys2Proof.Machine.execHeartbeatReceive h late s
  | .heartbeatTimeout h => Sys2Proof.Machine.execHeartbeatTimeout h s
  | .resetNotice h => Sys2Proof.Machine.execResetNotice h s
  | .mirrorWrite rq addr bytes => Sys2Proof.Machine.execMirrorWrite rq addr bytes s
  | .mirrorWriteApply h => Sys2Proof.Machine.execMirrorWriteApply h s
  | .twnMfence rq token => Sys2Proof.Machine.execTwnMfence rq token s
  | .mfenceAcknowledge h => Sys2Proof.Machine.execMfenceAcknowledge h s
  | .catchupGranuleDone h => Sys2Proof.Machine.execCatchupGranuleDone h s
  | .twinLinkDown => Sys2Proof.Machine.execTwinLinkDown s
  | .twinLinkUp => Sys2Proof.Machine.execTwinLinkUp s
  | .twnMirSrcWrite rq value => Sys2Proof.Machine.execTwnMirSrcWrite rq value s
  | .mirrorSourceSwap region => Sys2Proof.Machine.execMirrorSourceSwap region s
  | .digestCompare port => Sys2Proof.Machine.execDigestCompare port s
  | .pairHandover rq ports target => Sys2Proof.Machine.execPairHandover rq ports target s
  | .pairRejoin rq ports => Sys2Proof.Machine.execPairRejoin rq ports s
  | .pairCancel rq => Sys2Proof.Machine.execPairCancel rq s
  | .handoverTimeout port => Sys2Proof.Machine.execHandoverTimeout port s
  | .autoReturn port => Sys2Proof.Machine.execAutoReturn port s
  | .halfPark h => Sys2Proof.Machine.execHalfPark h s
  | .lockstepMismatch h => Sys2Proof.Machine.execLockstepMismatch h s
  | .hpartWrite h hart value => Sys2Proof.Machine.execHpartWrite h hart value s
  | .mworldWrite h hart value => Sys2Proof.Machine.execMworldWrite h hart value s
  | .mModeTrap h at_ => Sys2Proof.Machine.execMModeTrap h at_ s
  | .mret h at_ => Sys2Proof.Machine.execMret h at_ s
  | .aplicDelegateWrite h source toOpen => Sys2Proof.Machine.execAplicDelegateWrite h source toOpen s
  | .msiWrite h hart world file identity => Sys2Proof.Machine.execMsiWrite h hart world file identity s
  | .trustedInterrupt h at_ => Sys2Proof.Machine.execTrustedInterrupt h at_ s
  | .wldRestart rq => Sys2Proof.Machine.execWldRestart rq s
  | .trustedClearDone h => Sys2Proof.Machine.execTrustedClearDone h s
  | .measureImageDone h => Sys2Proof.Machine.execMeasureImageDone h s
  | .wldExtend rq mr => Sys2Proof.Machine.execWldExtend rq mr s
  | .watchdogKick rq kick => Sys2Proof.Machine.execWatchdogKick rq kick s
  | .watchdogExpiry h => Sys2Proof.Machine.execWatchdogExpiry h s
  | .wldDbgWrite rq value => Sys2Proof.Machine.execWldDbgWrite rq value s
  | .debugHaltRequest h hart => Sys2Proof.Machine.execDebugHaltRequest h hart s
  | .debugPreempt h at_ => Sys2Proof.Machine.execDebugPreempt h at_ s
  | .fenceI h hart => Sys2Proof.Machine.execFenceI h hart s
  | .instFreeze rq inst => Sys2Proof.Machine.execInstFreeze rq inst s
  | .instThaw rq inst => Sys2Proof.Machine.execInstThaw rq inst s
  | .instSave rq inst => Sys2Proof.Machine.execInstSave rq inst s
  | .instRestore rq inst => Sys2Proof.Machine.execInstRestore rq inst s
  | .instReset rq inst => Sys2Proof.Machine.execInstReset rq inst s
  | .instFace rq inst direct => Sys2Proof.Machine.execInstFace rq inst direct s
  | .thawTwinQuery h inst => Sys2Proof.Machine.execThawTwinQuery h inst s
  | .insqDoorbell rq alias_ inst tail => Sys2Proof.Machine.execInsqDoorbell rq alias_ inst tail s
  | .hubLayerSet h inst tag log2 cplTail cmd => Sys2Proof.Machine.execHubLayerSet h inst tag log2 cplTail cmd s
  | .hubLayerOff h inst tag ring cmd => Sys2Proof.Machine.execHubLayerOff h inst tag ring cmd s
  | .hubCommit h inst tag read nearLatch => Sys2Proof.Machine.execHubCommit h inst tag read nearLatch s
  | .hubNop h inst tag read => Sys2Proof.Machine.execHubNop h inst tag read s
  | .hubCommitCopy h inst => Sys2Proof.Machine.execHubCommitCopy h inst s
  | .hubCommitComplete h inst => Sys2Proof.Machine.execHubCommitComplete h inst s
  | .instanceTimeout h inst => Sys2Proof.Machine.execInstanceTimeout h inst s
  | .hostGone h => Sys2Proof.Machine.execHostGone h s
  | .twinEffect h inst => Sys2Proof.Machine.execTwinEffect h inst s
  | .twinEffectAck h inst => Sys2Proof.Machine.execTwinEffectAck h inst s
  | .spmAccess h spm portF portE ecc => Sys2Proof.Machine.execSpmAccess h spm portF portE ecc s
  | .spmWakeMarch h spm => Sys2Proof.Machine.execSpmWakeMarch h spm s
  | .spmMarchD rq spm => Sys2Proof.Machine.execSpmMarchD rq spm s
  | .spmMarchP rq spm => Sys2Proof.Machine.execSpmMarchP rq spm s
  | .spmAbort rq spm => Sys2Proof.Machine.execSpmAbort rq spm s
  | .marchRowDone h spm bank row found => Sys2Proof.Machine.execMarchRowDone h spm bank row found s
  | .marchDone h spm badRows => Sys2Proof.Machine.execMarchDone h spm badRows s
  | .spmOffClearDone h spm => Sys2Proof.Machine.execSpmOffClearDone h spm s
  | .dramSlot h chan arrivals busy => Sys2Proof.Machine.execDramSlot h chan arrivals busy s
  | .bankIdleClose h chan bank => Sys2Proof.Machine.execBankIdleClose h chan bank s
  | .dramTrainingDone h failed => Sys2Proof.Machine.execDramTrainingDone h failed s
  | .periodicTraining h dmc drift => Sys2Proof.Machine.execPeriodicTraining h dmc drift s
  | .refreshDue h chan bank aboveTwice => Sys2Proof.Machine.execRefreshDue h chan bank aboveTwice s
  | .dramZeroFillDone h segment => Sys2Proof.Machine.execDramZeroFillDone h segment s
  | .slotTableSwitch h => Sys2Proof.Machine.execSlotTableSwitch h s
  | .dmcBeWrite rq n value => Sys2Proof.Machine.execDmcBeWrite rq n value s
  | .cvuStart rq cvu ctrl => Sys2Proof.Machine.execCvuStart rq cvu ctrl s
  | .cvuStop rq cvu => Sys2Proof.Machine.execCvuStop rq cvu s
  | .cvuBlock h cvu => Sys2Proof.Machine.execCvuBlock h cvu s
  | .cvuPassEnd h cvu => Sys2Proof.Machine.execCvuPassEnd h cvu s
  | .stuckAccessTimeout rq plinth page offset write data => Sys2Proof.Machine.execStuckAccessTimeout rq plinth page offset write data s
  | .quPush rq q form => Sys2Proof.Machine.execQuPush rq q form s
  | .quPop rq q form => Sys2Proof.Machine.execQuPop rq q form s
  | .quOpen rq q => Sys2Proof.Machine.execQuOpen rq q s
  | .quClose rq q => Sys2Proof.Machine.execQuClose rq q s
  | .quPointerSync h q toPopSide => Sys2Proof.Machine.execQuPointerSync h q toPopSide s
  | .quSpillTransfer h q out => Sys2Proof.Machine.execQuSpillTransfer h q out s
  | .touchFrameSlot src amplitude saturated => Sys2Proof.Machine.execTouchFrameSlot src amplitude saturated s
  | .touchFrameEnd src raw => Sys2Proof.Machine.execTouchFrameEnd src raw s
  | .tafMode rq sensor mode => Sys2Proof.Machine.execTafMode rq sensor mode s
  | .tafTest rq sensor => Sys2Proof.Machine.execTafTest rq sensor s
  | .tafRebase rq sensor => Sys2Proof.Machine.execTafRebase rq sensor s
  | .tceCaptureRef rq => Sys2Proof.Machine.execTceCaptureRef rq s
  | .tceTest rq => Sys2Proof.Machine.execTceTest rq s
  | .tceRebase rq => Sys2Proof.Machine.execTceRebase rq s
  | .captureRefDone => Sys2Proof.Machine.execCaptureRefDone s
  | .electrodeTestDone src lines => Sys2Proof.Machine.execElectrodeTestDone src lines s
  | .touchDiscoveryTimer src pos => Sys2Proof.Machine.execTouchDiscoveryTimer src pos s
  | .contactStale src id => Sys2Proof.Machine.execContactStale src id s
  | .hapPlay rq ch effect => Sys2Proof.Machine.execHapPlay rq ch effect s
  | .hapStop rq ch => Sys2Proof.Machine.execHapStop rq ch s
  | .hapUnlock rq mask => Sys2Proof.Machine.execHapUnlock rq mask s
  | .hapControlSample ch sample limited => Sys2Proof.Machine.execHapControlSample ch sample limited s
  | .hapLoadCheck ch => Sys2Proof.Machine.execHapLoadCheck ch s
  | .hapLoadCheckDone ch milliohm accId => Sys2Proof.Machine.execHapLoadCheckDone ch milliohm accId s
  | .audioSample inputs => Sys2Proof.Machine.execAudioSample inputs s
  | .audSwap rq => Sys2Proof.Machine.execAudSwap rq s
  | .audCopy rq => Sys2Proof.Machine.execAudCopy rq s
  | .audCopyDone => Sys2Proof.Machine.execAudCopyDone s
  | .audOverrideWrite rq cell value => Sys2Proof.Machine.execAudOverrideWrite rq cell value s
  | .headsetPlug port => Sys2Proof.Machine.execHeadsetPlug port s
  | .headsetMeasureDone port reading => Sys2Proof.Machine.execHeadsetMeasureDone port reading s
  | .headsetUnplug port => Sys2Proof.Machine.execHeadsetUnplug port s
  | .headsetButton port ohms => Sys2Proof.Machine.execHeadsetButton port ohms s
  | .tdmFrameSlip port dropped => Sys2Proof.Machine.execTdmFrameSlip port dropped s
  | .peerAnnounce p hdr moduleId digest memb prio1 => Sys2Proof.Machine.execPeerAnnounce p hdr moduleId digest memb prio1 s
  | .peerLock p hdr digest gm => Sys2Proof.Machine.execPeerLock p hdr digest gm s
  | .peerAlarm p hdr payload => Sys2Proof.Machine.execPeerAlarm p hdr payload s
  | .peerMigrate p hdr xfer frag data => Sys2Proof.Machine.execPeerMigrate p hdr xfer frag data s
  | .peerMigDone p hdr xfer status => Sys2Proof.Machine.execPeerMigDone p hdr xfer status s
  | .peerImageReq p hdr digest blockOffset => Sys2Proof.Machine.execPeerImageReq p hdr digest blockOffset s
  | .peerImageData p hdr blockOffset data last => Sys2Proof.Machine.execPeerImageData p hdr blockOffset data last s
  | .peerAck p hdr origin seq => Sys2Proof.Machine.execPeerAck p hdr origin seq s
  | .announceTimer => Sys2Proof.Machine.execAnnounceTimer s
  | .lockTimer => Sys2Proof.Machine.execLockTimer s
  | .peerRetry p origin seq => Sys2Proof.Machine.execPeerRetry p origin seq s
  | .peerTimeout origin seq => Sys2Proof.Machine.execPeerTimeout origin seq s
  | .currentLockExpiry => Sys2Proof.Machine.execCurrentLockExpiry s
  | .neighbourTimeout p => Sys2Proof.Machine.execNeighbourTimeout p s
  | .peerPortLink p up => Sys2Proof.Machine.execPeerPortLink p up s
  | .gptpSync sync ratePpb => Sys2Proof.Machine.execGptpSync sync ratePpb s
  | .holdoverExpiry port => Sys2Proof.Machine.execHoldoverExpiry port s
  | .pcsLockLoss p => Sys2Proof.Machine.execPcsLockLoss p s
  | .plkEnable rq => Sys2Proof.Machine.execPlkEnable rq s
  | .plkDisable rq => Sys2Proof.Machine.execPlkDisable rq s
  | .plkSend rq => Sys2Proof.Machine.execPlkSend rq s
  | .plkRxDone rq => Sys2Proof.Machine.execPlkRxDone rq s
  | .plkClearq rq p => Sys2Proof.Machine.execPlkClearq rq p s
  | .plkCancel rq => Sys2Proof.Machine.execPlkCancel rq s
  | .plkNodeWrite rq value => Sys2Proof.Machine.execPlkNodeWrite rq value s
  | .modNight rq => Sys2Proof.Machine.execModNight rq s
  | .modWake rq => Sys2Proof.Machine.execModWake rq s
  | .modInspect rq => Sys2Proof.Machine.execModInspect rq s
  | .modDormant rq => Sys2Proof.Machine.execModDormant rq s
  | .nightWatchWake source => Sys2Proof.Machine.execNightWatchWake source s
  | .inspectionStep found => Sys2Proof.Machine.execInspectionStep found s
  | .lcsProvision rq => Sys2Proof.Machine.execLcsProvision rq s
  | .lcsService rq => Sys2Proof.Machine.execLcsService rq s
  | .lcsRetire rq confirm => Sys2Proof.Machine.execLcsRetire rq confirm s
  | .lcsKeyUpdate rq => Sys2Proof.Machine.execLcsKeyUpdate rq s
  | .powerOn vinMv => Sys2Proof.Machine.execPowerOn vinMv s
  | .porstNAssert => Sys2Proof.Machine.execPorstNAssert s
  | .strapSample boot clkmode => Sys2Proof.Machine.execStrapSample boot clkmode s
  | .startWindowExpiry => Sys2Proof.Machine.execStartWindowExpiry s
  | .failsClear => Sys2Proof.Machine.execFailsClear s
  | .halfResetRequest h cause => Sys2Proof.Machine.execHalfResetRequest h cause s
  | .halfResetRelease h => Sys2Proof.Machine.execHalfResetRelease h s
  | .halfApplyDone h => Sys2Proof.Machine.execHalfApplyDone h s
  | .rstHalfReset rq target => Sys2Proof.Machine.execRstHalfReset rq target s
  | .rstPartReset rq part => Sys2Proof.Machine.execRstPartReset rq part s
  | .rstFuncReset rq plinth page => Sys2Proof.Machine.execRstFuncReset rq plinth page s
  | .ndmreset h => Sys2Proof.Machine.execNdmreset h s
  | .hartreset h hart => Sys2Proof.Machine.execHartreset h hart s
  | .svcRead position => Sys2Proof.Machine.execSvcRead position s
  | .svcWrite slot => Sys2Proof.Machine.execSvcWrite slot s
  | .svcVerify slot => Sys2Proof.Machine.execSvcVerify slot s
  | .svcProvision record => Sys2Proof.Machine.execSvcProvision record s
  | .svcStart boot clkmode => Sys2Proof.Machine.execSvcStart boot clkmode s
  | .serviceBulkOut data => Sys2Proof.Machine.execServiceBulkOut data s
  | .serviceWriteStall => Sys2Proof.Machine.execServiceWriteStall s
  | .pcieBootLength len => Sys2Proof.Machine.execPcieBootLength len s
  | .tierStepDown vinMv => Sys2Proof.Machine.execTierStepDown vinMv s
  | .tierStepUp vinMv => Sys2Proof.Machine.execTierStepUp vinMv s
  | .powerLimitStep cause p1s p100 => Sys2Proof.Machine.execPowerLimitStep cause p1s p100 s
  | .powerLimitHoldEnd => Sys2Proof.Machine.execPowerLimitHoldEnd s
  | .holdupEntry hupMv => Sys2Proof.Machine.execHoldupEntry hupMv s
  | .parkComplete => Sys2Proof.Machine.execParkComplete s
  | .vioOverload vio18 => Sys2Proof.Machine.execVioOverload vio18 s
  | .pwrReqWrite rq value => Sys2Proof.Machine.execPwrReqWrite rq value s
  | .shdReqWrite rq value => Sys2Proof.Machine.execShdReqWrite rq value s
  | .domainPowerOnDone die domain => Sys2Proof.Machine.execDomainPowerOnDone die domain s
  | .domainSwitchOff die domain => Sys2Proof.Machine.execDomainSwitchOff die domain s
  | .domainShutdownDone die domain => Sys2Proof.Machine.execDomainShutdownDone die domain s
  | .thermalSample tA tB tP => Sys2Proof.Machine.execThermalSample tA tB tP s
  | .keepAlivePowerUp fromVka => Sys2Proof.Machine.execKeepAlivePowerUp fromVka s
  | .dormantWake source => Sys2Proof.Machine.execDormantWake source s
  | .rtcAlarm => Sys2Proof.Machine.execRtcAlarm s
  | .tamperEvent => Sys2Proof.Machine.execTamperEvent s
  | .kalInc rq mask => Sys2Proof.Machine.execKalInc rq mask s
  | .kalRtcHiWrite rq value => Sys2Proof.Machine.execKalRtcHiWrite rq value s
  | .patinaMramWrite n => Sys2Proof.Machine.execPatinaMramWrite n s
  | .patinaScanDone => Sys2Proof.Machine.execPatinaScanDone s
  | .snapshotClose => Sys2Proof.Machine.execSnapshotClose s
  | .patHostEvent rq code => Sys2Proof.Machine.execPatHostEvent rq code s
  | .patSnap rq => Sys2Proof.Machine.execPatSnap rq s
  | .patLock rq pos => Sys2Proof.Machine.execPatLock rq pos s
  | .patUnlock rq pos => Sys2Proof.Machine.execPatUnlock rq pos s
  | .patSlotRead rq index => Sys2Proof.Machine.execPatSlotRead rq index s
  | .svcAlertClear rq => Sys2Proof.Machine.execSvcAlertClear rq s
  | .alertClearDelayed => Sys2Proof.Machine.execAlertClearDelayed s
  | .serviceAttach serviceLow => Sys2Proof.Machine.execServiceAttach serviceLow s
  | .serviceDetach vbus serviceLow => Sys2Proof.Machine.execServiceDetach vbus serviceLow s
  | .pciPresenceChange h event => Sys2Proof.Machine.execPciPresenceChange h event s
  | .porstNRelease vinMv => Sys2Proof.Machine.execPorstNRelease vinMv s
  | .vkaLoss => Sys2Proof.Machine.execVkaLoss s
  | .gptpAnnounce ann => Sys2Proof.Machine.execGptpAnnounce ann s
  | .gptpPdelayReq rx => Sys2Proof.Machine.execGptpPdelayReq rx s
  | .pcsTransmitFault p => Sys2Proof.Machine.execPcsTransmitFault p s
  | .lcsOperationDone deviceKeys => Sys2Proof.Machine.execLcsOperationDone deviceKeys s
  | .pcieBootDataWrite offset data => Sys2Proof.Machine.execPcieBootDataWrite offset data s
  | .hupBelow12v => Sys2Proof.Machine.execHupBelow12v s
  | .vioFaultClear rq vio18 => Sys2Proof.Machine.execVioFaultClear rq vio18 s

end Sys2Proof.Machine
end

