-- ==== Sys2Proof/Machine/Tick.lean ====
section
/-! DEFINITION. What one microsecond of module time does (log entry 9): module time, the RTC (R411), the secure watchdogs (R226), a copy of the
loader (R459), the charge of HUP (R397) and the free-running level of WAKE_N (R439). Deadlines are commands of their own. -/

namespace Sys2Proof.Machine

/-- The watchdog counts (R226): on a half in service with a TIMEOUT, unless a Trusted hart is halted in debug with TRU_INV = 1. -/
def State.watchdogTick (s : State) (h : Half) : State :=
  let p := pgWld h
  let paused := s.flag p F.WLD_DBG_TRU_INV && (upTo 8).any fun n => (s.hart h n).halted && s.flag (pgHart h n) F.MWORLD_WORLD
  if (s.hs h).stage ≠ .running || s.get p F.WLD_WDCFG_TIMEOUT = 0 || paused then s
  else s.put p F.WLD_WDOG_REMAIN (s.get p F.WLD_WDOG_REMAIN - 1)

/-- The RTC counts 32,768 ticks a second (R411) while the keep-alive region has a supply: VKA, or VIN at 2.7 V (R396). -/
def State.rtcTick (s : State) : State :=
  if !s.pw.vka && s.pw.vinMv < 2700 then s
  else
    let acc := s.pw.rtcAcc + 32768
    let n := (s.rtc + acc / 1000000) % 2 ^ 48
    let s := if acc < 1000000 then s else (s.put pgKal F.KAL_RTC_LO_TICK (n % 2 ^ 32)).put pgKal F.KAL_RTC_HI_TICK (n / 2 ^ 32)
    { s with pw := { s.pw with rtcAcc := acc % 1000000 } }

/-- SVC_STATUS.WAKE shows a low level of WAKE_N; no command reports its rise, so while it reads 1 it takes a free bit (log entry 4). -/
def State.wakeTick (s : State) : State :=
  if s.flag pgSvc F.SVC_STATUS_WAKE then
    let (v, s) := s.takeFree
    s.put pgSvc F.SVC_STATUS_WAKE (v % 2)
  else s

/-- The SAF Function's reset after a lockstep mismatch is over (R209). -/
def State.safTick (s : State) (h : Half) : State := if (s.hs h).saf.hold then s.safReset h else s

/-- One microsecond. -/
def tick (s : State) : State :=
  let s := { s with time := s.time + 1 }
  (((((((s.rtcTick).watchdogTick .A).watchdogTick .B).safTick .A).safTick .B).wakeTick).hupRead).armTick

end Sys2Proof.Machine
end

