-- ==== Sys2Proof/Safety.lean ====
section
/-! DEFINITION. What a safe run is, in the terms that statements use: the state's tables keep their canonical form, and a step goes on. -/

namespace Sys2Proof.Machine

/-- The canonical form of a byte memory: addresses strictly rise and no entry is the byte that an unlisted address reads as. -/
def Memory.wf (m : List Host.Cell) : Bool := tblWf byteZero m

/-- Registers and memories of a state are in canonical form, so equal contents are equal states. -/
def State.Canon (s : State) : Prop :=
  tblWf regReset s.regs = true ∧ Memory.wf s.mram = true ∧ (Memory.wf s.dramA = true ∧ Memory.wf s.dramB = true) ∧
    Memory.wf s.spmA = true ∧ Memory.wf s.spmB = true

/-- Every byte of every memory (MRAM, DRAM and scratchpad of both halves) reads in `t` as it reads in `s`. -/
def SameMem (s t : State) : Prop :=
  (∀ a, memByte t.mram a = memByte s.mram a) ∧ (∀ h a, memByte (t.dram h) a = memByte (s.dram h) a) ∧
    ∀ h a, memByte (t.spm h) a = memByte (s.spm h) a

/-- Every register that `K` names reads in `t` as it reads in `s`. -/
def KeepsRegs (K : Pg → Nat → Prop) (s t : State) : Prop :=
  ∀ pg off, pg.code < 0x10000 → off < 0x10000 → K pg off → t.reg pg off = s.reg pg off

/-- A command completes, and `P` holds of the state that follows. -/
def Does (c : Instr) (s : State) (P : State → Prop) : Prop := ∃ t, exec c s = .next t ∧ P t

/-- A host write at an offset of the page is carried out: the region controller before the Plinth window lets it through (R213, R214), its grant
admits the requester and its domain is On (R450); a Plinth page is no target of the rejection of R15. -/
def Admitted (rq : Requester) (pg : Pg) (s : State) (off : Nat := 0) : Prop :=
  s.windowAdmits rq pg .write off = true ∧ s.admits rq pg = true ∧ s.pageOn pg = true ∧ (pg.die = .P → s.copyFault = false)

/-- The state with the answer that every accepted host access gives. -/
def State.ack (s : State) : State := { s with reply := .ok 0 }

/-- The entries of a queue unit, oldest first: the head registers, the middle, the tail registers (R286). -/
def Queue.entries (u : Queue) : List (BitVec 64) := u.head ++ u.mid ++ u.tail

/-- A host read at an offset of the page is carried out. -/
def AdmittedRead (rq : Requester) (pg : Pg) (s : State) (off : Nat := 0) : Prop :=
  s.windowAdmits rq pg .read off = true ∧ s.admits rq pg = true ∧ s.pageOn pg = true

/-- The offset of the 64-byte block that a command's register lies in: the override cells lie behind the first block of their page. -/
def hostOff : Instr → Nat
  | .audOverrideWrite _ c _ => 0x100 + 4 * c.val
  | _ => 0

/-- The requester and the page of a command that is a host write to a page of its own row. -/
def hostPage : Instr → Option (Requester × Pg)
  | .armWrite rq _ | .armVerify rq _ | .armErase rq _ | .armRearm rq _ | .armRaiseFloor rq | .armAbort rq => some (rq, pgArmH rq.half)
  | .cmpGo rq p => some (rq, pgCmp rq.half p)
  | .scnAccept rq p | .scnRetrain rq p | .scnPsrEn rq p _ => some (rq, pgScn p)
  | .ickGo rq p | .ickRelease rq p | .ickSinkNow rq p => some (rq, pgIck p)
  | .rcxDoorbell rq c _ | .rcxPrioWrite rq c _ | .rcxSuspend rq c | .rcxResume rq c => some (rq, pgRcx rq.half c)
  | .twnMfence rq _ | .twnMirSrcWrite rq _ => some (rq, pgTwn rq.half)
  | .pairHandover rq _ _ | .pairRejoin rq _ | .pairCancel rq => some (rq, pgPair)
  | .wldRestart rq | .wldExtend rq _ | .watchdogKick rq _ | .wldDbgWrite rq _ => some (rq, pgWld rq.half)
  | .instFreeze rq i | .instThaw rq i | .instSave rq i | .instRestore rq i | .instReset rq i | .instFace rq i _ =>
    some (rq, pgInst rq.half i)
  | .spmMarchD rq n | .spmMarchP rq n | .spmAbort rq n => some (rq, pgSpm rq.half n)
  | .dmcBeWrite rq _ _ => some (rq, pgDmc rq.half 0)
  | .cvuStart rq n _ | .cvuStop rq n => some (rq, pgCvu rq.half n)
  | .quPush rq q _ | .quOpen rq q | .quClose rq q => some (rq, pgQu rq.half q)
  | .tafMode rq n _ | .tafTest rq n | .tafRebase rq n => some (rq, pgTaf n)
  | .tceCaptureRef rq | .tceTest rq | .tceRebase rq => some (rq, pgTce)
  | .hapPlay rq _ _ | .hapStop rq _ | .hapUnlock rq _ => some (rq, pgHap)
  | .audSwap rq | .audCopy rq | .audOverrideWrite rq _ _ => some (rq, pgAud)
  | .plkEnable rq | .plkDisable rq | .plkSend rq | .plkRxDone rq | .plkClearq rq _ | .plkCancel rq | .plkNodeWrite rq _ => some (rq, pgPlk)
  | .modNight rq | .modWake rq | .modInspect rq | .modDormant rq => some (rq, halfPg rq.half 0x2000)
  | .lcsProvision rq | .lcsService rq | .lcsRetire rq _ | .lcsKeyUpdate rq => some (rq, pgLcs)
  | .rstHalfReset rq _ | .rstPartReset rq _ | .rstFuncReset rq _ _ => some (rq, pgRstH rq.half)
  | .pwrReqWrite rq _ => some (rq, pgPwr rq.half)
  | .shdReqWrite rq _ | .vioFaultClear rq _ => some (rq, pgShd)
  | .patHostEvent rq _ | .patSnap rq | .patLock rq _ | .patUnlock rq _ => some (rq, pgPat)
  | .svcAlertClear rq => some (rq, pgSvc)
  | .kalInc rq _ | .kalRtcHiWrite rq _ => some (rq, pgKal)
  | _ => none

/-- A command is carried out: the step answers a next state. -/
def Goes (c : Instr) (s : State) : Prop := ∃ t, exec c s = .next t

/-- A run of `n` steps that all go on. -/
def runs : Nat → State → Option State
  | 0, s => some s
  | n + 1, s => match step s with
    | .next t => runs n t
    | .fault _ => none
    | .refused _ => none

/-- A safe run: no step of it stops. -/
def SafeRun (n : Nat) (s : State) : Prop := (runs n s).isSome = true

end Sys2Proof.Machine
end

