-- ==== Sys2Proof/Certificates/Slice0/Obligations.lean ====
section
/-! DEFINITION. The statements about the model, one per obligation of OBLIGATIONS.json, in the order of the spec's chapters. -/

open Sys2Proof Sys2Proof.Machine

/-- For every command and state, a step with that command at the front of the queue is the meaning of the command on the state with the rest
of the queue. -/
def Obligations.StepRunsTheFront : Prop :=
  ∀ (c : Instr) (rest : List Instr) (s : State), step { s with pending := c :: rest } = exec c { s with pending := rest }

/-- On an empty queue a step lets one microsecond of module time pass (log entry 9, the model's choice): time rises by one, the watchdog of a
running half with TIMEOUT other than 0 and no debug pause counts down by one, every register outside the RTC, the watchdogs, HUP, SAF and
SVC_STATUS and the WLD fault records stays, HUP does not fall while the module has power, every memory stays where the loader copies no
image, safety cores held for the reset of their Function run again, and the queue stays empty. -/
def Obligations.IdleStepCountsTime : Prop :=
  ∀ s : State, s.pending = [] →
    ∃ t, step s = .next t ∧ t.time = s.time + 1 ∧ t.pending = [] ∧ t.dramA = s.dramA ∧ t.dramB = s.dramB ∧ t.spmA = s.spmA ∧ t.spmB = s.spmB ∧
      (s.arm = none → t.mram = s.mram ∧
        KeepsRegs (fun p o => p ≠ pgKal ∧ p ≠ pgSvc ∧ p ≠ pgSaf .A ∧ p ≠ pgSaf .B ∧ ¬(p = pgWld .A ∧ o = F.WLD_WDOG_REMAIN.off) ∧
          ¬(p = pgWld .B ∧ o = F.WLD_WDOG_REMAIN.off) ∧ ¬(p = pgShd ∧ (o = F.SHD_STATUS_HUP_OK.off ∨ o = F.SHD_VOLT_HUP.off))) s t) ∧
      (s.noPower = false → s.get pgShd F.SHD_VOLT_HUP ≤ t.get pgShd F.SHD_VOLT_HUP) ∧
      (∀ h, (s.hs h).saf.hold = true → (t.hs h).saf.hold = false ∧ (t.hs h).saf.tcm = (s.hs h).saf.tcm ∧ t.flag (pgSaf h) F.SAF_STATUS_RUN = true) ∧
      ∀ h, (s.hs h).stage = .running → 0 < s.get (pgWld h) F.WLD_WDCFG_TIMEOUT → s.flag (pgWld h) F.WLD_DBG_TRU_INV = false →
        0 < s.get (pgWld h) F.WLD_WDOG_REMAIN → t.get (pgWld h) F.WLD_WDOG_REMAIN = s.get (pgWld h) F.WLD_WDOG_REMAIN - 1

/-- Every command that is a host write to a page of its own row changes nothing but the reply where the grant does not admit the requester or
the domain of the page is not On (a core takes an access fault, the write of any other requester is dropped and answers 0), and where, on
a Plinth page, the two control copies disagree (an access fault); one that the region controller before the Plinth window refuses is
recorded as a refused write. -/
def Obligations.HostWriteNotAdmitted : Prop :=
  ∀ (c : Instr) (rq : Requester) (pg : Pg) (s : State), hostPage c = some (rq, pg) → ¬Admitted rq pg s (hostOff c) →
    (s.windowAdmits rq pg .write (hostOff c) = false → exec c s = .next (s.windowRefuse rq pg .write (hostOff c))) ∧
    (s.windowAdmits rq pg .write (hostOff c) = true →
      (s.admits rq pg = false ∨ s.pageOn pg = false → exec c s = .next (if Issuer.core rq.by_ then { s with reply := .accessFault } else { s with reply := .ok 0 })) ∧
      (s.admits rq pg = true → s.pageOn pg = true → exec c s = .next { s with reply := .accessFault }))

/-- From every state whose register table and memories are in canonical form (addresses strictly rise and no entry equals what an unlisted
address reads as), every step that goes on leads to such a state; equal contents are then equal states. -/
def Obligations.StepKeepsCanonicalForm : Prop :=
  ∀ s t : State, s.Canon → step s = .next t → t.Canon

/-- Every ARM command shows its OP. While the control copies disagree it ends with RESULT 3, and while an operation runs (ABORT apart) with
BUSY. A WRITE or ERASE of a slot in force is refused with RESULT 2; a WRITE whose LEN is outside 4 to 6144 blocks leaves the slot and the
outcome free (log entry 81, the model's choice); otherwise the operation starts and its slot shows Writing. A VERIFY starts its check; a
REARM starts unless Inspection runs. A RAISE_FLOOR never lowers the floor, stores it and is BUSY while the dies are mixed. An ABORT with
no REARM answers OK, or BUSY while another operation runs, and is BUSY from step 3 of a REARM on. -/
def Obligations.LoaderCommands : Prop :=
  ∀ (rq : Requester) (slot : Fin 2) (s : State), Admitted rq (pgArmH rq.half) s →
    let op (n : Nat) := s.ack.put (pgArmH rq.half) F.ARM_STATUS_OP n
    let busy := s.arm ≠ none ∨ s.rearm ≠ none
    let cmds : List (Nat × Instr) := [(1, .armWrite rq slot), (2, .armVerify rq slot), (3, .armErase rq slot), (4, .armRearm rq slot), (5, .armRaiseFloor rq)]
    (s.copyFault = true → (∀ c ∈ cmds, exec c.2 s = .next ((op c.1).armAnswer rq.half 3)) ∧ exec (.armAbort rq) s = .next ((op 6).armAnswer rq.half 3)) ∧
    (s.copyFault = false → busy → ∀ c ∈ cmds, exec c.2 s = .next ((op c.1).armAnswer rq.half 1)) ∧
    (s.copyFault = false → ¬busy →
      let n := s.get (pgArmH rq.half) F.ARM_LEN_BLOCKS
      (s.slotInForce slot = true → exec (.armWrite rq slot) s = .next ((op 1).armAnswer rq.half 2) ∧ exec (.armErase rq slot) s = .next ((op 3).armAnswer rq.half 2)) ∧
      (s.slotInForce slot = false → (n < 4 ∨ 6144 < n → exec (.armWrite rq slot) s = .next ((op 1).armWild rq.half slot)) ∧
        (4 ≤ n → n ≤ 6144 → exec (.armWrite rq slot) s = .next (((op 1).armStart rq.half
          { source := .half rq.half, op := 1, slot := slot, pageBase := s.get (pgArmH rq.half) F.ARM_SRC_PAGE, blocks := n }).setSlotState slot 3)) ∧
        exec (.armErase rq slot) s = .next (((op 3).armStart rq.half { source := .half rq.half, op := 3, slot := slot }).setSlotState slot 3)) ∧
      exec (.armVerify rq slot) s = .next ((op 2).armStart rq.half { source := .half rq.half, op := 2, slot := slot, checking := true }) ∧
      (s.insp ≠ none → exec (.armRearm rq slot) s = .next ((op 4).armAnswer rq.half 1)) ∧
      (s.insp = none → exec (.armRearm rq slot) s = .next ({ op 4 with rearm := some { source := rq.half, slot := slot } }.put (pgArmH rq.half) F.ARM_STATUS_BUSY 1)) ∧
      (s.flag pgArm F.ARM_ACTIVE_MIXED = true → exec (.armRaiseFloor rq) s = .next ((op 5).armAnswer rq.half 1)) ∧
      (s.flag pgArm F.ARM_ACTIVE_MIXED = false → Does (.armRaiseFloor rq) s fun t =>
        let v := max (s.get pgArm F.ARM_FLOOR_FLOOR) (s.genInForce .P)
        t.get pgArm F.ARM_FLOOR_FLOOR = v ∧ memBytes t.mram (storeBase + 0x30) 2 = b2 v ∧ t.get (pgArmH rq.half) F.ARM_STATUS_RESULT = 0 ∧
        t.flag (pgArmH rq.half) F.ARM_STATUS_DONE = true ∧ (∀ a, a < storeBase + 0x30 ∨ storeBase + 0x32 ≤ a → memByte t.mram a = memByte s.mram a))) ∧
    (s.copyFault = false →
      (s.rearm = none → s.arm = none → exec (.armAbort rq) s = .next ((op 6).armAnswer rq.half 0)) ∧
      (s.rearm = none → s.arm ≠ none → exec (.armAbort rq) s = .next ((op 6).armAnswer rq.half 1)) ∧
      (∀ a, s.rearm = some a → 3 ≤ a.step → exec (.armAbort rq) s = .next ((op 6).armAnswer rq.half 1)) ∧
      (∀ a, s.rearm = some a → a.step < 3 → a.source = rq.half → s.hoRun = none → exec (.armAbort rq) s =
        .next ({ op 6 with rearm := some { a with stop := some (a.stop.getD 0xF) } }.rearmGo)))

/-- A copy that no block of has been written puts, when it is done, the blocks that the Trusted tag of the issuing half may read (zeros
elsewhere) into the slot, keeps every MRAM byte outside them, and goes on to the check. A finished erasure makes every byte of the slot
zero and shows Empty; in the condition of R15 both end with FORMAT and write no MRAM. The end of a check shows Valid or Invalid with the
GEN of the slot and the RESULT of the issuing half. A scrub begins in a Service mode and is kept for the next one elsewhere; a slot that
is Valid and whose check values fail becomes Invalid, every other stays as it is. A REARM whose checks fail ends with INCOMPATIBLE and a
LOADER event; a handover that it may not issue changes nothing; a half not Ready in its start window stops it with HANDOVER_FAILED.
Without such an operation each event changes nothing. -/
def Obligations.LoaderCourse : Prop :=
  (∀ s : State, s.arm = none → ∀ c ∈ [Instr.armCopyDone, .armEraseDone, .loaderCheckDone], exec c s = .next s) ∧
  (∀ (o : ArmOp) (s : State), s.arm = some o →
    (o.op ≠ 1 ∨ o.checking = true ∨ o.copies = false → exec .armCopyDone s = .next s) ∧
    (o.op = 1 → o.checking = false → o.copies = true → s.copyFault = false → Does .armCopyDone s fun t =>
      (o.sent = 0 → ∀ k, k < o.blocks → memBytes t.mram (slotBase o.slot + 4096 * k) 4096 = s.armBlock o k) ∧
      (∀ a, a < slotBase o.slot ∨ slotBase o.slot + o.blocks * 4096 ≤ a → memByte t.mram a = memByte s.mram a) ∧
      t.arm = some { o with sent := o.blocks * 4096, checking := true } ∧ t.dramA = s.dramA ∧ t.dramB = s.dramB ∧ t.spmA = s.spmA ∧ t.spmB = s.spmB) ∧
    (s.copyFault = true → (o.op = 1 → o.checking = false → o.copies = true → exec .armCopyDone s = .next (s.armBroken o)) ∧
      (o.op = 3 → exec .armEraseDone s = .next (s.armBroken o)) ∧ (s.armBroken o).mram = s.mram) ∧
    (o.op ≠ 3 → exec .armEraseDone s = .next s) ∧
    (o.op = 3 → o.slot < 2 → s.copyFault = false → (∃ h, o.source = .half h) → Does .armEraseDone s fun t =>
      (∀ i, i < slotSize → memByte t.mram (slotBase o.slot + i) = 0) ∧
      (∀ a, a < slotBase o.slot ∨ slotBase o.slot + slotSize ≤ a → memByte t.mram a = memByte s.mram a) ∧
      t.slotState o.slot = 4 ∧ t.slotGen o.slot = 0 ∧ t.arm = none) ∧
    (o.checking = false → exec .loaderCheckDone s = .next s) ∧
    (∀ h, o.checking = true → o.source = .half h → o.inPlace = false → o.slot < 2 → Does .loaderCheckDone s fun t =>
      let r := s.imgCheck (.slot o.slot)
      t.slotState o.slot = (if r.1 = 0 then 1 else 2) ∧ t.slotGen o.slot = s.imgGen (.slot o.slot) ∧ t.arm = none ∧
      t.get (pgArmH h) F.ARM_STATUS_RESULT = r.1 ∧ t.flag (pgArmH h) F.ARM_STATUS_DONE = true ∧ t.flag (pgArmH h) F.ARM_STATUS_BUSY = false)) ∧
  (∀ s : State, (s.scrub.since = none → exec .scrubDue s = .next s) ∧
    (s.scrub.since ≠ none → isService s.mode = true → exec .scrubDue s = .next s.scrubBegin) ∧
    (s.scrub.since ≠ none → isService s.mode = false → exec .scrubDue s = .next { s with scrub := { s.scrub with due := true } }) ∧
    (s.scrub.reading = none → exec .scrubSlotDone s = .next s) ∧
    (∀ k, s.scrub.reading = some k → s.armBusy = true → exec .scrubSlotDone s = .next s) ∧
    (∀ k, s.scrub.reading = some k → s.armBusy = false → Does .scrubSlotDone s fun t =>
      (s.slotState k ≠ 1 ∨ s.manifestOk (.slot k) = true ∧ s.badBlock (.slot k) = none → t = { s with scrub := { s.scrub with reading := s.scrubNext (k + 1) } }) ∧
      (k < 2 → s.slotState k = 1 → s.manifestOk (.slot k) = false ∨ s.badBlock (.slot k) ≠ none → t.slotState k = 2))) ∧
  (∀ s : State, s.rearm = none → ∀ c ∈ [Instr.rearmChecksDone, .rearmStartWindowTimeout], exec c s = .next s) ∧
  (∀ (p : Fin 8) (s : State), s.rearm = none → exec (.rearmHandoverIssue p) s = .next s ∧ exec (.rearmQualTimeout p) s = .next s) ∧
  (∀ (a : Rearm) (s : State), s.rearm = some a →
    (a.step ≠ 1 → exec .rearmChecksDone s = .next s) ∧
    (∀ r, a.step = 1 → s.rearmChecks a.slot = some r → exec .rearmChecksDone s =
      .next (((if r.1 = 4 then s.put (pgArmH a.source) F.ARM_DIFF_OFFSET r.2.2 else s).loaderEvent a.slot 0xB r.1 0 r.2.1 r.2.2).rearmStop 0xB)) ∧
    (a.step = 1 → Does .rearmChecksDone s fun t => s.rearmChecks a.slot = none →
      ∀ b, t.rearm = some b → b.slot = a.slot ∧ b.source = a.source ∧ b.step ≠ 1) ∧
    (∀ p : Fin 8, s.rearmMay a p = false → exec (.rearmHandoverIssue p) s = .next s ∧ exec (.rearmQualTimeout p) s = .next s) ∧
    (∀ p : Fin 8, s.rearmMay a p = true → exec (.rearmQualTimeout p) s = .next (s.rearmFail 0x10) ∧
      (s.hoRun = none → (∀ q ∈ s.group p, s.qualified (Rearm.target a) q = true) → exec (.rearmHandoverIssue p) s = .next (s.hoStart .rearm (Rearm.target a) (s.group p)))) ∧
    (∀ h, (if a.step = 3 ∨ a.step = 4 then some a.first else if a.step = 6 ∨ a.step = 7 then some (Half.other a.first) else none) = some h →
      (s.halfState h = 3 → exec .rearmStartWindowTimeout s = .next s) ∧ (s.halfState h ≠ 3 → exec .rearmStartWindowTimeout s = .next (s.rearmFail 0x10))) ∧
    (a.step < 3 ∨ a.step = 5 ∨ 8 ≤ a.step → exec .rearmStartWindowTimeout s = .next s))

/-- GO sets PENDING. A latch marker of an unlocked pipe is taken, shows its tier and role, and latches the shadows only where GO is pending
(FRAMES then counts, unless the latched stream is unpredictable); one that reaches a half out of service is dropped. A line start lets
fetch and compose go on. An arriving chunk leaves the granted ones, to which fetch may add refused ones at the end. A line that closes is
sent with its composed pixels, and the run of underruns ends; a line not closed at its cut-off is sent with the fallback colour for the
pixels missing, counted and recorded (where the run is reported as a fault at that line, the statement says only that the command
completes); a pipe that does not run does neither. The resumed engine is no longer stalled. No memory changes. -/
def Obligations.PipeCommands : Prop :=
  (∀ (rq : Requester) (p : Fin 8) (s : State), Admitted rq (pgCmp rq.half p) s →
    exec (.cmpGo rq p) s = .next (s.ack.put (pgCmp rq.half p) F.CMP_STATUS_PENDING 1)) ∧
  (∀ (h : Half) (p : Fin 8) (s : State), s.group p = [p.val] →
    ((s.port p).marker h = none → exec (.latchMarker h p) s = .next s) ∧
    (∀ m, (s.port p).marker h = some m → s.inService h = false → exec (.latchMarker h p) s = .next (s.markerGone h p)) ∧
    (∀ m, (s.port p).marker h = some m → s.inService h = true → Does (.latchMarker h p) s fun t =>
      (t.port p).marker h = none ∧ t.get (pgCmp h p) F.CMP_SCHED_TIER = m.tier % 8 ∧ t.get (pgCmp h p) F.CMP_SCHED_ROLE = m.role % 8 ∧
      (t.pipe h p).frame = m.frame ∧ SameMem s t ∧
      ((t.flag (pgCmp h p) F.CMP_STATUS_PENDING = s.flag (pgCmp h p) F.CMP_STATUS_PENDING ∧ (t.pipe h p).act = (s.pipe h p).act ∧
          t.get (pgCmp h p) F.CMP_STATUS_FRAMES = s.get (pgCmp h p) F.CMP_STATUS_FRAMES) ∨
       (s.flag (pgCmp h p) F.CMP_STATUS_PENDING = true ∧ t.flag (pgCmp h p) F.CMP_STATUS_PENDING = false ∧ t.flag (pgCmp h p) F.CMP_STATUS_LATCHED = true ∧
          (t.pipe h p).act = s.shadows h p ∧
          (t.streamWild h p = false → t.get (pgCmp h p) F.CMP_STATUS_FRAMES = (s.get (pgCmp h p) F.CMP_STATUS_FRAMES + 1) % 65536))))) ∧
  (∀ (h : Half) (p : Fin 8) (s : State), s.pipeRuns h p = false →
    exec (.pipeLineStart h p) s = .next s ∧ exec (.lineClose h p) s = .next s ∧ ∀ n b, exec (.lineCutoff h p n b) s = .next s) ∧
  (∀ (h : Half) (p : Fin 8) (s : State), s.pipeRuns h p = true → Does (.pipeLineStart h p) s fun t =>
    let f := (s.portLine p + 4) % (max 1 (s.vTotal p))
    let c := (s.portLine p + 2) % (max 1 (s.vTotal p))
    (f < s.vActive p → f + 1 ≤ (t.pipe h p).fetchUpTo) ∧ (c < s.vActive p → (t.pipe h p).waiting = some c) ∧ (t.pipe h p).closed = (s.pipe h p).closed ∧ SameMem s t) ∧
  (∀ (h : Half) (p : Fin 8) (s : State),
    ((s.pipe h p).granted = [] → exec (.fetchChunkArrival h p) s = .next s) ∧
    (∀ c r, (s.pipe h p).granted = c :: r → Does (.fetchChunkArrival h p) s fun t => r <+: (t.pipe h p).granted ∧
      ((s.pipe h p).closed ≤ c.line → (t.pipe h p).buf = (s.pipe h p).buf ++ [c]) ∧ SameMem s t) ∧
    (Does (.composeResume h p) s fun t => (t.pipe h p).stalled = false ∧ (t.pipe h p).closed = (s.pipe h p).closed ∧ SameMem s t)) ∧
  (∀ (h : Half) (p : Fin 8) (s : State),
    ((s.pipe h p).composing = none ∨ (s.pipe h p).stalled = true → exec (.lineClose h p) s = .next s) ∧
    (∀ n, (s.pipe h p).composing = some n → s.lineReady h p n = false → exec (.lineClose h p) s = .next s) ∧
    (∀ n, (s.pipe h p).composing = some n → s.pipeRuns h p = true → (s.pipe h p).stalled = false → s.lineReady h p n = true → Does (.lineClose h p) s fun t =>
      (t.hs h).link = (s.hs h).link ++ [{ port := p, line := n, pixels := s.composeLine h p n }] ∧ (t.pipe h p).closed = n + 1 ∧ (t.pipe h p).run = 0 ∧
      t.get (pgCmp h p) F.CMP_UNDER_RUN = 0 ∧ SameMem s t)) ∧
  (∀ (h : Half) (p : Fin 8) (sent : Nat) (stalled : Bool) (s : State), s.pipeRuns h p = true →
    let line := (s.pipe h p).closed
    let n := if (s.pipe h p).composing = some line then min sent (s.hActive p) else 0
    let px := (s.composeLine h p line).take n ++ List.replicate (s.hActive p - n) ((s.reg (pgCmp h p) 0x24).toNat % 0x40000000)
    (s.vActive p ≤ line ∨ line ≠ (s.portLine p + 1) % (max 1 (s.vTotal p)) → exec (.lineCutoff h p sent stalled) s = .next s) ∧
    (line < s.vActive p → line = (s.portLine p + 1) % (max 1 (s.vTotal p)) →
      Goes (.lineCutoff h p sent stalled) s ∧
      ((s.pipe h p).reported = true ∨ min 255 (s.get (pgCmp h p) F.CMP_UNDER_RUN + 1) < s.faultLines h p → Does (.lineCutoff h p sent stalled) s fun t =>
        (t.hs h).link = (s.hs h).link ++ [{ port := p, line := line, pixels := px }] ∧
        t.flag (pgCmp h p) F.CMP_UNDER_UNDER = true ∧ t.get (pgCmp h p) F.CMP_UNDER_COUNT = min 65535 (s.get (pgCmp h p) F.CMP_UNDER_COUNT + 1) ∧
        t.get (pgCmp h p) F.CMP_UNDER_AT_LINE = line % 4096 ∧ (t.pipe h p).closed = line + 1 ∧ (t.pipe h p).run = (s.pipe h p).run + 1 ∧
        (t.pipe h p).stalled = stalled ∧ SameMem s t)))

/-- Where HPD is not sensed only its level is kept. A plug shows HPD and probes an Absent position; an unplug makes it Absent with its link
down; an interrupt starts a link status read, whatever the state of the position. A read that finds the link intact changes nothing else,
one that finds it lost takes the link down, and the seventh failed read in succession makes the position Faulted. The seventh failed AUX
transaction in succession makes a Probing position Faulted, fewer are counted; DPCD answers lead to the identity read; an AUX result that
no read waits for changes nothing. A Faulted position with HPD is probed again. ACCEPT needs a Mismatch; RETRAIN trains a Present sink and
probes a Faulted one. A passed attempt shows the configuration and RESULT 1; a failed one is repeated once, then the next candidate
follows, and after the last the position is Faulted. -/
def Obligations.PortPlugAndTraining : Prop :=
  (∀ (p : Fin 8) (s : State),
    let up := s.setPort p { s.port p with hpd := true }
    (s.hpdSensed = false → exec (.hpdIrq p) s = .next s) ∧
    (s.hpdSensed = false → exec (.hpdPlug p) s = .next up ∧ exec (.hpdUnplug p) s = .next (s.setPort p { s.port p with hpd := false })) ∧
    (s.hpdSensed = true → s.disc (pgScn p) 0 ≠ 0 → exec (.hpdPlug p) s = .next (up.put (pgScn p) F.SCN_STATUS_HPD 1)) ∧
    (s.hpdSensed = true → s.disc (pgScn p) 0 = 0 → Does (.hpdPlug p) s fun t => t.flag (pgScn p) F.SCN_STATUS_HPD = true ∧ t.disc (pgScn p) 0 = 1 ∧
      (t.port p).hpd = true ∧ (t.port p).auxWait = 1 ∧ SameMem s t) ∧
    (s.hpdSensed = true → Does (.hpdUnplug p) s fun t => t.flag (pgScn p) F.SCN_STATUS_HPD = false ∧ t.disc (pgScn p) 0 = 0 ∧
      t.flag (pgScn p) F.SCN_LINK_UP = false ∧ (t.port p).blen = false ∧ (t.port p).byCommand = false ∧ (t.port p).training = none ∧ SameMem s t) ∧
    ((s.port p).hpd = false → exec (.hpdIrq p) s = .next s) ∧
    ((s.port p).hpd = true → s.hpdSensed = true → exec (.hpdIrq p) s = .next
      ((s.put (pgScn p) F.SCN_STATUS_HPD_IRQ 1).setPort p { s.port p with linkRead := true, readFails := 0 }))) ∧
  (∀ (p : Fin 8) (r : AuxResult) (s : State), s.disc (pgScn p) 0 ≠ 1 → exec (.auxTransactionDone p r) s = .next s) ∧
  (∀ (p : Fin 8) (s : State), s.disc (pgScn p) 0 = 1 →
    ((s.port p).auxFails < 6 → exec (.auxTransactionDone p .failed) s = .next (s.setPort p { s.port p with auxFails := (s.port p).auxFails + 1 })) ∧
    (6 ≤ (s.port p).auxFails → Does (.auxTransactionDone p .failed) s fun t => t.disc (pgScn p) 0 = 4 ∧ t.get (pgScn p) F.SCN_LINK_RESULT = 4 ∧
      (t.port p).auxFails = 0 ∧ SameMem s t) ∧
    (∀ c, (s.port p).auxWait = 1 → Does (.auxTransactionDone p (.dpcd c)) s fun t => (t.port p).caps = some c ∧ (t.port p).auxWait = 2 ∧
      t.flag (pgScn p) F.SCN_LINK_SINK_CRC = c.sinkCrc ∧ t.disc (pgScn p) 0 = 1 ∧ SameMem s t) ∧
    (∀ c, (s.port p).auxWait ≠ 1 → exec (.auxTransactionDone p (.dpcd c)) s = .next s) ∧
    (∀ i, (s.port p).auxWait ≠ 2 → exec (.auxTransactionDone p (.identity i)) s = .next s) ∧
    (∀ i, (s.port p).auxWait = 2 → exec (.auxTransactionDone p (.identity i)) s = .next (s.identified p i))) ∧
  (∀ (p : Fin 8) (s : State),
    (s.disc (pgScn p) 0 = 4 → (s.port p).hpd = true → exec (.discoveryRetry p) s = .next (s.probe p)) ∧
    (s.disc (pgScn p) 0 ≠ 4 ∨ (s.port p).hpd = false → exec (.discoveryRetry p) s = .next s)) ∧
  (∀ (rq : Requester) (p : Fin 8) (s : State), Admitted rq (pgScn p) s →
    (s.disc (pgScn p) 0 ≠ 3 ∨ (s.port p).ident = none → exec (.scnAccept rq p) s = .next s.ack) ∧
    (∀ i, s.disc (pgScn p) 0 = 3 → (s.port p).ident = some i → s.identityOk p 1 i (s.timing p) = false → exec (.scnAccept rq p) s = .next s.ack) ∧
    (∀ i, s.disc (pgScn p) 0 = 3 → (s.port p).ident = some i → s.identityOk p 1 i (s.timing p) = true →
      exec (.scnAccept rq p) s = .next (s.ack.sinkAccept p (s.timing p) true)) ∧
    (s.disc (pgScn p) 0 = 2 → (s.port p).training = none → exec (.scnRetrain rq p) s = .next (s.ack.train p)) ∧
    (s.disc (pgScn p) 0 = 4 → (s.port p).hpd = true → exec (.scnRetrain rq p) s = .next (s.ack.probe p)) ∧
    (s.disc (pgScn p) 0 ≠ 2 → s.disc (pgScn p) 0 ≠ 4 → exec (.scnRetrain rq p) s = .next s.ack) ∧
    exec (.scnPsrEn rq p true) s = .next (s.ack.put (pgScn p) F.SCN_CTRL_PSR_EN 1) ∧
    exec (.scnPsrEn rq p false) s = .next ((s.ack.put (pgScn p) F.SCN_CTRL_PSR_EN 0).setPort p { s.port p with psrExit := true })) ∧
  (∀ (p : Fin 8) (s : State), ((s.port p).training = none → (∀ ok, exec (.trainAttemptDone p ok) s = .next s) ∧ exec (.trainAttemptTimeout p) s = .next s) ∧
    (∀ r, (s.port p).training = some r →
      (Does (.trainAttemptDone p true) s fun t => t.flag (pgScn p) F.SCN_LINK_UP = true ∧ t.get (pgScn p) F.SCN_LINK_RATE = (r.cands.headD (0, 0)).1 % 16 ∧
        t.get (pgScn p) F.SCN_LINK_LANES = (r.cands.headD (0, 0)).2 % 8 ∧ t.get (pgScn p) F.SCN_LINK_RESULT = 1 ∧ (t.port p).training = none ∧
        t.flag (pgScn p) F.SCN_LINK_CODING = decide (8 ≤ (r.cands.headD (0, 0)).1) ∧
        t.get (pgScn p) F.SCN_LINK_TRIES = min 255 (s.get (pgScn p) F.SCN_LINK_TRIES + 1) ∧ SameMem s t) ∧
      ∀ c ∈ [Instr.trainAttemptDone p false, .trainAttemptTimeout p],
      (r.tries = 0 → Does c s fun t => (t.port p).training = some { r with tries := 1 } ∧ SameMem s t) ∧
      (r.tries ≠ 0 → 2 ≤ r.cands.length → Does c s fun t => (t.port p).training = some { cands := r.cands.tail, tries := 0 }) ∧
      (r.tries ≠ 0 → r.cands.length ≤ 1 → Does c s fun t => (t.port p).training = none ∧ t.disc (pgScn p) 0 = 4 ∧
        t.flag (pgScn p) F.SCN_STATUS_TRAIN_FAIL = true ∧ t.get (pgScn p) F.SCN_LINK_RESULT = 3))) ∧
  (∀ (p : Fin 8) (r : LinkRead) (s : State), (s.port p).linkRead = false → exec (.linkStatusReadDone p r) s = .next s) ∧
  (∀ (p : Fin 8) (s : State), (s.port p).linkRead = true →
    exec (.linkStatusReadDone p .intact) s = .next (s.setPort p { s.port p with linkRead := false, readFails := 0 }) ∧
    (Does (.linkStatusReadDone p .lost) s fun t => t.flag (pgScn p) F.SCN_STATUS_LINK_LOSS = true ∧ t.flag (pgScn p) F.SCN_LINK_UP = false ∧
      (t.port p).blen = false ∧ SameMem s t) ∧
    ((s.port p).readFails < 6 → exec (.linkStatusReadDone p .failed) s = .next (s.setPort p { s.port p with readFails := (s.port p).readFails + 1 })) ∧
    (6 ≤ (s.port p).readFails → Does (.linkStatusReadDone p .failed) s fun t => t.disc (pgScn p) 0 = 4 ∧ t.get (pgScn p) F.SCN_LINK_RESULT = 4 ∧
      t.flag (pgScn p) F.SCN_LINK_UP = s.flag (pgScn p) F.SCN_LINK_UP ∧ (t.port p).linkRead = false ∧ SameMem s t))

/-- A line packet leaves the pixel link; it is kept only where its CRC is good, the generator runs and its line boundary has not passed. A
port that does not run, the odd port of a locked pair and a boundary beyond V_TOTAL change nothing; a line boundary counts LINE. The latch
line sends both halves a marker with the tier, their roles and the next frame number. A frame boundary starts the next frame at line 0
with FRAME one higher. BL_DELAY that ends asserts BLEN unless DARK holds it off; Holdover that expires is Off. -/
def Obligations.PortTiming : Prop :=
  (∀ (h : Half) (p : Fin 8) (ok : Bool) (s : State),
    ((∀ k ∈ (s.hs h).link, k.port ≠ p.val) → exec (.linePacketArrival h p ok) s = .next s) ∧
    (∀ k, (s.hs h).link.find? (fun k => k.port = p.val) = some k → Does (.linePacketArrival h p ok) s fun t =>
      (t.hs h).link = (s.hs h).link.erase k ∧ t.regs = s.regs ∧ SameMem s t ∧
      let vt := max 1 (s.timing p).vTotal
      let ahead := (k.line + vt - s.portLine p) % vt
      (t.port p).arr h = if ok = true ∧ (s.port p).run = true ∧ ((1 ≤ ahead ∧ ahead ≤ 3) ∨ (ahead = 0 ∧ (s.port p).fresh = true))
        then (s.port p).arr h ++ [k] else (s.port p).arr h)) ∧
  (∀ (p : Fin 8) (s : State),
    let n := if (s.port p).fresh then 0 else s.portLine p + 1
    ((s.port p).run = false ∨ (s.group p).headD p.val ≠ p.val → exec (.portLineBoundary p) s = .next s ∧ exec (.latchLineStart p) s = .next s ∧
      ∀ x, exec (.portFrameBoundary p x) s = .next s) ∧
    ((s.timing p).vTotal ≤ n → exec (.portLineBoundary p) s = .next s) ∧
    ((s.port p).run = true → s.group p = [p.val] → n < (s.timing p).vTotal → n < 4096 → Does (.portLineBoundary p) s fun t =>
      t.portLine p = n ∧ (t.port p).fresh = false) ∧
    (s.portLine p + 4 ≠ (s.timing p).vTotal ∨ (s.port p).timing ≠ none → exec (.latchLineStart p) s = .next s) ∧
    ((s.port p).run = true → s.group p = [p.val] → s.portLine p + 4 = (s.timing p).vTotal → (s.port p).timing = none → Does (.latchLineStart p) s fun t =>
      (∃ m, (t.port p).markA = some m ∧ m.tier = s.tier ∧ m.role = t.role .A p ∧ m.frame = (s.get (pgScn p) F.SCN_FRAME_FRAME + 1) % 65536) ∧
      (∃ m, (t.port p).markB = some m ∧ m.tier = s.tier ∧ m.role = t.role .B p ∧ m.frame = (s.get (pgScn p) F.SCN_FRAME_FRAME + 1) % 65536) ∧ SameMem s t) ∧
    (∀ x, (s.port p).fresh = true ∨ s.portLine p + 1 ≠ (s.timing p).vTotal → exec (.portFrameBoundary p x) s = .next s) ∧
    (∀ x, (s.port p).run = true → s.group p = [p.val] → (s.port p).fresh = false → s.portLine p + 1 = (s.timing p).vTotal → Does (.portFrameBoundary p x) s fun t =>
      t.portLine p = 0 ∧ t.get (pgScn p) F.SCN_FRAME_FRAME = (s.get (pgScn p) F.SCN_FRAME_FRAME + 1) % 2 ^ 32)) ∧
  (∀ (p : Fin 8) (s : State),
    ((s.port p).blStart = none → exec (.blenDelayExpiry p) s = .next s) ∧
    ((s.port p).blStart ≠ none → exec (.blenDelayExpiry p) s = .next (s.setPort p { s.port p with blStart := none, blWant := true, blen := !(s.darkHeld p) })) ∧
    (s.get pgPlk (F.PLK_LOCK_STATE.at (4 * p)) = 3 → exec (.holdoverExpiry p) s = .next (s.put pgPlk (F.PLK_LOCK_STATE.at (4 * p)) 0)) ∧
    (s.get pgPlk (F.PLK_LOCK_STATE.at (4 * p)) ≠ 3 → exec (.holdoverExpiry p) s = .next s))

/-- ICK_GO marks the states of both lanes pending. ICK_RELEASE arms the end of DARK while DARK shows and does nothing else. A latch
acknowledgement gives the states that the pipe's latch found committed to lane S where the half owns the port and to lane U otherwise (log
100 for SRC Status and None), and changes no PENDING bit, which the latch itself took; without an acknowledgement due nothing changes.
ICK_SINK_NOW and a due check start a sink check only where one may start. With no half in SRC a reading only ends the check (R134).
Otherwise a reading that some frame of the history matches clears the run; one that none matches counts SINK_MIS and, when the run reaches
the threshold, shows SINK_FAIL; no reading only ends the check. -/
def Obligations.IntegrityCommands : Prop :=
  (∀ (rq : Requester) (p : Fin 8) (s : State), Admitted rq (pgIck p) s →
    exec (.ickGo rq p) s = .next ((s.ack.put (pgIck p) F.ICK_STATUS_PENDING_S 1).put (pgIck p) F.ICK_STATUS_PENDING_U 1) ∧
    (s.flag (pgIck p) F.ICK_STATUS_DARK = true → exec (.ickRelease rq p) s = .next (s.ack.setPort p { s.port p with darkArm := true })) ∧
    (s.flag (pgIck p) F.ICK_STATUS_DARK = false → exec (.ickRelease rq p) s = .next s.ack) ∧
    (s.sinkAllowed p = true → exec (.ickSinkNow rq p) s = .next (s.ack.setPort p { s.port p with sinkBusy := true, sinkCount := 0 })) ∧
    (s.sinkAllowed p = false → exec (.ickSinkNow rq p) s = .next s.ack)) ∧
  (∀ (h : Half) (p : Fin 8) (s : State),
    let ack := match h with | .A => (s.port p).ackA | .B => (s.port p).ackB
    let st := match h with | .A => (s.port p).ickA | .B => (s.port p).ickB
    (ack = false → exec (.ickLatchAck h p) s = .next s) ∧
    (ack = true → Does (.ickLatchAck h p) s fun t =>
      (st = none → t.regs = s.regs ∧ (t.port p).laneS = (s.port p).laneS ∧ (t.port p).laneU = (s.port p).laneU) ∧
      (∀ v, st = some v →
        let act := v.foldl (fun t e => tblSet (fun _ => 0) t e.1 e.2) []
        (s.ownerOf p = some h → (t.port p).laneS.act = act ∧ (t.port p).laneU = (s.port p).laneU) ∧
        (s.ownerOf p ≠ some h → (t.port p).laneU.act = act ∧ (t.port p).laneS = (s.port p).laneS ∧ t.regs = s.regs)) ∧
      t.get (pgIck p) F.ICK_STATUS_PENDING_S = s.get (pgIck p) F.ICK_STATUS_PENDING_S ∧
      t.get (pgIck p) F.ICK_STATUS_PENDING_U = s.get (pgIck p) F.ICK_STATUS_PENDING_U ∧
      (match h with | .A => (t.port p).ackA | .B => (t.port p).ackB) = false ∧ SameMem s t)) ∧
  (∀ (p : Fin 8) (s : State),
    (inImage 1 255 7 (s.get (pgIck p) F.ICK_SINKCFG_SINK_DIV) ≤ (s.port p).sinkCount → s.sinkAllowed p = true →
      exec (.sinkCheckDue p) s = .next (s.setPort p { s.port p with sinkBusy := true, sinkCount := 0 })) ∧
    ((s.port p).sinkCount < inImage 1 255 7 (s.get (pgIck p) F.ICK_SINKCFG_SINK_DIV) ∨ s.sinkAllowed p = false → exec (.sinkCheckDue p) s = .next s) ∧
    (∀ v, (s.port p).sinkBusy = false → exec (.sinkCrcReadDone p v) s = .next s) ∧
    ((s.port p).sinkBusy = true → exec (.sinkCrcReadDone p none) s = .next (s.setPort p { s.port p with sinkBusy := false })) ∧
    (∀ v, (s.port p).sinkBusy = true → s.ownerOf p = none →
      exec (.sinkCrcReadDone p (some v)) s = .next (s.setPort p { s.port p with sinkBusy := false })) ∧
    (∀ v, (s.port p).sinkBusy = true → s.ownerOf p ≠ none → v ∈ (s.port p).sinkHist → Does (.sinkCrcReadDone p (some v)) s fun t =>
      (t.port p).sinkRun = 0 ∧ (t.port p).sinkBusy = false ∧ t.regs = s.regs ∧ t.pat = s.pat ∧ SameMem s t) ∧
    (∀ v, (s.port p).sinkBusy = true → s.ownerOf p ≠ none → v ∉ (s.port p).sinkHist → Does (.sinkCrcReadDone p (some v)) s fun t =>
      let n := inImage 1 15 7 (s.get (pgIck p) F.ICK_SINKCFG_SINK_THRESH)
      t.get (pgIck p) F.ICK_STATUS_SINK_MIS = (s.incSat (pgIck p) F.ICK_STATUS_SINK_MIS).get (pgIck p) F.ICK_STATUS_SINK_MIS ∧
      (t.port p).sinkRun = min n ((s.port p).sinkRun + 1) ∧ (t.port p).sinkBusy = false ∧
      ((s.port p).sinkRun < n → n ≤ (s.port p).sinkRun + 1 → t.flag (pgIck p) F.ICK_STATUS_SINK_FAIL = true ∧
        ((s.get (pgIck p) F.ICK_SINKCFG_SINK_REACT).testBit 1 = true → t.flag (pgIck p) F.ICK_STATUS_DARK = true)) ∧
      ((s.port p).sinkRun + 1 < n ∨ n ≤ (s.port p).sinkRun → t.flag (pgIck p) F.ICK_STATUS_SINK_FAIL = s.flag (pgIck p) F.ICK_STATUS_SINK_FAIL)))

/-- A tail more than 2^n ahead of the head, and a ring size below 2^4, make the result unpredictable for the context alone (R158); any other
is shown, an Idle context with work waits, or is Tier-stopped where the tier does not allow it, and the arbitration of the doorbell
follows. A priority write with a reserved bit is unpredictable; 7 is refused and shown in REFUSED; context 0 keeps its priority; else PRIO
shows the new value, a context that is not Idle keeps the old one in force for now, and the arbitration of the write follows. SUSPEND
marks a Holding context, leaves a Faulted or Suspended one, and stops another at once; RESUME lets a Suspended one wait. A tier report
stops the Waiting and Blocked contexts that the tier does not allow, lets the Tier-stopped ones that it allows wait, and drops a pause
request of a compositor that it stops. After the T4 timeout each Holding context is Faulted with TIER_ABORT; no memory changes where none
of them still has a store in its caches. -/
def Obligations.RasterCommands : Prop :=
  (∀ (rq : Requester) (c : Fin 64) (tail : Word) (s : State), Admitted rq (pgRcx rq.half c) s →
    let h := rq.half
    let ahead := (tail.toNat + 2 ^ 32 - s.rHead h c) % 2 ^ 32
    (s.ringLog h c < 4 ∨ 2 ^ s.ringLog h c < ahead → exec (.rcxDoorbell rq c tail) s = .next (s.ack.rWild h c 0x18)) ∧
    (4 ≤ s.ringLog h c → ahead ≤ 2 ^ s.ringLog h c → ∃ u : State, exec (.rcxDoorbell rq c tail) s = .next (u.arbitrate h) ∧
      u.rTail h c = tail.toNat ∧ u.rHead h c = s.rHead h c ∧ (s.rs h c ≠ 0 → u.rs h c = s.rs h c) ∧
      (s.rs h c = 0 → (s.ctx h c).suspend = false → (s.ctx h c).job = none → u.rs h c =
        if ahead = 0 then 0 else if s.rAllowed h c then 1 else 5) ∧
      SameMem s u ∧ u.halfA = s.halfA ∧ u.halfB = s.halfB ∧ KeepsRegs (fun q o => ¬(q = pgRcx h c ∧ (o = 0xC ∨ o = 0x18))) s u)) ∧
  (∀ (rq : Requester) (c : Fin 64) (v : Word) (s : State), Admitted rq (pgRcx rq.half c) s →
    let h := rq.half
    let p := pgRcx h c
    let s1 := if v.getLsbD 8 then s.ack.put p F.RCX_PRIO_REFUSED 0 else s.ack
    (v.toNat / 8 % 32 ≠ 0 ∨ 512 ≤ v.toNat → exec (.rcxPrioWrite rq c v) s = .next (s.ack.rWild h c 4)) ∧
    (v.toNat / 8 % 32 = 0 → v.toNat < 512 → c.val = 0 → exec (.rcxPrioWrite rq c v) s = .next s1) ∧
    (v.toNat / 8 % 32 = 0 → v.toNat < 512 → c.val ≠ 0 → v.toNat % 8 = 7 → exec (.rcxPrioWrite rq c v) s = .next (s1.put p F.RCX_PRIO_REFUSED 1)) ∧
    (v.toNat / 8 % 32 = 0 → v.toNat < 512 → c.val ≠ 0 → v.toNat % 8 ≠ 7 → ∃ u : State, exec (.rcxPrioWrite rq c v) s = .next (u.arbitrate h) ∧
      u.get p F.RCX_PRIO_PRIO = v.toNat % 8 ∧ (s.rs h c ≠ 0 → u.prio h c = s.prio h c) ∧
      u.flag p F.RCX_PRIO_REFUSED = (s.flag p F.RCX_PRIO_REFUSED && !v.getLsbD 8) ∧
      u.rs h c = s.rs h c ∧ SameMem s u ∧ KeepsRegs (fun q o => ¬(q = p ∧ o = 4)) s u)) ∧
  (∀ (rq : Requester) (c : Fin 64) (s : State), Admitted rq (pgRcx rq.half c) s →
    let h := rq.half
    (s.rs h c = 6 ∨ s.rs h c = 4 → exec (.rcxSuspend rq c) s = .next s.ack) ∧
    (s.rs h c = 2 → exec (.rcxSuspend rq c) s = .next (s.ack.setCtx h c { s.ctx h c with suspend := true })) ∧
    (s.rs h c ≠ 6 → s.rs h c ≠ 4 → s.rs h c ≠ 2 → Does (.rcxSuspend rq c) s fun t => t.rs h c = 4 ∧ SameMem s t ∧
      (∀ j, (s.ctx h c).job = some j → j.typ ≠ 4 → (t.ctx h c).job = some j)) ∧
    (s.rs h c = 4 → exec (.rcxResume rq c) s = .next (s.ack.put (pgRcx h c) F.RCX_STATUS_STATE 1)) ∧
    (s.rs h c ≠ 4 → exec (.rcxResume rq c) s = .next s.ack)) ∧
  (∀ (h : Half) (tier : Fin 5) (s : State), Does (.rasterTierReport h tier) s fun t =>
    t.get (pgGfe h) F.GFE_LAT_TIER = tier.val ∧ (t.hs h).gfeStop = decide (tier.val = 4) ∧
    (∀ c : Fin 64, t.rs h c = if (s.get (pgRcx h c) F.RCX_CFG_TIERMASK).testBit tier then (if s.rs h c = 5 then 1 else s.rs h c)
      else if s.rs h c = 1 ∨ s.rs h c = 3 then 5 else s.rs h c) ∧
    (t.hs h).compositor = (if (s.hs h).compositor = 1 ∧ (s.get (pgRcx h 0) F.RCX_CFG_TIERMASK).testBit tier = false then 0 else (s.hs h).compositor) ∧
    SameMem s t) ∧
  (∀ (h : Half) (s : State), ((s.hs h).gfeStop = false → exec (.rasterT4Timeout h) s = .next s) ∧
    ((s.hs h).gfeStop = true → Does (.rasterT4Timeout h) s fun t =>
      (∀ c : Fin 64, s.rs h c = 2 → t.rs h c = 6 ∧ t.get (pgRcx h c) F.RCX_STATUS_CAUSE = 3 ∧ (t.ctx h c).job = none ∧ t.groupsOf h c = []) ∧
      (∀ c : Fin 64, s.rs h c ≠ 2 → t.rs h c = s.rs h c ∧ (t.ctx h c).job = (s.ctx h c).job) ∧ (t.hs h).compositor = 0 ∧
      ((∀ c : Fin 64, s.rs h c = 2 → (s.ctx h c).stores = []) → SameMem s t)))

/-- An arbitration always completes and leaves Suspended, Tier-stopped and Faulted contexts as they are; a context that alone has work takes
its next descriptor: a FENCE executes, a WAIT whose word is below VALUE blocks and one that is not completes, a GRAPHICS or COMPUTE job of
an ordinary context takes every free shader group whose domain is On while the compositor does not run; a reserved encoding is
unpredictable for that context alone. The compositor starts only from a pause request with a job, pauses the contexts that hold, and its
longest latency is kept; when it has left they go on. A finished job advances HEAD, or faults the context whose fault waits. A fence first
lets the writes of the jobs before leave the caches; once they have, it writes its value, and it completes once that too has left the
caches: the value is then in DRAM and HEAD advances, or the context is Faulted. A pre-emption point acts in the order fault, SUSPEND,
tier, priority; inside a render pass the save of the tile memory comes first. The arbitration of the point follows each of these. -/
def Obligations.RasterCourse : Prop :=
  (∀ (h : Half) (s : State), Does (.arbitration h) s fun t =>
      ∀ c : Fin 64, (s.ctx h c).saving = none → s.rs h c = 4 ∨ s.rs h c = 5 ∨ s.rs h c = 6 →
        t.rs h c = s.rs h c ∧ t.rHead h c = s.rHead h c ∧ t.rTail h c = s.rTail h c ∧ (t.ctx h c).job = (s.ctx h c).job) ∧
  (∀ (h : Half) (c : Fin 64) (s : State) (pa : Nat), c.val ≠ 0 →
    (∀ d : Fin 64, d ≠ c → s.rs h d = 0 ∧ (s.ctx h d).saving = none) → (s.ctx h c).saving = none → (s.ctx h c).suspend = false →
    s.takesJob h c = true → 4 ≤ s.ringLog h c → s.rWalk h c .read (s.ringVa h c (s.rHead h c)) = .at pa → s.jobBad h c (s.ringVa h c (s.rHead h c)) = false →
    let j := s.jobAt h c (s.ringVa h c (s.rHead h c))
    (j.typ = 3 → Does (.arbitration h) s fun t => t.rs h c = 2 ∧ (t.ctx h c).job = some j ∧ t.rHead h c = s.rHead h c) ∧
    (∀ q, j.typ = 4 → s.rWalk h c .read j.addr = .at q → s.rRead h c j.addr 8 < j.value → Does (.arbitration h) s fun t =>
      t.rs h c = 3 ∧ (t.ctx h c).job = some j ∧ t.rHead h c = s.rHead h c) ∧
    (∀ q, j.typ = 4 → s.rWalk h c .read j.addr = .at q → j.value ≤ s.rRead h c j.addr 8 → Does (.arbitration h) s fun t =>
      (t.ctx h c).job = none ∧ t.rHead h c = (s.rHead h c + 1) % 2 ^ 32) ∧
    (j.typ ≤ 2 → s.isAsync h c = false → (s.hs h).compositor ≠ 2 → s.freeGroups h ≠ [] → Does (.arbitration h) s fun t =>
        (Config.rasterNeeds (s.rBytesBy h c .read (s.rWalk h c .read) j.addr j.len)).fits = true → t.rs h c = 2 ∧ (t.ctx h c).job = some j ∧ (∀ g, g < 4 → (s.shGroup h g).holder = 0 → s.groupOn h g = true → (t.shGroup h g).holder = c.val + 1) ∧
        (∀ g, g < 4 → (s.shGroup h g).holder ≠ 0 ∨ s.groupOn h g = false → (t.shGroup h g).holder = (s.shGroup h g).holder))) ∧
  (∀ (h : Half) (us : Nat) (s : State),
    ((s.hs h).compositor ≠ 1 ∨ s.rs h 0 ≠ 1 ∨ (s.ctx h 0).job = none → exec (.compositorStart h us) s = .next s) ∧
    ((s.hs h).compositor = 1 → s.rs h 0 = 1 → (s.ctx h 0).job ≠ none → Does (.compositorStart h us) s fun t =>
      t.rs h 0 = 2 ∧ (t.hs h).compositor = 2 ∧ (∀ c : Fin 64, c.val ≠ 0 → t.rs h c = 2 → (t.ctx h c).paused = true) ∧
      (∀ c : Fin 64, c.val ≠ 0 → s.rs h c = 2 → (s.ctx h c).saving = none → t.rs h c = 2) ∧
      t.get (pgGfe h) F.GFE_LAT_MAX_US = max (s.get (pgGfe h) F.GFE_LAT_MAX_US) (min 0xFFFF us) ∧
      ((∀ c : Fin 64, (s.ctx h c).saving = none ∧ (s.ctx h c).stores = []) → SameMem s t)) ∧
    ((s.hs h).compositor ≠ 2 ∨ s.rs h 0 = 2 → exec (.compositorLeave h) s = .next s) ∧
    ((s.hs h).compositor = 2 → s.rs h 0 ≠ 2 → Does (.compositorLeave h) s fun t =>
      (t.hs h).compositor = 0 ∧ (∀ c : Fin 64, (t.ctx h c).paused = false) ∧ t.regs = s.regs ∧ SameMem s t)) ∧
  (∀ (h : Half) (c : Fin 64) (s : State),
    (s.executing h c = false → exec (.jobComplete h c) s = .next s ∧ (∀ g, exec (.preemptionPoint h c g) s = .next s)) ∧
    (∀ k, s.executing h c = true → (s.ctx h c).fault = some k → ∃ u : State, exec (.jobComplete h c) s = .next (u.arbitrate h) ∧
      u.rs h c = 6 ∧ u.get (pgRcx h c) F.RCX_STATUS_CAUSE = k % 16 ∧ u.rHead h c = s.rHead h c ∧ (u.ctx h c).job = none ∧ u.groupsOf h c = []) ∧
    (s.executing h c = true → (s.ctx h c).fault = none → ∃ u : State, exec (.jobComplete h c) s = .next (u.arbitrate h) ∧
      u.rHead h c = (s.rHead h c + 1) % 2 ^ 32 ∧ (u.ctx h c).job = none ∧ u.groupsOf h c = []) ∧
    (∀ (g : Fin 4) k, s.executing h c = true → (s.ctx h c).fault = some k → ∃ u : State, exec (.preemptionPoint h c g) s = .next (u.arbitrate h) ∧ u.rs h c = 6) ∧
    (∀ g, s.executing h c = true → (s.ctx h c).fault = none → (s.ctx h c).tile ≠ [] → (s.ctx h c).suspend = true ∨ s.rAllowed h c = false →
      let s1 := s.setCtx h c { s.ctx h c with prioHeld := none }
      exec (.preemptionPoint h c g) s = .next ((s1.setCtx h c { s1.ctx h c with saving := some 4 }).arbitrateOn h)) ∧
    (∀ (g : Fin 4), s.executing h c = true → (s.ctx h c).fault = none → (s.ctx h c).tile = [] → (s.ctx h c).suspend = true →
      ∃ u : State, exec (.preemptionPoint h c g) s = .next (u.arbitrateOn h) ∧ u.rs h c = 4 ∧ u.groupsOf h c = []) ∧
    (∀ (g : Fin 4), s.executing h c = true → (s.ctx h c).fault = none → (s.ctx h c).tile = [] → (s.ctx h c).suspend = false → s.rAllowed h c = false →
      ∃ u : State, exec (.preemptionPoint h c g) s = .next (u.arbitrateOn h) ∧ u.rs h c = 5 ∧ u.groupsOf h c = []) ∧
    (∀ (g : Fin 4), s.executing h c = true → (s.ctx h c).fault = none → (s.ctx h c).suspend = false → s.rAllowed h c = true →
      let s1 := s.setCtx h c { s.ctx h c with prioHeld := none }
      (s1.mustYield h c g = false → exec (.preemptionPoint h c g) s = .next (s1.arbitrate h)) ∧
      (s1.mustYield h c g = true → (s.ctx h c).tile ≠ [] →
        exec (.preemptionPoint h c g) s = .next ((s1.setCtx h c { s1.ctx h c with saving := some g.val }).arbitrateOn h)) ∧
      (s1.mustYield h c g = true → (s.ctx h c).tile = [] → ∃ u : State, exec (.preemptionPoint h c g) s = .next (u.arbitrateOn h) ∧
        (u.rs h c = 1 ∨ u.rs h c = 2) ∧ (u.ctx h c).job = (s.ctx h c).job ∧ (u.shGroup h g).holder ≠ c.val + 1))) ∧
  (∀ (h : Half) (c : Fin 64) (s : State),
    ((∀ j, (s.ctx h c).job = some j → j.typ ≠ 3) ∨ s.rs h c ≠ 2 → exec (.fenceComplete h c) s = .next s) ∧
    (∀ j, (s.ctx h c).job = some j → j.typ = 3 → s.rs h c = 2 →
      let s1 := (s.l1Out h c).l2Out h c
      let s2 := s1.fenceWrite h c j
      ((s.ctx h c).results = [] → s1.writesDone h c = false → exec (.fenceComplete h c) s = .next s1) ∧
      ((s.ctx h c).results ≠ [] ∨ s1.writesDone h c = true →
        ((s2.ctx h c).fault = none → s2.writesOut h c = false → exec (.fenceComplete h c) s = .next s2) ∧
        ((s2.ctx h c).fault ≠ none ∨ s2.writesOut h c = true → ∃ u : State, exec (.fenceComplete h c) s = .next (u.arbitrate h) ∧
          ((s2.ctx h c).fault ≠ none → u.rs h c = 6 ∧ u.rHead h c = s.rHead h c) ∧
          ((s2.ctx h c).fault = none → u.rHead h c = (s.rHead h c + 1) % 2 ^ 32) ∧ (u.ctx h c).job = none)) ∧
      (∀ pa, (s.ctx h c).fault = none → (s.ctx h c).results = [] → (s.ctx h c).stores = [] → (s.hs h).rl2 = [] → (s.ctx h c).mfence ≤ (s.hs h).mirDone →
        j.addr % 8 = 0 → s.rWalk h c .write j.addr = .at pa → pa % 64 = j.addr % 64 → (s.boundPages h).contains (pa / 4096) = false →
        s.mirrorOf h pa = none → s.mirrorOf h (pa / 64 * 64) = none → pa + 8 ≤ dramSize → ∃ u : State, exec (.fenceComplete h c) s = .next (u.arbitrate h) ∧
          memBytes (u.dram h) pa 8 = leBytes 8 j.value ∧ u.rHead h c = (s.rHead h c + 1) % 2 ^ 32 ∧
          (∀ a, a < pa ∨ pa + 8 ≤ a → memByte (u.dram h) a = memByte (s.dram h) a))))

/-- A context that does not execute, or does not run on the group, makes no step. Any other carries out its arithmetic and then its next
access, which are those that its command list, the results so far and its tile memory give, whatever the half (R181; the functions
themselves are free, log entries 74 and 28). Of an access: one within one block whose translation or region refuses it leaves the fault
for the next pre-emption point, with its address, and neither stores nor changes memory; a store to a page that holds a program bound to a
running job fails with cause 4; any other store waits in the L1 caches, and the context reads its own bytes back; a program fetch binds
its page; a texel of a page that is not resident gives a byte 0 and zeros, and a page missed before writes no second record. No access
changes memory while the raster L2 holds nothing. -/
def Obligations.RasterAccesses : Prop :=
  (∀ (h : Half) (c : Fin 64) (g : Fin 4) (s : State),
    (s.executing h c = false ∨ s.runsOn h c g = false → exec (.rasterMemoryAccess h c g) s = .next s) ∧
    (s.executing h c = true → s.runsOn h c g = true →
      let s1 := s.rCompute h c (Config.rasterArithCount (s.ctx h c).list (s.ctx h c).results)
      exec (.rasterMemoryAccess h c g) s = .next (s1.rStep h c g (Config.rasterStep (s1.ctx h c).list (s1.ctx h c).results (s1.ctx h c).tile)) ∧
      (s1.ctx h c).list = (s.ctx h c).list ∧
      (s1.ctx h c).results.length = (s.ctx h c).results.length + Config.rasterArithCount (s.ctx h c).list (s.ctx h c).results)) ∧
  (∀ (h k : Half) (c d : Fin 64) (s r : State) (n : Nat), (s.ctx h c).list = (r.ctx k d).list → (s.ctx h c).results = (r.ctx k d).results →
    ((s.rCompute h c n).ctx h c).results = ((r.rCompute k d n).ctx k d).results) ∧
  (∀ (h : Half) (c : Fin 64) (g : Fin 4) (va : Nat) (bs : List Byte) (s : State), bs ≠ [] → va % 64 + bs.length ≤ 64 →
    let t := s.rOp h c g (.write va bs)
    (t.ctx h c).results = (s.ctx h c).results ++ [[]] ∧ SameMem s t ∧ t.rs h c = s.rs h c ∧
    (∀ k b, s.rWalk h c .write va = .fault k b → (t.ctx h c).stores = (s.ctx h c).stores ∧
      ((s.ctx h c).fault = none → (t.ctx h c).fault = some k ∧ t.get (pgRcx h c) F.RCX_FAULT_ADDR = va / 4096 % 2 ^ 32) ∧
      (∀ f, (s.ctx h c).fault = some f → (t.ctx h c).fault = some f)) ∧
    (∀ pa, s.rWalk h c .write va = .at pa → (s.boundPages h).contains (pa / 4096) = true → (t.ctx h c).stores = (s.ctx h c).stores ∧
      ((s.ctx h c).fault = none → (t.ctx h c).fault = some 4)) ∧
    (∀ pa, s.rWalk h c .write va = .at pa → (s.boundPages h).contains (pa / 4096) = false →
      (t.ctx h c).stores = (s.ctx h c).stores ++ [(pa, bs)] ∧ (t.ctx h c).fault = (s.ctx h c).fault ∧
      ∀ i, i < bs.length → t.rByte h c .read (pa + i) = bs.getD i 0)) ∧
  (∀ (h : Half) (c : Fin 64) (g : Fin 4) (va n : Nat) (s : State),
    let t := s.rOp h c g (.read va n)
    ((s.hs h).rl2 = [] → SameMem s t) ∧ t.rs h c = s.rs h c ∧ (t.ctx h c).stores = (s.ctx h c).stores ∧
    (0 < n → va % 64 + n ≤ 64 → ∀ k b, s.rWalk h c .read va = .fault k b →
      ((s.ctx h c).fault = none → (t.ctx h c).fault = some k ∧ t.get (pgRcx h c) F.RCX_FAULT_ADDR = va / 4096 % 2 ^ 32)) ∧
    ((s.hs h).rl2 = [] → (∀ a, va / 64 * 64 ≤ a → a < va + n → ∃ pa, s.rWalk h c .read a = .at pa) →
      (t.ctx h c).fault = (s.ctx h c).fault ∧ (t.ctx h c).results = (s.ctx h c).results ++ [s.rBytesBy h c .read (s.rWalk h c .read) va n])) ∧
  (∀ (h : Half) (c : Fin 64) (g : Fin 4) (va pa : Nat) (s : State), s.rWalk h c .fetch va = .at pa →
    let t := s.rOp h c g (.program va)
    (t.boundPages h).contains (pa / 4096) = true ∧ (t.ctx h c).stores = (s.ctx h c).stores ∧ ((s.hs h).rl2 = [] → SameMem s t)) ∧
  (∀ (h : Half) (c : Fin 64) (g : Fin 4) (im : SparseImage) (lv la x y e : Nat) (s : State),
    let p := im.page lv la x y
    tblFind (im.map + 4 * p.index) (s.ctx h c).mapCache = some e → e.testBit 31 = false → s.get (pgRcx h c) F.RCX_MISS_PTR_LOG2 ≤ 8 →
    ((s.rOp h c g (.texel im lv la x y)).ctx h c).results = (s.ctx h c).results ++ [List.replicate ((im.texelBits + 7) / 8 + 1) 0]) ∧
  (∀ (h : Half) (c : Fin 64) (g : Fin 4) (im : SparseImage) (lv la x y e : Nat) (s : State),
    let p := im.page lv la x y
    tblFind (im.map + 4 * p.index) (s.ctx h c).mapCache = some e → e.testBit 31 = false →
    (s.ctx h c).misses.contains (g.val, pageKey im.number p.level p.px p.py la) = true →
    let t := s.rOp h c g (.texel im lv la x y)
    t.regs = s.regs ∧ SameMem s t ∧ (t.ctx h c).misses = (s.ctx h c).misses)

/-- A running half whose heartbeat is not withheld sends one, with its state and its 16-bit count that moves on, over the control link and,
while that is up, over the twin link; a heartbeat that arrives is taken where none was or where its count lies 1 to 32,767 above the last
accepted one modulo 2^16 (log entry 114), and discarded otherwise; a heartbeat missed by a half in service declares it Lost with failover
cause 1 and requests its reset; the notice of a requested reset declares a half in service Lost, and after it the half is in reset. -/
def Obligations.HeartbeatsAndNotices : Prop :=
  (∀ (h : Half) (s : State), (s.hs h).stage = .running → (s.hs h).hbWithheld = false →
    let n := ((s.hs h).hbCount + 1) % 65536
    let u := s.setHs h { s.hs h with hbCount := n, hbLink := ((s.halfState h, n) :: (s.hs h).hbLink).take 2 }
    let o := Half.other h
    exec (.heartbeatSend h) s = .next (if s.flag (pgTwn h) F.TWN_STATUS_LINK then u.setHs o { u.hs o with hbPeer := some (s.halfState h, n) } else u)) ∧
  (∀ (h : Half) (s : State), (s.hs h).stage ≠ .running ∨ (s.hs h).hbWithheld = true → exec (.heartbeatSend h) s = .next s) ∧
  (∀ (h : Half) (late st c : Nat) (s : State), (s.hs h).hbLink[late]? = some (st, c) →
    let rest := (s.hs h).hbLink.erase (st, c)
    ((s.hs h).hbAcc = none ∨ (∃ a, (s.hs h).hbAcc = some a ∧ 1 ≤ (c + 65536 - a) % 65536 ∧ (c + 65536 - a) % 65536 < 32768) →
      exec (.heartbeatReceive h late) s = .next (s.setHs h { s.hs h with hbLink := rest, hbAcc := some c })) ∧
    ((∃ a, (s.hs h).hbAcc = some a ∧ ((c + 65536 - a) % 65536 = 0 ∨ 32768 ≤ (c + 65536 - a) % 65536)) →
      exec (.heartbeatReceive h late) s = .next (s.setHs h { s.hs h with hbLink := rest }))) ∧
  (∀ (h : Half) (late : Nat) (s : State), (s.hs h).hbLink[late]? = none → exec (.heartbeatReceive h late) s = .next s) ∧
  (∀ (h : Half) (s : State), s.inService h = true → exec (.heartbeatTimeout h) s =
    .next ((((s.declareLost h 1).syncCheck).halfResetReq h (if (s.hs h).hbWithheld then 7 else 2)).rearmGo)) ∧
  (∀ (h : Half) (s : State), s.inService h = false → exec (.heartbeatTimeout h) s = .next s) ∧
  (∀ (h : Half) (s : State), (s.hs h).stage = .stopping → Does (.resetNotice h) s fun t =>
    (t.hs h).stage = .reset ∧ (s.inService h = true → t.halfState h = 4)) ∧
  (∀ (h : Half) (s : State), (s.hs h).stage ≠ .stopping → exec (.resetNotice h) s = .next s)

/-- Declaring a half Lost shows its state as Lost and leaves the MRAM as it is. The request of a half reset of a half that is neither in reset
nor Parked records the cause, counts it (saturating), and leaves every memory, every other register but those of the Patina record, and
the other half as they are; the half runs on until its notice has reached the Plinth. Of a half in reset or Parked it changes nothing. The
reset itself, in a state in canonical form (an invariant of every step), leaves every memory, the other half's engines and every register
outside the half as they are. -/
def Obligations.LostHalf : Prop :=
  (∀ (h : Half) (cause : Nat) (s : State), (s.declareLost h cause).halfState h = 4 ∧ ∀ a, memByte (s.declareLost h cause).mram a = memByte s.mram a) ∧
  (∀ (h : Half) (cause : Nat) (s : State), s.inReset h = false → 0 < cause → cause < 9 →
    (s.halfResetReq h cause).hs h = { s.hs h with stage := .stopping, restart := 0 } ∧ (s.halfResetReq h cause).get (pgRstH h) F.RST_CAUSE_CAUSE = cause ∧
    (s.halfResetReq h cause).get (pgRstH h) F.RST_CAUSE_HALF_RESETS = min 65535 (s.get (pgRstH h) F.RST_CAUSE_HALF_RESETS + 1) ∧
    (s.halfResetReq h cause).hs (Half.other h) = s.hs (Half.other h) ∧ SameMem s (s.halfResetReq h cause) ∧
    KeepsRegs (fun p o => p ≠ pgPat ∧ ¬(p = pgRstH h ∧ o = F.RST_CAUSE_CAUSE.off)) s (s.halfResetReq h cause)) ∧
  (∀ (h : Half) (s : State), s.Canon → ((s.halfClear h).hs h).stage = .reset ∧ (s.halfClear h).hs (Half.other h) = s.hs (Half.other h) ∧
    SameMem s (s.halfClear h) ∧ KeepsRegs (fun p _ => p.die ≠ Half.die h) s (s.halfClear h)) ∧
  (∀ (h : Half) (cause : Nat) (s : State), s.inReset h = true → s.halfResetReq h cause = s)

/-- Each source of a half reset requests it with its cause: HALF_RESET_REQUEST with the given one, RST_CTRL.HALF_RESET with 3 and DONE for the
other half only (one that meets a command of the other half in the same Plinth cycle ends with BUSY), ndmreset with 4 and only while
invasive Trusted debug is enabled. After the reset a half that is not held begins to apply; after the apply it takes the slot's class A
fields, extends MR0 with the manifest digest and goes on. The next Trusted image, from memory or from the boot flash, is copied to its
load address whatever the region entries say, hashed and measured, and a refused source read is counted; a digest that differs ends with
MEASURE and a half reset of cause 5; a copy whose blocks the twin-link queue cannot all take goes on with a later command, and waits while
it takes none. -/
def Obligations.HalfResets : Prop :=
  (∀ (h : Half) (c : Fin 9) (s : State), c.val ≠ 0 → exec (.halfResetRequest h c) s = .next (s.halfResetReq h c)) ∧
  (∀ (rq : Requester) (s : State), Admitted rq (pgRstH rq.half) s →
    let u := (s.ack.rstTurn rq.half).2
    let busy := (u.put (pgRstH rq.half) F.RST_STATUS_DONE 1).put (pgRstH rq.half) F.RST_STATUS_RESULT 1
    exec (.rstHalfReset rq rq.half) s = .next (if (s.ack.rstTurn rq.half).1 then busy else u.halfResetReq rq.half 3) ∧
    exec (.rstHalfReset rq (Half.other rq.half)) s = .next (if (s.ack.rstTurn rq.half).1 then busy else
      ((u.halfResetReq (Half.other rq.half) 3).put (pgRstH rq.half) F.RST_STATUS_DONE 1).put (pgRstH rq.half) F.RST_STATUS_RESULT 0)) ∧
  (∀ (h : Half) (s : State), (∀ t, s.pw.rstBy = some (Half.other h, t) → t ≠ s.time) →
    s.rstTurn h = (false, { s with pw := { s.pw with rstBy := some (h, s.time) } })) ∧
  (∀ (h : Half) (s : State), exec (.ndmreset h) s = .next (if s.flag (pgWld h) F.WLD_DBG_TRU_INV then s.halfResetReq h 4 else s)) ∧
  (∀ (h : Half) (s : State), (s.hs h).stage = .reset → (s.hs h).hold = false → exec (.halfResetRelease h) s = .next (
    let u := s.setHs h { s.hs h with stage := .applying }
    ((if s.halfState h = 4 ∨ s.halfState h = 5 then u.setHalfState h 0 else u).domRaise h).pciDiscover h)) ∧
  (∀ (h : Half) (s : State), (s.hs h).stage ≠ .reset ∨ (s.hs h).hold = true → exec (.halfResetRelease h) s = .next s) ∧
  (∀ (h : Half) (s : State), (s.hs h).stage = .applying → exec (.halfApplyDone h) s = .next (
    let u := (((s.applyHalf h (s.applySlot h)).mrExtend h 0 ((s.applyHalf h (s.applySlot h)).manifestHash (s.applySlot h))).rearmApplied h).domRaise h
    (u.setHs h { u.hs h with stage := .training }).halfGo h)) ∧
  (∀ (h : Half) (s : State), (s.hs h).stage = .measuring → (s.trustedImages h)[(s.hs h).images]? = none → exec (.measureImageDone h) s = .next s) ∧
  (∀ (h : Half) (src load len : Nat) (d : List Byte) (xspi : Bool) (s : State), (s.hs h).stage = .measuring → (s.hs h).measOut = 0 →
    (s.trustedImages h)[(s.hs h).images]? = some (src, load, len, d, xspi) →
    let bs := if xspi then (List.range len).map fun i => Config.xspiByte (src + i) else s.bytesAt h tagTrusted .read src len
    let blocks := blocksOf load bs.length
    let k := s.mirTakes h blocks
    let u := (if xspi then s else s.noteRead h tagTrusted .read src len).measureStore h load bs (blocks.take k)
    let v := u.setHs h { u.hs h with measAt := 0, measOut := 0, measRead := [] }
    let w := v.mrExtend h 1 d
    let x := w.setHs h { w.hs h with images := (s.hs h).images + 1 }
    (blocks ≠ [] → k = 0 → exec (.measureImageDone h) s = .next s) ∧
    (0 < k → k < blocks.length → exec (.measureImageDone h) s = .next (u.setHs h { u.hs h with measOut := k, measRead := bs })) ∧
    (k = blocks.length → Config.sha384 bs = d → exec (.measureImageDone h) s =
      .next (if (s.hs h).images + 1 = (x.trustedImages h).length then x.halfRelease h else x)) ∧
    (k = blocks.length → Config.sha384 bs ≠ d → exec (.measureImageDone h) s = .next ((v.put (pgWld h) F.WLD_STATUS_RESULT 1).halfResetReq h 5))) ∧
  (∀ (h : Half) (s : State), (s.hs h).stage ≠ .measuring → (s.hs h).restart ≠ 2 → exec (.measureImageDone h) s = .next s)

/-- A write of the source half to a mirror region within one 64-byte block, which its region controller admits, reaches its own DRAM at the
written address and nothing else there, and, while the other half is Ready or Syncing and the link is up, joins the twin-link queue;
refused, it is dropped and recorded as any region refusal; while the queue has no room, the writer waits. The oldest write of the queue is
applied in the other half's DRAM where the slot of its channel is granted to it, and waits else. MFENCE waits for every mirror write
issued before it, and TWN_MACK shows its token once they are applied or marked, in order. A 0 written to the bit of a region that the half
sources notes the hand-over of that region with the copies made and owed before; a reserved bit is unpredictable (R6). The swap clears the
bit in the half that had noted it and sets it in the other, once none of those copies waits. -/
def Obligations.MirrorWrites : Prop :=
  (∀ (rq : Requester) (a m : Nat) (bs : List Byte) (s : State),
    let h := rq.half
    let b := a / 64 * 64
    let u := s.refuse h (s.rqTag rq) .write b
    0 < bs.length → a % 64 + bs.length ≤ 64 → a < dramSize → s.mirrorOf h b = some m → s.mirrorOf h a = some m → (s.hs h).mirQ.length < 4096 →
    (s.admitBlock h (s.rqTag rq) .write b = false →
      exec (.mirrorWrite rq a bs) s = .next (if Issuer.core rq.by_ then u.accessFault else u)) ∧
    (s.admitBlock h (s.rqTag rq) .write b = true → s.mirrorSrc h m = true → s.mirrorLive h = true → Does (.mirrorWrite rq a bs) s fun t =>
      (∀ i, memByte (t.dram h) i = if a ≤ i ∧ i < a + bs.length then bs.getD (i - a) 0 else memByte (s.dram h) i) ∧
      (t.hs h).mirQ = (s.hs h).mirQ ++ [⟨a, bs⟩] ∧ t.dram (Half.other h) = s.dram (Half.other h) ∧ t.mram = s.mram ∧ t.spmA = s.spmA ∧ t.spmB = s.spmB ∧
      t.regs = s.regs)) ∧
  (∀ (rq : Requester) (a : Nat) (bs : List Byte) (s : State), s.mirFull rq.half a bs.length = true → exec (.mirrorWrite rq a bs) s = .next s) ∧
  (∀ (h : Half) (w : MirWrite) (r : List MirWrite) (s : State), (s.hs h).mirQ = w :: r →
    let o := Half.other h
    let q : DReq := { source := .mirror, requester := 13, addr := w.addr, write := some w.bytes, mirror := true }
    (s.dramUp o (dramChan w.addr) = false ∨ s.grant o (dramChan w.addr) 0 ≠ .request q → exec (.mirrorWriteApply h) s = .next s) ∧
    (s.dramUp o (dramChan w.addr) = true → s.grant o (dramChan w.addr) 0 = .request q → (∀ i : Fin 64, (s.inst h i).saving = false) →
      0 < w.bytes.length → w.addr % 64 + w.bytes.length ≤ 64 → w.addr < dramSize → s.mirrorOf o (w.addr / 64 * 64) ≠ none → Does (.mirrorWriteApply h) s fun t =>
        (∀ i, memByte (t.dram o) i = if w.addr ≤ i ∧ i < w.addr + w.bytes.length then w.bytes.getD (i - w.addr) 0 else memByte (s.dram o) i) ∧
        (t.hs h).mirQ = r ∧ (t.hs h).mirDone = (s.hs h).mirDone + 1 ∧ t.dram h = s.dram h ∧ t.mram = s.mram)) ∧
  (∀ (h : Half) (s : State), (s.hs h).mirQ = [] → exec (.mirrorWriteApply h) s = .next s) ∧
  (∀ (rq : Requester) (tok : Word) (s : State), Admitted rq (pgTwn rq.half) s →
    exec (.twnMfence rq tok) s = .next (s.ack.setHs rq.half { s.hs rq.half with mfence := (s.hs rq.half).mfence ++ [(tok, (s.hs rq.half).mirSent)] })) ∧
  (∀ (h : Half) (pre post : List (Word × Nat)) (tok : Word) (n : Nat) (s : State), (s.hs h).mfence = pre ++ (tok, n) :: post →
    (∀ e ∈ pre, e.2 ≤ (s.hs h).mirDone) → n ≤ (s.hs h).mirDone → (∀ e, post.head? = some e → (s.hs h).mirDone < e.2) →
    Does (.mfenceAcknowledge h) s fun t => t.get (pgTwn h) F.TWN_MACK_TOKEN = tok.toNat ∧ (t.hs h).mfence = post ∧ SameMem s t ∧
      KeepsRegs (fun p o => ¬(p = pgTwn h ∧ o = F.TWN_MACK_TOKEN.off)) s t) ∧
  (∀ (h : Half) (s : State), (∀ e, (s.hs h).mfence.head? = some e → (s.hs h).mirDone < e.2) → exec (.mfenceAcknowledge h) s = .next s) ∧
  (∀ (rq : Requester) (v : Word) (s : State), Admitted rq (pgTwn rq.half) s →
    (v.toNat < 65536 → exec (.twnMirSrcWrite rq v) s = .next (s.ack.setHs rq.half { s.hs rq.half with
      mirHand := (s.hs rq.half).mirHand ++ ((List.range 16).filter fun m =>
        s.mirrorSrc rq.half m && !(v.toNat.testBit m) && !((s.hs rq.half).mirHand.any fun r => r.region = m)).map fun m =>
          ⟨m, (s.hs rq.half).mirSent, (s.hs rq.half).dirty.filter fun g => s.inMirror rq.half (g * 65536) m⟩ })) ∧
    (65536 ≤ v.toNat → exec (.twnMirSrcWrite rq v) s = .next (s.ack.unpredictable (pgTwn rq.half) 4))) ∧
  (∀ (m : Fin 16) (r : MirHand) (s : State), (s.hs .A).mirHand.find? (fun x => x.region = m.val) = some r →
    (s.hs .B).mirHand.find? (fun x => x.region = m.val) = none → s.inService .B = true → s.handQueue .A r = [] → r.granules = [] → Does (.mirrorSourceSwap m) s fun t =>
      t.mirrorSrc .A m = false ∧ t.mirrorSrc .B m = true ∧ SameMem s t ∧
      KeepsRegs (fun p o => p ≠ pgTwn .A ∧ p ≠ pgTwn .B ∨ o ≠ F.TWN_MIR_SRC_SRC.off) s t)

/-- When the link goes down, both halves in service show it down with their queues marked as dirty, ALERT_N asserts, and of two Ready halves
the one that owns fewer ports, Half B on a tie, becomes Syncing. When it comes up, catch-up starts in both halves and, with both in
service, each hub sends its state. A granule copied to the other half leaves the dirty map, and every address of the other half's DRAM
outside the granule reads as before. -/
def Obligations.TwinLink : Prop :=
  (∀ s : State, exec .twinLinkDown s = .next (
    let one (h : Half) (s : State) : State := if !(s.inService h) then s
      else ((((((s.put (pgTwn h) F.TWN_STATUS_LINK 0).put (pgTwn h) F.TWN_STATUS_DOWN 1).queueDirty h).twinDrop h).mfenceCheck h).put (pgTwn h) F.TWN_STATUS_SYNC 0)
    let u := (one .B (one .A s)).alert
    if s.halfState .A = 3 && s.halfState .B = 3 then
      u.setHalfState (if (s.owned .A).length < (s.owned .B).length then .A else .B) 2 else u)) ∧
  (∀ s : State, exec .twinLinkUp s = .next (
    let one (h : Half) (s : State) : State := if s.inService h then s.put (pgTwn h) F.TWN_STATUS_LINK 1 else s
    let u := ((one .B (one .A s)).catchupStart .A).catchupStart .B
    (if u.inService .A && u.inService .B then (u.twinSync .A).twinSync .B else u).syncCheck)) ∧
  (∀ (h : Half) (s : State), (s.hs h).copying = none → exec (.catchupGranuleDone h) s = .next s) ∧
  (∀ (h : Half) (g : Nat) (s : State), (s.hs h).copying = some g → (s.hs h).copyAgain = false → exec (.catchupGranuleDone h) s = .next (
    let o := Half.other h
    let u := s.setDram o (tblOverlay byteZero (g * 65536) 65536 (tblWindow (g * 65536) 65536 (s.dram h)) (s.dram o))
    let hand := (s.hs h).mirHand.map fun r => { r with granules := r.granules.erase g }
    (((u.setHs h { s.hs h with mirHand := hand, copying := none }).setDirty h ((s.hs h).dirty.filter fun x => x ≠ g)).catchupStart h).syncCheck)) ∧
  (∀ (m w : List Host.Cell) (lo a : Nat), Memory.wf m = true → a < lo ∨ lo + 65536 ≤ a →
    memByte (tblOverlay byteZero lo 65536 w m) a = memByte m a)

/-- HANDOVER ends at once with BUSY while a handover or a REARM runs, with NOT_READY where a standby pipe of a named port of the other half is
not qualified, with OK where no named port belongs to the other half, and starts otherwise; a named port without a standby pipe leaves the
command's status unpredictable (R206). REJOIN clears the Idle marks of the named ports and completes with OK. CANCEL ends the running
request with CANCELLED and completes with OK where none runs. A digest difference ends the handover of its port with DIGEST and is
recorded for the first port of the request; HO_TIMEOUT frames after L1 end it with TIMEOUT. A port whose home half is qualified returns to
it under AUTO_RETURN. A half whose shed is over parks. -/
def Obligations.PairCommands : Prop :=
  (∀ (rq : Requester) (ports : BitVec 8) (target : Half) (s : State), Admitted rq pgPair s →
    let ended (r : Nat) : Host.Outcome State Fault Refusal := .next (((s.ack.put pgPair F.PAIR_STATUS_DONE 1).put pgPair F.PAIR_STATUS_RESULT r).raise pgPair)
    let ps := (s.withPartners (portsOf ports)).filter fun p => s.ownerOf p = some (Half.other target) && !((s.port p).t4Stop)
    (s.hoRun.isSome = true ∨ s.rearm.isSome = true → exec (.pairHandover rq ports target) s = ended 1) ∧
    (s.hoRun = none → s.rearm = none → (∃ p ∈ ps, s.role target p ≠ roleStandby) → exec (.pairHandover rq ports target) s = .next (s.ack.wildStatus pgPair [F.PAIR_STATUS_DONE, F.PAIR_STATUS_RESULT])) ∧
    (s.hoRun = none → s.rearm = none → (∀ p ∈ ps, s.role target p = roleStandby) → (∃ p ∈ ps, s.qualified target p = false) →
      exec (.pairHandover rq ports target) s = ended 2) ∧
    (s.hoRun = none → s.rearm = none → ps = [] → exec (.pairHandover rq ports target) s = ended 0) ∧
    (s.hoRun = none → s.rearm = none → ps ≠ [] → (∀ p ∈ ps, s.role target p = roleStandby ∧ s.qualified target p = true) →
      exec (.pairHandover rq ports target) s = .next (s.ack.hoStart (.command rq.half) target ps))) ∧
  (∀ (rq : Requester) (ports : BitVec 8) (s : State), Admitted rq pgPair s → Does (.pairRejoin rq ports) s fun t =>
    t.flag pgPair F.PAIR_STATUS_DONE = true ∧ t.get pgPair F.PAIR_STATUS_RESULT = 0 ∧ SameMem s t ∧
    (∀ p, p ∈ portsOf ports → t.port p = { s.port p with idleA := false, idleB := false }) ∧
    (∀ p, p ∉ portsOf ports → t.port p = s.port p) ∧ t.irq = (s.raise pgPair).irq ∧
    KeepsRegs (fun p o => ¬(p = pgPair ∧ o = F.PAIR_STATUS_DONE.off)) s t) ∧
  (∀ (rq : Requester) (s : State), Admitted rq pgPair s →
    (s.hoRun = none → exec (.pairCancel rq) s = .next (((s.ack.put pgPair F.PAIR_STATUS_DONE 1).put pgPair F.PAIR_STATUS_RESULT 0).raise pgPair)) ∧
    (∀ r, s.hoRun = some r → exec (.pairCancel rq) s = .next (({ s.ack with hoRun := some { r with cancelled := true } }).hoEndAll 7).rearmGo)) ∧
  (∀ (p : Fin 8) (o : HoPort) (a b : List (Nat × Word)) (s : State), (s.port p).ho = some o → o.digestA = some a → o.digestB = some b →
    o.phase = 1 → o.compared = false →
    (∀ r, s.hoRun = some r → r.diff = false → exec (.digestCompare p) s = .next (match digestDiff a b with
      | none => s.setPort p { s.port p with ho := some { o with compared := true } }
      | some (pg, off) =>
        (({ (s.put pgPair F.PAIR_DIFF_PAGE pg).put pgPair F.PAIR_DIFF_OFFSET off with hoRun := some { r with diff := true } }).hoEnd p 3).rearmGo))) ∧
  (∀ (p : Fin 8) (o : HoPort) (s : State), (s.port p).ho = some o →
    exec (.handoverTimeout p) s = .next (if o.phase = 1 ∧ s.get pgPair F.PAIR_CFG_HO_TIMEOUT ≤ o.frames then (s.hoEnd p 4).rearmGo else s)) ∧
  (∀ (p : Fin 8) (s : State), s.flag pgPair F.PAIR_CFG_AUTO_RETURN = true → s.hoRun = none → s.rearm = none → s.insp = none → s.shed = none →
    (∀ q ∈ s.group p, s.qualified (s.home p) q = true ∧ (s.port q).ho = none ∧ (s.port q).t4Stop = false) →
    exec (.autoReturn p) s = .next (s.hoStart .auto (s.home p) (s.group p))) ∧
  (∀ (h : Half) (s : State), s.shed = some { half := h, issued := true } → s.hoRun = none → (∀ p ∈ s.owned h, (s.port p).shedSwitch = false) →
    exec (.halfPark h) s = .next (if (s.parkHalf h).tier ≤ 1 then (s.parkHalf h).unparkHalf h else s.parkHalf h))

/-- A hart that is held, waits at a trap, or is halted with no invasive debug writes no tag. HPART, which code below HS-mode does not write,
takes a Partition of the hart's own world and ignores one of the other world (R212). MWORLD, in M-mode only, takes PWORLD always and MPART
only for a Trusted Partition. A reserved bit leaves what the write sets free, under the same checks. A trap into M-mode of a hart that
runs saves WORLD in PWORLD and makes it Trusted; an Open hart that traps while a restart runs is held at the trap; a held or halted hart
takes none. MRET in M-mode gives WORLD the value of PWORLD, and an interrupt of the S file that waited is taken on a return to the Open
world whose enables let it. A change of world flushes the hart's caches once; no memory changes where its data cache is clean. A Trusted
interrupt that is pending at an Open hart is taken like a trap, and one that is pending at a hart halted in the Open world ends the halt,
shows DBG_PRE and is taken. HARTRESET starts the hart at the reset vector and keeps only whether it is stopped; FENCE.I makes the hart
fetch from memory as it stands. -/
def Obligations.WorldTags : Prop :=
  (∀ (h : Half) (hart : Fin 8) (v : Word) (lower : Bool) (s : State),
    let t := s.hart h hart
    let free := Config.freeValue s.free
    let writes := lower = false ∨ t.mMode = true ∨ t.halted = true
    (s.hartHeld h hart = true ∨ t.trapHeld = true ∨ (t.halted = true ∧ s.invasive h hart = false) →
      exec (.hpartWrite h hart ⟨v, lower⟩) s = .next s ∧ exec (.mworldWrite h hart v) s = .next s) ∧
    (t.mMode = false → exec (.mworldWrite h hart v) s = .next s) ∧
    (¬writes → exec (.hpartWrite h hart ⟨v, lower⟩) s = .next s) ∧
    (s.hartHeld h hart = false → t.trapHeld = false → (t.halted = true → s.invasive h hart = true) →
      (writes → 16 ≤ v.toNat →
        exec (.hpartWrite h hart ⟨v, lower⟩) s = .next (({ s with free := s.free + 1 } : State).setHpart h hart (free % 16))) ∧
      (writes → v.toNat < 16 → s.trustedPart h v.toNat = s.flag (pgHart h hart) F.MWORLD_WORLD →
        exec (.hpartWrite h hart ⟨v, lower⟩) s = .next (s.put (pgHart h hart) F.HPART_PART v.toNat)) ∧
      (writes → v.toNat < 16 → s.trustedPart h v.toNat ≠ s.flag (pgHart h hart) F.MWORLD_WORLD →
        exec (.hpartWrite h hart ⟨v, lower⟩) s = .next s) ∧
      (t.mMode = true →
        (Does (.mworldWrite h hart v) s fun u => u.get (pgHart h hart) F.MWORLD_WORLD = s.get (pgHart h hart) F.MWORLD_WORLD ∧
          SameMem s u ∧ KeepsRegs (fun p o => ¬(p = pgHart h hart ∧ o = F.MWORLD_WORLD.off)) s u) ∧
        (v.toNat < 4096 → v.toNat / 4 % 64 = 0 → Does (.mworldWrite h hart v) s fun u =>
          u.get (pgHart h hart) F.MWORLD_PWORLD = v.toNat / 2 % 2 ∧
          u.get (pgHart h hart) F.MWORLD_MPART = if s.trustedPart h (v.toNat / 256) then v.toNat / 256 else s.get (pgHart h hart) F.MWORLD_MPART)))) ∧
  (∀ (h : Half) (hart : Fin 8) (dirty : List CacheLine) (toM : Bool) (openEn : List (Nat × Nat)) (s : State),
    let t := s.hart h hart
    let busy := s.hartHeld h hart = true ∨ t.halted = true ∨ t.trapHeld = true
    let world := s.flag (pgHart h hart) F.MWORLD_WORLD
    let pworld := s.flag (pgHart h hart) F.MWORLD_PWORLD
    let traps (c : Instr) := Does c s fun u =>
      u.flag (pgHart h hart) F.MWORLD_WORLD = true ∧ u.flag (pgHart h hart) F.MWORLD_PWORLD = world ∧
      u.get (pgHart h hart) F.MWORLD_MPART = s.get (pgHart h hart) F.MWORLD_MPART ∧ (u.hart h hart).mMode = true ∧
      (u.hart h hart).flushes = t.flushes + (if world then 0 else 1) ∧
      (∀ n, n ≠ hart.val → u.hart h n = s.hart h n) ∧ (world = true ∨ dirty = [] → SameMem s u)
    (busy → exec (.mModeTrap h ⟨hart, dirty⟩) s = .next s ∧ exec (.mret h ⟨⟨hart, dirty⟩, toM, openEn⟩) s = .next s) ∧
    (¬busy → (s.hs h).restart ≠ 0 → world = false →
      exec (.mModeTrap h ⟨hart, dirty⟩) s = .next (s.setHart h hart { t with l1d := dirty, trapHeld := true })) ∧
    (¬busy → (s.hs h).restart = 0 ∨ world = true → traps (.mModeTrap h ⟨hart, dirty⟩)) ∧
    (¬busy → t.mMode = false → exec (.mret h ⟨⟨hart, dirty⟩, toM, openEn⟩) s = .next s) ∧
    (¬busy → t.mMode = true → Does (.mret h ⟨⟨hart, dirty⟩, toM, openEn⟩) s fun u =>
      u.flag (pgHart h hart) F.MWORLD_WORLD = pworld ∧ (u.hart h hart).mMode = (toM && pworld) ∧
      (u.hart h hart).flushes = t.flushes + (if world = pworld then 0 else 1) ∧
      (pworld = false → t.haltReq = false → (∃ i ∈ t.pendS, (1, i) ∈ openEn) → ∃ i ∈ t.pendS, (1, i) ∈ openEn ∧ (u.hart h hart).sTaken = some (1, i)) ∧
      (∀ n, n ≠ hart.val → u.hart h n = s.hart h n) ∧ (world = pworld ∨ dirty = [] → SameMem s u)) ∧
    (¬busy → t.pendM ≠ [] → world = false → (s.hs h).restart = 0 → traps (.trustedInterrupt h ⟨hart, dirty⟩)) ∧
    (¬busy → t.pendM ≠ [] → world = false → (s.hs h).restart ≠ 0 →
      exec (.trustedInterrupt h ⟨hart, dirty⟩) s = .next (s.setHart h hart { t with l1d := dirty })) ∧
    (busy ∨ t.pendM = [] ∨ world = true → exec (.trustedInterrupt h ⟨hart, dirty⟩) s = .next s) ∧
    (t.halted = true → s.hartHeld h hart = false → t.pendM ≠ [] → world = false → (s.hs h).restart = 0 → Does (.debugPreempt h ⟨hart, dirty⟩) s fun u =>
      u.flag (pgHart h hart) F.MWORLD_WORLD = true ∧ u.flag (pgWld h) F.WLD_STATUS_DBG_PRE = true ∧ (dirty = [] → SameMem s u)) ∧
    (t.halted = false ∨ s.hartHeld h hart = true ∨ t.pendM = [] ∨ world = true ∨ (s.hs h).restart ≠ 0 →
      exec (.debugPreempt h ⟨hart, dirty⟩) s = .next s) ∧
    (Does (.debugHaltRequest h hart) s fun u =>
      u.hart h hart = (if s.hartHeld h hart = false ∧ s.invasive h hart = true then { t with halted := true, haltReq := false } else { t with haltReq := true }) ∧
      u.regs = s.regs ∧ (∀ n, n ≠ hart.val → u.hart h n = s.hart h n) ∧ SameMem s u) ∧
    (s.domain h hart = 0 → exec (.hartreset h hart) s = .next s) ∧
    (s.domain h hart ≠ 0 → exec (.hartreset h hart) s = .next (s.setHart h hart { s.hartStart h with stopped := t.stopped })) ∧
    (s.hartHeld h hart = false → t.halted = false → exec (.fenceI h hart) s = .next (s.setHart h hart { t with seen := s.fetchView h })) ∧
    (s.hartHeld h hart = true ∨ t.halted = true → exec (.fenceI h hart) s = .next s))

/-- A lockstep mismatch while the safety cores run is counted, recorded and alerted, and holds both cores: the first two within 1 s until the
SAF Function has been reset, a third one for good, shown by HELD. A delegation of a source to the other world's domain and an MSI to an M
file whose issuer has no Trusted tag are turned away, the MSI counted; one to an S or guest file waits while its hart is in the Trusted
world. In a state in canonical form (an invariant of every step): WLD_RESTART shows BUSY and its cause, stops the Trusted harts, resets
their HPART and MWORLD, and is ignored while a restart runs. The clear that ends begins the measurement, keeps the Open harts, and leaves
a half that has no Trusted image released with DONE and RESTARTS counted. WLD_EXTEND extends MR4 to MR7 by the twelve WLD_EXT words and no
other measurement register. A kick of 0x5A loads the watchdog with TIMEOUT × 1000 and any other value nothing; an expiry while the half
runs records the event and asks for a half reset with cause 1. WLD_DBG takes the Open enables always, the Trusted ones only in Provisioned
with DBG_ALLOW_T, whatever a reserved bit brings. -/
def Obligations.TrustedRestart : Prop :=
  (∀ (h : Half) (s : State), (s.flag (pgSaf h) F.SAF_STATUS_RUN = false → exec (.lockstepMismatch h) s = .next s) ∧
    (s.flag (pgSaf h) F.SAF_STATUS_RUN = true → Does (.lockstepMismatch h) s fun t =>
      t.flag (pgSaf h) F.SAF_STATUS_MISMATCH = true ∧ t.get (pgSaf h) F.SAF_STATUS_MISMATCHES = min 0xFFFF (s.get (pgSaf h) F.SAF_STATUS_MISMATCHES + 1) ∧
      t.flag (pgSaf h) F.SAF_STATUS_RUN = false ∧ SameMem s t ∧
      (((s.hs h).lockTimes.filter fun x => s.time < x + 1000000).length < 2 → (t.hs h).saf = { (s.hs h).saf with hold := true } ∧
        t.flag (pgSaf h) F.SAF_STATUS_HELD = s.flag (pgSaf h) F.SAF_STATUS_HELD) ∧
      (2 ≤ ((s.hs h).lockTimes.filter fun x => s.time < x + 1000000).length → (t.hs h).saf = (s.hs h).saf ∧
        t.flag (pgSaf h) F.SAF_STATUS_HELD = true))) ∧
  (∀ (h : Half) (src : Nat) (s : State),
    let trusted := Config.imageIrqTrusted (s.image (Half.die h)) src
    exec (.aplicDelegateWrite h src trusted) s = .next s ∧
    exec (.aplicDelegateWrite h src (!trusted)) s = .next (s.setHs h { s.hs h with irqDeleg := tblInsert src (!trusted) (s.hs h).irqDeleg })) ∧
  (∀ (h : Half) (hart : Fin 8) (w : Issuer) (n : Fin 256) (s : State),
    ((s.tag h w).world ≠ .trusted → exec (.msiWrite h hart w 0 n) s = .next (s.incSat (pgWld h) F.WLD_STATUS_MSI_DROP)) ∧
    ((s.tag h w).world = .trusted → Does (.msiWrite h hart w 0 n) s fun t => (t.hart h hart).pendS = (s.hart h hart).pendS ∧ t.regs = s.regs ∧
      ∀ k, k ∈ (t.hart h hart).pendM ↔ k ∈ (s.hart h hart).pendM ∨ (n.val ≠ 0 ∧ k = n.val)) ∧
    (s.flag (pgHart h hart) F.MWORLD_WORLD = true → Does (.msiWrite h hart w 1 n) s fun t => (t.hart h hart).pendM = (s.hart h hart).pendM ∧
      t.regs = s.regs ∧ ∀ k, k ∈ (t.hart h hart).pendS ↔ k ∈ (s.hart h hart).pendS ∨ (n.val ≠ 0 ∧ k = n.val)) ∧
    (∀ f : Fin 9, 2 ≤ f.val → s.flag (pgHart h hart) F.MWORLD_WORLD = true → Does (.msiWrite h hart w f n) s fun t =>
      (t.hart h hart).pendM = (s.hart h hart).pendM ∧ (t.hart h hart).pendS = (s.hart h hart).pendS ∧ t.regs = s.regs ∧
      ∀ k, k ∈ (t.hart h hart).pendG ↔ k ∈ (s.hart h hart).pendG ∨ (n.val ≠ 0 ∧ k = (f.val, n.val))) ∧
    (s.flag (pgHart h hart) F.MWORLD_WORLD = false → (1, n.val) ∈ (s.hart h hart).openEn → s.hartHeld h hart = false → (s.hart h hart).halted = false →
      (s.hart h hart).trapHeld = false → (s.hart h hart).pendS = [] → n.val ≠ 0 → Does (.msiWrite h hart w 1 n) s fun t =>
      (t.hart h hart).sTaken = some (1, n.val) ∧ (t.hart h hart).pendS = [] ∧ (t.hart h hart).openEn = [])) ∧
  (∀ (rq : Requester) (s : State), Admitted rq (pgWld rq.half) s →
    ((s.hs rq.half).restart ≠ 0 → exec (.wldRestart rq) s = .next s.ack) ∧
    ((s.hs rq.half).restart = 0 → s.Canon → Does (.wldRestart rq) s fun t =>
      (t.hs rq.half).restart = 1 ∧ t.flag (pgWld rq.half) F.WLD_STATUS_BUSY = true ∧
      t.get (pgWld rq.half) F.WLD_STATUS_CAUSE = (if rq.by_ = .safety then 2 else 1) ∧
      (∀ n : Fin 8, s.flag (pgHart rq.half n) F.MWORLD_WORLD = true → (t.hart rq.half n).stopped = true ∧ t.reg (pgHart rq.half n) 0x6C0 = 0 ∧
        (t.hart rq.half n).pendM = (s.hart rq.half n).pendM) ∧
      (∀ n : Fin 8, s.flag (pgHart rq.half n) F.MWORLD_WORLD = false → t.hart rq.half n = s.hart rq.half n ∧
        t.reg (pgHart rq.half n) 0x6C0 = s.reg (pgHart rq.half n) 0x6C0) ∧
      SameMem s t)) ∧
  (∀ (h : Half) (s : State), ((s.hs h).restart ≠ 1 → exec (.trustedClearDone h) s = .next s) ∧
    ((s.hs h).restart = 1 → s.Canon → Does (.trustedClearDone h) s fun t =>
      (s.trustedImages h ≠ [] ∨ (∀ n : Fin 8, (s.hart h n).l1d = []) → t.dramA = s.dramA ∧ t.dramB = s.dramB) ∧ t.mram = s.mram ∧ t.spm (Half.other h) = s.spm (Half.other h) ∧
      (s.trustedImages h ≠ [] → (t.hs h).restart = 2) ∧ (s.trustedImages h = [] → (t.hs h).restart = 0 ∧ t.flag (pgWld h) F.WLD_STATUS_BUSY = false ∧
        t.flag (pgWld h) F.WLD_STATUS_DONE = true ∧ t.get (pgWld h) F.WLD_STATUS_RESULT = 0))) ∧
  (∀ (rq : Requester) (mr : Fin 4) (s : State), Admitted rq (pgWld rq.half) s → Does (.wldExtend rq mr) s fun t =>
    t.mrBytes rq.half (4 + mr) = ((Config.sha384 (s.mrBytes rq.half (4 + mr) ++ (upTo 12).flatMap fun w => b4 (s.reg (pgWld rq.half) (0x40 + 4 * w)).toNat) ++
      List.replicate 48 0).take 48) ∧
    (∀ m, m < 8 → m ≠ 4 + mr.val → t.mrBytes rq.half m = s.mrBytes rq.half m) ∧ SameMem s t) ∧
  (∀ (rq : Requester) (k : Byte) (s : State), Admitted rq (pgWld rq.half) s →
    (k = 0x5A → exec (.watchdogKick rq k) s = .next (s.ack.put (pgWld rq.half) F.WLD_WDOG_REMAIN (s.get (pgWld rq.half) F.WLD_WDCFG_TIMEOUT * 1000))) ∧
    (k ≠ 0x5A → exec (.watchdogKick rq k) s = .next s.ack)) ∧
  (∀ (h : Half) (s : State), ((s.hs h).stage ≠ .running → exec (.watchdogExpiry h) s = .next s) ∧
    ((s.hs h).stage = .running → exec (.watchdogExpiry h) s = .next (
      (((s.incSat (pgWld h) F.WLD_WDCFG_EXPIRIES).event (srcOf (pgWld h)) 0x0072 (b2 ((s.incSat (pgWld h) F.WLD_WDCFG_EXPIRIES).get (pgWld h) F.WLD_WDCFG_EXPIRIES)) true).alert).halfResetReq h 1))) ∧
  (∀ (rq : Requester) (v : Word) (s : State), Admitted rq (pgWld rq.half) s →
    (16 ≤ v.toNat → Does (.wldDbgWrite rq v) s fun t => SameMem s t ∧
      (s.get pgLcs F.LCS_STATUS_STATE ≠ 1 ∨ s.flag (pgWld rq.half) F.WLD_CFG_DBG_ALLOW_T = false →
        t.get (pgWld rq.half) F.WLD_DBG_TRU_NINV = s.get (pgWld rq.half) F.WLD_DBG_TRU_NINV ∧
        t.get (pgWld rq.half) F.WLD_DBG_TRU_INV = s.get (pgWld rq.half) F.WLD_DBG_TRU_INV)) ∧
    (v.toNat < 16 → Does (.wldDbgWrite rq v) s fun t =>
      t.get (pgWld rq.half) F.WLD_DBG_OPEN_NINV = v.toNat % 2 ∧ t.get (pgWld rq.half) F.WLD_DBG_OPEN_INV = v.toNat / 2 % 2 ∧
      (if s.get pgLcs F.LCS_STATUS_STATE = 1 ∧ s.flag (pgWld rq.half) F.WLD_CFG_DBG_ALLOW_T = true
       then t.get (pgWld rq.half) F.WLD_DBG_TRU_NINV = v.toNat / 4 % 2 ∧ t.get (pgWld rq.half) F.WLD_DBG_TRU_INV = v.toNat / 8 % 2
       else t.get (pgWld rq.half) F.WLD_DBG_TRU_NINV = s.get (pgWld rq.half) F.WLD_DBG_TRU_NINV ∧
         t.get (pgWld rq.half) F.WLD_DBG_TRU_INV = s.get (pgWld rq.half) F.WLD_DBG_TRU_INV) ∧ SameMem s t))

/-- FREEZE of a Running instance with no command in hand freezes it with cause 1 and completes; with one in hand it becomes Freezing; in
another state it ends with BAD_STATE. THAW ends with BUSY while a SAVE waits; THAW of a Frozen instance runs it unless its twin runs, and
waits while the other hub asks; THAW of a Twin asks the other hub while that half and the link live, runs it where the half is gone, and
ends with BUSY with the link down; in another state THAW ends with BAD_STATE. The answer of the other hub runs a Twin whose twin is Frozen
or gone, and ends with BUSY where that runs or the link is down, and with BAD_STATE otherwise; of two hubs that ask, Half A's proceeds and
Half B's ends with BUSY. SAVE of a Frozen instance writes its state block at INST_SBLK and completes, and shows BUSY and waits while the
twin-link queue has no room for the block. RESTORE of an Idle or Frozen instance takes the block that it reads there, or ends with
INVALID_BLOCK; in another state, or while one goes on, it ends with BAD_STATE. RESET and FACE act at once or, FACE, at the next command
boundary. -/
def Obligations.InstanceControl : Prop :=
  (∀ (rq : Requester) (i : Fin 64) (s : State), Admitted rq (pgInst rq.half i) s →
    (s.instState rq.half i = 1 → (s.inst rq.half i).cur = none → exec (.instFreeze rq i) s =
      .next (((s.ack.setInstState rq.half i 3).put (pgInst rq.half i) F.INST_STATE_CAUSE 1).instDone rq.half i 1 0)) ∧
    (s.instState rq.half i = 1 → (s.inst rq.half i).cur ≠ none → exec (.instFreeze rq i) s =
      .next ((s.ack.setInstState rq.half i 2).instBusy rq.half i 1)) ∧
    (s.instState rq.half i ≠ 1 → exec (.instFreeze rq i) s = .next (s.ack.instDone rq.half i 1 2))) ∧
  (∀ (rq : Requester) (i : Fin 64) (s : State), Admitted rq (pgInst rq.half i) s →
    let h := rq.half
    let o := Half.other h
    let wait := (s.ack.setInst h i { s.inst h i with asking := true }).instBusy h i 2
    ((s.inst h i).saving = true → exec (.instThaw rq i) s = .next (s.ack.instDone h i 2 1)) ∧
    ((s.inst h i).saving = false →
      (s.instState h i = 3 → (s.inst o i).asking = false ∨ s.twinGone o = true → s.twinRuns h i = false → exec (.instThaw rq i) s = .next (s.ack.thawed h i)) ∧
      (s.instState h i = 3 → (s.inst o i).asking = false ∨ s.twinGone o = true → s.twinRuns h i = true → exec (.instThaw rq i) s = .next (s.ack.instDone h i 2 1)) ∧
      (s.instState h i = 3 → (s.inst o i).asking = true → s.twinGone o = false → exec (.instThaw rq i) s = .next wait) ∧
      (s.instState h i = 4 → s.twinGone o = true → exec (.instThaw rq i) s = .next (s.ack.thawed h i)) ∧
      (s.instState h i = 4 → s.twinGone o = false → s.flag (pgTwn h) F.TWN_STATUS_LINK = false → exec (.instThaw rq i) s = .next (s.ack.instDone h i 2 1)) ∧
      (s.instState h i = 4 → s.twinGone o = false → s.flag (pgTwn h) F.TWN_STATUS_LINK = true → exec (.instThaw rq i) s = .next wait) ∧
      (s.instState h i ≠ 3 → s.instState h i ≠ 4 → exec (.instThaw rq i) s = .next (s.ack.instDone h i 2 2)))) ∧
  (∀ (h : Half) (i : Fin 64) (s : State), (s.thawed h i).instState h i = 1 ∧ (s.thawed h i).flag (pgInst h i) F.INST_STATUS_DONE = true ∧
    (s.thawed h i).flag (pgInst h i) F.INST_STATUS_BUSY = false ∧ (s.thawed h i).get (pgInst h i) F.INST_STATUS_OP = 2 ∧
    (s.thawed h i).get (pgInst h i) F.INST_STATUS_RESULT = 0 ∧ SameMem s (s.thawed h i)) ∧
  (∀ (h : Half) (i : Fin 64) (s : State),
    let o := Half.other h
    ((s.inst h i).asking = false ∨ s.instState h i ≠ 4 → exec (.thawTwinQuery h i) s = .next s) ∧
    ((s.inst h i).asking = true → s.instState h i = 4 → s.twinGone o = true → exec (.thawTwinQuery h i) s = .next ((s.askDone h i).thawed h i)) ∧
    ((s.inst h i).asking = true → s.instState h i = 4 → s.twinGone o = false → s.flag (pgTwn h) F.TWN_STATUS_LINK = false →
      exec (.thawTwinQuery h i) s = .next (((s.askDone h i).instDone h i 2 1).heldThaw o i)) ∧
    ((s.inst h i).asking = true → s.instState h i = 4 → s.twinGone o = false → s.flag (pgTwn h) F.TWN_STATUS_LINK = true →
      (s.instState o i = 0 ∨ (s.instState o i = 4 ∧ (s.inst o i).asking = false) → exec (.thawTwinQuery h i) s = .next ((s.askDone h i).instDone h i 2 2)) ∧
      (s.instState o i = 3 → exec (.thawTwinQuery h i) s = .next (((s.askDone h i).thawed h i).heldThaw o i)) ∧
      (s.instState o i = 1 ∨ s.instState o i = 2 → exec (.thawTwinQuery h i) s = .next ((s.askDone h i).instDone h i 2 1)) ∧
      (s.instState o i = 4 → (s.inst o i).asking = true →
        exec (.thawTwinQuery h i) s = .next ((((s.askDone .A i).askDone .B i).instDone .B i 2 1).thawed .A i)))) ∧
  (∀ (rq : Requester) (i : Fin 64) (s : State), Admitted rq (pgInst rq.half i) s →
    let h := rq.half
    let tag := s.tagOf h (pgInst h i)
    (s.instState h i = 3 → s.mirFull h (s.sblk h i) 0x5000 = false → exec (.instSave rq i) s = .next
      (((s.ack.setInst h i { s.inst h i with saving := false }).writeAt h tag (s.sblk h i) (s.stateBlock h i)).instDone h i 3 0)) ∧
    (s.instState h i = 3 → s.mirFull h (s.sblk h i) 0x5000 = true → exec (.instSave rq i) s = .next
      ((s.ack.setInst h i { s.inst h i with saving := true }).instBusy h i 3)) ∧
    (s.instState h i ≠ 3 → exec (.instSave rq i) s = .next (s.ack.instDone h i 3 2)) ∧
    (s.instState h i = 0 ∨ s.instState h i = 3 → (s.inst h i).restoring = none → (s.inst h i).saving = false → exec (.instRestore rq i) s = .next
      ((s.ack.noteRead h tag .read (s.sblk h i) 0x5000).restoreFrom h i (s.bytesAt h tag .read (s.sblk h i) 0x5000))) ∧
    ((s.instState h i ≠ 0 ∧ s.instState h i ≠ 3) ∨ (s.inst h i).restoring ≠ none ∨ (s.inst h i).saving = true → exec (.instRestore rq i) s = .next (s.ack.instDone h i 4 2))) ∧
  (∀ (rq : Requester) (i : Fin 64) (s : State), Admitted rq (pgInst rq.half i) s →
    exec (.instReset rq i) s = .next (((s.ack.forward rq.half i .reset).hubReset rq.half i).instDone rq.half i 5 0)) ∧
  (∀ (rq : Requester) (i : Fin 64) (d : Bool) (s : State), Admitted rq (pgInst rq.half i) s →
    ((s.inst rq.half i).cur = none → s.instState rq.half i ≠ 2 → Does (.instFace rq i d) s fun t =>
      t.get (pgInst rq.half i) F.INST_STATE_FACE = (if d then 1 else 0) ∧ t.flag (pgInst rq.half i) F.INST_STATUS_BUSY = false ∧
      t.flag (pgInst rq.half i) F.INST_STATUS_DONE = true ∧ t.get (pgInst rq.half i) F.INST_STATUS_OP = 6 ∧
      t.get (pgInst rq.half i) F.INST_STATUS_RESULT = 0 ∧ (t.inst rq.half i).faceReq = none ∧
      (s.mboxBus rq.half i = false → t.inst rq.half i = { s.inst rq.half i with faceReq := none }) ∧
      SameMem s t ∧ KeepsRegs (fun p _ => p ≠ pgInst rq.half i) s t) ∧
    ((s.inst rq.half i).cur ≠ none → exec (.instFace rq i d) s = .next
      ((s.ack.setInst rq.half i { s.inst rq.half i with faceReq := some d }).instBusy rq.half i 6)))

/-- An admitted doorbell takes the count of waiting commands; one that the face does not admit is ignored, and one that cannot be, because a
virtual function reaches the page through its BAR alias alone and nothing else does (R236), changes nothing. A Running hub with a waiting
command and none in hand takes the next command of the ring: one that is next in sequence is executed by its opcode (LAYER_SET stages the
ten words of its layer, LAYER_OFF clears bit 31 of word 0, NOP does nothing, COMMIT sets N and copies or waits) and completed; one that is
not in sequence is only answered; a reserved opcode, and a layer without a valid map entry, leave the instance unpredictable (R249).
Otherwise nothing happens. -/
def Obligations.MailboxCommands : Prop :=
  (∀ (rq : Requester) (i : Fin 64) (tail : Word) (s : State), s.pageOn (pgInsq rq.half i) = true →
    exec (.insqDoorbell rq (Issuer.lightVf rq.by_) i tail) s = .next (if s.insqAdmits rq i then
      { (s.setInst rq.half i { s.inst rq.half i with tail := tail.toNat }).busFetch rq.half i with reply := .ok 0 } else s.ack)) ∧
  (∀ (rq : Requester) (i : Fin 64) (tail : Word) (s : State), s.pageOn (pgInsq rq.half i) = false →
    exec (.insqDoorbell rq (Issuer.lightVf rq.by_) i tail) s = .next (s.dropped rq)) ∧
  (∀ (rq : Requester) (i : Fin 64) (tail : Word) (s : State), exec (.insqDoorbell rq (!(Issuer.lightVf rq.by_)) i tail) s = .next s) ∧
  (∀ (h : Half) (i : Fin 64) (bus : BusRead) (near : Bool) (s : State), s.hubMay h i = false ∨ s.nextCommand h i bus = none →
    exec (.hubLayerSet h i bus.tag bus.log2 bus.cplTail bus.cmd) s = .next s ∧ exec (.hubLayerOff h i bus.tag bus.toMboxRing bus.cmd) s = .next s ∧ exec (.hubNop h i bus.tag bus.toMboxRead) s = .next s ∧
    exec (.hubCommit h i bus.tag bus.toMboxRead near) s = .next s) ∧
  (∀ (h : Half) (i : Fin 64) (bus : BusRead) (near : Bool) (cmd : List Byte) (s : State), s.hubMay h i = true → s.nextCommand h i bus = some cmd →
    let u := s.hubTake h i bus
    let k := cmdLayer cmd
    let c (op : Nat) : Completion := { seq := (cmdSeq cmd).toNat, status := 0, opcode := op, frame := 0, time := u.time % 2 ^ 32 }
    let bad : Host.Outcome State Fault Refusal := .next (u.unpredictable (pgInst h i) 0)
    (cmdOp cmd = 0 ∨ 4 < cmdOp cmd → exec (.hubLayerSet h i bus.tag bus.log2 bus.cplTail bus.cmd) s = bad ∧ exec (.hubLayerOff h i bus.tag bus.toMboxRing bus.cmd) s = bad ∧ exec (.hubNop h i bus.tag bus.toMboxRead) s = bad ∧
      exec (.hubCommit h i bus.tag bus.toMboxRead near) s = bad) ∧
    (1 ≤ cmdOp cmd → cmdOp cmd ≤ 4 → (cmdOp cmd ≠ 1 → exec (.hubLayerSet h i bus.tag bus.log2 bus.cplTail bus.cmd) s = .next s) ∧ (cmdOp cmd ≠ 2 → exec (.hubLayerOff h i bus.tag bus.toMboxRing bus.cmd) s = .next s) ∧
      (cmdOp cmd ≠ 3 → exec (.hubCommit h i bus.tag bus.toMboxRead near) s = .next s) ∧ (cmdOp cmd ≠ 4 → exec (.hubNop h i bus.tag bus.toMboxRead) s = .next s)) ∧
    (cmdOp cmd = 1 → u.seqCheck h i 1 (cmdSeq cmd) = none → (u.instLayer h i k).isSome = true → exec (.hubLayerSet h i bus.tag bus.log2 bus.cplTail bus.cmd) s = .next
      (((u.setInst h i { u.inst h i with staging := layerSet (u.inst h i).staging k (cmdBody cmd) }).forward h i (.layer k (cmdBody cmd))).hubComplete h i (c 1)
        (cmdIrq cmd))) ∧
    (cmdOp cmd = 1 → u.seqCheck h i 1 (cmdSeq cmd) = none → u.instLayer h i k = none → exec (.hubLayerSet h i bus.tag bus.log2 bus.cplTail bus.cmd) s = bad) ∧
    (cmdOp cmd = 2 → u.seqCheck h i 2 (cmdSeq cmd) = none → (u.instLayer h i k).isSome = true → exec (.hubLayerOff h i bus.tag bus.toMboxRing bus.cmd) s = .next (
      let all := ((layerWords (u.inst h i).staging k).headD 0 &&& 0x7FFFFFFF) :: (layerWords (u.inst h i).staging k).tail
      (((u.setInst h i { u.inst h i with staging := layerSet (u.inst h i).staging k all }).forward h i (.layer k all)).hubComplete h i (c 2) (cmdIrq cmd)))) ∧
    (cmdOp cmd = 2 → u.seqCheck h i 2 (cmdSeq cmd) = none → u.instLayer h i k = none → exec (.hubLayerOff h i bus.tag bus.toMboxRing bus.cmd) s = bad) ∧
    (cmdOp cmd = 4 → u.seqCheck h i 4 (cmdSeq cmd) = none → exec (.hubNop h i bus.tag bus.toMboxRead) s = .next (u.hubComplete h i (c 4) (cmdIrq cmd))) ∧
    (cmdOp cmd = 3 → u.seqCheck h i 3 (cmdSeq cmd) = none → exec (.hubCommit h i bus.tag bus.toMboxRead near) s = .next (
      let v := u.setReg (pgInst h i) 0xC (cmdSeq cmd)
      let x : HubCmd := { opcode := 3, seq := (cmdSeq cmd).toNat, irq := cmdIrq cmd, copied := false, waitPipes := [], frame := 0, await := none }
      let v := v.setInst h i { v.inst h i with cur := some x }
      if near then v else v.commitCopy h i x)) ∧
    (∀ replay r, cmdOp cmd = 4 → u.seqCheck h i 4 (cmdSeq cmd) = some (replay, r) → exec (.hubNop h i bus.tag bus.toMboxRead) s = .next
      ((if replay then u.incSat (pgInst h i) F.INST_STATE_REPLAYS else u).hubFinish h i r (cmdIrq cmd))))

/-- A COMMIT that waited copies now; one whose last pipe has latched completes with status 0 and the frame; a command in hand that runs out of
time completes with TIMEOUT and its PCIe requests are cancelled, and one whose read had not come back is over too (its SEQ and OPCODE are
free, log entry 92); a host that is gone freezes with cause 2 the instances of its virtual functions (one whose THAW waited for the other
hub becomes Twin where that hub's own THAW goes on); the Twin hub applies the oldest effect; the last acknowledgement writes the
completion that waited for it. Without a command in hand or an effect nothing happens, and a completion waits while the twin-link queue is
full. -/
def Obligations.InstanceEvents : Prop :=
  (∀ (h : Half) (i : Fin 64) (s : State), (s.inst h i).cur = none →
    exec (.hubCommitCopy h i) s = .next s ∧ ((s.inst h i).busReq = none → exec (.instanceTimeout h i) s = .next s) ∧
    ((s.inst h i).restoring ≠ some [] → exec (.hubCommitComplete h i) s = .next s) ∧
    ((s.inst h i).busReq ≠ none → s.hubWaits h i = false → Does (.instanceTimeout h i) s fun t => (t.inst h i).cur = none ∧
      t.reg (pgInsq h i) 0xC = s.reg (pgInsq h i) 0xC + 1)) ∧
  (∀ (h : Half) (i : Fin 64) (c : HubCmd) (s : State), (s.inst h i).cur = some c → c.opcode = 3 → c.copied = false →
    exec (.hubCommitCopy h i) s = .next (s.commitCopy h i c)) ∧
  (∀ (h : Half) (i : Fin 64) (c : HubCmd) (s : State), (s.inst h i).cur = some c → (s.inst h i).restoring = none → c.opcode = 3 → c.copied = true →
    c.waitPipes = [] → c.await = none → s.hubWaits h i = false → exec (.hubCommitComplete h i) s = .next
      (s.hubComplete h i { seq := c.seq, status := 0, opcode := 3, frame := c.frame, time := s.time % 2 ^ 32 } c.irq)) ∧
  (∀ (h : Half) (i : Fin 64) (c : HubCmd) (s : State), (s.inst h i).cur = some c →
    let r : Completion := { seq := c.seq, status := 3, opcode := c.opcode, frame := 0, time := s.time % 2 ^ 32 }
    let u := s.setInst h i { s.inst h i with busOut := [] }
    (s.hubWaits h i = true → exec (.instanceTimeout h i) s = .next s) ∧
    (s.hubWaits h i = false → c.await = none →
      exec (.instanceTimeout h i) s = .next (((u.windowPut h i r).forward h i (.done r)).hubFinish h i r c.irq)) ∧
    (s.hubWaits h i = false → c.await ≠ none → exec (.instanceTimeout h i) s = .next (u.hubFinish h i r c.irq))) ∧
  (∀ (h : Half) (s : State), (∀ i, i < 64 → s.get (pgInst h i) F.INST_CFG_VF = 0 ∨ s.instState h i = 3) → exec (.hostGone h) s = .next s) ∧
  (∀ (h : Half) (s : State), Does (.hostGone h) s fun t => SameMem s t ∧
    ∀ i, i < 64 → s.get (pgInst h i) F.INST_CFG_VF ≠ 0 → ((s.inst h i).asking = false → t.instState h i = 3) ∧ (s.instState h i ≠ 3 → (t.inst h i).cur = none ∧ t.get (pgInst h i) F.INST_STATE_CAUSE = 2)) ∧
  (∀ (h : Half) (i : Fin 64) (x : TwinFx) (r : List TwinFx) (s : State), (s.inst h i).fx = x :: r → exec (.twinEffect h i) s = .next
    ((s.setInst h i { s.inst h i with fx := r, fxSent := (s.inst h i).fxSent + 1 }).applyFx (Half.other h) i x)) ∧
  (∀ (h : Half) (i : Fin 64) (s : State), (s.inst h i).fx = [] → exec (.twinEffect h i) s = .next s) ∧
  (∀ (h : Half) (i : Fin 64) (s : State),
    ((s.inst h i).fxSent = 0 ∨ s.hubWaits h i = true → exec (.twinEffectAck h i) s = .next s) ∧
    (1 < (s.inst h i).fxSent → s.hubWaits h i = false → exec (.twinEffectAck h i) s = .next (s.setInst h i { s.inst h i with fxSent := (s.inst h i).fxSent - 1 })) ∧
    (∀ c r, (s.inst h i).fxSent = 1 → s.hubWaits h i = false → (s.inst h i).fx = [] → (s.inst h i).wholeSent = false → (s.inst h i).cur = some c → c.await = some r →
      exec (.twinEffectAck h i) s = .next ((s.setInst h i { s.inst h i with fxSent := 0 }).hubFinish h i r c.irq)))

/-- A wake march begins while the domain of an SPM that is Off powers on, with no repairs and no unrepaired banks. MARCH_D and MARCH_P begin
on a Ready SPM only, which shows Marching or Testing and BUSY; ABORT marks a preserving march and leaves every other one alone. A good row
of a march that is not to stop changes nothing, but that a word lost to an uncorrectable error keeps inverted check bits; after ABORT the
row ends the march, Ready; a bad row takes the next spare of its bank that none has consumed, and without one its bank is shown in UNREP.
A destructive or wake march that ends leaves every byte of its SPM zero, no word with an uncorrectable error and no byte of another SPM
changed; it is Failed only where a wake march leaves a bank unrepaired. A preserving march changes no byte. The clearing of an SPM that
goes off leaves it zero and Off. -/
def Obligations.ScratchpadMarches : Prop :=
  (∀ (h : Half) (n : Fin 4) (s : State),
    (s.domain h (26 + n) ≠ 1 ∨ s.spmState h n ≠ 0 → exec (.spmWakeMarch h n) s = .next s) ∧
    (s.domain h (26 + n) = 1 → s.spmState h n = 0 → Does (.spmWakeMarch h n) s fun t =>
      t.spmState h n = 1 ∧ t.flag (pgSpm h n) F.SPM_STATUS_BUSY = true ∧ t.get (pgSpm h n) F.SPM_UNREP_BANK = 0 ∧ (t.spmU h n).repairs = [] ∧
      (t.spmU h n).march = some { kind := 3, abort := false } ∧ SameMem s t)) ∧
  (∀ (rq : Requester) (n : Fin 4) (s : State), Admitted rq (pgSpm rq.half n) s →
    (s.spmState rq.half n ≠ 2 → exec (.spmMarchD rq n) s = .next s.ack ∧ exec (.spmMarchP rq n) s = .next s.ack) ∧
    (s.spmState rq.half n = 2 → Does (.spmMarchP rq n) s fun t => t.spmState rq.half n = 3 ∧ t.flag (pgSpm rq.half n) F.SPM_STATUS_BUSY = true ∧
      (t.spmU rq.half n).march = some { kind := 2, abort := false } ∧ SameMem s t) ∧
    (s.spmState rq.half n = 2 → Does (.spmMarchD rq n) s fun t => t.spmState rq.half n = 1 ∧ t.flag (pgSpm rq.half n) F.SPM_STATUS_BUSY = true ∧
      (t.spmU rq.half n).march = some { kind := 1, abort := false } ∧ SameMem s t) ∧
    (∀ m, (s.spmU rq.half n).march = some m → m.kind = 2 →
      exec (.spmAbort rq n) s = .next (s.ack.setSpmU rq.half n { s.spmU rq.half n with march := some { m with abort := true } })) ∧
    ((∀ m, (s.spmU rq.half n).march = some m → m.kind ≠ 2) → exec (.spmAbort rq n) s = .next s.ack)) ∧
  (∀ (h : Half) (n : Fin 4) (bank : Fin 16) (row : Nat) (bad : Bool) (lost : List (Fin 64)) (s : State),
    ((∀ m, (s.spmU h n).march = some m → m.kind ≠ 2) ∨ 512 ≤ row → exec (.marchRowDone h n bank row ⟨bad, lost⟩) s = .next s) ∧
    (∀ m, (s.spmU h n).march = some m → m.kind = 2 → row < 512 → m.abort = false → exec (.marchRowDone h n bank row ⟨false, []⟩) s = .next s) ∧
    (∀ m, (s.spmU h n).march = some m → m.kind = 2 → row < 512 → m.abort = false → Does (.marchRowDone h n bank row ⟨false, lost⟩) s fun t =>
      t.regs = s.regs ∧ SameMem s t ∧ ∀ w ∈ lost, tblFind (spPlace bank row w) (t.spmU h n).check =
        some (~~~(Config.eccBits (BitVec.ofNat 64 (leNat (memBytes (s.spm h) (n * 0x400000 + 8 * spPlace bank row w) 8)))))) ∧
    (∀ m, (s.spmU h n).march = some m → m.kind = 2 → row < 512 → m.abort = true → Does (.marchRowDone h n bank row ⟨false, lost⟩) s fun t =>
      t.spmState h n = 2 ∧ t.flag (pgSpm h n) F.SPM_STATUS_BUSY = false ∧ t.flag (pgSpm h n) F.SPM_STATUS_DONE = true ∧ (t.spmU h n).march = none ∧ SameMem s t) ∧
    (∀ m, (s.spmU h n).march = some m → m.kind = 2 → row < 512 → tblGet (fun _ => 0) (s.spmU h n).spent bank < 8 →
      Does (.marchRowDone h n bank row ⟨true, lost⟩) s fun t =>
        tblFind (bank.val * 512 + row) (t.spmU h n).repairs = some (tblGet (fun _ => 0) (s.spmU h n).spent bank) ∧
        tblGet (fun _ => 0) (t.spmU h n).spent bank = tblGet (fun _ => 0) (s.spmU h n).spent bank + 1 ∧ SameMem s t) ∧
    (∀ m, (s.spmU h n).march = some m → m.kind = 2 → row < 512 → 8 ≤ tblGet (fun _ => 0) (s.spmU h n).spent bank →
      Does (.marchRowDone h n bank row ⟨true, lost⟩) s fun t => (t.get (pgSpm h n) F.SPM_UNREP_BANK).testBit bank = true ∧ SameMem s t)) ∧
  (∀ (h : Half) (n : Fin 4) (bad : List (Fin 16 × Nat)) (s : State),
    ((s.spmU h n).march = none → exec (.marchDone h n bad) s = .next s) ∧
    (∀ m, (s.spmU h n).march = some m → Does (.marchDone h n bad) s fun t =>
      t.flag (pgSpm h n) F.SPM_STATUS_BUSY = false ∧ t.flag (pgSpm h n) F.SPM_STATUS_DONE = true ∧ (t.spmU h n).march = none ∧
      (m.kind = 2 → t.spmState h n = 2 ∧ SameMem s t) ∧
      (m.kind ≠ 2 → (∀ i, i < 0x400000 → memByte (t.spm h) (n * 0x400000 + i) = 0) ∧ (t.spmU h n).check = [] ∧
        (∀ a, a < n * 0x400000 ∨ n * 0x400000 + 0x400000 ≤ a → memByte (t.spm h) a = memByte (s.spm h) a) ∧
        t.spm (Half.other h) = s.spm (Half.other h) ∧ t.dramA = s.dramA ∧ t.dramB = s.dramB ∧ t.mram = s.mram ∧
        t.spmState h n = (if m.kind = 3 ∧ t.get (pgSpm h n) F.SPM_UNREP_BANK ≠ 0 then 5 else 2)))) ∧
  (∀ (h : Half) (n : Fin 4) (s : State), (s.spmState h n ≠ 4 → exec (.spmOffClearDone h n) s = .next s) ∧
    (s.spmState h n = 4 → Does (.spmOffClearDone h n) s fun t => t.spmState h n = 0 ∧ (∀ i, i < 0x400000 → memByte (t.spm h) (n * 0x400000 + i) = 0) ∧
      (∀ a, a < n * 0x400000 ∨ n * 0x400000 + 0x400000 ≤ a → memByte (t.spm h) a = memByte (s.spm h) a) ∧ t.spm (Half.other h) = s.spm (Half.other h) ∧
      t.dramA = s.dramA ∧ t.dramB = s.dramB ∧ t.mram = s.mram))

/-- An access that begins outside the SPM, longer than 64 bytes, of length 0 or at a port that is not its issuer's changes nothing; one that
crosses into the next SPM is two, and beyond SPM3 a core takes an access fault. An admitted read returns the bytes from before the cycle's
writes, little-endian, and a fetch of a hart those that its last FENCE.I let it see, and an admitted write stores its bytes and no other;
where both ports write a byte, port E's stands; two writes that share a word set COLL, count, keep the word of the first collision and
answer COLLIDED at port F. -/
def Obligations.ScratchpadAccess : Prop :=
  (∀ (h : Half) (n : Fin 4) (f e : Option SpmPort) (errs : List SpmErr) (s : State),
    (∃ p, (f = some p ∧ spOk false p = false) ∨ (e = some p ∧ spOk true p = false)) → exec (.spmAccess h n f e errs) s = .next s) ∧
  (∀ (h : Half) (n : Fin 4) (p : SpmPort) (s : State), spOk false p = true → p.offset + p.len ≤ 0x400000 → p.write = none →
    s.refusals h (s.tag h p.by_) (spKind p) (spAddr p n) p.len = [] → (∀ w ∈ spWords p, s.spmBad h n w = false) → Does (.spmAccess h n (some p) none []) s fun t =>
      (p.fetch = false → t.reply = .ok (leNat (memBytes (s.spm h) (n * 0x400000 + p.offset) p.len))) ∧
      (∀ k, p.fetch = true → p.by_ = .hart k → t.reply = .ok (leNat (memBytes (s.hart h k).seen (spAddr p n) p.len))) ∧ SameMem s t ∧ t.regs = s.regs) ∧
  (∀ (h : Half) (n : Fin 4) (p : SpmPort) (bs : List Byte) (s : State), spOk false p = true → p.write = some bs →
    n.val < 3 ∨ p.offset + p.len ≤ 0x400000 → s.refusals h (s.tag h p.by_) .write (spAddr p n) p.len = [] → Does (.spmAccess h n (some p) none []) s fun t =>
      t.reply = .ok 0 ∧ memBytes (t.spm h) (n * 0x400000 + p.offset) p.len = bs ∧
      (∀ a, a < n * 0x400000 + p.offset ∨ n * 0x400000 + p.offset + p.len ≤ a → memByte (t.spm h) a = memByte (s.spm h) a) ∧
      t.spm (Half.other h) = s.spm (Half.other h) ∧ t.dramA = s.dramA ∧ t.dramB = s.dramB ∧ t.mram = s.mram ∧ t.regs = s.regs) ∧
  (∀ (h : Half) (p : SpmPort) (errs : List SpmErr) (s : State), spOk false p = true → 0x400000 < p.offset + p.len → Issuer.core p.by_ = true →
    Does (.spmAccess h 3 (some p) none errs) s fun t => t.reply = .accessFault) ∧
  (∀ (h : Half) (n : Fin 4) (p q : SpmPort) (bs cs : List Byte) (w : Nat) (s : State), spOk false p = true → spOk true q = true → p.offset + p.len ≤ 0x400000 →
    q.offset + q.len ≤ 0x400000 → p.write = some bs → q.write = some cs →
    s.refusals h (s.tag h p.by_) .write (spAddr p n) p.len = [] → s.refusals h (s.tag h q.by_) .write (spAddr q n) q.len = [] →
    (spWords p).find? (fun w => (spWords q).contains w) = some w → Does (.spmAccess h n (some p) (some q) []) s fun t =>
      t.reply = .collided ∧ memBytes (t.spm h) (n * 0x400000 + q.offset) q.len = cs ∧ t.flag (pgSpm h n) F.SPM_STATUS_COLL = true ∧
      t.flag (pgSpm h n) F.SPM_COLL_VALID = true ∧
      t.get (pgSpm h n) F.SPM_COLL_WORD = (if s.flag (pgSpm h n) F.SPM_COLL_VALID then s.get (pgSpm h n) F.SPM_COLL_WORD else w))

/-- A slot of a trained channel out of self-refresh advances the channel's slot counter by one modulo 1024; without a candidate it grants
nothing and changes nothing else. A bank without access closes its page and no other. A refresh that is due closes its bank's page and
joins the due or the extra ones; an extra one shows HOT, which holds while a bank of the DMC has asked for extra refresh since its last
base refresh but one. Periodic training joins what is due, and with the last channel of one that drifted DRIFT shows. A training that
fails shows the channels and keeps the half where it is; a success leaves self-refresh and shows FILLING until the fill is done. The fill
of all leaves every DRAM byte of the half zero; that of a segment leaves that segment zero on the channels of the DMCs that did not keep
it, and no other byte changed. The table follows tier and half states at a rotation boundary. A best-effort register takes its word; a
reserved bit of it is unpredictable. -/
def Obligations.DramCommands : Prop :=
  (∀ (h : Half) (c : Fin 8) (busy : BitVec 16) (s : State),
    ((s.hs h).dram.trained = false ∨ s.flag (pgDmc h (c / 4)) F.DMC_STATUS_SR = true → exec (.dramSlot h c [] busy) s = .next s) ∧
    ((s.hs h).dram.trained = true → s.flag (pgDmc h (c / 4)) F.DMC_STATUS_SR = false → Does (.dramSlot h c [] busy) s fun t =>
      tblGet (fun _ => 0) (t.hs h).dram.slots c = (tblGet (fun _ => 0) (s.hs h).dram.slots c + 1) % 1024 ∧
      (s.grant h c busy = .nothing → SameMem s t ∧ t.regs = s.regs ∧ (t.hs h).dram.queue = (s.hs h).dram.queue) ∧
      (∀ k, s.grant h c busy = .training k → (136 ≤ k → t.flag (pgDmc h (dueChan k / 4)) F.DMC_STATUS_DRIFT = true) ∧
        (t.hs h).dram.due = (s.hs h).dram.due.erase k ∧ SameMem s t) ∧
      (∀ r, s.grant h c busy = .request r → r.source = .queue → r.pipe = none → r.write = none → r.hart = none → r.fetch = false → SameMem s t ∧ t.regs = s.regs ∧
        (t.hs h).dram.lastRead = s.bytesAt h ⟨r.world, r.part, r.m, r.mirror⟩ .read (r.addr / 64 * 64) 64) ∧
      (∀ r bs, s.grant h c busy = .request r → r.source = .queue → r.pipe = none → r.write = some bs → r.hart = none → r.mirror = false → r.addr + bs.length ≤ dramSize →
        s.refusals h ⟨r.world, r.part, r.m, r.mirror⟩ .write r.addr bs.length = [] →
        memBytes (t.dram h) r.addr bs.length = bs ∧ ∀ a, a < r.addr ∨ r.addr + bs.length ≤ a → memByte (t.dram h) a = memByte (s.dram h) a))) ∧
  (∀ (h : Half) (c : Fin 8) (b : Fin 16) (s : State),
    (Does (.bankIdleClose h c b) s fun t => t.regs = s.regs ∧ SameMem s t ∧
      (t.hs h).dram.openRows = tblErase (c.val * 16 + b.val) (s.hs h).dram.openRows ∧ (t.hs h).dram.queue = (s.hs h).dram.queue) ∧
    (∀ x, Does (.refreshDue h c b x) s fun t =>
      let k := c.val * 16 + b.val
      let hot := (s.hs h).dram.hot
      t.flag (pgDmc h (c / 4)) F.DMC_STATUS_HOT =
        (x || (s.flag (pgDmc h (c / 4)) F.DMC_STATUS_HOT && (hot.contains k || (hot.erase k).any fun y => y / 64 = k / 64))) ∧
      (t.hs h).dram.hot = (if x then (if hot.contains k then hot else k :: hot) else hot.erase k) ∧
      (t.hs h).dram.openRows = tblErase (c.val * 16 + b.val) (s.hs h).dram.openRows ∧
      (t.hs h).dram.due = (if x then (s.hs h).dram.due else (s.hs h).dram.due ++ [c.val * 16 + b.val]) ∧
      (t.hs h).dram.extra = (if x then (s.hs h).dram.extra ++ [c.val * 16 + b.val] else (s.hs h).dram.extra) ∧ SameMem s t)) ∧
  (∀ (h : Half) (failed : BitVec 8) (s : State),
    let d := (s.hs h).dram
    let first := d.trained = false ∧ (s.hs h).stage ≠ .held ∧ (s.hs h).stage ≠ .reset ∧ (s.hs h).stage ≠ .stopping
    (¬first → d.retrain = false → exec (.dramTrainingDone h failed) s = .next s) ∧
    (first ∨ d.retrain = true → failed ≠ 0 → Does (.dramTrainingDone h failed) s fun t =>
      (failed.toNat % 16 ≠ 0 → t.get (pgDmc h 0) F.DMC_STATUS_TRAIN_FAIL = failed.toNat % 16) ∧
      (failed.toNat / 16 ≠ 0 → t.get (pgDmc h 1) F.DMC_STATUS_TRAIN_FAIL = failed.toNat / 16) ∧ t.hs h = s.hs h ∧ SameMem s t) ∧
    (first ∨ d.retrain = true → failed = 0 → d.zeroDone = false → Does (.dramTrainingDone h failed) s fun t =>
      t.flag (pgDmc h 0) F.DMC_STATUS_SR = false ∧ t.flag (pgDmc h 1) F.DMC_STATUS_SR = false ∧ t.flag (pgDmc h 0) F.DMC_STATUS_FILLING = true ∧
      t.flag (pgDmc h 1) F.DMC_STATUS_READY = false ∧ (t.hs h).dram.trained = true ∧ (t.hs h).dram.retrain = false ∧ SameMem s t)) ∧
  (∀ (h : Half) (k : Fin 2) (x : Bool) (s : State),
    let d := (s.hs h).dram
    let work := (upTo 4).map fun c => 128 + 4 * k.val + c + (if x && c = 3 then 8 else 0)
    (d.trained = true → exec (.periodicTraining h k x) s =
      .next (s.setHs h { s.hs h with dram := { d with due := d.due ++ work.filter fun j => !(d.due.contains j) } })) ∧
    (d.trained = false → exec (.periodicTraining h k x) s = .next s)) ∧
  (∀ (h : Half) (s : State),
    let d := (s.hs h).dram
    (d.zeroDone = true ∨ d.trained = false → exec (.dramZeroFillDone h none) s = .next s) ∧
    (d.zeroDone = false → d.trained = true → Does (.dramZeroFillDone h none) s fun t =>
      (∀ a, memByte (t.dram h) a = 0) ∧ t.dram (Half.other h) = s.dram (Half.other h) ∧ (t.hs h).dram.zeroDone = true ∧
      ((s.hs h).stage ≠ .training → (s.hs h).stage ≠ .filling →
        t.flag (pgDmc h 0) F.DMC_STATUS_READY = true ∧ t.flag (pgDmc h 0) F.DMC_STATUS_FILLING = false)) ∧
    (∀ g : Fin 8, (∀ m, d.unfilled.head? ≠ some (g.val, m)) ∨ d.trained = false ∨ s.flag (pgDmc h 0) F.DMC_STATUS_SR = true →
      exec (.dramZeroFillDone h (some g)) s = .next s) ∧
    (∀ (g : Fin 8) (m : Nat), d.unfilled.head? = some (g.val, m) → d.trained = true → s.flag (pgDmc h 0) F.DMC_STATUS_SR = false →
      Does (.dramZeroFillDone h (some g)) s fun t =>
        (∀ a, a / 2 ^ 31 % 8 = g.val → m.testBit (dramChan a / 4) = true → memByte (t.dram h) a = 0) ∧
        (∀ a, a / 2 ^ 31 % 8 ≠ g.val ∨ m.testBit (dramChan a / 4) = false → memByte (t.dram h) a = memByte (s.dram h) a) ∧
        (t.hs h).dram.unfilled = d.unfilled.tail) ∧
    (d.slots ≠ [] → exec (.slotTableSwitch h) s = .next s) ∧
    (d.slots = [] → Does (.slotTableSwitch h) s fun t =>
      (∀ k : Fin 2, t.get (pgDmc h k) F.DMC_STATUS_TABLE = (2 * s.tier + if s.inService .A ∧ s.inService .B then 0 else 1) % 16) ∧ SameMem s t)) ∧
  (∀ (rq : Requester) (n : Fin 2) (v : Word) (s : State), Admitted rq (pgDmc rq.half 0) s →
    (n.val = 1 → 16 ≤ v.toNat → exec (.dmcBeWrite rq n v) s = .next (s.ack.unpredictable (pgDmc rq.half 0) 0x14)) ∧
    (n.val = 0 ∨ v.toNat < 16 → exec (.dmcBeWrite rq n v) s = .next (s.ack.setReg (pgDmc rq.half 0) (0x10 + 4 * n) v)))

/-- A start with a reserved bit, or with LEN 0 while no scan runs, makes the unit's result unpredictable (R273); one while a scan runs takes
the control fields only; otherwise the pass begins from RUN and SEQ0 with BUSY set. STOP marks a running scan and does nothing else. A
block folds, in this order, its address and the sequence count where the control says so and its 64 bytes as the unit's tag reads them,
shows the running value and DONEBLK, and changes no memory; where it lies in DRAM and is not refused, it waits until the slot of its
channel is granted to it. A pass that ends shows the inverted value, DONE and PASSES plus one; it shows MIS where a comparison is asked
and fails; it goes on from RUN where it repeats and ends otherwise. -/
def Obligations.CheckValueUnits : Prop :=
  (∀ (rq : Requester) (n : Fin 4) (v : Word) (s : State), Admitted rq (pgCvu rq.half n) s →
    let p := pgCvu rq.half n
    let u := s.ack.setReg p 0 (BitVec.ofNat 32 (v.toNat % 256 / 8 * 8))
    (256 ≤ v.toNat ∨ v.getLsbD 2 = true → exec (.cvuStart rq n v) s = .next (s.ack.unpredictable p 0)) ∧
    (v.toNat < 256 → v.getLsbD 2 = false → s.flag p F.CVU_STATUS_BUSY = true → exec (.cvuStart rq n v) s = .next u) ∧
    (v.toNat < 256 → v.getLsbD 2 = false → s.flag p F.CVU_STATUS_BUSY = false → s.get p F.CVU_LEN_VALUE = 0 →
      exec (.cvuStart rq n v) s = .next (u.unpredictable p 0)) ∧
    (v.toNat < 256 → v.getLsbD 2 = false → s.flag p F.CVU_STATUS_BUSY = false → s.get p F.CVU_LEN_VALUE ≠ 0 → Does (.cvuStart rq n v) s fun t =>
      t.flag p F.CVU_STATUS_BUSY = true ∧ t.get p F.CVU_DONEBLK_VALUE = 0 ∧ t.get p F.CVU_RUN_VALUE = s.get p F.CVU_RUN_VALUE ∧
      t.scan rq.half n = { run0 := s.get p F.CVU_RUN_VALUE, seq := s.get p F.CVU_SEQ0_VALUE, crc := s.get p F.CVU_RUN_VALUE, blk := 0, stop := v.getLsbD 1 } ∧ SameMem s t) ∧
    (s.flag p F.CVU_STATUS_BUSY = true → exec (.cvuStop rq n) s = .next (s.ack.setScan rq.half n { s.scan rq.half n with stop := true })) ∧
    (s.flag p F.CVU_STATUS_BUSY = false → exec (.cvuStop rq n) s = .next s.ack)) ∧
  (∀ (h : Half) (n : Fin 4) (s : State),
    let p := pgCvu h n
    let c := s.scan h n
    let len := s.get p F.CVU_LEN_VALUE
    (s.flag p F.CVU_STATUS_BUSY = false ∨ len ≤ c.blk → exec (.cvuBlock h n) s = .next s) ∧
    let a := s.get p F.CVU_BASE_HI_ADDR * 2 ^ 32 + s.get p F.CVU_BASE_LO_ADDR * 64 + 64 * c.blk
    (∀ r, s.scanReq h n = some r → s.dramUp h (dramChan r.addr) = false ∨ s.grant h (dramChan r.addr) 0 ≠ .request r →
      exec (.cvuBlock h n) s = .next s) ∧
    (s.flag p F.CVU_STATUS_BUSY = true → c.blk < len →
      (∀ r, s.scanReq h n = some r → s.dramUp h (dramChan r.addr) = true ∧ s.grant h (dramChan r.addr) 0 = .request r) → Does (.cvuBlock h n) s fun t =>
      let crc := crcRun crc32cPoly c.crc ((if s.flag p F.CVU_CTRL_FOLD_ADDR then leBytes 6 a else []) ++
        (if s.flag p F.CVU_CTRL_FOLD_SEQ then leBytes 4 c.seq else []) ++ s.bytesAt h (s.tagOf h p) .read a 64)
      t.get p F.CVU_RUN_VALUE = crc % 2 ^ 32 ∧ t.get p F.CVU_DONEBLK_VALUE = (c.blk + 1) % 2 ^ 32 ∧
      (c.stop = false ∨ len = c.blk + 1 → (t.scan h n).blk = c.blk + 1 ∧ (t.scan h n).crc = crc ∧ t.flag p F.CVU_STATUS_BUSY = true) ∧
      (c.stop = true → c.blk + 1 < len → t.flag p F.CVU_STATUS_BUSY = false) ∧ SameMem s t) ∧
    (s.flag p F.CVU_STATUS_BUSY = false ∨ c.blk < len → exec (.cvuPassEnd h n) s = .next s) ∧
    (s.flag p F.CVU_STATUS_BUSY = true → len ≤ c.blk → Does (.cvuPassEnd h n) s fun t =>
      t.get p F.CVU_RESULT_VALUE = (c.crc ^^^ 0xFFFFFFFF) % 2 ^ 32 ∧ t.flag p F.CVU_STATUS_DONE = true ∧
      (s.flag p F.CVU_CTRL_CMP = true → c.crc ^^^ 0xFFFFFFFF ≠ s.get p F.CVU_EXPECT_VALUE → t.flag p F.CVU_STATUS_MIS = true) ∧
      (s.flag p F.CVU_CTRL_CMP = false ∨ c.crc ^^^ 0xFFFFFFFF = s.get p F.CVU_EXPECT_VALUE → t.flag p F.CVU_STATUS_MIS = s.flag p F.CVU_STATUS_MIS) ∧
      (s.flag p F.CVU_CTRL_REPEAT = true → c.stop = false → t.flag p F.CVU_STATUS_BUSY = true ∧ (t.scan h n).blk = 0 ∧ t.get p F.CVU_RUN_VALUE = c.run0 % 2 ^ 32) ∧
      (s.flag p F.CVU_CTRL_REPEAT = false ∨ c.stop = true → t.flag p F.CVU_STATUS_BUSY = false) ∧ SameMem s t))

/-- With a place by the push side's view a push stores the entry, bit 63 set, behind all others, and OPEN stores a reserved slot; a push
without a place changes no entry, sets OVF and counts the drop; CLOSE puts the length word into the reserved slot and ends the packet. The
middle of the queue is as the spill area holds it, and what is said of moves out of it holds where host software has not written over it
(R291). None changes DRAM or another queue, and where the tail registers have room (CLOSE: where the middle is empty) none changes memory
or a register outside the queue's page; a 65,536th entry of a packet, OPEN of an open packet and CLOSE without one are unpredictable for
the queue (R292). -/
def Obligations.QueuePush : Prop :=
  (∀ (rq : Requester) (q : Fin 256) (d : BitVec 64) (s : State), Admitted rq (pgQu rq.half q) s →
    s.quRoom rq.half q = true → (∀ k, (s.qu rq.half q).pkt = some k → k.count < 65535) →
    ((s.qu rq.half q).tail.length < 16 ∨ (∀ n, (s.qu rq.half q).midAt ≤ n → n < (s.qu rq.half q).midAt + (s.qu rq.half q).mid.length → s.quIntact rq.half q n = true)) → Does (.quPush rq q (.wide d)) s fun t =>
      (t.qu rq.half q).entries = (s.quLoad rq.half q).entries ++ [d ||| 0x8000000000000000#64] ∧
      (∀ k, (s.qu rq.half q).pkt = some k → (t.qu rq.half q).pkt = some { k with count := k.count + 1 }) ∧
      ((s.qu rq.half q).pkt = none → (t.qu rq.half q).pkt = none) ∧
      (∀ j, j ≠ q.val → t.qu rq.half j = s.qu rq.half j) ∧ t.hs (Half.other rq.half) = s.hs (Half.other rq.half) ∧
      t.dramA = s.dramA ∧ t.dramB = s.dramB ∧ t.mram = s.mram ∧
      ((s.qu rq.half q).tail.length < 16 → SameMem s t ∧ KeepsRegs (fun p _ => p ≠ pgQu rq.half q) s t)) ∧
  (∀ (rq : Requester) (q : Fin 256) (d : BitVec 64) (s : State), Admitted rq (pgQu rq.half q) s →
    s.quRoom rq.half q = false →
      exec (.quPush rq q (.wide d)) s = .next (((s.ack.put (pgQu rq.half q) F.QU_STATUS_OVF 1).incSat (pgQu rq.half q) F.QU_STATUS_DROPS).raise (pgQu rq.half q))) ∧
  (∀ (rq : Requester) (q : Fin 256) (w : Word) (s : State), Admitted rq (pgQu rq.half q) s →
    exec (.quPush rq q (.high w)) s =
      exec (.quPush rq q (.wide (BitVec.ofNat 64 (w.toNat * 2 ^ 32 + s.get (pgQu rq.half q) F.QU_PUSH_LO_DATA)))) s) ∧
  (∀ (rq : Requester) (q : Fin 256) (s : State), Admitted rq (pgQu rq.half q) s → s.quRoom rq.half q = true →
    (s.qu rq.half q).pkt = none →
    ((s.qu rq.half q).tail.length < 16 ∨ (∀ n, (s.qu rq.half q).midAt ≤ n → n < (s.qu rq.half q).midAt + (s.qu rq.half q).mid.length → s.quIntact rq.half q n = true)) → Does (.quOpen rq q) s fun t =>
      (t.qu rq.half q).entries = (s.quLoad rq.half q).entries ++ [0] ∧
      (t.qu rq.half q).pkt = some { slot := (s.qu rq.half q).entries.length, count := 0, lost := false } ∧
      (∀ j, j ≠ q.val → t.qu rq.half j = s.qu rq.half j) ∧ t.dramA = s.dramA ∧ t.dramB = s.dramB ∧ t.mram = s.mram ∧
      ((s.qu rq.half q).tail.length < 16 → SameMem s t ∧ KeepsRegs (fun p _ => p ≠ pgQu rq.half q) s t)) ∧
  (∀ (rq : Requester) (q : Fin 256) (s : State) (k : QPkt), Admitted rq (pgQu rq.half q) s → (s.qu rq.half q).pkt = some k →
    k.lost = false → Does (.quClose rq q) s fun t =>
      (t.qu rq.half q).entries = (s.quLoad rq.half q).entries.set k.slot (BitVec.ofNat 64 (0xC000000000000000 + k.count % 65536)) ∧
      (t.qu rq.half q).pkt = none ∧ (∀ j, j ≠ q.val → t.qu rq.half j = s.qu rq.half j) ∧ t.dramA = s.dramA ∧ t.dramB = s.dramB ∧ t.mram = s.mram ∧
      ((s.qu rq.half q).mid = [] → SameMem s t ∧ KeepsRegs (fun p _ => p ≠ pgQu rq.half q) s t)) ∧
  (∀ (rq : Requester) (q : Fin 256) (s : State), Admitted rq (pgQu rq.half q) s →
    ((s.qu rq.half q).pkt.isSome = true → exec (.quOpen rq q) s = .next (s.ack.unpredictable (pgQu rq.half q) 0x10)) ∧
    ((s.qu rq.half q).pkt = none → exec (.quClose rq q) s = .next (s.ack.unpredictable (pgQu rq.half q) 0x10))) ∧
  (∀ (rq : Requester) (q : Fin 256) (s : State) (k : QPkt), Admitted rq (pgQu rq.half q) s → (s.qu rq.half q).pkt = some k →
    (k.lost = true → Does (.quClose rq q) s fun t => (t.qu rq.half q).entries = (s.quLoad rq.half q).entries ∧ (t.qu rq.half q).pkt = none) ∧
    (∀ d, s.quRoom rq.half q = true → 65535 ≤ k.count → exec (.quPush rq q (.wide d)) s = .next (s.ack.unpredictable (pgQu rq.half q) 4)))

/-- With an entry that the pop side sees, and a spill area that host software has not written over (R291), a pop answers the oldest entry and
takes it from the queue; with none it answers zero and changes no entry. The commit pointer reaches the pop side, and the head pointer the
push side, at QU_POINTER_SYNC. Spill bursts of 8 keep the entries and their order. A stuck access ends with zeros or a core's access fault
and one event that names its page. -/
def Obligations.QueuePop : Prop :=
  (∀ (rq : Requester) (q : Fin 256) (s : State) (n : Nat) (e : BitVec 64) (r : List (BitVec 64)), s.admits rq (pgQu rq.half q) = true →
    s.pageOn (pgQu rq.half q) = true → (s.qu rq.half q).seen = n + 1 → (s.quLoad rq.half q).entries = e :: r →
    (∀ n, (s.qu rq.half q).midAt ≤ n → n < (s.qu rq.half q).midAt + (s.qu rq.half q).mid.length → s.quIntact rq.half q n = true) → Does (.quPop rq q .wide) s fun t =>
      t.reply = .ok e.toNat ∧ (t.qu rq.half q).entries = r ∧ (t.qu rq.half q).seen = n ∧
      (t.qu rq.half q).late = (s.qu rq.half q).late + 1 ∧ (∀ j, j ≠ q.val → t.qu rq.half j = s.qu rq.half j) ∧ SameMem s t ∧
      ((s.qu rq.half q).mid = [] → KeepsRegs (fun p _ => p ≠ pgQu rq.half q) s t)) ∧
  (∀ (rq : Requester) (q : Fin 256) (s : State), s.admits rq (pgQu rq.half q) = true → s.pageOn (pgQu rq.half q) = true →
    (s.qu rq.half q).seen = 0 → exec (.quPop rq q .wide) s = .next { s with reply := .ok 0 }) ∧
  (∀ (rq : Requester) (q : Fin 256) (s : State) (n : Nat) (e : BitVec 64) (r : List (BitVec 64)), s.admits rq (pgQu rq.half q) = true →
    s.pageOn (pgQu rq.half q) = true → (s.qu rq.half q).seen = n + 1 → (s.quLoad rq.half q).entries = e :: r →
    (∀ n, (s.qu rq.half q).midAt ≤ n → n < (s.qu rq.half q).midAt + (s.qu rq.half q).mid.length → s.quIntact rq.half q n = true) → Does (.quPop rq q .low) s fun t =>
      t.reply = .ok (e.toNat % 2 ^ 32) ∧ t.get (pgQu rq.half q) F.QU_POP_HI_DATA = e.toNat / 2 ^ 32 ∧ (t.qu rq.half q).entries = r ∧ SameMem s t) ∧
  (∀ (h : Half) (q : Fin 256) (s : State), Does (.quPointerSync h q true) s fun t =>
      (t.qu h q).seen = (s.qu h q).committed ∧ (t.qu h q).entries = (s.qu h q).entries ∧ SameMem s t ∧ KeepsRegs (fun p _ => p ≠ pgQu h q) s t) ∧
  (∀ (h : Half) (q : Fin 256) (s : State), Does (.quPointerSync h q false) s fun t =>
      (t.qu h q).late = 0 ∧ (t.qu h q).entries = (s.qu h q).entries ∧ SameMem s t ∧ KeepsRegs (fun p _ => p ≠ pgQu h q) s t) ∧
  (∀ (h : Half) (q : Fin 256) (s : State),
    let u := s.quLoad h q
    ((s.qu h q).tail.length < 8 ∨ s.quSpill h q < (s.qu h q).mid.length + 8 → exec (.quSpillTransfer h q true) s = .next s) ∧
    ((s.qu h q).mid.length < 8 ∨ 8 < (s.qu h q).head.length → exec (.quSpillTransfer h q false) s = .next s) ∧
    (8 ≤ (s.qu h q).tail.length → (s.qu h q).mid.length + 8 ≤ s.quSpill h q → Does (.quSpillTransfer h q true) s fun t =>
      (t.qu h q).entries = u.entries ∧ (t.qu h q).mid = u.mid ++ u.tail.take 8 ∧ (t.qu h q).tail = u.tail.drop 8 ∧
      t.dramA = s.dramA ∧ t.dramB = s.dramB ∧ t.mram = s.mram) ∧
    (8 ≤ (s.qu h q).mid.length → (s.qu h q).head.length ≤ 8 → (∀ n, (s.qu h q).midAt ≤ n → n < (s.qu h q).midAt + (s.qu h q).mid.length → s.quIntact h q n = true) → Does (.quSpillTransfer h q false) s fun t =>
      (t.qu h q).entries = u.entries ∧ (t.qu h q).head = u.head ++ u.mid.take 8 ∧ (t.qu h q).mid = u.mid.drop 8 ∧ SameMem s t)) ∧
  (∀ (rq : Requester) (plinth : Bool) (page off : Nat) (w : Bool) (data : Word) (s : State),
    exec (.stuckAccessTimeout rq plinth page off w data) s = .next
      { s.event (srcOf (if plinth then plinthPg page else halfPg rq.half page)) 0x00B0
          (leBytes 1 5 ++ ([0, 0, 0] ++ leBytes 4 off ++ leBytes 1 (if w then 1 else 0) ++ leBytes 1 ((s.rqTag rq).part % 16 + (if (s.rqTag rq).world = .trusted then 16 else 0))))
        with reply := if Issuer.core rq.by_ then .accessFault else .ok 0 })

/-- A mode that the plan does not have, and mode 3, are unpredictable for the sensor (R314); another is shown. Tests and rebases are asked
for. CAPTURE_REF is ignored while one runs, answers TOUCHED while a contact or key is active, and else shows BUSY; its end writes the slot
not in force and no other MRAM byte outside it and shows DONE with RESULT 0. The discovery timer probes an Absent or Faulted position of a
running source and asks for its test. A contact becomes stale once. -/
def Obligations.TouchCommands : Prop :=
  (∀ (rq : Requester) (n : Fin 8) (s : State), Admitted rq (pgTaf n) s →
    (∀ m : BitVec 2, m = 3 ∨ (m = 1 ∧ s.planRec n 0x24 1 / 2 % 2 = 0) ∨ (m = 2 ∧ s.planRec n 0x24 1 / 4 % 2 = 0) →
      exec (.tafMode rq n m) s = .next (s.ack.unpredictable (pgTaf n) 0)) ∧
    (∀ m : BitVec 2, m = 0 ∨ (m = 1 ∧ s.planRec n 0x24 1 / 2 % 2 = 1) ∨ (m = 2 ∧ s.planRec n 0x24 1 / 4 % 2 = 1) →
      exec (.tafMode rq n m) s = .next (s.ack.put (pgTaf n) F.TAF_CTRL_MODE m.toNat)) ∧
    exec (.tafTest rq n) s = .next (s.ack.setSrc n { s.src n with testReq := true }) ∧
    exec (.tafRebase rq n) s = .next (s.ack.setSrc n { s.src n with rebase := true })) ∧
  (∀ (rq : Requester) (s : State), Admitted rq pgTce s →
    exec (.tceTest rq) s = .next (s.ack.setSrc 8 { s.src 8 with testReq := true }) ∧
    exec (.tceRebase rq) s = .next (s.ack.setSrc 8 { s.src 8 with rebase := true }) ∧
    (s.flag pgTce F.TCE_STATUS_REF_BUSY = true → exec (.tceCaptureRef rq) s = .next s.ack) ∧
    (s.flag pgTce F.TCE_STATUS_REF_BUSY = false → (∃ src, src < 9 ∧ ((s.src src).contacts ≠ [] ∨ (s.src src).held ≠ [])) →
      exec (.tceCaptureRef rq) s = .next ((s.ack.put pgTce F.TCE_STATUS_REF_DONE 1).put pgTce F.TCE_STATUS_REF_RESULT 1)) ∧
    (s.flag pgTce F.TCE_STATUS_REF_BUSY = false → (∀ src, src < 9 → (s.src src).contacts = [] ∧ (s.src src).held = []) →
      exec (.tceCaptureRef rq) s = .next (s.ack.put pgTce F.TCE_STATUS_REF_BUSY 1))) ∧
  (∀ s : State, (s.flag pgTce F.TCE_STATUS_REF_BUSY = false → exec .captureRefDone s = .next s) ∧
    (s.flag pgTce F.TCE_STATUS_REF_BUSY = true → Does .captureRefDone s fun t =>
      let k := match s.refSlot with | some 0 => 1 | _ => 0
      t.flag pgTce F.TCE_STATUS_REF_BUSY = false ∧ t.flag pgTce F.TCE_STATUS_REF_DONE = true ∧ t.get pgTce F.TCE_STATUS_REF_RESULT = 0 ∧
      (∀ a, a < refBase k ∨ refBase k + 0x20000 ≤ a → memByte t.mram a = memByte s.mram a) ∧ t.dramA = s.dramA ∧ t.dramB = s.dramB)) ∧
  (∀ (src : Fin 9) (pos : Fin 256) (s : State),
    ((s.src src).run = false ∨ pos.val ∉ s.srcPositions src ∨ (s.disc (pgSrc src) pos ≠ 0 ∧ s.disc (pgSrc src) pos ≠ 4) →
      exec (.touchDiscoveryTimer src pos) s = .next s) ∧
    ((s.src src).run = true → pos.val ∈ s.srcPositions src → s.disc (pgSrc src) pos = 0 ∨ s.disc (pgSrc src) pos = 4 →
      Does (.touchDiscoveryTimer src pos) s fun t => t.disc (pgSrc src) pos = 1 ∧ (t.src src).testReq = true ∧ SameMem s t)) ∧
  (∀ (src : Fin 9) (id : Fin 256) (s : State),
    ((tblFind id.val (s.src src).contacts = none) → exec (.contactStale src id) s = .next s) ∧
    (∀ c, tblFind id.val (s.src src).contacts = some c → c.stale = true → exec (.contactStale src id) s = .next s) ∧
    (∀ c, tblFind id.val (s.src src).contacts = some c → c.stale = false → Does (.contactStale src id) s fun t =>
      tblFind id.val (t.src src).contacts = some { c with stale := true, told := false } ∧ t.regs = s.regs ∧ SameMem s t))

/-- A slot of a source that does not run, or whose frame goes on, changes nothing; any other counts, and is the boundary at which a Plinth
switch reaches the source. A flooded one is discarded: FRUN rises by one up to 15, the next set follows, and from the eighth in succession
on the source is Flooded; a clean one begins the test that is asked for, else a frame. A clean frame clears FRUN and keeps its raw counts;
a rebase or a first frame takes them as the baseline; a sensor that is neither Probing nor Present is Off after it. A frame in which a
sensor was unplugged ends its contacts, and the sensor is probed again. A finished test shows its masks and TESTED; other raw counts or
test lines of another number change nothing. -/
def Obligations.TouchFrames : Prop :=
  (∀ (src : Fin 9) (amp : Nat) (sat : Bool) (s : State),
    ((s.src src).run = false ∨ (s.src src).inFrame = true → exec (.touchFrameSlot src amp sat) s = .next s) ∧
    ((s.src src).run = true → (s.src src).inFrame = false → Goes (.touchFrameSlot src amp sat) s) ∧
    (s.rearm = none → (s.src src).run = true → (s.src src).inFrame = false → Does (.touchFrameSlot src amp sat) s fun t =>
      let scans := (s.src src).testing = false ∧ s.banksOn src = true ∧ ((s.src src).testReq = true ∨ s.touchScans src = true)
      let flooded := sat = true ∨ s.planRec src 0x16 2 < amp
      (t.src src).slot = (s.src src).slot + 1 ∧
      (¬scans → t.regs = s.regs ∧ (t.src src).inFrame = false) ∧
      (scans → flooded → t.srcGet src F.TAF_STATUS_FRUN = min 15 (s.srcGet src F.TAF_STATUS_FRUN + 1) ∧
        t.srcGet src F.TAF_STATUS_SET = (s.srcGet src F.TAF_STATUS_SET + 1) % max 1 (s.planSets src) % 4 ∧
        t.srcState src = if 8 ≤ s.srcGet src F.TAF_STATUS_FRUN + 1 then 2 else s.srcState src) ∧
      (scans → ¬flooded → (s.src src).testReq = true → t.srcState src = 3 ∧ (t.src src).testing = true ∧ (t.src src).testReq = false ∧
        t.srcGet src F.TAF_STATUS_IDLE = 0) ∧
      (scans → ¬flooded → (s.src src).testReq = false → (t.src src).inFrame = true ∧ t.srcGet src F.TAF_STATUS_IDLE = 0 ∧
        t.srcState src = (if s.srcState src = 2 then 2 else 1)))) ∧
  (∀ (src : Fin 9) (raw : List (BitVec 16)) (s : State),
    let nodes := s.nodeCount src + s.hoverSteps src (s.src src).frameMode
    ((s.src src).inFrame = false ∨ (raw.length ≠ nodes ∧ (raw ≠ [] ∨ src.val = 8)) → exec (.touchFrameEnd src raw) s = .next s) ∧
    ((s.src src).inFrame = true → src.val ≠ 8 → s.nodeCount src ≠ 0 → Does (.touchFrameEnd src []) s fun t =>
      (t.src src).inFrame = false ∧ (t.src src).contacts = [] ∧ (t.src src).testReq = true ∧ t.disc (pgSrc src) 0 = 1 ∧ t.srcGet src F.TAF_STATUS_IDLE = 1) ∧
    ((s.src src).inFrame = true → raw.length = nodes → Goes (.touchFrameEnd src raw) s) ∧
    ((s.src src).inFrame = true → raw.length = nodes → raw ≠ [] → src.val ≠ 8 → s.disc (pgSrc src) 0 ≠ 1 → s.disc (pgSrc src) 0 ≠ 2 →
      Does (.touchFrameEnd src raw) s fun t => t.srcGet src F.TAF_STATUS_FRUN = 0 ∧ t.srcGet src F.TAF_STATUS_IDLE = 1 ∧ t.srcState src = 0 ∧
        (t.src src).inFrame = false ∧ (t.src src).raw = (raw.take (s.nodeCount src)).map (fun v => v.toNat) ∧
        ((s.src src).rebase = true ∨ (s.src src).firstClean = true →
          ∀ n, n < s.nodeCount src → tblGet (fun _ => 0) (t.src src).baseline n = 256 * (raw.getD n 0).toNat) ∧ SameMem s t)) ∧
  (∀ (src : Fin 9) (l : List LineTest) (s : State),
    ((s.src src).testing = false ∨ l.length ≠ (s.planLines src).length → exec (.electrodeTestDone src l) s = .next s) ∧
    ((s.src src).testing = true → l.length = (s.planLines src).length → Does (.electrodeTestDone src l) s fun t =>
      t.srcGet src F.TAF_STATUS_TESTED = 1 ∧ (t.src src).testing = false ∧ (t.srcState src = 0 ∨ t.srcState src = 1 ∨ t.srcState src = 2)))

/-- ENABLE takes an Outside module to Listening where it has a domain, an address and a running port, and shows a cause elsewhere; DISABLE
takes it Outside with cause 1. NODE takes an address of 18 bits while Outside, and is stored; reserved bits make it unpredictable (R6).
ANNOUNCE goes out once on each running port; an authority sends LOCK, with a higher EPOCH after a rival's. A frame on a port that does not
run changes nothing, a bad one raises REC by 8. A frame of another EtherType changes no counter. A received ANNOUNCE shows the neighbour;
a lower module with the same address sends this one Outside with cause 3. A LOCK for this module is remembered. gPTP frames count at their
port; a Sync and an Announce go on to the other port with RELAY = 1. The servo of a module that is not Outside steps, slews by 500 ppm at
most while Locked, holds over beyond 50 µs, and locks after 16 good offsets. -/
def Obligations.PeerMembership : Prop :=
  (∀ (rq : Requester) (s : State), Admitted rq pgPlk s →
    (s.memb ≠ 0 → exec (.plkEnable rq) s = .next s.ack) ∧
    (s.memb = 0 → s.dom 4 1 ≠ 1 → exec (.plkEnable rq) s = .next (s.ack.put pgPlk F.PLK_STATUS_CAUSE 2)) ∧
    (s.memb = 0 → s.dom 4 1 = 1 → s.flag pgPlk F.PLK_NODE_SET = false → exec (.plkEnable rq) s = .next (s.ack.put pgPlk F.PLK_STATUS_CAUSE 4)) ∧
    (s.memb = 0 → s.dom 4 1 = 1 → s.flag pgPlk F.PLK_NODE_SET = true → s.plkUp 0 = false → s.plkUp 1 = false → Does (.plkEnable rq) s fun t =>
      t.memb = 0 ∧ (t.get pgPlk F.PLK_STATUS_CAUSE = 2 ∨ t.get pgPlk F.PLK_STATUS_CAUSE = 4) ∧ SameMem s t) ∧
    (s.memb = 0 → s.dom 4 1 = 1 → s.flag pgPlk F.PLK_NODE_SET = true → s.plkUp 0 = true ∨ s.plkUp 1 = true → Does (.plkEnable rq) s fun t =>
      t.memb = 1 ∧ t.peer.noLockSince = s.time ∧ SameMem s t) ∧
    (s.memb = 0 → exec (.plkDisable rq) s = .next s.ack) ∧
    (s.memb ≠ 0 → Does (.plkDisable rq) s fun t => t.memb = 0 ∧ t.get pgPlk F.PLK_STATUS_CAUSE = 1 ∧ t.flag pgPlk F.PLK_STATUS_AUTH = false ∧
      t.get pgPlk F.PLK_STATUS_TIME = 0 ∧ SameMem s t) ∧
    (∀ v : Word, v.toNat / 2 ^ 18 % 2 ^ 13 ≠ 0 → exec (.plkNodeWrite rq v) s = .next (s.ack.unpredictable pgPlk 8)) ∧
    (∀ v : Word, v.toNat / 2 ^ 18 % 2 ^ 13 = 0 → s.memb ≠ 0 → exec (.plkNodeWrite rq v) s = .next s.ack) ∧
    (∀ v : Word, v.toNat / 2 ^ 18 % 2 ^ 13 = 0 → s.memb = 0 → Does (.plkNodeWrite rq v) s fun t =>
      t.plkNode = v.toNat % 2 ^ 18 ∧ t.flag pgPlk F.PLK_NODE_SET = true ∧ memBytes t.mram (storeBase + 0x28) 4 = leBytes 4 (t.reg pgPlk 8).toNat ∧
      (∀ a, a < storeBase + 0x28 ∨ storeBase + 0x2C ≤ a → memByte t.mram a = memByte s.mram a))) ∧
  (∀ s : State,
    (s.memb = 0 → exec .announceTimer s = .next s.txNew ∧ exec .currentLockExpiry s = .next s.txNew) ∧
    (s.memb ≠ 0 → Does .announceTimer s fun t =>
      t.peer.sent.length = (if s.plkUp 0 then 1 else 0) + (if s.plkUp 1 then 1 else 0) ∧ ∀ f ∈ t.peer.sent, f.typ = 1 ∧ f.origin = s.plkNode ∧
        f.src = 0x020000000000 + s.plkNode) ∧
    (s.memb ≠ 0 → Does .currentLockExpiry s fun t => t.memb ≠ 0) ∧
    (s.flag pgPlk F.PLK_STATUS_AUTH = false → exec .lockTimer s = .next s.txNew) ∧
    (s.flag pgPlk F.PLK_STATUS_AUTH = true → s.isGm = true → Does .lockTimer s fun t =>
      t.flag pgPlk F.PLK_STATUS_AUTH = true ∧ t.peer.bump = none ∧
      t.get pgPlk F.PLK_EPOCH_VALUE = match s.peer.bump with
        | some rival => (rival + 1) % 2 ^ 32
        | none => s.get pgPlk F.PLK_EPOCH_VALUE)) ∧
  (∀ (p : Fin 2) (hdr : PeerHdr) (id : Nat) (dg : List Byte) (m : Fin 4) (pr : Nat) (gm : GmIdentity) (s : State),
    let good := hdr.fcsOk = true ∧ hdr.etherType = peerEtherType ∧ hcrcHolds hdr = true
    (s.plkUp p = false ∨ (hdr.fcsOk = true ∧ hdr.etherType ≠ peerEtherType) →
      exec (.peerAnnounce p hdr id dg m pr) s = .next s.txNew ∧ exec (.peerLock p hdr dg gm) s = .next s.txNew) ∧
    (s.plkUp p = true → hdr.fcsOk = false ∨ (hdr.etherType = peerEtherType ∧ hcrcHolds hdr = false) →
      exec (.peerAnnounce p hdr id dg m pr) s = .next (s.txNew.recUp p) ∧ exec (.peerLock p hdr dg gm) s = .next (s.txNew.recUp p)) ∧
    (s.plkUp p = true → good → hdr.typ ≠ 1 → exec (.peerAnnounce p hdr id dg m pr) s = .next (s.txNew.recDown p)) ∧
    (s.plkUp p = true → good → hdr.typ = 1 → Does (.peerAnnounce p hdr id dg m pr) s fun t =>
      t.disc pgPlk p = (if s.peerOurs hdr then 2 else 3) ∧ t.reg pgPlk (0xF008 + 0x10 * p) = BitVec.ofNat 32 id ∧
      (s.peerOurs hdr = true → s.memb ≠ 0 → hdr.origin = s.plkNode → id < Config.moduleId → t.memb = 0 ∧ t.get pgPlk F.PLK_STATUS_CAUSE = 3)) ∧
    (s.plkUp p = true → good → hdr.typ ≠ 2 ∨ s.peerOurs hdr = false ∨ s.memb = 0 → exec (.peerLock p hdr dg gm) s = .next (s.txNew.recDown p)) ∧
    (∀ w, s.plkUp p = true → good → hdr.typ = 2 → s.peerOurs hdr = true → s.memb ≠ 0 → s.isPublisher hdr.origin = true → s.forMe hdr = true →
      windowTake (tblFind hdr.origin s.peer.windows) hdr.seq.toNat = some w → Does (.peerLock p hdr dg gm) s fun t =>
        (∃ l ∈ t.peer.locks, l.origin = hdr.origin ∧ l.epoch = hdr.epoch.toNat ∧ l.gm = gm ∧ l.seenAt = s.time) ∧
        t.peer.maxEpoch = max s.peer.maxEpoch hdr.epoch.toNat)) ∧
  (∀ (p : Fin 2) (s : State),
    (s.disc pgPlk p = 2 ∨ s.disc pgPlk p = 3 → exec (.neighbourTimeout p) s = .next (s.discSet pgPlk p 0)) ∧
    (s.disc pgPlk p ≠ 2 → s.disc pgPlk p ≠ 3 → exec (.neighbourTimeout p) s = .next s)) ∧
  (∀ (rx : GptpRx) (o r : Int) (gm : GmIdentity) (s : State),
    let s1 := { s with peer := { s.peer with gptp := [] } }
    (s.plkUp rx.port = false → exec (.gptpPdelayReq rx) s = .next s1 ∧ exec (.gptpSync ⟨rx, o⟩ r) s = .next s1 ∧
      exec (.gptpAnnounce ⟨rx, gm⟩) s = .next s1.txNew) ∧
    (s.plkUp rx.port = true → rx.fcsOk = false → exec (.gptpPdelayReq rx) s = .next (s1.recUp rx.port) ∧
      exec (.gptpSync ⟨rx, o⟩ r) s = .next (s1.recUp rx.port) ∧ exec (.gptpAnnounce ⟨rx, gm⟩) s = .next (s1.txNew.recUp rx.port)) ∧
    (s.plkUp rx.port = true → rx.fcsOk = true → s.plkTec rx.port ≠ 255 → Does (.gptpPdelayReq rx) s fun t =>
      t.peer.pdelay = s.peer.pdelay + 1 ∧ t.peer.gptp = [(rx.port.val, .pdelayResp)] ∧ t.plkRec rx.port = s.plkRec rx.port - 1) ∧
    (s.plkUp rx.port = true → rx.fcsOk = true → s.memb = 0 → exec (.gptpSync ⟨rx, o⟩ r) s = .next (s1.recDown rx.port) ∧
      exec (.gptpAnnounce ⟨rx, gm⟩) s = .next (s1.txNew.recDown rx.port)) ∧
    (s.plkUp rx.port = true → rx.fcsOk = true → s.memb ≠ 0 → Does (.gptpAnnounce ⟨rx, gm⟩) s fun t => tblFind rx.port.val t.peer.gms = some gm) ∧
    (s.plkUp rx.port = true → rx.fcsOk = true → s.memb ≠ 0 → s.plkTec rx.port ≠ 255 → Does (.gptpSync ⟨rx, o⟩ r) s fun t =>
      let st := s.get pgPlk F.PLK_STATUS_TIME
      let seen := (s.peer.syncs ++ [o]).drop (s.peer.syncs.length - 15)
      t.get pgPlk F.PLK_TOFF_VALUE = toSigned 32 o ∧ SameMem s t ∧
      (s.plkTec rx.port < 128 → s.plkRec rx.port < 128 → t.peer.gptp = if s.domIn 5 1 0 1 = 1 ∧ s.plkUp (1 - rx.port.val) = true then [(1 - rx.port.val, .sync)] else []) ∧
      (st = 0 ∨ (st ≠ 3 ∧ o.natAbs ≤ 50000) → t.peer.rate = r) ∧
      (st = 0 → t.get pgPlk F.PLK_STATUS_TIME = 1 ∧ t.peer.offset = s.peer.offset - o) ∧
      (st = 1 ∨ st = 2 → 50000 < o.natAbs → t.get pgPlk F.PLK_STATUS_TIME = 3 ∧ t.peer.rate = s.peer.rate ∧ t.peer.offset = s.peer.offset) ∧
      (st = 2 → o.natAbs ≤ 50000 → t.get pgPlk F.PLK_STATUS_TIME = 2 ∧ (t.peer.offset - s.peer.offset).natAbs ≤ (s.time - s.peer.syncAt) / 2) ∧
      (st = 1 → o.natAbs ≤ 500 → 15 ≤ s.peer.syncGood → t.get pgPlk F.PLK_STATUS_TIME = 2) ∧
      (st = 3 → t.peer.rate = s.peer.rate ∧
        (seen.length < 16 ∨ (∃ a ∈ seen, ∃ b ∈ seen, 1000 < a - b) → t.get pgPlk F.PLK_STATUS_TIME = 3 ∧ t.peer.syncs = seen) ∧
        (16 ≤ seen.length → (∀ a ∈ seen, ∀ b ∈ seen, a - b ≤ 1000) → t.get pgPlk F.PLK_STATUS_TIME = 1 ∧ t.peer.offset = s.peer.offset - o))))

/-- A SEND of another type than ALARM or MIGRATE, or of MIGRATE to all, has the unpredictable result of R360; a module that may not send is
answered RESULT 2, without a free alarm slot 4, and while a transfer runs 1 (an alarm at the very time of the other half's MIGRATE may be
answered 1 as well, log entry 149). An alarm takes the first free slot and waits for its acknowledgement; a transfer sends 20 fragments.
RX_DONE frees the receive window; CANCEL drops the alarms. A frame on a port that does not run, or of another EtherType, changes nothing,
a bad one raises REC, one of another type or domain or to an Outside module is dropped. A fragment for this module is stored in its
kilobyte of the window; the answer to the running transfer ends it within MIG_TMO. The first acknowledgement before the timeout makes an
alarm Done, and a frame that every port acknowledged waits no more; a timeout ends it, and an alarm without acknowledgement is Failed. -/
def Obligations.PeerFrames : Prop :=
  (∀ (rq : Requester) (s : State), Admitted rq pgPlk s →
    let typ := s.get pgPlk F.PLK_TXDST_TYPE
    let all := s.flag pgPlk F.PLK_TXDST_ALL
    let sender := s.memb = 2 ∧ s.isPublisher s.plkNode = true
    let alone := s.flag pgPlk F.PLK_STATUS_BUSY = false ∨ s.peer.migBy ≠ some (Half.other rq.half) ∨ s.peer.migAt ≠ s.time
    Goes (.plkSend rq) s ∧
    ((typ ≠ 3 ∧ typ ≠ 4) ∨ (typ = 4 ∧ all = true) → exec (.plkSend rq) s = .next (s.ack.txNew.unpredictable pgPlk 0)) ∧
    ((typ = 3 ∧ alone) ∨ (typ = 4 ∧ all = false) → ¬sender → exec (.plkSend rq) s = .next (s.ack.txNew.sendEnd 2)) ∧
    (typ = 3 → alone → sender → s.get pgPlk F.PLK_ALQ_PEND = 255 → exec (.plkSend rq) s = .next (s.ack.txNew.sendEnd 4)) ∧
    (∀ k : Fin 8, typ = 3 → alone → sender → (s.get pgPlk F.PLK_ALQ_PEND).testBit k = false →
      (∀ j, j < k.val → (s.get pgPlk F.PLK_ALQ_PEND).testBit j = true) →
      Does (.plkSend rq) s fun t => (t.get pgPlk F.PLK_ALQ_PEND).testBit k = true ∧ t.get pgPlk F.PLK_STATUS_RESULT = 0 ∧ t.flag pgPlk F.PLK_STATUS_DONE = true ∧
        t.peer.waits.length = s.peer.waits.length + 1 ∧
        ∃ w ∈ t.peer.waits, w.slot = some k.val ∧ w.frame.typ = 3 ∧ w.frame.payload = memBytes s.peer.txWin 0 24 ∧ w.acked = []) ∧
    (typ = 4 → all = false → sender → s.flag pgPlk F.PLK_STATUS_BUSY = true → exec (.plkSend rq) s = .next (s.ack.txNew.sendEnd 1)) ∧
    (typ = 4 → all = false → sender → s.flag pgPlk F.PLK_STATUS_BUSY = false → Does (.plkSend rq) s fun t =>
      t.flag pgPlk F.PLK_STATUS_BUSY = true ∧ t.peer.waits.length = s.peer.waits.length + 20 ∧ t.peer.migAt = s.time ∧ t.peer.migBy = some rq.half) ∧
    exec (.plkRxDone rq) s = .next (s.ack.put pgPlk F.PLK_STATUS_RX_FULL 0) ∧
    exec (.plkCancel rq) s = .next ({ s.ack with peer := { s.peer with waits := s.peer.waits.filter fun w => w.slot.isNone } }.put pgPlk F.PLK_ALQ_PEND 0)) ∧
  (∀ (p : Fin 2) (hdr : PeerHdr) (x : Word) (n st : Nat) (d : List Byte) (o : Nat) (s : State),
    ∀ c ∈ [(4, Instr.peerMigrate p hdr x n d), (5, .peerMigDone p hdr x st), (6, .peerImageReq p hdr d n), (8, .peerAck p hdr o x)],
      (s.plkUp p = false ∨ (hdr.fcsOk = true ∧ hdr.etherType ≠ peerEtherType) → exec c.2 s = .next s.txNew) ∧
      (s.plkUp p = true → hdr.fcsOk = false ∨ (hdr.etherType = peerEtherType ∧ hcrcHolds hdr = false) → exec c.2 s = .next (s.txNew.recUp p)) ∧
      (s.plkUp p = true → hdr.fcsOk = true → hdr.etherType = peerEtherType → hcrcHolds hdr = true →
        hdr.typ ≠ c.1 ∨ s.peerOurs hdr = false ∨ s.memb = 0 → exec c.2 s = .next (s.txNew.recDown p)) ∧
      Goes c.2 s) ∧
  (∀ (p : Fin 2) (hdr : PeerHdr) (x : Word) (s : State) (w : Nat × List Nat), s.plkUp p = true → s.peerOurs hdr = true →
    s.memb ≠ 0 → s.isPublisher hdr.origin = true → windowTake (tblFind hdr.origin s.peer.windows) hdr.seq.toNat = some w → s.forMe hdr = true →
    (∀ n d, frameIs 4 hdr = true → n < 20 → s.flag pgPlk F.PLK_STATUS_RX_FULL = false → (∀ e ∈ s.peer.rxRefused, e.1 ≠ (hdr.origin, x.toNat)) →
      Does (.peerMigrate p hdr x n d) s fun t =>
        memBytes t.peer.rxWin (1024 * n) 1024 = (d ++ List.replicate 1024 0).take 1024 ∧
        ∀ a, a < 1024 * n ∨ 1024 * n + 1024 ≤ a → memByte t.peer.rxWin a = memByte s.peer.rxWin a) ∧
    (∀ n d, frameIs 4 hdr = true → n < 20 → s.flag pgPlk F.PLK_STATUS_RX_FULL = true → Does (.peerMigrate p hdr x n d) s fun t => t.peer.rxWin = s.peer.rxWin) ∧
    (∀ st, frameIs 5 hdr = true → s.flag pgPlk F.PLK_STATUS_BUSY = true → x.toNat = s.peer.xfer → Does (.peerMigDone p hdr x st) s fun t =>
      (s.time < s.peer.migAt + 1000 * s.migTmo →
        t.flag pgPlk F.PLK_STATUS_BUSY = false ∧ t.flag pgPlk F.PLK_STATUS_DONE = true ∧ t.get pgPlk F.PLK_STATUS_RESULT = (if st = 0 then 0 else 5)) ∧
      (s.peer.migAt + 1000 * s.migTmo ≤ s.time → t.flag pgPlk F.PLK_STATUS_BUSY = true))) ∧
  (∀ (p : Fin 2) (hdr : PeerHdr) (d : List Byte) (off : Nat) (s : State), s.plkUp p = true → frameIs 6 hdr = true → s.peerOurs hdr = true →
    s.plkTec p ≠ 255 → s.memb = 2 →
    (d = s.manifestHash (s.slotOf .P) → off + 1024 ≤ slotSize → Does (.peerImageReq p hdr d off) s fun t =>
      ∃ f, t.peer.sent = [f] ∧ f.typ = 7 ∧ f.dest = hdr.origin ∧ f.port = p.val) ∧
    (d ≠ s.manifestHash (s.slotOf .P) ∨ slotSize < off + 1024 → Does (.peerImageReq p hdr d off) s fun t => t.peer.sent = [])) ∧
  (∀ (p : Fin 2) (hdr : PeerHdr) (o : Nat) (x : Word) (s : State), s.plkUp p = true → frameIs 8 hdr = true → s.peerOurs hdr = true →
    s.plkTec p ≠ 255 → s.memb ≠ 0 →
    let hit (w : TxWait) := w.wants o x.toNat p && !(w.expired s.time)
    (s.peer.waits.find? hit = none → Does (.peerAck p hdr o x) s fun t => t.peer.waits = s.peer.waits) ∧
    (∀ w, s.peer.waits.find? hit = some w → Does (.peerAck p hdr o x) s fun t =>
      (∀ k : Fin 8, w.slot = some k.val → (t.get pgPlk F.PLK_ALQ_PEND).testBit k = false ∧ (t.get pgPlk F.PLK_ALQ_DONE).testBit k = true) ∧
      t.peer.waits = (if ∀ y ∈ w.ports, y = p.val ∨ y ∈ w.acked then s.peer.waits.filter (fun y => !(waitIs o x.toNat y))
        else s.peer.waits.map fun y => if waitIs o x.toNat y then { w with acked := p.val :: w.acked, slot := none } else y))) ∧
  (∀ (p : Fin 2) (o : Nat) (x : Word) (s : State),
    let hit (w : TxWait) := w.wants o x.toNat p && !w.held && s.plkUp p
    Goes (.peerRetry p o x) s ∧
    (s.peer.waits.find? hit = none → exec (.peerRetry p o x) s = .next s.txNew) ∧
    (s.peer.waits.find? hit ≠ none → tblFind p.val s.peer.cleared ≠ some s.time → Does (.peerRetry p o x) s fun t => t.plkTec p = min 255 (s.plkTec p + 8))) ∧
  (∀ (o : Nat) (x : Word) (s : State),
    let mine := s.flag pgPlk F.PLK_STATUS_BUSY = true ∧ o = s.plkNode ∧ seqDiff x.toNat s.peer.migSeq < 20
    (mine → exec (.peerTimeout o x) s = .next (s.txNew.migEnd 3)) ∧
    (¬mine → s.peer.waits.find? (waitIs o x.toNat) = none → exec (.peerTimeout o x) s = .next s.txNew) ∧
    (∀ w, ¬mine → s.peer.waits.find? (waitIs o x.toNat) = some w → w.held = true → exec (.peerTimeout o x) s = .next s.txNew) ∧
    (∀ w, ¬mine → s.peer.waits.find? (waitIs o x.toNat) = some w → w.held = false → Does (.peerTimeout o x) s fun t =>
      t.peer.waits = s.peer.waits.filter (fun y => !(waitIs o x.toNat y)) ∧
      ∀ k : Fin 8, w.slot = some k.val → (t.get pgPlk F.PLK_ALQ_PEND).testBit k = false ∧ (t.get pgPlk F.PLK_ALQ_FAIL).testBit k = true))

/-- A link that comes up takes a port that is Down to Up, and a Peer Link fetch without a neighbour asks on it; one that goes makes it Down; a
Stopped port and ports without power or domain keep their state, and one in Quarantine shows only the level. Loss of PCS lock raises REC
by 8 and takes the port Down; a transmit fault raises TEC by 8; a Stopped port counts neither, and one in Quarantine only shows the lost
link. A counter at 255 puts the port in Quarantine, one at 128 in Warning. CLEARQ clears both counters and takes a port out of Quarantine,
to Stopped where T4 or Night Watch stops it; a counter event at the very time of CLEARQ may be dropped (R359, log entry 149). -/
def Obligations.PeerPorts : Prop :=
  (∀ (p : Fin 2) (up : Bool) (s : State),
    (s.plkState p = 4 ∨ s.plkDark = true → exec (.peerPortLink p up) s = .next s.txNew) ∧
    (s.plkState p = 3 → s.plkDark = false → exec (.peerPortLink p up) s = .next (s.txNew.plkLink p up)) ∧
    (s.plkState p ≠ 4 → s.plkState p ≠ 3 → s.plkDark = false →
      (up = true → s.plkState p = 0 → s.fetching 4 = false → exec (.peerPortLink p up) s = .next ((s.txNew.plkLink p true).plkRise p)) ∧
      (up = true → s.plkState p = 0 → s.plkTec p < 128 → s.plkRec p < 128 → Does (.peerPortLink p up) s fun t =>
        t.plkState p = 1 ∧ t.flag pgPlk (F.PLK_PORT_LINK.at (4 * p)) = true ∧
        (s.fetching 4 = true → s.start.cands = [] ∨ s.start.cands = [p.val] → ∃ f ∈ t.peer.sent, f.typ = 6 ∧ f.port = p.val)) ∧
      (up = true → s.plkState p ≠ 0 → exec (.peerPortLink p up) s = .next s.txNew) ∧
      (up = false → s.plkState p = 1 ∨ s.plkState p = 2 → Does (.peerPortLink p up) s fun t =>
        t.plkState p = 0 ∧ t.flag pgPlk (F.PLK_PORT_LINK.at (4 * p)) = false ∧ t.disc pgPlk p = 0 ∧ SameMem s t))) ∧
  (∀ (p : Fin 2) (s : State),
    (s.plkState p = 4 → exec (.pcsLockLoss p) s = .next s.txNew ∧ exec (.pcsTransmitFault p) s = .next s.txNew) ∧
    (s.plkState p = 3 → exec (.pcsLockLoss p) s = .next (s.txNew.plkLink p false) ∧ exec (.pcsTransmitFault p) s = .next s.txNew) ∧
    (s.plkState p ≠ 4 → s.plkState p ≠ 3 → Does (.pcsLockLoss p) s (fun t => t.flag pgPlk (F.PLK_PORT_LINK.at (4 * p)) = false) ∧ Goes (.pcsTransmitFault p) s) ∧
    (s.plkState p ≠ 4 → s.plkState p ≠ 3 → tblFind p.val s.peer.cleared ≠ some s.time →
      (Does (.pcsLockLoss p) s fun t => t.plkRec p = min 255 (s.plkRec p + 8)) ∧
      (Does (.pcsTransmitFault p) s fun t => t.plkTec p = min 255 (s.plkTec p + 8) ∧
        (247 ≤ s.plkTec p → t.plkState p = 3 ∧ t.disc pgPlk p = 4) ∧
        (s.plkState p = 1 → 120 ≤ s.plkTec p → s.plkTec p < 247 → s.plkRec p ≠ 255 → t.plkState p = 2) ∧
        (s.plkState p = 1 → s.plkTec p < 120 → s.plkRec p < 128 → t.plkState p = 1)))) ∧
  (∀ (rq : Requester) (p : Fin 2) (s : State), Admitted rq pgPlk s → Does (.plkClearq rq p) s fun t =>
    t.plkTec p = 0 ∧ t.plkRec p = 0 ∧ tblFind p.val t.peer.cleared = some s.time ∧
    (s.plkState p = 3 → t.plkState p = if s.peerHalt p then 4 else if s.flag pgPlk (F.PLK_PORT_LINK.at (4 * p)) then 1 else 0) ∧
    (s.plkState p = 2 → t.plkState p = 1) ∧ (s.plkState p = 0 ∨ s.plkState p = 1 ∨ s.plkState p = 4 → t.plkState p = s.plkState p))

/-- A play on a Present, Idle channel starts the effect: Playing, EFFECT shown, BUSY set. On a channel that is not Present or whose domain is
not On, of any effect in T4, or of an Ordinary effect in T3, it is dropped and counted, as on a Coasting, Locked or Off channel and for an
Ordinary effect onto a playing Alert effect; otherwise it waits on the channel. A stop takes a playing closed-loop channel to Braking and
another to Idle, and changes nothing elsewhere; an unlock takes each named Locked channel to Idle, or to Off without its domain, and no
other. A control sample changes nothing on a channel that does not play, brake or coast; a Coasting one locks after 9 still samples or 20
ms; one whose last window asked for an abort coasts with its cause shown; otherwise a waiting play starts or is dropped, the channel plays
on, brakes or is Idle, and its bridge voltage never exceeds the boost. Drives that would take more than 30 W are folded, and none that
take 12 W or less (R316). -/
def Obligations.HapticCommands : Prop :=
  (∀ (rq : Requester) (ch : Fin 8) (e : Byte) (s : State), Admitted rq pgHap s →
    let st := s.hapState ch
    let barred := s.disc pgHap ch ≠ 2 ∨ s.hapUsable ch = false ∨ 4 ≤ s.tier ∨ (3 ≤ s.tier ∧ isAlert e.toNat = false)
    (barred → exec (.hapPlay rq ch e) s = .next (s.ack.incSat pgHap F.HAP_STATUS_DROPS)) ∧
    (¬barred → st = 1 → Does (.hapPlay rq ch e) s fun t =>
      t.hapState ch = 2 ∧ t.get pgHap (F.HAP_CH_EFFECT.at (4 * ch)) = e.toNat ∧ (t.get pgHap F.HAP_STATUS_BUSY).testBit ch = true ∧
      (t.get pgHap F.HAP_LOCK_LOCK).testBit ch = false ∧ (t.chan ch).effect = e.toNat ∧ (t.chan ch).n = 0 ∧
      (∀ k, k ≠ ch.val → t.chan k = s.chan k) ∧ SameMem s t ∧ KeepsRegs (fun p _ => p ≠ pgHap) s t) ∧
    (¬barred → st ≠ 1 → (st ≠ 2 ∧ st ≠ 3) ∨ (st = 2 ∧ isAlert (s.chan ch).effect = true ∧ isAlert e.toNat = false) →
      exec (.hapPlay rq ch e) s = .next (s.ack.incSat pgHap F.HAP_STATUS_DROPS)) ∧
    (¬barred → st = 3 ∨ (st = 2 ∧ (isAlert (s.chan ch).effect = false ∨ isAlert e.toNat = true)) →
      exec (.hapPlay rq ch e) s = .next (s.ack.setChan ch { s.chan ch with pending := some e.toNat }))) ∧
  (∀ (rq : Requester) (ch : Fin 8) (s : State), Admitted rq pgHap s →
    (s.hapState ch ≠ 2 → exec (.hapStop rq ch) s = .next s.ack) ∧
    (s.hapState ch = 2 → Does (.hapStop rq ch) s fun t => t.hapState ch = (if s.hapClosed ch then 3 else 1) ∧
      (s.hapClosed ch = false → t.chan ch = {}) ∧ (t.chan ch).pending = none ∧ (∀ k, k ≠ ch.val → t.chan k = s.chan k) ∧ SameMem s t)) ∧
  (∀ (rq : Requester) (mask : BitVec 8) (s : State), Admitted rq pgHap s → Does (.hapUnlock rq mask) s fun t =>
    (∀ ch : Fin 8, t.hapState ch = if mask.getLsbD ch = true ∧ s.hapState ch = 5 then (if s.hapUsable ch then 1 else 0) else s.hapState ch) ∧ SameMem s t ∧
      KeepsRegs (fun p _ => p ≠ pgHap) s t) ∧
  (∀ (ch : Fin 8) (x : HapSample) (mw : Nat) (s : State),
    (s.hapState ch ≠ 2 → s.hapState ch ≠ 3 → s.hapState ch ≠ 4 → exec (.hapControlSample ch x mw) s = .next s) ∧
    (s.hapState ch = 4 → Does (.hapControlSample ch x mw) s fun t =>
      (t.chan ch).ending = (s.chan ch).ending + 1 ∧
      t.hapState ch = (if 9 ≤ (t.chan ch).still ∨ 160 ≤ (t.chan ch).ending then 5 else 4) ∧ SameMem s t) ∧
    (∀ c, s.hapState ch = 2 ∨ s.hapState ch = 3 → (s.chan ch).abortNext = some c → Does (.hapControlSample ch x mw) s fun t =>
      t.hapState ch = 4 ∧ t.get pgHap (F.HAP_CH_CAUSE.at (4 * ch)) = c % 16 ∧ (t.chan ch).drive = 0 ∧ (t.chan ch).pending = none ∧
      t.get pgHap (F.HAP_CH_ABORTS.at (4 * ch)) = min 255 (s.get pgHap (F.HAP_CH_ABORTS.at (4 * ch)) + 1)) ∧
    (s.hapState ch = 2 ∨ s.hapState ch = 3 → (s.chan ch).abortNext = none → Does (.hapControlSample ch x mw) s fun t =>
      (t.hapState ch = 1 ∨ t.hapState ch = 2 ∨ t.hapState ch = 3) ∧ (t.chan ch).pending = none ∧
      (30000 < mw → t.hapFold.fold ≠ none) ∧ (mw ≤ 12000 → t.hapFold.fold = none) ∧
      -(s.get pgHap F.HAP_BOOST_MV : Int) ≤ (t.chan ch).drive ∧ (t.chan ch).drive ≤ s.get pgHap F.HAP_BOOST_MV ∧
      (∀ k, k ≠ ch.val → t.chan k = s.chan k) ∧ SameMem s t))

/-- A load check begins at a position that is Absent or Faulted, where the image is applied and the domain of the channel is On; its result is
Absent over 200 ohms, Faulted below 0.5 ohm or where a closed-loop channel has no accelerometer, Mismatched outside the declared range,
else Present. A plug moves an Absent headset position to Probing where the image is applied and AIO is On; the measurement shows the TYPE
of the resistance and gives bias to types 2 and 3 and sound only in Present; unplugging mutes, removes the bias and makes the position
Absent. A button reading on a biased port shows the recognised button and marks the change. A slip of a TDM follower records one event,
and one that lost no frame repeats the last; a leader port has none. -/
def Obligations.HapticAndHeadsetDiscovery : Prop :=
  (∀ (ch : Fin 8) (s : State),
    (s.applied = true → s.pdomain (16 + ch.val / 4) = 2 → s.disc pgHap ch = 0 ∨ s.disc pgHap ch = 4 → exec (.hapLoadCheck ch) s = .next (s.discSet pgHap ch 1)) ∧
    (s.applied = false ∨ s.pdomain (16 + ch.val / 4) ≠ 2 ∨ (s.disc pgHap ch ≠ 0 ∧ s.disc pgHap ch ≠ 4) → exec (.hapLoadCheck ch) s = .next s) ∧
    (∀ m id, s.disc pgHap ch ≠ 1 → exec (.hapLoadCheckDone ch m id) s = .next s) ∧
    (∀ (m : Nat) (id : Option Word), s.disc pgHap ch = 1 →
      let lo := (Config.imageHaptic (s.image .P) ch).2.2.1
      let hi := (Config.imageHaptic (s.image .P) ch).2.2.2
      Does (.hapLoadCheckDone ch m id) s fun t =>
        (200000 < m → t.disc pgHap ch = 0) ∧
        (m < 500 ∨ (m ≤ 200000 ∧ s.hapClosed ch = true ∧ id = none) → t.disc pgHap ch = 4) ∧
        (500 ≤ m → m ≤ 200000 → (s.hapClosed ch = true → id ≠ none) → (m < lo ∨ hi < m → t.disc pgHap ch = 3) ∧
          (lo ≤ m → m ≤ hi → t.disc pgHap ch = 2)) ∧
        t.reg pgHap (0xF004 + 0x10 * ch) = BitVec.ofNat 32 m ∧ t.reg pgHap (0xF008 + 0x10 * ch) = id.getD 0 ∧ SameMem s t)) ∧
  (∀ (n : Fin 4) (s : State),
    (s.disc pgAio n = 0 → s.applied = true → s.pdomain 18 = 2 → exec (.headsetPlug n) s = .next (s.discSet pgAio n 1)) ∧
    (s.disc pgAio n = 0 → exec (.headsetUnplug n) s = .next s) ∧
    (s.disc pgAio n ≠ 0 ∨ s.applied = false ∨ s.pdomain 18 ≠ 2 → exec (.headsetPlug n) s = .next s) ∧
    (∀ r, s.disc pgAio n ≠ 1 → exec (.headsetMeasureDone n r) s = .next s) ∧
    (∀ r, s.disc pgAio n = 1 → Does (.headsetMeasureDone n r) s fun t =>
      let ty := headsetType r
      t.get pgAio (F.AIO_HS_TYPE.at (4 * n)) = ty ∧ (t.flag pgAio (F.AIO_HS_BIAS.at (4 * n)) = decide (ty = 2 ∨ ty = 3)) ∧
      t.disc pgAio n = (if ty = 0 then 0 else if ty = 4 then 4 else if (Config.imageHeadset (s.image .P) n).contains ty then 2 else 3) ∧
      (t.flag pgAio (F.AIO_HS_MUTE.at (4 * n)) = true ↔ t.disc pgAio n ≠ 2) ∧ SameMem s t ∧
      ∀ m : Fin 4, m ≠ n → t.disc pgAio m = s.disc pgAio m ∧ t.reg pgAio (0x10 + 4 * m) = s.reg pgAio (0x10 + 4 * m)) ∧
    (s.disc pgAio n ≠ 0 → Does (.headsetUnplug n) s fun t => t.disc pgAio n = 0 ∧ t.flag pgAio (F.AIO_HS_MUTE.at (4 * n)) = true ∧
      t.flag pgAio (F.AIO_HS_BIAS.at (4 * n)) = false ∧ t.get pgAio (F.AIO_HS_TYPE.at (4 * n)) = 0 ∧ t.get pgAio (F.AIO_HS_BTN.at (4 * n)) = 0 ∧
      t.get pgAio (F.AIO_HS_BTN_CHG.at (4 * n)) = s.get pgAio (F.AIO_HS_BTN_CHG.at (4 * n)) ∧ SameMem s t)) ∧
  (∀ (n : Fin 4) (o : Option Nat) (s : State),
    let new := match o with | none => 0 | some r => buttonOf r
    (s.flag pgAio (F.AIO_HS_BIAS.at (4 * n)) = false ∨ new = s.get pgAio (F.AIO_HS_BTN.at (4 * n)) → exec (.headsetButton n o) s = .next s) ∧
    (s.flag pgAio (F.AIO_HS_BIAS.at (4 * n)) = true → new ≠ s.get pgAio (F.AIO_HS_BTN.at (4 * n)) → Does (.headsetButton n o) s fun t =>
      t.get pgAio (F.AIO_HS_BTN.at (4 * n)) = new ∧ t.get pgAio (F.AIO_HS_BTN_CHG.at (4 * n)) =
        (s.get pgAio (F.AIO_HS_BTN_CHG.at (4 * n)) ||| (new ^^^ s.get pgAio (F.AIO_HS_BTN.at (4 * n)))) ∧
      SameMem s t ∧ t.pat = s.pat)) ∧
  (buttonOf 70 = 1 ∧ buttonOf 110 = 2 ∧ buttonOf 290 = 4 ∧ buttonOf 680 = 8 ∧ buttonOf 200 = 0) ∧
  (∀ (n : Fin 4) (d : Bool) (s : State),
    (Config.imageTdmFollower (s.image .P) n = false → exec (.tdmFrameSlip n d) s = .next s) ∧
    (Config.imageTdmFollower (s.image .P) n = true → exec (.tdmFrameSlip n d) s = .next
      (({ s with audio := { s.audio with repeats := if d then s.audio.repeats else n.val :: s.audio.repeats } }).funcEvent pgAio 0x07
        (b1 n ++ b1 (if d then 1 else 0)))))

/-- AUD_SWAP and AUD_COPY set SWAP_PEND and COPYING; a finished copy makes the inactive bank equal to the active one and clears COPYING; an
override cell takes its word. A sample does nothing in T4 or without domain AUD; else it selects the program of the tier, carries out a
pending swap that no copy holds up, and computes the outputs by the program of the image from the active bank, the override cells and its
own history, which starts empty after a stop; the inputs of a TDM port that repeats a frame are those of the last period, and a cell value
that the routing graph does not expect gives a free value (R337). -/
def Obligations.AudioCommands : Prop :=
  (∀ (rq : Requester) (s : State), Admitted rq pgAud s →
    exec (.audSwap rq) s = .next (s.ack.put pgAud F.AUD_STATUS_SWAP_PEND 1) ∧
    exec (.audCopy rq) s = .next (s.ack.put pgAud F.AUD_STATUS_COPYING 1) ∧
    ∀ (c : Fin 16) (v : Word), Admitted rq pgAud s (0x100 + 4 * c.val) → exec (.audOverrideWrite rq c v) s = .next (s.ack.setReg pgAud (0x100 + 4 * c) v)) ∧
  (∀ s : State, (s.flag pgAud F.AUD_STATUS_COPYING = false → exec .audCopyDone s = .next s) ∧
    (s.flag pgAud F.AUD_STATUS_COPYING = true → Does .audCopyDone s fun t =>
      t.flag pgAud F.AUD_STATUS_COPYING = false ∧ t.audBank = s.audBank ∧
      (∀ w, w < 4096 → t.cell (1 - s.audBank) w = s.cell s.audBank w) ∧ (∀ w, w < 4096 → t.cell s.audBank w = s.cell s.audBank w) ∧ SameMem s t)) ∧
  (∀ (x : List Int) (s : State), s.pdomain 19 ≠ 2 ∨ 4 ≤ s.tier → exec (.audioSample x) s = .next s) ∧
  (∀ (x : List Int) (s : State), Goes (.audioSample x) s) ∧
  (∀ (x : List Int) (s : State), s.rearm = none → s.pdomain 19 = 2 → s.tier < 4 → Does (.audioSample x) s fun t =>
    let swaps := s.flag pgAud F.AUD_STATUS_SWAP_PEND = true ∧ s.flag pgAud F.AUD_STATUS_COPYING = false
    t.get pgAud F.AUD_STATUS_PROG = (if s.tier = 3 then 1 else 0) ∧ t.audBank = (if swaps then 1 - s.audBank else s.audBank) ∧
    (swaps → t.flag pgAud F.AUD_STATUS_SWAP_PEND = false ∧ t.flag pgAud F.AUD_STATUS_SWAPPED = true) ∧
    (¬swaps → t.flag pgAud F.AUD_STATUS_SWAP_PEND = s.flag pgAud F.AUD_STATUS_SWAP_PEND) ∧
    (let stopped := s.get pgAud F.AUD_STATUS_PROG = 2
     let image := s.slotCells (s.slotOf .P)
     let program := Config.imageProgram image (s.flag pgAud F.AUD_CFG_RATE) (s.tier = 3)
     let odd (c : AudioCell) : Bool := !(Config.cellExpected image c (t.audioCell c))
     let r := audioRun program t.audioCell odd (Config.audioOdd t.free) (s.tdmInputs x)
       (if stopped then [] else s.audio.hist) (if stopped then [] else s.audio.phase)
     t.audio.outputs = r.outputs ∧ t.audio.hist = r.hist ∧ t.audio.phase = r.phase ∧
     (program.any (fun n => n.cells.any odd) = false → t.free = s.free)) ∧
    t.audio.inputs = s.tdmInputs x ∧ t.audio.repeats = [] ∧
    t.audio.banks = s.audio.banks ∧ SameMem s t ∧ KeepsRegs (fun p _ => p ≠ pgAud) s t)

/-- MOD_CTRL.NIGHT is accepted in a Service mode with a half in service, tier at most T3, no handover, REARM, Inspection or command running:
MODE becomes Night Watch, BUSY is set, and each port stops through PSR2 or at once. Otherwise it completes with BAD_STATE and changes
nothing else. WAKE, a wake source and a delivered peer alarm end Night Watch; WAKE outside it leaves the status it reports free (R381),
and a wake source outside it changes nothing. -/
def Obligations.NightWatch : Prop :=
  (∀ (rq : Requester) (s : State), Admitted rq (halfPg rq.half 0x2000) s →
    (isService s.mode = true → s.get pgPair F.PAIR_STATUS_PAIRING ≤ 1 → s.tier ≤ 3 → s.hoRun = none → s.rearm = none → s.insp = none →
      s.flag pgMod F.MOD_STATUS_BUSY = false → exec (.modNight rq) s = .next
        (((s.ack.setMode 10 .night).put pgMod F.MOD_STATUS_BUSY 1).each (upTo 8) fun p u => u.setPort p { u.port p with nightStop := u.nightStopOf p }).nightSettle) ∧
    (isService s.mode = false ∨ 2 ≤ s.get pgPair F.PAIR_STATUS_PAIRING ∨ 4 ≤ s.tier ∨ s.hoRun ≠ none ∨ s.rearm ≠ none ∨ s.insp ≠ none ∨
      s.flag pgMod F.MOD_STATUS_BUSY = true → exec (.modNight rq) s = .next
        (((s.ack.put pgMod F.MOD_STATUS_DONE 1).put pgMod F.MOD_STATUS_RESULT 1).raiseBoth 0x2000))) ∧
  (∀ (rq : Requester) (s : State), Admitted rq (halfPg rq.half 0x2000) s →
    (s.mode = 10 → exec (.modWake rq) s = .next (s.ack.nightExit.modDone 0)) ∧
    (s.mode ≠ 10 → exec (.modWake rq) s = .next (s.ack.wildStatus pgMod [F.MOD_STATUS_DONE, F.MOD_STATUS_RESULT]))) ∧
  (∀ (src : NightWake) (s : State),
    (s.mode ≠ 10 → exec (.nightWatchWake src) s = .next s) ∧
    (src ≠ .wakeN → exec (.nightWatchWake src) s = .next s.nightExit) ∧
    (src = .wakeN → s.mode = 10 → exec (.nightWatchWake src) s = .next (s.put pgSvc F.SVC_STATUS_WAKE 1).nightExit)) ∧
  (∀ (p : Fin 2) (hdr : PeerHdr) (d : List Byte) (s : State), exec (.peerAlarm p hdr d) s =
    .next (if (s.alarmRx p hdr d).1 then (s.alarmRx p hdr d).2.nightExit else (s.alarmRx p hdr d).2)) ∧
  (∀ s : State, s.mode ≠ 10 → s.nightExit = s)

/-- INSPECT ends with BUSY while a MOD command runs, and with BAD_STATE unless the module is in Paired Service at T0 or T1 with every standby
pipe qualified and no REARM or life-cycle operation; otherwise MODE becomes Inspection and the half that owns fewer ports, B on a tie,
gives up its ports. Each step follows the one before: a half without ports loses its heartbeat and is held; Lost and in reset it is
marched and released; back and Ready, with every port qualified or its time over, it takes back the ports that are qualified on it; then
the other half follows; the second half ends it with PASS or FAILED. A half whose ports did not move, or that does not come back, ends it
with FAILED. DORMANT begins Hold-up in the Service modes and in Night Watch, with BUSY set, answers BUSY while a command runs, and leaves
the status it reports free elsewhere. -/
def Obligations.InspectionAndDormant : Prop :=
  (∀ (rq : Requester) (s : State), Admitted rq (halfPg rq.half 0x2000) s →
    (s.flag pgMod F.MOD_STATUS_BUSY = true → exec (.modInspect rq) s = .next (s.ack.modAnswer 1) ∧ exec (.modDormant rq) s = .next (s.ack.modAnswer 1)) ∧
    (s.flag pgMod F.MOD_STATUS_BUSY = false →
      (isService s.mode = true → s.get pgPair F.PAIR_STATUS_PAIRING = 0 → s.tier ≤ 1 → s.rearm = none → s.lcs = none →
        (∀ p o, p < 8 → s.ownerOf p = some o → s.qualified (Half.other o) p = true) → exec (.modInspect rq) s = .next
          ((({ s.ack.put pgMod F.MOD_STATUS_BUSY 1 with insp := some {} }).setMode 11 .inspect).inspHalf {} (if (s.owned .A).length < (s.owned .B).length then .A else .B))) ∧
      (isService s.mode = false ∨ s.get pgPair F.PAIR_STATUS_PAIRING ≠ 0 ∨ 2 ≤ s.tier ∨ s.rearm ≠ none ∨ s.lcs ≠ none ∨
        (∃ p o, p < 8 ∧ s.ownerOf p = some o ∧ s.qualified (Half.other o) p = false) →
        exec (.modInspect rq) s = .next (s.ack.modAnswer 2)) ∧
      (isService s.mode = true ∨ s.mode = 10 → exec (.modDormant rq) s = .next ((s.ack.hupRead.holdup true (s.ack.hupRead.get pgShd F.SHD_VOLT_HUP) .dormant).put pgMod F.MOD_STATUS_BUSY 1)) ∧
      (isService s.mode = false → s.mode ≠ 10 → exec (.modDormant rq) s = .next (s.ack.wildStatus pgMod [F.MOD_STATUS_DONE, F.MOD_STATUS_RESULT])))) ∧
  (∀ (found : InspFound) (s : State),
    (s.insp = none → exec (.inspectionStep found) s = .next s) ∧
    (∀ i, s.insp = some i → s.hoRun ≠ none → exec (.inspectionStep found) s = .next s) ∧
    (∀ i, s.insp = some i → s.hoRun = none →
      let base := match i.half with | .A => 0 | .B => 6
      let limit := s.get pgPair F.PAIR_CFG_HO_TIMEOUT
      let pass := s.inspQualified i.half = true ∧ found.frames ≤ limit
      (i.step = 1 → s.owned i.half = [] → exec (.inspectionStep found) s =
        .next { s.setHs i.half { s.hs i.half with hbWithheld := true, hold := true } with insp := some { i with step := 2 } }) ∧
      (i.step = 1 → s.owned i.half ≠ [] → exec (.inspectionStep found) s = .next (s.inspEnd 3)) ∧
      (i.step = 2 → s.halfState i.half ≠ 4 ∨ s.inReset i.half = false → exec (.inspectionStep found) s = .next s) ∧
      (i.step = 2 → s.halfState i.half = 4 → s.inReset i.half = true → found.lostNs < 65536 → exec (.inspectionStep found) s =
        .next { s with insp := some { inspNote i (base + 4) (found.lostNs ≤ 1000) found.lostNs with step := 4 } }) ∧
      (i.step = 2 → s.halfState i.half = 4 → s.inReset i.half = true → 65536 ≤ found.lostNs → Does (.inspectionStep found) s fun t =>
        ∃ n, n < 65536 ∧ t = { s with free := s.free + 1, insp := some { inspNote i (base + 4) false n with step := 4 } }) ∧
      (i.step = 4 → Does (.inspectionStep found) s fun t =>
        (∀ n a, n < 4 → s.domain i.half (26 + n) = 2 → n * spmBank ≤ a → a < (n + 1) * spmBank → memByte (t.spm i.half) a = 0) ∧
        (t.hs i.half).hold = false ∧ (t.hs i.half).hbWithheld = false ∧
        t.spm (Half.other i.half) = s.spm (Half.other i.half) ∧ t.dramA = s.dramA ∧ t.dramB = s.dramB ∧ t.mram = s.mram ∧
        ∃ j, t.insp = some j ∧ j.step = 6 ∧ j.half = i.half ∧
          (tblFind base j.items).map Prod.fst = some (if ((upTo 4).all fun n => t.get (pgSpm i.half n) F.SPM_UNREP_BANK = 0) then 0 else 1) ∧
          tblFind (base + 1) j.items = some (if found.sramBad = 0 then 0 else 1, 0) ∧
          tblFind (base + 2) j.items = some (if found.trainFail = 0 then 0 else 1, 0) ∧
          tblFind (base + 3) j.items = some (if found.lockstep then 0 else 1, 0)) ∧
      (i.step = 6 → ¬pass → found.frames < limit → exec (.inspectionStep found) s = .next s) ∧
      (i.step = 6 → pass ∨ limit ≤ found.frames → s.halfState i.half ≠ 3 →
        exec (.inspectionStep found) s = .next (({ s with insp := some (inspNote i (base + 5) false 0) }).inspEnd 3)) ∧
      (∀ ok, i.step = 6 → (pass ∨ limit ≤ found.frames) → (ok = true ↔ pass) → s.halfState i.half = 3 →
        let j := { inspNote i (base + 5) ok 0 with step := 7 }
        ((∀ p ∈ i.owned, ∃ q ∈ s.group p, s.qualified i.half q = false) → exec (.inspectionStep found) s = .next { s with insp := some j }) ∧
        ((∃ p ∈ i.owned, ∀ q ∈ s.group p, s.qualified i.half q = true) → exec (.inspectionStep found) s =
          .next (({ s with insp := some j }).hoStart .inspection i.half (i.owned.filter fun p => (s.group p).all fun q => s.qualified i.half q)))) ∧
      (i.step = 7 → i.second = false → exec (.inspectionStep found) s = .next (s.inspHalf { i with second := true } (Half.other i.half))) ∧
      (i.step = 7 → i.second = true →
        let j := inspNote (inspNote i 12 (found.icks = 0xFF) 0) 13 found.comparator 0
        exec (.inspectionStep found) s = .next (({ s with insp := some j }).inspEnd (if j.failed then 3 else 0)))))

/-- An LCS operation is answered BUSY while one runs, BAD_STATE where the state in force does not accept it, CONFIRM for a RETIRE without
0xC5, and with the fault of its key record; otherwise it starts. PROVISION and KEY_UPDATE read their record at LCS_SRC. When it is done,
its writes are in the MRAM, in order, LCS_STATUS shows DONE, RESULT OK and the state and keys in force, no other memory changes, and
outside Provisioned no Trusted debug enable is left (R228). The service port's PROVISION needs Maquette, an attached tool and a module
that is not Retired. -/
def Obligations.LifeCycle : Prop :=
  (∀ (rq : Requester) (s : State), Admitted rq pgLcs s →
    exec (.lcsProvision rq) s = .next ((s.ack.lcsNote rq.half).lcsBegin 1 (s.bytesAt rq.half tagTrusted .read (s.get pgLcs F.LCS_SRC_PAGE * 4096) 0x2000) false true) ∧
    exec (.lcsKeyUpdate rq) s = .next ((s.ack.lcsNote rq.half).lcsBegin 4 (s.bytesAt rq.half tagTrusted .read (s.get pgLcs F.LCS_SRC_PAGE * 4096) 0x2000) false true) ∧
    exec (.lcsService rq) s = .next (s.ack.lcsBegin 2 [] false true) ∧
    (∀ c, exec (.lcsRetire rq c) s = .next (s.ack.lcsBegin 3 [] false (c = 0xC5)))) ∧
  (∀ (op : Nat) (rec : List Byte) (svc conf : Bool) (s : State),
    (s.lcs ≠ none → s.lcsBegin op rec svc conf = (s.put pgLcs F.LCS_STATUS_DONE 1).put pgLcs F.LCS_STATUS_RESULT 1) ∧
    (s.lcs = none → lcsAccepts s.lcState op = false → s.lcsBegin op rec svc conf = s.lcsEnd 2) ∧
    (s.lcs = none → lcsAccepts s.lcState op = true → conf = false → s.lcsBegin op rec svc conf = s.lcsEnd 6) ∧
    (∀ r, s.lcs = none → lcsAccepts s.lcState op = true → conf = true → op = 1 ∨ op = 4 → s.recordBad op rec = some r → s.lcsBegin op rec svc conf = s.lcsEnd r) ∧
    (s.lcs = none → lcsAccepts s.lcState op = true → conf = true → (op = 1 ∨ op = 4 → s.recordBad op rec = none) →
      s.lcsBegin op rec svc conf = ({ s with lcs := some { op := op, record := rec, service := svc } }).put pgLcs F.LCS_STATUS_BUSY 1)) ∧
  (∀ (keys : List Byte) (o : LcsOp) (s : State), s.lcs = some o → Does (.lcsOperationDone keys) s fun t =>
    t.mram = (s.lcsWrites o keys).foldl (fun m w => memSetBytes m w.1 w.2) s.mram ∧ t.lcs = none ∧
    t.flag pgLcs F.LCS_STATUS_BUSY = false ∧ t.flag pgLcs F.LCS_STATUS_DONE = true ∧ t.get pgLcs F.LCS_STATUS_RESULT = 0 ∧
    t.get pgLcs F.LCS_STATUS_STATE = t.lcState % 4 ∧ t.get pgLcs F.LCS_STATUS_KSLOT = t.keySlot.getD 0 % 2 ∧ t.get pgLcs F.LCS_STATUS_KEYGEN = t.keyGen % 65536 ∧
    t.dramA = s.dramA ∧ t.dramB = s.dramB ∧ t.spmA = s.spmA ∧ t.spmB = s.spmB ∧ KeepsRegs (fun p _ => p ≠ pgLcs ∧ p ≠ pgWld .A ∧ p ≠ pgWld .B) s t ∧
    (t.lcState % 4 ≠ 1 → ∀ h, t.flag (pgWld h) F.WLD_DBG_TRU_INV = false ∧ t.flag (pgWld h) F.WLD_DBG_TRU_NINV = false)) ∧
  (∀ (keys : List Byte) (s : State), s.lcs = none → exec (.lcsOperationDone keys) s = .next s) ∧
  (∀ (rec : List Byte) (s : State),
    (s.mode = 3 → s.flag pgSvc F.SVC_STATUS_ATTACHED = true → s.lcState ≠ 3 → exec (.svcProvision rec) s = .next (s.lcsBegin 1 rec true true)) ∧
    (s.mode ≠ 3 ∨ s.flag pgSvc F.SVC_STATUS_ATTACHED = false ∨ s.lcState = 3 → exec (.svcProvision rec) s = .next s))

/-- Hold-up is entered from every mode but Hold-up, Off and Dormant: VIN is no longer good and below 2.7 V, HUP is shown, and the course of
R409 runs; in those modes only VIN and HUP change. HUP below 12 V while the module parks loses the events that are not written and is
remembered for the next start; otherwise it changes nothing. -/
def Obligations.HoldUp : Prop :=
  (∀ (mv : Nat) (s : State), exec (.holdupEntry mv) s = .next
    ((((({ s with pw := { s.pw with vinGood := false, vinMv := 0 } }).put pgShd F.SHD_VOLT_HUP (min 0xFFFF mv)).put pgShd F.SHD_STATUS_HUP_OK
      (if 38000 ≤ mv then 1 else 0))).holdup false mv .holdup)) ∧
  (∀ (mv : Nat) (s : State), s.mode = 9 ∨ s.mode = 0 ∨ s.mode = 1 → s.holdup false mv .holdup = s) ∧
  (∀ (k : Park) (s : State), s.park = some k → exec .hupBelow12v s = .next { s with
    pat := { s.pat with buf := [], early := [], closing := none }, start := { s.start with shortHold := true }, park := some { k with short := true } }) ∧
  (∀ s : State, s.park = none → exec .hupBelow12v s = .next s)

/-- VIN that becomes good starts a module that is off with PORST_N released, in MODE Armature Load with the tier of VIN, empty reset classes
and the straps still to come. PORST_N makes the module Off at once, keeping DRAM and scratchpad as they are; its release starts it with
cause 2 where VIN is good. The start window restarts a start that has not reached its end, with cause 4. FAILS goes to 0 after 15 min of
service. A wake source acts only while PORST_N is released and where KAL_WAKE enables it; a tamper event is latched in any case; the RTC
alarm needs the counts to meet. Keep-alive power-up clears class K; the loss of VKA makes a Dormant module Off. -/
def Obligations.PowerAndStart : Prop :=
  (∀ (mv : Nat) (s : State),
    (mv < 3300 ∨ s.pw.vinGood = true → exec (.powerOn mv) s = .next s) ∧
    (3300 ≤ mv → s.pw.vinGood = false → s.pw.porstN = true → s.mode = 0 → s.start.stage = .off → Does (.powerOn mv) s fun t =>
      t.mode = 2 ∧ t.tier = vinTier mv ∧ t.start.stage = .straps ∧ t.pw.vinGood = true ∧ t.get pgShd F.SHD_VOLT_VIN = min 0xFFFF mv ∧
      t.get (pgRstH .A) F.RST_CAUSE_START = s.start.nextCause % 16 ∧ t.dramA = s.dramA ∧ t.dramB = s.dramB ∧ t.spmA = s.spmA ∧ t.spmB = s.spmB) ∧
    (3300 ≤ mv → s.pw.vinGood = false → s.pw.porstN = false → exec (.powerOn mv) s = .next { s with pw := { s.pw with vinGood := true, vinMv := mv } })) ∧
  (∀ s : State, (Does .porstNAssert s fun t => t.mode = 0 ∧ t.pw.porstN = false ∧ t.arm = none ∧ t.lcs = none ∧ t.start = {} ∧
      t.dramA = s.dramA ∧ t.dramB = s.dramB ∧ t.spmA = s.spmA ∧ t.spmB = s.spmB ∧ (s.arm = none → s.lcs = none → t.mram = s.mram)) ∧
    (∀ mv, s.pw.porstN = true → exec (.porstNRelease mv) s = .next s) ∧
    (∀ mv, s.pw.porstN = false → s.pw.vinGood = true → Does (.porstNRelease mv) s fun t => t.mode = 2 ∧ t.tier = vinTier mv ∧ t.pw.porstN = true ∧
      t.get (pgRstH .B) F.RST_CAUSE_START = 2) ∧
    (∀ mv, s.pw.porstN = false → s.pw.vinGood = false → Does (.porstNRelease mv) s fun t => t.mode = (if s.pw.vka then 1 else 0) ∧ t.pw.porstN = true ∧ SameMem s t)) ∧
  (∀ s : State,
    (s.start.reached = true ∨ s.noPower = true ∨ s.start.stage = .off ∨ s.start.stage = .maquette → exec .startWindowExpiry s = .next s) ∧
    (s.start.reached = false → s.noPower = false → s.start.stage ≠ .off → s.start.stage ≠ .maquette → Does .startWindowExpiry s fun t =>
      t.mode = 2 ∧ t.start.stage = .straps ∧ t.get (pgRstH .A) F.RST_CAUSE_START = 4 ∧ t.arm = none ∧ t.lcs = none) ∧
    (s.start.since = none → exec .failsClear s = .next s) ∧
    (s.start.since ≠ none → Does .failsClear s fun t => t.get pgRst F.RST_START_FAILS = 0 ∧ memBytes t.mram (storeBase + 0x2C) 2 = [0, 0] ∧
      (∀ a, a < storeBase + 0x2C ∨ storeBase + 0x30 ≤ a → memByte t.mram a = memByte s.mram a))) ∧
  (∀ (w : WakeSource) (s : State), (s.pw.porstN = false → exec (.dormantWake w) s = .next s) ∧
    (s.pw.porstN = true → w ≠ .wakeN → (s.get pgKal F.KAL_WAKE_EN).testBit (WakeSource.code w - 1) = false → exec (.dormantWake w) s = .next s) ∧
    (s.pw.porstN = true → w ≠ .wakeN → exec (.dormantWake w) s = .next (s.wakeBy (WakeSource.code w))) ∧
    (s.pw.porstN = true → w = .wakeN → exec (.dormantWake w) s = .next ((s.put pgSvc F.SVC_STATUS_WAKE 1).wakeBy 2))) ∧
  (∀ (code : Nat) (s : State), (s.get pgKal F.KAL_WAKE_EN).testBit (code - 1) = true → s.mode = 1 →
    (s.pw.vinGood = true → (s.wakeBy code).mode = 2 ∧ (s.wakeBy code).get pgKal F.KAL_WAKE_CAUSE = code % 16) ∧
    (s.pw.vinGood = false → s.wakeBy code = { s with pw := { s.pw with wakeLatch := some (s.pw.wakeLatch.getD code) } })) ∧
  (∀ s : State,
    (s.rtc / 2 ^ 15 % 2 ^ 32 ≠ s.get pgKal F.KAL_ALARM_SEC ∨ s.pw.porstN = false → exec .rtcAlarm s = .next s) ∧
    (s.rtc / 2 ^ 15 % 2 ^ 32 = s.get pgKal F.KAL_ALARM_SEC → s.pw.porstN = true → exec .rtcAlarm s = .next (s.wakeBy 3)) ∧
    (s.pw.porstN = false → exec .tamperEvent s = .next (s.put pgKal F.KAL_WAKE_TAMPER 1)) ∧
    (s.pw.porstN = true → exec .tamperEvent s = .next ((s.put pgKal F.KAL_WAKE_TAMPER 1).wakeBy 4)) ∧
    (∀ v, Does (.keepAlivePowerUp v) s fun t => t.get pgKal F.KAL_WAKE_EN = 3 ∧ t.flag pgKal F.KAL_WAKE_FRESH = true ∧ t.get pgKal F.KAL_ALARM_SEC = 0xFFFFFFFF ∧
      t.rtc = 0 ∧ (v = true → t.pw.vka = true) ∧ SameMem s t) ∧
    (s.mode = 1 → Does .vkaLoss s fun t => t.mode = 0 ∧ t.pw.vka = false ∧ t.pw.wakeLatch = none ∧ SameMem s t) ∧
    (s.mode ≠ 1 → exec .vkaLoss s = .next { s with pw := { s.pw with vka := false, wakeLatch := none } }))

/-- A park that is complete leaves the module Dormant where VKA is present and Off elsewhere, the half memories as they are, and starts it
where a wake source met the park. PLINTH_SWITCH at step 8 with no handover running begins the switch of the Plinth: what has no boundary
of its own takes the target slot at once, everything else at its own, and an item that has taken it runs from it; where nothing runs the
switch is complete, the target slot is the Plinth's, and the REARM ends with RESULT 0. Otherwise it changes nothing. -/
def Obligations.ParkAndPlinthSwitch : Prop :=
  (∀ s : State, (s.park = none → exec .parkComplete s = .next s) ∧
    (∀ k, s.park = some k → k.wake = none → Does .parkComplete s fun t => t.mode = (if s.pw.vka then 1 else 0) ∧ t.park = none ∧
      t.start.nextCause = (if k.byCommand then 1 else 3) ∧ t.dramA = s.dramA ∧ t.dramB = s.dramB ∧ (k.short = true → t.mram = s.mram)) ∧
    (∀ k c, s.park = some k → k.wake = some c → Does .parkComplete s fun t =>
      (s.pw.vka = false → c ≠ 1 ∨ s.pw.vinGood = false → t.mode = 0) ∧ (s.pw.vka = false → c = 1 → s.pw.vinGood = true → t.mode = 2))) ∧
  (∀ s : State, (s.rearm = none → exec .plinthSwitch s = .next s) ∧
    (∀ a, s.rearm = some a → a.step ≠ 8 ∨ s.hoRun ≠ none → exec .plinthSwitch s = .next s) ∧
    (∀ a, s.rearm = some a → a.step = 8 → s.hoRun = none →
      exec .plinthSwitch s = .next (State.plinthTake { s with rearm := some { a with switching := true } } [])) ∧
    (∀ a, s.rearm = some a → a.step = 8 → s.hoRun = none → s.plinthIdle = [] →
      exec .plinthSwitch s = .next { s with rearm := some { a with switching := true } }) ∧
    (∀ a, s.rearm = some a → a.step = 8 → s.hoRun = none → a.slot < 2 → a.taken = [] → s.plinthIdle = plinthItems → Does .plinthSwitch s fun t =>
      t.rearm = none ∧ t.slotOf .P = a.slot ∧ t.get (pgArmH a.source) F.ARM_STATUS_RESULT = 0 ∧ t.flag (pgArmH a.source) F.ARM_STATUS_BUSY = false ∧
      t.flag (pgArmH a.source) F.ARM_STATUS_DONE = true ∧ t.slotOf .A = s.slotOf .A ∧ t.slotOf .B = s.slotOf .B ∧ SameMem s t)) ∧
  (∀ (items : List Nat) (a : Rearm) (s : State), s.rearm = some a → a.switching = true →
    let new := ((items ++ s.plinthIdle).filter fun i => !(a.taken.contains i)).eraseDups
    (new = [] → s.plinthTake items = s) ∧
    (new ≠ [] → (∃ i ∈ plinthItems, i ∉ a.taken ++ new) → (s.plinthTake items).rearm = some { a with taken := a.taken ++ new } ∧
      (∀ i ∈ new, (s.plinthTake items).plinthSlot i = a.slot) ∧ (s.plinthTake items).slotOf .P = s.slotOf .P ∧ SameMem s (s.plinthTake items)))

/-- Straps are taken once, by a start that waits for them: BOOT and CLKMODE shown, CLKMODE 3 as 0 with RSV. Three failed starts, BOOT 7 and a
life-cycle state that is neither Provisioned nor Service lead to Maquette with MQ_CAUSE 0x84, 0x83 and 0x82; a start from MRAM checks the
slots in their order. Image bytes from PCIe are written at their offset in the target slot and nowhere else, and not at all while the
control copies disagree; bytes of the service port follow one another, and a zero-length packet ends the image. The service commands of
Maquette need an attached tool, Maquette, a module that is not Retired and no running operation; a READ answers a ring slot, a snapshot
descriptor or the inspection record to an attached tool (its position is the model's choice, log entry 151). The next bytes of a Peer Link
fetch, from the neighbour that answered first, are written behind those before. A stalled WRITE leaves its slot Invalid. -/
def Obligations.StartSources : Prop :=
  (∀ (b : BitVec 3) (c : BitVec 2) (s : State), (s.start.stage ≠ .straps → exec (.strapSample b c) s = .next s) ∧
    (s.start.stage = .straps → Does (.strapSample b c) s fun t =>
      t.get pgRst F.RST_STRAP_BOOT = b.toNat ∧ t.get pgRst F.RST_STRAP_CLKMODE = (if c = 3 then 0 else c.toNat) ∧ t.flag pgRst F.RST_STRAP_RSV = decide (c = 3) ∧
      (3 ≤ s.get pgRst F.RST_START_FAILS → t.mode = 3 ∧ t.get pgRst F.RST_START_MQ_CAUSE = 0x84) ∧
      (s.get pgRst F.RST_START_FAILS < 3 → b = 7 → t.mode = 3 ∧ t.get pgRst F.RST_START_MQ_CAUSE = 0x83) ∧
      (s.get pgRst F.RST_START_FAILS < 3 → b ≠ 7 → s.lcState = 0 ∨ s.lcState = 3 → t.mode = 3 ∧ t.get pgRst F.RST_START_MQ_CAUSE = 0x82) ∧
      (s.get pgRst F.RST_START_FAILS < 3 → b = 1 ∨ b = 2 → s.lcState = 1 ∨ s.lcState = 2 →
        t.arm = some { source := .start, op := 2, slot := b.toNat - 1, checking := true } ∧ t.start.cands = [] ∧ t.start.stage = .checking ∧
        t.get pgRst F.RST_START_FAILS = s.get pgRst F.RST_START_FAILS + 1))) ∧
  (∀ (off : Nat) (d : List Byte) (s : State), (s.fetching 5 = false ∨ slotSize ≤ off ∨ s.copyFault = true → exec (.pcieBootDataWrite off d) s = .next s) ∧
    (s.fetching 5 = true → off + d.length ≤ slotSize → off < slotSize → s.copyFault = false → Does (.pcieBootDataWrite off d) s fun t =>
      memBytes t.mram (slotBase s.start.target + off) d.length = d ∧
      (∀ a, a < slotBase s.start.target + off ∨ slotBase s.start.target + off + d.length ≤ a → memByte t.mram a = memByte s.mram a) ∧
      t.regs = s.regs ∧ t.dramA = s.dramA ∧ t.dramB = s.dramB)) ∧
  (∀ (n : Nat) (s : State), (s.fetching 5 = false → exec (.pcieBootLength n) s = .next s) ∧
    (∀ o, s.fetching 5 = true → s.arm = some o → Does (.pcieBootLength n) s fun t => t.arm = some { o with checking := true } ∧ t.start.got = n ∧
      (o.source = .start → t.start.stage = .checking) ∧ SameMem s t)) ∧
  (∀ (pos : Nat) (s : State), (s.flag pgSvc F.SVC_STATUS_ATTACHED = false → exec (.svcRead pos) s = .next s) ∧
    (s.flag pgSvc F.SVC_STATUS_ATTACHED = true → Does (.svcRead pos) s fun t =>
      (pos < ringSlots → t.svc.reply = s.ringSlot pos) ∧ (ringSlots ≤ pos → pos < ringSlots + 8 → t.svc.reply = s.descBytes (pos - ringSlots)) ∧
      (pos = ringSlots + 8 → t.svc.reply = s.mramBytes (storeBase + 0x5000) 4096) ∧ (ringSlots + 8 < pos → t.svc.reply = []) ∧ t.regs = s.regs ∧ SameMem s t)) ∧
  (∀ (k : Fin 2) (b : BitVec 3) (c : BitVec 2) (s : State),
    (s.svcTakes = false → exec (.svcWrite k) s = .next s ∧ exec (.svcVerify k) s = .next s ∧ exec (.svcStart b c) s = .next s) ∧
    (s.svcTakes = true → Does (.svcWrite k) s fun t => t.arm = some { source := .service, op := 1, slot := k } ∧ t.slotState k = 3 ∧ t.svc.got = 0 ∧ SameMem s t) ∧
    (s.svcTakes = true → exec (.svcVerify k) s = .next { s with arm := some { source := .service, op := 2, slot := k, checking := true } }) ∧
    (s.svcTakes = true → s.lcs ≠ none → exec (.svcStart b c) s = .next s) ∧
    (s.svcTakes = true → s.lcs = none → Does (.svcStart b c) s fun t => t.get pgRst F.RST_STRAP_BOOT = b.toNat ∧
      t.get (pgRstH .A) F.RST_CAUSE_START = 5 ∧ (b = 7 → t.mode = 3 ∧ t.get pgRst F.RST_START_MQ_CAUSE = 0x83))) ∧
  (∀ (d : List Byte) (s : State),
    (s.flag pgSvc F.SVC_STATUS_ATTACHED = false ∨ s.arm = none → exec (.serviceBulkOut d) s = .next s) ∧
    (∀ o, s.flag pgSvc F.SVC_STATUS_ATTACHED = true → s.arm = some o → o.source = .service → o.op = 1 → o.checking = false →
      (d = [] → exec (.serviceBulkOut d) s = .next { s with arm := some { o with checking := true } }) ∧
      (d ≠ [] → Does (.serviceBulkOut d) s fun t => t.svc.got = s.svc.got + d.length ∧
        (s.svc.got + d.length ≤ slotSize → s.copyFault = false → memBytes t.mram (slotBase o.slot + s.svc.got) d.length = d) ∧
        (s.copyFault = true → t.mram = s.mram) ∧
        (∀ a, a < slotBase o.slot + s.svc.got ∨ slotBase o.slot + slotSize ≤ a → memByte t.mram a = memByte s.mram a))) ∧
    (∀ o, s.arm = some o → o.source = .service ∧ o.op ≠ 1 ∨ o.source = .service ∧ o.checking = true ∨ (∃ h, o.source = .half h) →
      exec (.serviceBulkOut d) s = .next s ∧ exec .serviceWriteStall s = .next s)) ∧
  (∀ s : State, s.arm = none ∨ (∃ o, s.arm = some o ∧ o.source = .service ∧ o.op = 1 ∧ o.checking = false) → Does .serviceWriteStall s fun t =>
    t.arm = none ∧ (∀ k : Fin 2, t.slotState k = if s.slotState k = 3 then 2 else s.slotState k) ∧ SameMem s t) ∧
  (∀ (p : Fin 2) (hdr : PeerHdr) (off : Nat) (d : List Byte) (l : Bool) (s : State),
    (Goes (.peerImageData p hdr off d l) s) ∧
    (s.fetching 4 = false → Does (.peerImageData p hdr off d l) s fun t => SameMem s t ∧ t.start = s.start) ∧
    (s.plkUp p = true → frameIs 7 hdr = true → hdr.major = 1 → s.imageDomain = none ∨ s.imageDomain = some hdr.domainId.toNat → s.fetching 4 = true →
      s.start.cands = [] ∨ s.start.cands = [p.val] → off = s.start.got → s.start.target < 2 → Does (.peerImageData p hdr off d l) s fun t =>
        t.start.got = s.start.got + d.length ∧ t.start.cands = [p.val] ∧
        (s.copyFault = false → s.start.got + d.length ≤ slotSize → memBytes t.mram (slotBase s.start.target + s.start.got) d.length = d)))

/-- Clearing a set alert latch within 100 ms of its last setting waits for the rest of them and then clears it; later it clears at once, and a
clear latch stays. Attachment shows the levels and opens a session where the port may be attached; detachment ends it, with the operation
in progress. KAL_INC counts each named counter, saturating; KAL_RTC_HI sets all 48 bits with the held low word; reserved bits leave the
count free (R6). A half in reset sees no PCI event (the PCI Function of Half A leaves reset for a start from PCIe), and whether a partner
is there is kept for its next discovery; a trained link shows width, speed and identity and is Present or Mismatched; a failed one is
Faulted and a removed one Absent. -/
def Obligations.ServicePortAndPins : Prop :=
  (∀ (rq : Requester) (s : State), Admitted rq pgSvc s →
    (s.flag pgSvc F.SVC_ALERT_CLEAR = false → exec (.svcAlertClear rq) s = .next s.ack) ∧
    (s.flag pgSvc F.SVC_ALERT_CLEAR = true → s.time < s.pw.alertLast + 100000 →
      exec (.svcAlertClear rq) s = .next { s.ack with pw := { s.pw with alertDue := true } }) ∧
    (s.flag pgSvc F.SVC_ALERT_CLEAR = true → s.pw.alertLast + 100000 ≤ s.time → Does (.svcAlertClear rq) s fun t =>
      t.flag pgSvc F.SVC_ALERT_CLEAR = false ∧ t.flag pgSvc F.SVC_STATUS_ALERT = false ∧ t.pw.alertDue = false)) ∧
  (∀ s : State, (s.pw.alertDue = true → s.copyFault = false → Does .alertClearDelayed s fun t =>
      t.flag pgSvc F.SVC_ALERT_CLEAR = false ∧ t.flag pgSvc F.SVC_STATUS_ALERT = false ∧ t.pw.alertDue = false ∧
      KeepsRegs (fun p _ => p ≠ pgSvc) s t ∧ SameMem s t) ∧
    (s.pw.alertDue = false ∨ s.copyFault = true → exec .alertClearDelayed s = .next s)) ∧
  (∀ (low : Bool) (s : State), Does (.serviceAttach low) s fun t =>
    t.flag pgSvc F.SVC_STATUS_VBUS = true ∧ t.flag pgSvc F.SVC_STATUS_SERVICE = low ∧
    t.flag pgSvc F.SVC_STATUS_ATTACHED = (s.flag pgSvc F.SVC_STATUS_ATTACHED || s.svcMay low) ∧ SameMem s t ∧ KeepsRegs (fun p _ => p ≠ pgSvc) s t) ∧
  (∀ (vbus low : Bool) (s : State), Does (.serviceDetach vbus low) s fun t =>
    t.flag pgSvc F.SVC_STATUS_VBUS = vbus ∧ t.flag pgSvc F.SVC_STATUS_SERVICE = low ∧
    t.flag pgSvc F.SVC_STATUS_ATTACHED = (s.flag pgSvc F.SVC_STATUS_ATTACHED && vbus && s.svcMay low) ∧
    (∀ o, s.flag pgSvc F.SVC_STATUS_ATTACHED = true → (vbus && s.svcMay low) = false → s.arm = some o → o.source = .service → t.arm = none) ∧
    (s.flag pgSvc F.SVC_STATUS_ATTACHED = true → (vbus && s.svcMay low) = false → ∀ o, s.lcs = some o → o.service = true → t.lcs = none) ∧
    ((vbus && s.svcMay low) = true ∨ s.lcs = none → SameMem s t)) ∧
  (∀ (rq : Requester) (s : State), Admitted rq pgKal s →
    (∀ m : BitVec 4, Does (.kalInc rq m) s fun t => (∀ n : Fin 4, t.get pgKal (F.KAL_MCNT_COUNT.at (4 * n)) =
      if m.getLsbD n then min (2 ^ F.KAL_MCNT_COUNT.width - 1) (s.get pgKal (F.KAL_MCNT_COUNT.at (4 * n)) + 1) else s.get pgKal (F.KAL_MCNT_COUNT.at (4 * n))) ∧
      SameMem s t ∧ KeepsRegs (fun p _ => p ≠ pgKal) s t) ∧
    (∀ v : Word, 65536 ≤ v.toNat → exec (.kalRtcHiWrite rq v) s = .next ((s.ack.unpredictable pgKal 0xC).wildStatus pgKal [F.KAL_RTC_LO_TICK])) ∧
    (∀ v : Word, v.toNat < 65536 → Does (.kalRtcHiWrite rq v) s fun t =>
      t.rtc = v.toNat * 2 ^ 32 + (match s.pw.rtcHeld with | none => s.get pgKal F.KAL_RTC_LO_TICK | some lo => lo.toNat) ∧ t.pw.rtcHeld = none ∧
      SameMem s t ∧ KeepsRegs (fun p _ => p ≠ pgKal) s t)) ∧
  (∀ (h : Half) (e : PciEvent) (s : State), s.pciHeld h = true ∨ s.noPower = true → exec (.pciPresenceChange h e) s = .next (s.setPciIn h (e ≠ .removed))) ∧
  (∀ (h : Half) (s : State), s.pciHeld h = false → s.noPower = false →
    (s.disc (pgPci h) 0 = 2 ∨ s.disc (pgPci h) 0 = 3 → exec (.pciPresenceChange h .presence) s = .next (s.setPciIn h true)) ∧
    (s.disc (pgPci h) 0 ≠ 2 → s.disc (pgPci h) 0 ≠ 3 → exec (.pciPresenceChange h .presence) s = .next ((s.setPciIn h true).discSet (pgPci h) 0 1)) ∧
    (∀ (d v u : Word) (l sp vf : Nat), let want := Config.imagePci (s.image (Half.die h)) (Half.num h)
      Does (.pciPresenceChange h (.trained d v u l sp vf)) s fun t => t.flag (pgPci h) F.PCI_STATUS_LINK = true ∧
        t.disc (pgPci h) 0 = (if BitVec.ofNat 32 (d.toNat % 65536 * 65536 + v.toNat % 65536) = want.1 ∧ u = want.2 then 2 else 3) ∧ SameMem s t) ∧
    (Does (.pciPresenceChange h .removed) s fun t => t.disc (pgPci h) 0 = 0 ∧ t.flag (pgPci h) F.PCI_STATUS_LINK = false ∧ t.get (pgPci h) F.PCI_STATUS_WIDTH = 0 ∧ SameMem s t) ∧
    (Does (.pciPresenceChange h .trainingFailed) s fun t => t.disc (pgPci h) 0 = 4 ∧ t.flag (pgPci h) F.PCI_STATUS_LINK = false ∧ SameMem s t))

/-- RST_CTRL of a page that does not exist leaves its status free (R394), and that of a Function that is neither idle nor off leaves the
Function as an unpredictable result does (R393) and ends with RESULT 0; a page that is no resettable Function answers NOT_RESETTABLE and
changes nothing else. A reset Function's class F fields take their reset values, and DONE shows with RESULT 0. Of a check-value unit, in a
state in canonical form (an invariant of every step), the other registers stay and its scan ends. A Partition reset always completes with
RESULT 0, and a command that meets one of the other half in the same Plinth cycle with BUSY. Neither changes a byte of DRAM, scratchpad or
MRAM where it resets a check-value unit. -/
def Obligations.ResetCommands : Prop :=
  (∀ (rq : Requester) (pl : Bool) (page : Nat) (s : State), Admitted rq (pgRstH rq.half) s →
    let u := (s.ack.rstTurn rq.half).2
    let mine := (s.ack.rstTurn rq.half).1 = false
    (∃ t, exec (.rstFuncReset rq pl page) s = .next t ∧ (¬mine → t = u.rstDone rq.half 1)) ∧
    (mine → pageExists rq.half pl page = false → exec (.rstFuncReset rq pl page) s =
      .next (u.wildStatus (pgRstH rq.half) [F.RST_STATUS_DONE, F.RST_STATUS_RESULT])) ∧
    (mine → pageExists rq.half pl page = true →
      let idle := if pl then s.plinthFuncIdle page else s.halfFuncIdle rq.half page
      (idle = none → exec (.rstFuncReset rq pl page) s = .next ((u.put (pgRstH rq.half) F.RST_STATUS_DONE 1).put (pgRstH rq.half) F.RST_STATUS_RESULT 2)) ∧
      (idle = some false → s.funcOff rq.half pl page = false → exec (.rstFuncReset rq pl page) s =
        .next ((u.unpredictable (if pl then plinthPg page else halfPg rq.half page) 0).rstDone rq.half 0)) ∧
      (idle = some true ∨ (idle = some false ∧ s.funcOff rq.half pl page = true) → Does (.rstFuncReset rq pl page) s fun t =>
        t.flag (pgRstH rq.half) F.RST_STATUS_DONE = true ∧ t.get (pgRstH rq.half) F.RST_STATUS_RESULT = 0))) ∧
  (∀ (rq : Requester) (n : Fin 4) (s : State), Admitted rq (pgRstH rq.half) s → (s.ack.rstTurn rq.half).1 = false → s.Canon → s.flag (pgCvu rq.half n) F.CVU_STATUS_BUSY = false →
    Does (.rstFuncReset rq false (0x50 + n)) s fun t => t.scan rq.half n = {} ∧ t.get (pgCvu rq.half n) F.CVU_RESULT_VALUE = 0 ∧
      t.get (pgCvu rq.half n) F.CVU_LEN_VALUE = 0 ∧ SameMem s t ∧ KeepsRegs (fun p _ => p ≠ pgCvu rq.half n ∧ p ≠ pgRstH rq.half) s t) ∧
  (∀ (rq : Requester) (part : Fin 16) (s : State), Admitted rq (pgRstH rq.half) s → Does (.rstPartReset rq part) s fun t =>
    t.flag (pgRstH rq.half) F.RST_STATUS_DONE = true ∧
    t.get (pgRstH rq.half) F.RST_STATUS_RESULT = if (s.ack.rstTurn rq.half).1 then 1 else 0)

/-- While power is there and VIN is at least 2.7 V, a step down shows VIN and, where VIN gives a worse tier, takes it and its effects; a step
up goes one tier up where VIN has reached that tier's step-up level and no power-limited hold keeps it. A power-limit step shows the
powers, sets PLIM, records one event, takes the worse of the tier in force and one below VTIER (at most T4) and holds; the hold ends at
its end event. VTIER follows the thresholds 8.0, 6.0, 4.5 and 3.3 V. -/
def Obligations.TierChanges : Prop :=
  (∀ (mv : Nat) (s : State), s.noPower = false → 2700 ≤ mv → exec (.tierStepDown mv) s = .next (
    let u := (({ s with pw := { s.pw with vinMv := mv } }).put pgShd F.SHD_VOLT_VIN (min 0xFFFF mv)).put pgShd F.SHD_STATUS_VTIER (vinTier mv)
    if u.tier < vinTier mv then (u.setTier (vinTier mv) .tier).tierApply else u)) ∧
  (∀ (mv : Nat) (s : State), s.noPower = true ∨ mv < 2700 → exec (.tierStepDown mv) s = .next s ∧ exec (.tierStepUp mv) s = .next s) ∧
  (∀ (mv : Nat) (s : State), s.noPower = false → 2700 ≤ mv →
    let u := (({ s with pw := { s.pw with vinMv := mv } }).put pgShd F.SHD_VOLT_VIN (min 0xFFFF mv)).put pgShd F.SHD_STATUS_VTIER (vinTier mv)
    (s.tier = 0 ∨ mv < stepUpAt s.tier ∨ s.pw.limitHold = true → exec (.tierStepUp mv) s = .next u) ∧
    (s.tier ≠ 0 → stepUpAt s.tier ≤ mv → s.pw.limitHold = false →
      ((u.setTier (s.tier - 1) .tier).applied = false → exec (.tierStepUp mv) s = .next (u.setTier (s.tier - 1) .tier)) ∧
      ((u.setTier (s.tier - 1) .tier).applied = true → exec (.tierStepUp mv) s = .next (
        let v := if s.tier = 4 then (u.setTier (s.tier - 1) .tier).leaveFour else u.setTier (s.tier - 1) .tier
        (if v.tier ≤ 1 then (v.unparkHalf .A).unparkHalf .B else v).raiseAll)))) ∧
  (∀ (c : Fin 4) (a b : BitVec 16) (s : State), s.noPower = false → c.val ≠ 0 → exec (.powerLimitStep c a b) s = .next (
    let u := ((s.put pgShd F.SHD_PIN_P1S a.toNat).put pgShd F.SHD_PIN_P100 b.toNat).put pgShd F.SHD_STATUS_PLIM 1
    let t := max u.tier (min 4 (u.get pgShd F.SHD_STATUS_VTIER + 1))
    let v := u.funcEvent pgShd 0x09 (b1 c ++ b1 t ++ [0] ++ b2 a.toNat ++ b2 b.toNat)
    let v := { v with pw := { v.pw with limitHold := true } }
    if v.tier < t then (v.setTier t .tier).tierApply else v)) ∧
  (∀ s : State, exec .powerLimitHoldEnd s = .next { s with pw := { s.pw with limitHold := false } }) ∧
  (∀ mv, vinTier mv = if 8000 ≤ mv then 0 else if 6000 ≤ mv then 1 else if 4500 ≤ mv then 2 else if 3300 ≤ mv then 3 else 4)

/-- A write of PWR_REQ takes the REQ bits with the pinned ones set, one of SHD_REQ its 22 bits, and wanted domains go on; reserved bits leave
the requests free, the pinned bits apart (R415). A pending domain whose needs are met is On once its power is up (MC0 and MC1 once the
DRAM is trained), and further wanted domains follow; a domain that is On, unwanted, not pinned, needed by none and idle starts its
shutdown; one that is Shutting or Pending On after it becomes Off; with PLK the links of its ports go. In every other case the event
changes nothing. -/
def Obligations.PowerDomains : Prop :=
  (∀ (rq : Requester) (v : Word) (s : State), Admitted rq (pgPwr rq.half) s →
    (v.getLsbD 31 = false → exec (.pwrReqWrite rq v) s = .next
      ((s.ack.put (pgPwr rq.half) F.PWR_REQ_REQ (v.toNat ||| (2 ^ 10 + 2 ^ 24 + 2 ^ 25 + 2 ^ 30))).domRaise rq.half)) ∧
    (v.getLsbD 31 = true → exec (.pwrReqWrite rq v) s = .next
      ((s.ack.takeFree.2.put (pgPwr rq.half) F.PWR_REQ_REQ (s.ack.takeFree.1 ||| (2 ^ 10 + 2 ^ 24 + 2 ^ 25 + 2 ^ 30))).domRaise rq.half))) ∧
  (∀ (rq : Requester) (v : Word) (s : State), Admitted rq pgShd s →
    (v.toNat < 2 ^ 22 → exec (.shdReqWrite rq v) s = .next (s.ack.put pgShd F.SHD_REQ_REQ v.toNat).pdomRaise) ∧
    (2 ^ 22 ≤ v.toNat → exec (.shdReqWrite rq v) s = .next (s.ack.takeFree.2.put pgShd F.SHD_REQ_REQ s.ack.takeFree.1).pdomRaise)) ∧
  (∀ (h : Half) (d : Fin 31) (s : State),
    (s.domain h d = 1 → (∀ n, domNeeds d = some n → s.domain h n = 2 ∨ s.domain h n = 3) → (d.val < 26 ∨ d.val = 30) →
      (d.val = 24 ∨ d.val = 25 → (s.hs h).dram.trained = true) → exec (.domainPowerOnDone (Half.die h) d) s = .next ((s.domOn h d).domRaise h)) ∧
    (d.val = 24 ∨ d.val = 25 → (s.hs h).dram.trained = false → exec (.domainPowerOnDone (Half.die h) d) s = .next s) ∧
    (s.domain h d ≠ 1 → exec (.domainPowerOnDone (Half.die h) d) s = .next s) ∧
    (s.domain h d = 2 ∨ s.domain h d = 3 → s.domWanted h d = false → pinned d = false → s.domFree h d = true → s.domIdle h d = true →
      exec (.domainSwitchOff (Half.die h) d) s = .next (s.domStop h d)) ∧
    (s.domWanted h d = true ∨ pinned d = true ∨ s.domIdle h d = false → exec (.domainSwitchOff (Half.die h) d) s = .next s) ∧
    (s.domain h d = 4 ∨ s.domain h d = 5 → (d.val < 26 ∨ d.val = 30) → exec (.domainShutdownDone (Half.die h) d) s = .next ((s.domGone h d).domRaise h)) ∧
    (s.domain h d ≠ 4 → s.domain h d ≠ 5 → exec (.domainShutdownDone (Half.die h) d) s = .next s)) ∧
  (∀ (d : Fin 31) (s : State),
    (s.pdomain d = 1 → (∀ n, pdomNeeds d = some n → s.pdomain n = 2) → exec (.domainPowerOnDone .P d) s = .next (s.pdomOn d).pdomRaise) ∧
    (s.pdomain d = 2 → s.pdomWanted d = false → s.pdomFree d = true → s.pdomIdle d = true → exec (.domainSwitchOff .P d) s = .next (s.setPdomain d 4)) ∧
    (s.pdomain d = 4 ∨ s.pdomain d = 5 → d.val ≠ 21 → exec (.domainShutdownDone .P d) s = .next (s.pdomGone d).pdomRaise) ∧
    (s.pdomain 21 = 4 ∨ s.pdomain 21 = 5 → exec (.domainShutdownDone .P 21) s = .next (((s.plkFall 0).plkFall 1).pdomGone 21).pdomRaise))

/-- An overload turns the output off, sets its fault bit and ALERT_N and records one event; an output that is off ignores it. Clearing a set
fault bit turns the output on again, and clearing a clear one does nothing. A thermal sample reads the three sensors while power is there:
a die below every threshold it holds shows its temperature as a two's complement byte and nothing more than its maximum follows; without
power nothing changes. The cap of a half bounds the clocks of its cores (2200, 1600 or 1100 MHz) and of its raster engine (at most 1500,
1000 or 600 MHz), which never passes that of the cores and stops in T4. -/
def Obligations.VioAndTemperature : Prop :=
  (∀ (v18 : Bool) (s : State),
    ((if v18 then s.pw.vio18 else s.pw.vio33) = true → exec (.vioOverload v18) s = .next
      ((({ s with pw := if v18 then { s.pw with vio18 := false } else { s.pw with vio33 := false } }).put pgShd
        (if v18 then F.SHD_STATUS_VIO18_F else F.SHD_STATUS_VIO33_F) 1).alert.event (srcOf pgShd) 0x00B0 (leBytes 1 8 ++ leBytes 1 (if v18 then 1 else 0)))) ∧
    ((if v18 then s.pw.vio18 else s.pw.vio33) = false → exec (.vioOverload v18) s = .next s)) ∧
  (∀ (rq : Requester) (v18 : Bool) (s : State), Admitted rq pgShd s →
    let f := if v18 then F.SHD_STATUS_VIO18_F else F.SHD_STATUS_VIO33_F
    (s.flag pgShd f = true → exec (.vioFaultClear rq v18) s = .next
      { s.ack.put pgShd f 0 with pw := if v18 then { s.pw with vio18 := true } else { s.pw with vio33 := true } }) ∧
    (s.flag pgShd f = false → exec (.vioFaultClear rq v18) s = .next s.ack)) ∧
  (∀ (a b p : Int) (s : State), s.noPower = true → exec (.thermalSample a b p) s = .next s) ∧
  (∀ (a b p : Int) (s : State), s.noPower = false → exec (.thermalSample a b p) s = .next ((((s.thermHalf .A a).thermHalf .B b).thermPlinth p).rearmGo)) ∧
  (∀ (h : Half) (t : Int) (s : State), -128 ≤ t → t < 105 → s.thermPark h = false →
    (s.thermHalf h t).get (pgPwr h) F.PWR_THERM_TJ = (t % 256).toNat ∧ (s.thermHalf h t).get (pgPwr h) F.PWR_THERM_CAP = 0 ∧
    SameMem s (s.thermHalf h t) ∧ KeepsRegs (fun p _ => p ≠ pgPwr h) s (s.thermHalf h t)) ∧
  (∀ (h : Half) (s : State), s.rasterMhz h ≤ s.coreMhz h ∧ (s.tier = 4 → s.rasterMhz h = 0) ∧
    (s.get (pgPwr h) F.PWR_THERM_CAP = 0 → s.coreMhz h = 2200 ∧ (s.tier = 0 → s.rasterMhz h = 1500) ∧ (s.tier = 1 ∨ s.tier = 2 → s.rasterMhz h = 1000)) ∧
    (s.get (pgPwr h) F.PWR_THERM_CAP = 1 → s.coreMhz h = 1600 ∧ s.rasterMhz h ≤ 1000) ∧
    (s.get (pgPwr h) F.PWR_THERM_CAP = 2 → s.coreMhz h = 1100 ∧ s.rasterMhz h ≤ 600)) ∧
  (thermLevel 0 109 = 0 ∧ thermLevel 0 110 = 1 ∧ thermLevel 1 106 = 1 ∧ thermLevel 1 104 = 0 ∧ thermLevel 0 120 = 2 ∧ thermLevel 3 126 = 3 ∧ thermLevel 3 124 = 2)

/-- PAT_HOST.EVENT writes the event of the host's code with the nine PAT_HOST words as DATA; PAT_CMD.SNAP writes the SNAP event, which is a
trigger; LOCK and UNLOCK of a position with a valid descriptor set its LOCK byte, recompute its CRC and show the bit in PAT_STATUS.LOCKED,
changing no other byte of any memory; LOCK and UNLOCK of the position that is being closed are kept for its descriptor; of any other
position they change nothing. -/
def Obligations.PatinaHostEvents : Prop :=
  (∀ (rq : Requester) (code : BitVec 12) (s : State), Admitted rq pgPat s →
    exec (.patHostEvent rq code) s = .next (s.ack.event ((match rq.half with | .A => 0x4000 | .B => 0x8000) + 0x48) (0xF000 + code.toNat)
      ((List.range 9).flatMap fun w => leBytes 4 (s.reg pgPat (0x40 + 4 * w)).toNat) false true)) ∧
  (∀ (rq : Requester) (s : State), Admitted rq pgPat s →
    exec (.patSnap rq) s = .next (s.ack.event 0x48 0x0005 [BitVec.ofNat 8 (match rq.half with | .A => 1 | .B => 2)] true)) ∧
  (∀ (rq : Requester) (pos : Fin 8) (lock : Bool) (s : State), Admitted rq pgPat s →
    let c : Instr := if lock then .patLock rq pos else .patUnlock rq pos
    (s.snapValid pos = true → Does c s fun t =>
      memByte t.mram (descBase + 0x100 * pos + 4) = (if lock then 1 else 0) ∧
      (∀ a, a ≠ descBase + 0x100 * pos + 4 → (a < descBase + 0x100 * pos + 0xFC ∨ descBase + 0x100 * pos + 0x100 ≤ a) →
        memByte t.mram a = memByte s.mram a) ∧
      memBytes t.mram (descBase + 0x100 * pos + 0xFC) 4 = leBytes 4 (crc32c (memBytes t.mram (descBase + 0x100 * pos) 0xFC)) ∧
      t.dramA = s.dramA ∧ t.dramB = s.dramB ∧ t.spmA = s.spmA ∧ t.spmB = s.spmB ∧
      t.snapLocked pos = lock ∧ (∀ q : Fin 8, q ≠ pos → t.snapLocked q = s.snapLocked q) ∧
      KeepsRegs (fun p o => p ≠ pgPat ∨ o ≠ F.PAT_STATUS_LOCKED.off) s t) ∧
    (∀ k, s.snapValid pos = false → s.pat.closing = some k → k.pos = pos →
      exec c s = .next { s.ack with pat := { s.pat with closing := some { k with lock := lock } } }) ∧
    (s.snapValid pos = false → (∀ k, s.pat.closing = some k → k.pos ≠ pos) → exec c s = .next s.ack))

/-- Reading the first word of a slot of the selected block answers that word and holds a copy of the slot's 64 bytes; it changes no memory and
no register. PATINA_MRAM_WRITE outside the start read takes as many events from the front of the buffer as are asked for, at most 64 in
one millisecond. PATINA_SCAN_DONE ends the start read and writes no memory. SNAPSHOT_CLOSE with a snapshot closing ends it: its descriptor
is valid, CLOSING reads 0, and memory outside the ring and outside that descriptor stays. -/
def Obligations.PatinaReads : Prop :=
  (∀ (rq : Requester) (k : Fin 64) (s : State), AdmittedRead rq pgPat s (0x1000 + 64 * k.val) →
    Does (.patSlotRead rq k) s fun t =>
      let bs := memBytes s.mram (ringBase + 64 * ((s.get pgPat F.PAT_RSEL_SLOT + k) % ringSlots)) 64
      t = { s with pat := { s.pat with copies := tblInsert k bs s.pat.copies }, reply := .ok (leNat (bs.take 4)) }) ∧
  (∀ (n : Nat) (s : State), s.flag pgPat F.PAT_STATUS_SCAN = false → Does (.patinaMramWrite n) s fun t =>
    let used := if s.pat.rateMs = s.time / 1000 then s.pat.rateCount else 0
    let k := min (min n s.pat.buf.length) (64 - used)
    t.pat.buf = s.pat.buf.drop k ∧ t.pat.rateMs = s.time / 1000 ∧ t.pat.rateCount = used + k ∧
      (∀ a, a < ringBase ∨ ringBase + 64 * ringSlots ≤ a → memByte t.mram a = memByte s.mram a) ∧
      t.dramA = s.dramA ∧ t.dramB = s.dramB ∧ t.spmA = s.spmA ∧ t.spmB = s.spmB ∧
      KeepsRegs (fun p o => p ≠ pgPat ∨ (o ≠ F.PAT_SEQ_LO_SEQ.off ∧ o ≠ F.PAT_SEQ_HI_SEQ.off)) s t) ∧
  (∀ s : State, s.flag pgPat F.PAT_STATUS_SCAN = true → Does .patinaScanDone s fun t =>
    t.flag pgPat F.PAT_STATUS_SCAN = false ∧ t.pat.early = [] ∧ SameMem s t ∧ KeepsRegs (fun p _ => p ≠ pgPat) s t) ∧
  (∀ (k : PatClosing) (s : State), s.pat.closing = some k → k.pos < 8 → Does .snapshotClose s fun t =>
    t.pat.closing = none ∧ t.flag pgPat F.PAT_STATUS_CLOSING = false ∧ t.snapValid k.pos = true ∧ t.snapLocked k.pos = k.lock ∧
      (∀ a, (a < ringBase ∨ ringBase + 64 * ringSlots ≤ a) → (a < descBase + 0x100 * k.pos ∨ descBase + 0x100 * k.pos + 0x100 ≤ a) →
        memByte t.mram a = memByte s.mram a) ∧
      t.dramA = s.dramA ∧ t.dramB = s.dramB ∧ t.spmA = s.spmA ∧ t.spmB = s.spmB ∧ KeepsRegs (fun p _ => p ≠ pgPat) s t)

/-- A store to DRAM, scratchpad or PCIe addresses is no register write and changes nothing; one to an address without a page is dropped: a
core takes an access fault, and nothing else changes. A store that its page admits has the unpredictable result of R449 unless it is 4
bytes wide and aligned, or its chapter ignores writes of that register. To an address without a register it is dropped too; with a
reserved bit or a reserved OP it has the unpredictable result that the chapter of the page confines, but for the latched copies of a pipe,
which keep the reserved bits; else each RW bit takes the value, each W1C bit written as 1 is cleared, each W1S bit written as 1 is set,
every other bit and every bit that a command of its own writes keeps its value, and no other register and no memory changes. The
exceptions are the registers that a rule of their own ties to a second effect. -/
def Obligations.RegisterWrite : Prop :=
  (∀ (rq : Requester) (a w : Nat) (v : Word) (s : State), notRegister a = true → exec (.registerWrite rq a w v) s = .next s) ∧
  (∀ (rq : Requester) (a w : Nat) (v : Word) (s : State), notRegister a = false → regPage rq.half a = none →
    exec (.registerWrite rq a w v) s = .next (s.dropped rq)) ∧
  (∀ (rq : Requester) (a w : Nat) (v : Word) (s : State) (p via : Pg) (k : PageKind), notRegister a = false → regPage rq.half a = some (p, via) →
    p.kind = some k → k ≠ .insq →
    let off := a % 0x10000
    (¬Admitted rq via s off → exec (.registerWrite rq a w v) s =
      .next (if s.windowAdmits rq via .write off then (if s.admits rq via && s.pageOn via then s.accessFault else s.dropped rq)
        else s.windowRefuse rq via .write off)) ∧
    (Admitted rq via s off →
      (w ≠ 4 ∨ a % 4 ≠ 0 → exec (.registerWrite rq a w v) s =
        .next (if s.writeIgnored rq.half p k (off / 4 * 4) then s.ack else s.ack.unpredictable p off)) ∧
      (w = 4 → a % 4 = 0 → k = .plk → 0x1000 ≤ off → off < 0x6000 → Does (.registerWrite rq a w v) s fun t =>
        memBytes t.peer.txWin (off - 0x1000) 4 = leBytes 4 v.toNat ∧ t.regs = s.regs ∧ SameMem s t) ∧
      (w = 4 → a % 4 = 0 → ¬(k = .plk ∧ 0x1000 ≤ off ∧ off < 0x6000) →
        (roWindow k off = true → exec (.registerWrite rq a w v) s = .next s.ack) ∧
        (roWindow k off = false → regAt k off = none → exec (.registerWrite rq a w v) s = .next (s.ack.dropped rq)) ∧
        (∀ r, regAt k off = some r → k = .cmp → isShadow off = true → s.writeIgnored rq.half p k off = true → exec (.registerWrite rq a w v) s = .next s.ack) ∧
        (∀ r, regAt k off = some r → k = .cmp → isShadow off = true → s.writeIgnored rq.half p k off = false → Does (.registerWrite rq a w v) s fun t =>
          (∀ i, i < 32 → (r.bits fun _ => true).testBit i = false → (t.reg p off).getLsbD i = v.getLsbD i) ∧
          KeepsRegs (fun q o => ¬(q = p ∧ o = off)) s t ∧ SameMem s t) ∧
        (∀ r, roWindow k off = false → regAt k off = some r → ¬(k = .cmp ∧ isShadow off = true) →
          (reservedSet r v ≠ 0 ∨ reservedOp k off v = true → exec (.registerWrite rq a w v) s = .next (s.ack.reservedWrite rq.half p k off)) ∧
          (reservedSet r v = 0 → reservedOp k off v = false → s.writeIgnored rq.half p k off = true → exec (.registerWrite rq a w v) s = .next s.ack) ∧
          (reservedSet r v = 0 → reservedOp k off v = false → s.writeIgnored rq.half p k off = false → ¬(k = .aud ∧ 0x4000 ≤ off) → ¬(k = .kal ∧ off = 8) →
            ¬(k = .spm ∧ off = 8) → ¬(k = .wld ∧ off = 0x10) → ¬(k = .rst ∧ 0x40 ≤ off) → ¬(k = .plk ∧ off = 0x14) → Does (.registerWrite rq a w v) s fun t =>
              (∀ i, i < 32 → (t.reg p off).getLsbD i =
                ((if (r.bits fun f => f.acc = .rw || (heldWord k off && f.acc = .wo)).testBit i && !(ownBits k off).testBit i then v.getLsbD i
                  else (s.reg p off).getLsbD i) &&
                 !(v.getLsbD i && (r.bits fun f => f.acc = .w1c).testBit i && !(ownBits k off).testBit i) ||
                 (v.getLsbD i && (r.bits fun f => f.acc = .w1s).testBit i && !(ownBits k off).testBit i))) ∧
              KeepsRegs (fun q o => ¬(q = p ∧ o = off)) s t ∧ SameMem s t ∧ t.reply = .ok 0))))) ∧
  (∀ (rq : Requester) (a w : Nat) (v : Word) (s : State) (p via : Pg), notRegister a = false → regPage rq.half a = some (p, via) → p.kind = some .insq →
    (s.pageOn p = false → exec (.registerWrite rq a w v) s = .next (s.dropped rq)) ∧
    (s.pageOn p = true → s.insqAdmits rq ((p.code - 0x401) / 2) = false → exec (.registerWrite rq a w v) s = .next s.ack) ∧
    (s.pageOn p = true → s.insqAdmits rq ((p.code - 0x401) / 2) = true → w ≠ 4 ∨ a % 4 ≠ 0 →
      exec (.registerWrite rq a w v) s = .next (s.ack.unpredictable p (a % 0x10000))))

/-- A read returns a register's RW, RO and W1 bits as they are and zero for WO fields and reserved bits. A read of DREC_STATUS answers the
word and holds the identity and time words of the position for the reads that follow; of a position the page does not have, and of a page
that does not admit it, it is dropped: it answers 0, to a core an access fault. PLINTH_COPY_DISAGREE happens once: it holds the condition
of R15, asserts the alert and stops a REARM. -/
def Obligations.DiscoveryReadAndCopyFault : Prop :=
  (∀ (p : Pg) (k : PageKind) (off i : Nat) (r : RegD) (s : State), p.kind = some k → regAt k off = some r → i < 32 →
    roWindow k off = false → ¬(k = .plk ∧ 0x1000 ≤ off ∧ off < 0x6000) → ¬(k = .aud ∧ 0x4000 ≤ off) →
    (s.readReg p off).getLsbD i = ((s.reg p off).getLsbD i && (r.bits fun f => f.acc ≠ .wo).testBit i)) ∧
  (∀ (rq : Requester) (pl : Bool) (page : Nat) (n : Fin 256) (s : State),
    let p := if pl then plinthPg page else halfPg rq.half page
    let at_ := 0xF000 + 0x10 * n.val
    (s.windowAdmits rq p .read at_ = false → exec (.drecStatusRead rq pl page n) s = .next (s.windowRefuse rq p .read at_)) ∧
    (s.windowAdmits rq p .read at_ = true → s.admits rq p = false ∨ s.pageOn p = false → exec (.drecStatusRead rq pl page n) s = .next (s.dropped rq)) ∧
    (∀ k, AdmittedRead rq p s at_ → p.kind = some k →
      (positions k ≤ n.val → exec (.drecStatusRead rq pl page n) s = .next (s.dropped rq)) ∧
      (n.val < positions k → Does (.drecStatusRead rq pl page n) s fun t =>
        t.reply = .ok (s.readReg p at_).toNat ∧
        (∀ o ∈ [4, 8, 0xC], tblGet (fun _ => (0 : Word)) t.held (p.key (at_ + o)) = s.reg p (at_ + o)) ∧ t.regs = s.regs ∧ SameMem s t))) ∧
  (∀ (g : Word) (s : State), (s.copyFault = true → exec (.plinthCopyDisagree g) s = .next s) ∧
    (s.copyFault = false → Does (.plinthCopyDisagree g) s fun t => t.copyFault = true ∧ t.rearm = none ∧ t.flag pgSvc F.SVC_ALERT_CLEAR = true))

/-- After reset the state is canonical and no command waits. Every register reads the OR of its fields' Reset values; the exceptions are the
colour tables, which hold min(4095, 16 i), and the priority of the compositor context, which is 7. Every byte of every memory reads 0 and
the classes kept across power read as in a new module: the spec gives no contents there (log entries 2 and 3, the model's choice). -/
def Obligations.ResetState : Prop :=
  State.reset.Canon ∧ State.reset.pending = [] ∧ State.reset.arm = none ∧ State.reset.hoRun = none ∧
  (∀ (p : Pg) (k : PageKind) (off : Nat) (r : RegD), p.code < 0x10000 → off < 0x10000 → p.kind = some k → regAt k off = some r →
    ¬(k = .cmp ∧ 0x2000 ≤ off ∧ off < 0x3800) → ¬(k = .rcx ∧ off = 4 ∧ p.code = 0x100) →
    State.reset.reg p off = BitVec.ofNat 32 (r.fields.foldl (fun a f => a ||| f.reset <<< f.lsb) 0)) ∧
  (∀ (h : Half) (n : Fin 8) (c : Fin 3) (i : Nat), i < 257 →
    State.reset.reg (pgCmp h n) (0x2000 + 0x800 * c.val + 4 * i) = BitVec.ofNat 32 (min 4095 (16 * i))) ∧
  (∀ h : Half, State.reset.get (pgRcx h 0) F.RCX_PRIO_PRIO = 7) ∧
  (∀ a, memByte State.reset.mram a = 0) ∧ (∀ h a, memByte (State.reset.dram h) a = 0) ∧ (∀ h a, memByte (State.reset.spm h) a = 0)

/-- Every command completes in every state, and so does every step: an unpredictable result is an unknown state of what its rule confines it
to, after which the module goes on (R9 to R11); no command ends in a fault or a refusal. -/
def Obligations.EveryCommandCompletes : Prop :=
  (∀ (c : Instr) (s : State), Goes c s) ∧ (∀ s : State, ∃ t, step s = .next t)

/-- A slot that ARM_ACTIVE shows for either half or for the Plinth is in force: a WRITE or ERASE to it leaves its state, its GEN and every
byte of MRAM unchanged, starts no operation, and, where neither the loader is busy nor the control copies disagree (their own results then
show), completes at once with RESULT SLOT_IN_FORCE and DONE. -/
def Obligations.SlotInForce : Prop :=
  ∀ (rq : Requester) (slot : Fin 2) (s : State) (c : Instr), c = .armWrite rq slot ∨ c = .armErase rq slot →
    Admitted rq (pgArmH rq.half) s →
    (s.get pgArm F.ARM_ACTIVE_A_SLOT = slot ∨ s.get pgArm F.ARM_ACTIVE_B_SLOT = slot ∨ s.get pgArm F.ARM_ACTIVE_PLINTH_SLOT = slot) →
    Does c s fun t =>
      t.reg pgArm (F.ARM_SLOT_STATE.at (4 * slot)).off = s.reg pgArm (F.ARM_SLOT_STATE.at (4 * slot)).off ∧ SameMem s t ∧
      t.arm = s.arm ∧ t.rearm = s.rearm ∧
      (s.copyFault = false → s.arm = none → s.rearm = none →
        t.get (pgArmH rq.half) F.ARM_STATUS_RESULT = 2 ∧ t.flag (pgArmH rq.half) F.ARM_STATUS_DONE = true ∧
        t.get (pgArmH rq.half) F.ARM_STATUS_BUSY = s.get (pgArmH rq.half) F.ARM_STATUS_BUSY)

/-- A field of W bits taken from a payload bitstream at bit k has as its bit i, for i below W, bit (k + i) mod 8 of the byte (k + i) div 8 of
the stream, and no bit from W up: the stream is read least significant bit first and the first bit of a field is its least significant. -/
def Obligations.PayloadBitstream : Prop :=
  ∀ (rd : Nat → Byte) (base k w i : Nat),
    (bitsAt rd base k w).testBit i = (decide (i < w) && (rd (base + (k + i) / 8)).getLsbD ((k + i) % 8))

/-- M(x, y) is x·y / 4095 rounded half up, and M(x, 4095) = x. The global alpha g is GA widened from 8 bits. A straight layer blends with the
alpha M(a, g); a premultiplied layer does and also takes each colour channel as M(s, g); an opaque layer ignores GA and alpha. The blend
itself is the table of R72, and a premultiplied result never passes 4095. -/
def Obligations.LayerBlend : Prop :=
  (∀ x y : Nat, mulUnit x y = (2 * x * y + 4095) / 8190 ∧ 2 * 4095 * mulUnit x y ≤ 2 * x * y + 4095 ∧ 2 * x * y + 4095 < 2 * 4095 * (mulUnit x y + 1)) ∧
  (∀ x : Nat, mulUnit x 4095 = x) ∧
  (∀ v : Nat, v < 256 → widen 8 v = v * 16 + v / 16) ∧
  (∀ (l : Layer) (d s : Px),
    let g := widen 8 l.ga
    let a := mulUnit s.a g
    let straight (d s : Nat) := (2 * (s * a + d * (4095 - a)) + 4095) / 8190
    let pre (d s : Nat) := min 4095 (mulUnit s g + mulUnit d (4095 - a))
    (l.blend = 0 → l.over d s = ⟨0, s.r, s.g, s.b⟩) ∧
    (l.blend = 1 → l.over d s = ⟨0, straight d.r s.r, straight d.g s.g, straight d.b s.b⟩) ∧
    (l.blend = 2 → l.over d s = ⟨0, pre d.r s.r, pre d.g s.g, pre d.b s.b⟩))

/-- Every output pixel of a pipe is the container of three 10-bit channels: R in bits 29:20, G in bits 19:10, B in bits 9:0, and bits 31:30
zero. -/
def Obligations.PixelContainer : Prop :=
  (∀ r g b : Nat, r < 1024 → g < 1024 → b < 1024 →
    container r g b / 2 ^ 20 = r ∧ container r g b / 2 ^ 10 % 1024 = g ∧ container r g b % 1024 = b ∧ container r g b < 2 ^ 30) ∧
  (∀ (rd : Nat → Word) (layers : List (Layer × (Nat → Nat → Byte))) (dmode px py v : Nat), composePixel rd layers dmode px py = some v →
    ∃ r g b : Nat, r < 1024 ∧ g < 1024 ∧ b < 1024 ∧ v = container r g b)
end

