-- ==== Sys2Proof/Laws/Tbl.lean ====
section
/-! SUPPORT. Sparse tables and byte memories: a read after a write, and every operation keeps the canonical form. -/

namespace Sys2Proof.Machine

variable {α : Type}

/-! ## A read after a write -/

theorem tblFind_insert (k j : Nat) (v : α) (m : List (Nat × α)) :
    tblFind j (tblInsert k v m) = if j = k then some v else tblFind j m := by
  induction m with
  | nil =>
    by_cases h : j = k
    · simp [tblInsert, tblFind, h]
    · simp [tblInsert, tblFind, h, Ne.symm h]
  | cons e r ih =>
    obtain ⟨i, w⟩ := e
    simp only [tblInsert]
    split
    · by_cases h : j = k
      · simp [tblFind, h]
      · simp [tblFind, h, Ne.symm h]
    · split
      · subst i
        by_cases h : j = k
        · simp [tblFind, h]
        · simp [tblFind, h, Ne.symm h]
      · by_cases h : i = j
        · subst h
          simp_all [tblFind]
        · simp [tblFind, h, ih]

theorem tblFind_erase (k j : Nat) (m : List (Nat × α)) :
    tblFind j (tblErase k m) = if j = k then none else tblFind j m := by
  induction m with
  | nil => simp [tblErase, tblFind]
  | cons e r ih =>
    obtain ⟨i, w⟩ := e
    by_cases h : i = k <;> by_cases h2 : j = k <;> by_cases h3 : i = j <;> simp_all [tblErase, tblFind]

theorem tblSet_eq [DecidableEq α] (d : Nat → α) (m : List (Nat × α)) (k : Nat) (v : α) :
    tblSet d m k v = if v = d k then tblErase k m else tblInsert k v m := by
  cases m <;> simp [tblSet, tblErase, tblInsert]

/-- What a table reads after a write: the value written at its key, as before elsewhere. -/
theorem tblGet_set [DecidableEq α] (d : Nat → α) (m : List (Nat × α)) (k j : Nat) (v : α) :
    tblGet d (tblSet d m k v) j = if j = k then v else tblGet d m j := by
  by_cases h : v = d k <;> by_cases h2 : j = k <;>
    simp [tblSet_eq, tblGet, h, h2, tblFind_insert, tblFind_erase]

@[simp] theorem tblGet_set_same [DecidableEq α] (d : Nat → α) (m : List (Nat × α)) (k : Nat) (v : α) :
    tblGet d (tblSet d m k v) k = v := by simp [tblGet_set]

theorem tblGet_set_ne [DecidableEq α] (d : Nat → α) (m : List (Nat × α)) {k j : Nat} (v : α) (h : j ≠ k) :
    tblGet d (tblSet d m k v) j = tblGet d m j := by simp [tblGet_set, h]

theorem tblFind_keep (p : Nat → Bool) (m : List (Nat × α)) (j : Nat) :
    tblFind j (tblKeep p m) = if p j then tblFind j m else none := by
  induction m with
  | nil => simp [tblKeep, tblFind]
  | cons e r ih =>
    obtain ⟨i, w⟩ := e
    simp only [tblKeep] at ih ⊢
    by_cases h : i = j <;> by_cases h2 : p i <;> simp_all [tblFind]

/-! ## The canonical form -/

theorem tblWf_cons [DecidableEq α] (d : Nat → α) (e : Nat × α) (r : List (Nat × α)) :
    tblWf d (e :: r) = true ↔ e.2 ≠ d e.1 ∧ (∀ x ∈ r, e.1 < x.1) ∧ tblWf d r = true := by
  simp [tblWf, and_assoc]

theorem mem_tblInsert {k : Nat} {v : α} {m : List (Nat × α)} {x : Nat × α} (h : x ∈ tblInsert k v m) :
    x = (k, v) ∨ x ∈ m := by
  induction m with
  | nil => simpa [tblInsert] using h
  | cons e r ih =>
    obtain ⟨i, w⟩ := e
    simp only [tblInsert] at h
    split at h
    · simpa using h
    · split at h
      · simp only [List.mem_cons] at h ⊢
        exact h.imp id Or.inr
      · simp only [List.mem_cons] at h ⊢
        rcases h with h | h
        · exact .inr (.inl h)
        · exact (ih h).imp id Or.inr

theorem mem_tblErase {k : Nat} {m : List (Nat × α)} {x : Nat × α} (h : x ∈ tblErase k m) : x ∈ m := by
  induction m with
  | nil => simp [tblErase] at h
  | cons e r ih =>
    simp only [tblErase] at h
    split at h
    · exact List.mem_cons_of_mem _ (ih h)
    · simp only [List.mem_cons] at h ⊢
      exact h.imp id ih

theorem tblInsert_wf [DecidableEq α] {d : Nat → α} {m : List (Nat × α)} {k : Nat} {v : α} (hv : v ≠ d k)
    (h : tblWf d m = true) : tblWf d (tblInsert k v m) = true := by
  induction m with
  | nil => simp [tblInsert, tblWf, hv]
  | cons e r ih =>
    obtain ⟨i, w⟩ := e
    have ⟨h1, h2, h3⟩ := (tblWf_cons d _ _).1 h
    simp only [tblInsert]
    split
    · next hk =>
      refine (tblWf_cons d _ _).2 ⟨hv, ?_, h⟩
      intro x hx
      rcases List.mem_cons.1 hx with rfl | hx
      · exact hk
      · exact Nat.lt_trans hk (h2 x hx)
    · split
      · next hk =>
        subst hk
        exact (tblWf_cons d _ _).2 ⟨hv, h2, h3⟩
      · next hk1 hk2 =>
        refine (tblWf_cons d _ _).2 ⟨h1, ?_, ih h3⟩
        intro x hx
        rcases mem_tblInsert hx with rfl | hx
        · have := hk1; simp only at *; omega
        · exact h2 x hx

theorem tblErase_wf [DecidableEq α] {d : Nat → α} {m : List (Nat × α)} (k : Nat)
    (h : tblWf d m = true) : tblWf d (tblErase k m) = true := by
  induction m with
  | nil => rfl
  | cons e r ih =>
    have ⟨h1, h2, h3⟩ := (tblWf_cons d _ _).1 h
    simp only [tblErase]
    split
    · exact ih h3
    · exact (tblWf_cons d _ _).2 ⟨h1, fun x hx => h2 x (mem_tblErase hx), ih h3⟩

/-- A write keeps the canonical form. -/
theorem tblSet_wf [DecidableEq α] {d : Nat → α} {m : List (Nat × α)} (k : Nat) (v : α)
    (h : tblWf d m = true) : tblWf d (tblSet d m k v) = true := by
  rw [tblSet_eq]
  split
  · exact tblErase_wf k h
  · next hv => exact tblInsert_wf hv h

theorem tblWf_filterMap [DecidableEq α] {d : Nat → α} (f : Nat × α → Option (Nat × α))
    (hf : ∀ x y, f x = some y → y.1 = x.1 ∧ (x.2 ≠ d x.1 → y.2 ≠ d y.1)) {m : List (Nat × α)}
    (h : tblWf d m = true) : tblWf d (m.filterMap f) = true := by
  induction m with
  | nil => rfl
  | cons e r ih =>
    have ⟨h1, h2, h3⟩ := (tblWf_cons d _ _).1 h
    rw [List.filterMap_cons]
    split
    · exact ih h3
    · next y hy =>
      have ⟨ha, hb⟩ := hf _ _ hy
      refine (tblWf_cons d _ _).2 ⟨hb h1, ?_, ih h3⟩
      intro x hx
      obtain ⟨z, hz, hzx⟩ := List.mem_filterMap.1 hx
      have := (hf _ _ hzx).1
      have := h2 z hz
      omega

/-- Dropping entries keeps the canonical form. -/
theorem tblKeep_wf [DecidableEq α] {d : Nat → α} (p : Nat → Bool) {m : List (Nat × α)}
    (h : tblWf d m = true) : tblWf d (tblKeep p m) = true := by
  have : tblKeep p m = m.filterMap fun e => if p e.1 then some e else none := by
    induction m with
    | nil => rfl
    | cons e r ih =>
      have := ih ((tblWf_cons d _ _).1 h).2.2
      simp only [tblKeep] at this
      cases hp : p e.1 <;> simp [tblKeep, hp, this]
  rw [this]
  refine tblWf_filterMap _ ?_ h
  intro x y hxy
  split at hxy
  · cases hxy; exact ⟨rfl, id⟩
  · cases hxy

/-- Changing every value keeps the canonical form. -/
theorem tblMap_wf [DecidableEq α] {d : Nat → α} (f : Nat → α → α) {m : List (Nat × α)}
    (h : tblWf d m = true) : tblWf d (tblMap d f m) = true := by
  refine tblWf_filterMap _ ?_ h
  intro x y hxy
  split at hxy
  · cases hxy
  · cases hxy; exact ⟨rfl, fun _ => by assumption⟩

theorem tblOverlay_wf [DecidableEq α] {d : Nat → α} (lo len : Nat) (w : List (Nat × α)) {m : List (Nat × α)}
    (h : tblWf d m = true) : tblWf d (tblOverlay d lo len w m) = true := by
  have key : ∀ acc : List (Nat × α), tblWf d acc = true →
      tblWf d (w.foldl (fun acc e => if e.1 < len then tblSet d acc (lo + e.1) e.2 else acc) acc) = true := by
    induction w with
    | nil => exact fun _ h => h
    | cons e r ih =>
      intro acc ha
      apply ih
      dsimp only
      split
      · exact tblSet_wf _ _ ha
      · exact ha
  exact key _ (tblKeep_wf _ h)

/-! ## Byte memories -/

theorem memSetByte_wf (m : List Host.Cell) (a : Nat) (b : Byte) (h : Memory.wf m = true) :
    Memory.wf (memSetByte m a b) = true := tblSet_wf a b h

/-- Every write of bytes keeps a memory canonical. -/
theorem memSetBytes_wf (m : List Host.Cell) (a : Nat) (bs : List Byte) (h : Memory.wf m = true) :
    Memory.wf (memSetBytes m a bs) = true := by
  induction bs generalizing m a with
  | nil => exact h
  | cons b r ih => exact ih _ _ (memSetByte_wf m a b h)

theorem memClear_wf (m : List Host.Cell) (a n : Nat) (h : Memory.wf m = true) : Memory.wf (memClear m a n) = true :=
  tblKeep_wf _ h

theorem memEmpty_wf : Memory.wf [] = true := rfl

/-- A byte after a write of bytes: the byte written within them, as before outside. -/
theorem memByte_setBytes (m : List Host.Cell) (a : Nat) (bs : List Byte) (i : Nat) :
    memByte (memSetBytes m a bs) i = if a ≤ i ∧ i < a + bs.length then bs.getD (i - a) 0 else memByte m i := by
  induction bs generalizing m a with
  | nil => simp [memSetBytes]
  | cons b r ih =>
    rw [memSetBytes, ih]
    by_cases h : i = a
    · subst h
      simp [memSetByte, memByte]
    · have hne : memByte (memSetByte m a b) i = memByte m i := tblGet_set_ne _ _ _ h
      rw [hne]
      by_cases h2 : a + 1 ≤ i ∧ i < a + 1 + r.length
      · have h3 : a ≤ i ∧ i < a + (b :: r).length := by simp; omega
        rw [if_pos h2, if_pos h3]
        obtain ⟨k, hk⟩ : ∃ k, i - a = k + 1 := ⟨i - a - 1, by omega⟩
        have : i - (a + 1) = k := by omega
        simp [hk, this]
      · have h3 : ¬(a ≤ i ∧ i < a + (b :: r).length) := by simp; omega
        rw [if_neg h2, if_neg h3]

/-- Bytes are read one by one. -/
theorem memBytes_congr {m m' : List Host.Cell} {a n : Nat} (h : ∀ i, a ≤ i → i < a + n → memByte m i = memByte m' i) :
    memBytes m a n = memBytes m' a n := by
  induction n generalizing a with
  | zero => rfl
  | succ n ih =>
    simp only [memBytes]
    rw [h a (Nat.le_refl _) (by omega), ih fun i h1 h2 => h i (by omega) (by omega)]

/-- A read of the bytes just written gives them. -/
theorem memBytes_setBytes (m : List Host.Cell) (a : Nat) (bs : List Byte) : memBytes (memSetBytes m a bs) a bs.length = bs := by
  induction bs generalizing m a with
  | nil => rfl
  | cons b r ih =>
    simp only [List.length_cons, memBytes]
    rw [memByte_setBytes, if_pos (by simp)]
    simp only [Nat.sub_self, List.getD_cons_zero, memSetBytes]
    rw [ih]

/-- A read beside the bytes just written gives what was there. -/
theorem memBytes_setBytes_ne (m : List Host.Cell) {a b n : Nat} (bs : List Byte) (h : a + bs.length ≤ b ∨ b + n ≤ a) :
    memBytes (memSetBytes m a bs) b n = memBytes m b n :=
  memBytes_congr fun i h1 h2 => by rw [memByte_setBytes, if_neg (by omega)]

theorem memBytes_length (m : List Host.Cell) (a n : Nat) : (memBytes m a n).length = n := by
  induction n generalizing a with
  | zero => rfl
  | succ n ih => simp [memBytes, ih]

theorem leBytes_length (n v : Nat) : (leBytes n v).length = n := by
  induction n generalizing v with
  | zero => rfl
  | succ n ih => simp [leBytes, ih]

end Sys2Proof.Machine
end

