-- ==== Sys2Proof/Laws/State.lean ====
section
/-! SUPPORT. What a read of one field of State gives after an update of another, and the laws of registers and fields. -/

namespace Sys2Proof.Machine

/-! ## Registers and fields -/

/-- A register after a write of a register. -/
theorem reg_setReg (s : State) (p q : Pg) (o o' : Nat) (w : Word) :
    (s.setReg p o w).reg q o' = if q.key o' = p.key o then w else s.reg q o' := tblGet_set _ _ _ _ _

@[simp] theorem reg_setReg_same (s : State) (p : Pg) (o : Nat) (w : Word) : (s.setReg p o w).reg p o = w := by
  simp [reg_setReg]

theorem reg_setReg_ne (s : State) {p q : Pg} {o o' : Nat} (w : Word) (h : q.key o' ≠ p.key o) :
    (s.setReg p o w).reg q o' = s.reg q o' := by simp [reg_setReg, h]

/-- Registers of different pages have different keys. -/
theorem key_ne_of_page {p q : Pg} {o o' : Nat} (hp : p.code < 0x10000) (hq : q.code < 0x10000) (ho : o < 0x10000)
    (ho' : o' < 0x10000) (h : q ≠ p) : q.key o' ≠ p.key o := by
  obtain ⟨d, c⟩ := p
  obtain ⟨e, k⟩ := q
  simp only [Pg.key] at *
  intro heq
  apply h
  have : k = c := by omega
  subst this
  have : Die.num e = Die.num d := by omega
  cases d <;> cases e <;> simp_all [Die.num]

/-- Registers at different offsets of one page have different keys. -/
theorem key_ne_of_off {p : Pg} {o o' : Nat} (h : o' ≠ o) : p.key o' ≠ p.key o := by
  simp only [Pg.key]
  omega

theorem ofWord_testBit (f : Fld) (w : Word) (i : Nat) :
    (f.ofWord w).testBit i = (decide (i < f.width) && w.getLsbD (f.lsb + i)) := by
  simp [Fld.ofWord, Nat.testBit_mod_two_pow, Nat.testBit_shiftRight, BitVec.getLsbD]

theorem into_getLsbD (f : Fld) (w : Word) (v i : Nat) (h : f.lsb + f.width ≤ 32) :
    (f.into w v).getLsbD i = if f.lsb ≤ i ∧ i < f.lsb + f.width then v.testBit (i - f.lsb) else w.getLsbD i := by
  by_cases h32 : i < 32
  · simp only [Fld.into, BitVec.getLsbD_or, BitVec.getLsbD_and, BitVec.getLsbD_not, BitVec.getLsbD_ofNat, Nat.testBit_shiftLeft,
      Nat.testBit_mod_two_pow, Nat.testBit_two_pow_sub_one, h32, decide_true, Bool.true_and]
    by_cases h1 : f.lsb ≤ i <;> by_cases h2 : i - f.lsb < f.width
    · have h3 : f.lsb ≤ i ∧ i < f.lsb + f.width := ⟨h1, by omega⟩
      simp [h1, h2, h3]
    · have h3 : ¬(f.lsb ≤ i ∧ i < f.lsb + f.width) := by omega
      rw [if_neg h3]
      simp [h1, h2]
    · have h3 : ¬(f.lsb ≤ i ∧ i < f.lsb + f.width) := by omega
      rw [if_neg h3]
      simp [h1]
    · have h3 : ¬(f.lsb ≤ i ∧ i < f.lsb + f.width) := by omega
      rw [if_neg h3]
      simp [h1]
  · have h3 : ¬(f.lsb ≤ i ∧ i < f.lsb + f.width) := by omega
    rw [if_neg h3]
    rw [BitVec.getLsbD_of_ge _ _ (by omega), BitVec.getLsbD_of_ge _ _ (by omega)]

/-- A field reads as the value written to it. -/
theorem ofWord_into (f : Fld) (w : Word) (v : Nat) (h : f.lsb + f.width ≤ 32) : f.ofWord (f.into w v) = v % 2 ^ f.width := by
  apply Nat.eq_of_testBit_eq
  intro i
  rw [ofWord_testBit, into_getLsbD f w v _ h, Nat.testBit_mod_two_pow]
  by_cases hi : i < f.width
  · simp [hi]
  · simp [hi]

/-- A write of one field leaves a field without a common bit. -/
theorem ofWord_into_ne (f g : Fld) (w : Word) (v : Nat) (h : f.lsb + f.width ≤ 32)
    (hd : g.lsb + g.width ≤ f.lsb ∨ f.lsb + f.width ≤ g.lsb) : g.ofWord (f.into w v) = g.ofWord w := by
  apply Nat.eq_of_testBit_eq
  intro i
  rw [ofWord_testBit, ofWord_testBit, into_getLsbD f w v _ h]
  by_cases hi : i < g.width
  · have : ¬(f.lsb ≤ g.lsb + i ∧ g.lsb + i < f.lsb + f.width) := by omega
    simp [hi, this]
  · simp [hi]

/-- A field reads as the value that `put` gave it. -/
theorem get_put_same (s : State) (p : Pg) (f : Fld) (v : Nat) (h : f.lsb + f.width ≤ 32) :
    (s.put p f v).get p f = v % 2 ^ f.width := by
  simp only [State.get, State.put, reg_setReg_same]
  exact ofWord_into f _ v h

/-- `put` leaves every other register. -/
theorem get_put_reg (s : State) {p q : Pg} {f g : Fld} (v : Nat) (h : q.key g.off ≠ p.key f.off) :
    (s.put p f v).get q g = s.get q g := by
  simp only [State.get, State.put, reg_setReg_ne _ _ h]

/-- `put` leaves every other field of its register. -/
theorem get_put_field (s : State) {p : Pg} {f g : Fld} (v : Nat) (ho : g.off = f.off) (h : f.lsb + f.width ≤ 32)
    (hd : g.lsb + g.width ≤ f.lsb ∨ f.lsb + f.width ≤ g.lsb) : (s.put p f v).get p g = s.get p g := by
  simp only [State.get, State.put, ho, reg_setReg_same]
  exact ofWord_into_ne f g _ v h hd

/-- What `put` does to any field: the value written, or nothing. -/
theorem get_put (s : State) (p q : Pg) (f g : Fld) (v : Nat) (h : f.lsb + f.width ≤ 32)
    (hd : q.key g.off ≠ p.key f.off ∨ (q = p ∧ g.off = f.off ∧ (g.lsb + g.width ≤ f.lsb ∨ f.lsb + f.width ≤ g.lsb))) :
    (s.put p f v).get q g = s.get q g := by
  rcases hd with hd | ⟨rfl, ho, hd⟩
  · exact get_put_reg s v hd
  · exact get_put_field s v ho h hd

/-! ## Units -/

@[simp] theorem port_setPort_same (s : State) (n : Nat) (v : Port) : (s.setPort n v).port n = v := tblGet_set_same _ _ _ _
theorem port_setPort_ne (s : State) {n k : Nat} (v : Port) (h : k ≠ n) : (s.setPort n v).port k = s.port k := tblGet_set_ne _ _ _ h
@[simp] theorem hs_setHs_same (s : State) (h : Half) (v : HalfSt) : (s.setHs h v).hs h = v := by cases h <;> rfl
@[simp] theorem hs_setHs_other (s : State) (h : Half) (v : HalfSt) : (s.setHs h v).hs (Half.other h) = s.hs (Half.other h) := by
  cases h <;> rfl
@[simp] theorem src_setSrc_same (s : State) (n : Nat) (v : Source) : (s.setSrc n v).src n = v := tblGet_set_same _ _ _ _
@[simp] theorem chan_setChan_same (s : State) (n : Nat) (v : HapChan) : (s.setChan n v).chan n = v := tblGet_set_same _ _ _ _
@[simp] theorem dram_setDram_same (s : State) (h : Half) (m : List Host.Cell) : (s.setDram h m).dram h = m := by cases h <;> rfl
@[simp] theorem spm_setSpm_same (s : State) (h : Half) (m : List Host.Cell) : (s.setSpm h m).spm h = m := by cases h <;> rfl
@[simp] theorem qu_setQu_same (s : State) (h : Half) (n : Nat) (v : Queue) : (s.setQu h n v).qu h n = v := by
  cases h <;> exact tblGet_set_same _ _ _ _
@[simp] theorem inst_setInst_same (s : State) (h : Half) (n : Nat) (v : Inst) : (s.setInst h n v).inst h n = v := by
  cases h <;> exact tblGet_set_same _ _ _ _
@[simp] theorem ctx_setCtx_same (s : State) (h : Half) (n : Nat) (v : RCtx) : (s.setCtx h n v).ctx h n = v := by
  cases h <;> exact tblGet_set_same _ _ _ _
@[simp] theorem pipe_setPipe_same (s : State) (h : Half) (n : Nat) (v : Pipe) : (s.setPipe h n v).pipe h n = v := by
  cases h <;> exact tblGet_set_same _ _ _ _
@[simp] theorem hart_setHart_same (s : State) (h : Half) (n : Nat) (v : Hart) : (s.setHart h n v).hart h n = v := by
  cases h <;> exact tblGet_set_same _ _ _ _

/-- A byte of MRAM after a write. -/
theorem mram_setMram (s : State) (a : Nat) (bs : List Byte) (i : Nat) :
    memByte (s.setMram a bs).mram i = if a ≤ i ∧ i < a + bs.length then bs.getD (i - a) 0 else memByte s.mram i :=
  memByte_setBytes _ _ _ _

/-! ## One field of State under an update of another -/

/-! ### setReg -/

@[simp] theorem setReg_pending (s : State) (p : Pg) (off : Nat) (w : Word) : (s.setReg p off w).pending = s.pending := rfl
@[simp] theorem setReg_free (s : State) (p : Pg) (off : Nat) (w : Word) : (s.setReg p off w).free = s.free := rfl
@[simp] theorem setReg_time (s : State) (p : Pg) (off : Nat) (w : Word) : (s.setReg p off w).time = s.time := rfl
@[simp] theorem setReg_held (s : State) (p : Pg) (off : Nat) (w : Word) : (s.setReg p off w).held = s.held := rfl
@[simp] theorem setReg_mram (s : State) (p : Pg) (off : Nat) (w : Word) : (s.setReg p off w).mram = s.mram := rfl
@[simp] theorem setReg_dramA (s : State) (p : Pg) (off : Nat) (w : Word) : (s.setReg p off w).dramA = s.dramA := rfl
@[simp] theorem setReg_dramB (s : State) (p : Pg) (off : Nat) (w : Word) : (s.setReg p off w).dramB = s.dramB := rfl
@[simp] theorem setReg_spmA (s : State) (p : Pg) (off : Nat) (w : Word) : (s.setReg p off w).spmA = s.spmA := rfl
@[simp] theorem setReg_spmB (s : State) (p : Pg) (off : Nat) (w : Word) : (s.setReg p off w).spmB = s.spmB := rfl
@[simp] theorem setReg_reply (s : State) (p : Pg) (off : Nat) (w : Word) : (s.setReg p off w).reply = s.reply := rfl
@[simp] theorem setReg_irq (s : State) (p : Pg) (off : Nat) (w : Word) : (s.setReg p off w).irq = s.irq := rfl
@[simp] theorem setReg_copyFault (s : State) (p : Pg) (off : Nat) (w : Word) : (s.setReg p off w).copyFault = s.copyFault := rfl
@[simp] theorem setReg_halfA (s : State) (p : Pg) (off : Nat) (w : Word) : (s.setReg p off w).halfA = s.halfA := rfl
@[simp] theorem setReg_halfB (s : State) (p : Pg) (off : Nat) (w : Word) : (s.setReg p off w).halfB = s.halfB := rfl
@[simp] theorem setReg_ports (s : State) (p : Pg) (off : Nat) (w : Word) : (s.setReg p off w).ports = s.ports := rfl
@[simp] theorem setReg_pat (s : State) (p : Pg) (off : Nat) (w : Word) : (s.setReg p off w).pat = s.pat := rfl
@[simp] theorem setReg_hoRun (s : State) (p : Pg) (off : Nat) (w : Word) : (s.setReg p off w).hoRun = s.hoRun := rfl
@[simp] theorem setReg_shed (s : State) (p : Pg) (off : Nat) (w : Word) : (s.setReg p off w).shed = s.shed := rfl
@[simp] theorem setReg_arm (s : State) (p : Pg) (off : Nat) (w : Word) : (s.setReg p off w).arm = s.arm := rfl
@[simp] theorem setReg_rearm (s : State) (p : Pg) (off : Nat) (w : Word) : (s.setReg p off w).rearm = s.rearm := rfl
@[simp] theorem setReg_scrub (s : State) (p : Pg) (off : Nat) (w : Word) : (s.setReg p off w).scrub = s.scrub := rfl
@[simp] theorem setReg_start (s : State) (p : Pg) (off : Nat) (w : Word) : (s.setReg p off w).start = s.start := rfl
@[simp] theorem setReg_insp (s : State) (p : Pg) (off : Nat) (w : Word) : (s.setReg p off w).insp = s.insp := rfl
@[simp] theorem setReg_lcs (s : State) (p : Pg) (off : Nat) (w : Word) : (s.setReg p off w).lcs = s.lcs := rfl
@[simp] theorem setReg_park (s : State) (p : Pg) (off : Nat) (w : Word) : (s.setReg p off w).park = s.park := rfl
@[simp] theorem setReg_pw (s : State) (p : Pg) (off : Nat) (w : Word) : (s.setReg p off w).pw = s.pw := rfl
@[simp] theorem setReg_svc (s : State) (p : Pg) (off : Nat) (w : Word) : (s.setReg p off w).svc = s.svc := rfl
@[simp] theorem setReg_touch (s : State) (p : Pg) (off : Nat) (w : Word) : (s.setReg p off w).touch = s.touch := rfl
@[simp] theorem setReg_hap (s : State) (p : Pg) (off : Nat) (w : Word) : (s.setReg p off w).hap = s.hap := rfl
@[simp] theorem setReg_hapFold (s : State) (p : Pg) (off : Nat) (w : Word) : (s.setReg p off w).hapFold = s.hapFold := rfl
@[simp] theorem setReg_audio (s : State) (p : Pg) (off : Nat) (w : Word) : (s.setReg p off w).audio = s.audio := rfl
@[simp] theorem setReg_peer (s : State) (p : Pg) (off : Nat) (w : Word) : (s.setReg p off w).peer = s.peer := rfl
@[simp] theorem setReg_nightEntered (s : State) (p : Pg) (off : Nat) (w : Word) : (s.setReg p off w).nightEntered = s.nightEntered := rfl
@[simp] theorem setReg_r_port (s : State) (p : Pg) (off : Nat) (w : Word) (k : Nat) : (s.setReg p off w).port k = s.port k := rfl
@[simp] theorem setReg_r_src (s : State) (p : Pg) (off : Nat) (w : Word) (k : Nat) : (s.setReg p off w).src k = s.src k := rfl
@[simp] theorem setReg_r_chan (s : State) (p : Pg) (off : Nat) (w : Word) (k : Nat) : (s.setReg p off w).chan k = s.chan k := rfl
@[simp] theorem setReg_r_hs (s : State) (p : Pg) (off : Nat) (w : Word) (k : Half) : (s.setReg p off w).hs k = s.hs k := by cases k <;> rfl
@[simp] theorem setReg_r_dram (s : State) (p : Pg) (off : Nat) (w : Word) (k : Half) : (s.setReg p off w).dram k = s.dram k := by cases k <;> rfl
@[simp] theorem setReg_r_spm (s : State) (p : Pg) (off : Nat) (w : Word) (k : Half) : (s.setReg p off w).spm k = s.spm k := by cases k <;> rfl

/-! ### put -/

@[simp] theorem put_pending (s : State) (p : Pg) (f : Fld) (v : Nat) : (s.put p f v).pending = s.pending := rfl
@[simp] theorem put_free (s : State) (p : Pg) (f : Fld) (v : Nat) : (s.put p f v).free = s.free := rfl
@[simp] theorem put_time (s : State) (p : Pg) (f : Fld) (v : Nat) : (s.put p f v).time = s.time := rfl
@[simp] theorem put_held (s : State) (p : Pg) (f : Fld) (v : Nat) : (s.put p f v).held = s.held := rfl
@[simp] theorem put_mram (s : State) (p : Pg) (f : Fld) (v : Nat) : (s.put p f v).mram = s.mram := rfl
@[simp] theorem put_dramA (s : State) (p : Pg) (f : Fld) (v : Nat) : (s.put p f v).dramA = s.dramA := rfl
@[simp] theorem put_dramB (s : State) (p : Pg) (f : Fld) (v : Nat) : (s.put p f v).dramB = s.dramB := rfl
@[simp] theorem put_spmA (s : State) (p : Pg) (f : Fld) (v : Nat) : (s.put p f v).spmA = s.spmA := rfl
@[simp] theorem put_spmB (s : State) (p : Pg) (f : Fld) (v : Nat) : (s.put p f v).spmB = s.spmB := rfl
@[simp] theorem put_reply (s : State) (p : Pg) (f : Fld) (v : Nat) : (s.put p f v).reply = s.reply := rfl
@[simp] theorem put_irq (s : State) (p : Pg) (f : Fld) (v : Nat) : (s.put p f v).irq = s.irq := rfl
@[simp] theorem put_copyFault (s : State) (p : Pg) (f : Fld) (v : Nat) : (s.put p f v).copyFault = s.copyFault := rfl
@[simp] theorem put_halfA (s : State) (p : Pg) (f : Fld) (v : Nat) : (s.put p f v).halfA = s.halfA := rfl
@[simp] theorem put_halfB (s : State) (p : Pg) (f : Fld) (v : Nat) : (s.put p f v).halfB = s.halfB := rfl
@[simp] theorem put_ports (s : State) (p : Pg) (f : Fld) (v : Nat) : (s.put p f v).ports = s.ports := rfl
@[simp] theorem put_pat (s : State) (p : Pg) (f : Fld) (v : Nat) : (s.put p f v).pat = s.pat := rfl
@[simp] theorem put_hoRun (s : State) (p : Pg) (f : Fld) (v : Nat) : (s.put p f v).hoRun = s.hoRun := rfl
@[simp] theorem put_shed (s : State) (p : Pg) (f : Fld) (v : Nat) : (s.put p f v).shed = s.shed := rfl
@[simp] theorem put_arm (s : State) (p : Pg) (f : Fld) (v : Nat) : (s.put p f v).arm = s.arm := rfl
@[simp] theorem put_rearm (s : State) (p : Pg) (f : Fld) (v : Nat) : (s.put p f v).rearm = s.rearm := rfl
@[simp] theorem put_scrub (s : State) (p : Pg) (f : Fld) (v : Nat) : (s.put p f v).scrub = s.scrub := rfl
@[simp] theorem put_start (s : State) (p : Pg) (f : Fld) (v : Nat) : (s.put p f v).start = s.start := rfl
@[simp] theorem put_insp (s : State) (p : Pg) (f : Fld) (v : Nat) : (s.put p f v).insp = s.insp := rfl
@[simp] theorem put_lcs (s : State) (p : Pg) (f : Fld) (v : Nat) : (s.put p f v).lcs = s.lcs := rfl
@[simp] theorem put_park (s : State) (p : Pg) (f : Fld) (v : Nat) : (s.put p f v).park = s.park := rfl
@[simp] theorem put_pw (s : State) (p : Pg) (f : Fld) (v : Nat) : (s.put p f v).pw = s.pw := rfl
@[simp] theorem put_svc (s : State) (p : Pg) (f : Fld) (v : Nat) : (s.put p f v).svc = s.svc := rfl
@[simp] theorem put_touch (s : State) (p : Pg) (f : Fld) (v : Nat) : (s.put p f v).touch = s.touch := rfl
@[simp] theorem put_hap (s : State) (p : Pg) (f : Fld) (v : Nat) : (s.put p f v).hap = s.hap := rfl
@[simp] theorem put_hapFold (s : State) (p : Pg) (f : Fld) (v : Nat) : (s.put p f v).hapFold = s.hapFold := rfl
@[simp] theorem put_audio (s : State) (p : Pg) (f : Fld) (v : Nat) : (s.put p f v).audio = s.audio := rfl
@[simp] theorem put_peer (s : State) (p : Pg) (f : Fld) (v : Nat) : (s.put p f v).peer = s.peer := rfl
@[simp] theorem put_nightEntered (s : State) (p : Pg) (f : Fld) (v : Nat) : (s.put p f v).nightEntered = s.nightEntered := rfl
@[simp] theorem put_r_port (s : State) (p : Pg) (f : Fld) (v : Nat) (k : Nat) : (s.put p f v).port k = s.port k := rfl
@[simp] theorem put_r_src (s : State) (p : Pg) (f : Fld) (v : Nat) (k : Nat) : (s.put p f v).src k = s.src k := rfl
@[simp] theorem put_r_chan (s : State) (p : Pg) (f : Fld) (v : Nat) (k : Nat) : (s.put p f v).chan k = s.chan k := rfl
@[simp] theorem put_r_hs (s : State) (p : Pg) (f : Fld) (v : Nat) (k : Half) : (s.put p f v).hs k = s.hs k := by cases k <;> rfl
@[simp] theorem put_r_dram (s : State) (p : Pg) (f : Fld) (v : Nat) (k : Half) : (s.put p f v).dram k = s.dram k := by cases k <;> rfl
@[simp] theorem put_r_spm (s : State) (p : Pg) (f : Fld) (v : Nat) (k : Half) : (s.put p f v).spm k = s.spm k := by cases k <;> rfl

/-! ### setMram -/

@[simp] theorem setMram_pending (s : State) (a : Nat) (bs : List Byte) : (s.setMram a bs).pending = s.pending := rfl
@[simp] theorem setMram_free (s : State) (a : Nat) (bs : List Byte) : (s.setMram a bs).free = s.free := rfl
@[simp] theorem setMram_time (s : State) (a : Nat) (bs : List Byte) : (s.setMram a bs).time = s.time := rfl
@[simp] theorem setMram_regs (s : State) (a : Nat) (bs : List Byte) : (s.setMram a bs).regs = s.regs := rfl
@[simp] theorem setMram_held (s : State) (a : Nat) (bs : List Byte) : (s.setMram a bs).held = s.held := rfl
@[simp] theorem setMram_dramA (s : State) (a : Nat) (bs : List Byte) : (s.setMram a bs).dramA = s.dramA := rfl
@[simp] theorem setMram_dramB (s : State) (a : Nat) (bs : List Byte) : (s.setMram a bs).dramB = s.dramB := rfl
@[simp] theorem setMram_spmA (s : State) (a : Nat) (bs : List Byte) : (s.setMram a bs).spmA = s.spmA := rfl
@[simp] theorem setMram_spmB (s : State) (a : Nat) (bs : List Byte) : (s.setMram a bs).spmB = s.spmB := rfl
@[simp] theorem setMram_reply (s : State) (a : Nat) (bs : List Byte) : (s.setMram a bs).reply = s.reply := rfl
@[simp] theorem setMram_irq (s : State) (a : Nat) (bs : List Byte) : (s.setMram a bs).irq = s.irq := rfl
@[simp] theorem setMram_copyFault (s : State) (a : Nat) (bs : List Byte) : (s.setMram a bs).copyFault = s.copyFault := rfl
@[simp] theorem setMram_halfA (s : State) (a : Nat) (bs : List Byte) : (s.setMram a bs).halfA = s.halfA := rfl
@[simp] theorem setMram_halfB (s : State) (a : Nat) (bs : List Byte) : (s.setMram a bs).halfB = s.halfB := rfl
@[simp] theorem setMram_ports (s : State) (a : Nat) (bs : List Byte) : (s.setMram a bs).ports = s.ports := rfl
@[simp] theorem setMram_pat (s : State) (a : Nat) (bs : List Byte) : (s.setMram a bs).pat = s.pat := rfl
@[simp] theorem setMram_hoRun (s : State) (a : Nat) (bs : List Byte) : (s.setMram a bs).hoRun = s.hoRun := rfl
@[simp] theorem setMram_shed (s : State) (a : Nat) (bs : List Byte) : (s.setMram a bs).shed = s.shed := rfl
@[simp] theorem setMram_arm (s : State) (a : Nat) (bs : List Byte) : (s.setMram a bs).arm = s.arm := rfl
@[simp] theorem setMram_rearm (s : State) (a : Nat) (bs : List Byte) : (s.setMram a bs).rearm = s.rearm := rfl
@[simp] theorem setMram_scrub (s : State) (a : Nat) (bs : List Byte) : (s.setMram a bs).scrub = s.scrub := rfl
@[simp] theorem setMram_start (s : State) (a : Nat) (bs : List Byte) : (s.setMram a bs).start = s.start := rfl
@[simp] theorem setMram_insp (s : State) (a : Nat) (bs : List Byte) : (s.setMram a bs).insp = s.insp := rfl
@[simp] theorem setMram_lcs (s : State) (a : Nat) (bs : List Byte) : (s.setMram a bs).lcs = s.lcs := rfl
@[simp] theorem setMram_park (s : State) (a : Nat) (bs : List Byte) : (s.setMram a bs).park = s.park := rfl
@[simp] theorem setMram_pw (s : State) (a : Nat) (bs : List Byte) : (s.setMram a bs).pw = s.pw := rfl
@[simp] theorem setMram_svc (s : State) (a : Nat) (bs : List Byte) : (s.setMram a bs).svc = s.svc := rfl
@[simp] theorem setMram_touch (s : State) (a : Nat) (bs : List Byte) : (s.setMram a bs).touch = s.touch := rfl
@[simp] theorem setMram_hap (s : State) (a : Nat) (bs : List Byte) : (s.setMram a bs).hap = s.hap := rfl
@[simp] theorem setMram_hapFold (s : State) (a : Nat) (bs : List Byte) : (s.setMram a bs).hapFold = s.hapFold := rfl
@[simp] theorem setMram_audio (s : State) (a : Nat) (bs : List Byte) : (s.setMram a bs).audio = s.audio := rfl
@[simp] theorem setMram_peer (s : State) (a : Nat) (bs : List Byte) : (s.setMram a bs).peer = s.peer := rfl
@[simp] theorem setMram_nightEntered (s : State) (a : Nat) (bs : List Byte) : (s.setMram a bs).nightEntered = s.nightEntered := rfl
@[simp] theorem setMram_r_reg (s : State) (a : Nat) (bs : List Byte) (q : Pg) (o : Nat) : (s.setMram a bs).reg q o = s.reg q o := rfl
@[simp] theorem setMram_r_get (s : State) (a : Nat) (bs : List Byte) (q : Pg) (g : Fld) : (s.setMram a bs).get q g = s.get q g := rfl
@[simp] theorem setMram_r_flag (s : State) (a : Nat) (bs : List Byte) (q : Pg) (g : Fld) : (s.setMram a bs).flag q g = s.flag q g := rfl
@[simp] theorem setMram_r_port (s : State) (a : Nat) (bs : List Byte) (k : Nat) : (s.setMram a bs).port k = s.port k := rfl
@[simp] theorem setMram_r_src (s : State) (a : Nat) (bs : List Byte) (k : Nat) : (s.setMram a bs).src k = s.src k := rfl
@[simp] theorem setMram_r_chan (s : State) (a : Nat) (bs : List Byte) (k : Nat) : (s.setMram a bs).chan k = s.chan k := rfl
@[simp] theorem setMram_r_hs (s : State) (a : Nat) (bs : List Byte) (k : Half) : (s.setMram a bs).hs k = s.hs k := by cases k <;> rfl
@[simp] theorem setMram_r_dram (s : State) (a : Nat) (bs : List Byte) (k : Half) : (s.setMram a bs).dram k = s.dram k := by cases k <;> rfl
@[simp] theorem setMram_r_spm (s : State) (a : Nat) (bs : List Byte) (k : Half) : (s.setMram a bs).spm k = s.spm k := by cases k <;> rfl

/-! ### setDram -/

@[simp] theorem setDram_pending (s : State) (h : Half) (m : List Host.Cell) : (s.setDram h m).pending = s.pending := by cases h <;> rfl
@[simp] theorem setDram_free (s : State) (h : Half) (m : List Host.Cell) : (s.setDram h m).free = s.free := by cases h <;> rfl
@[simp] theorem setDram_time (s : State) (h : Half) (m : List Host.Cell) : (s.setDram h m).time = s.time := by cases h <;> rfl
@[simp] theorem setDram_regs (s : State) (h : Half) (m : List Host.Cell) : (s.setDram h m).regs = s.regs := by cases h <;> rfl
@[simp] theorem setDram_held (s : State) (h : Half) (m : List Host.Cell) : (s.setDram h m).held = s.held := by cases h <;> rfl
@[simp] theorem setDram_mram (s : State) (h : Half) (m : List Host.Cell) : (s.setDram h m).mram = s.mram := by cases h <;> rfl
@[simp] theorem setDram_spmA (s : State) (h : Half) (m : List Host.Cell) : (s.setDram h m).spmA = s.spmA := by cases h <;> rfl
@[simp] theorem setDram_spmB (s : State) (h : Half) (m : List Host.Cell) : (s.setDram h m).spmB = s.spmB := by cases h <;> rfl
@[simp] theorem setDram_reply (s : State) (h : Half) (m : List Host.Cell) : (s.setDram h m).reply = s.reply := by cases h <;> rfl
@[simp] theorem setDram_irq (s : State) (h : Half) (m : List Host.Cell) : (s.setDram h m).irq = s.irq := by cases h <;> rfl
@[simp] theorem setDram_copyFault (s : State) (h : Half) (m : List Host.Cell) : (s.setDram h m).copyFault = s.copyFault := by cases h <;> rfl
@[simp] theorem setDram_halfA (s : State) (h : Half) (m : List Host.Cell) : (s.setDram h m).halfA = s.halfA := by cases h <;> rfl
@[simp] theorem setDram_halfB (s : State) (h : Half) (m : List Host.Cell) : (s.setDram h m).halfB = s.halfB := by cases h <;> rfl
@[simp] theorem setDram_ports (s : State) (h : Half) (m : List Host.Cell) : (s.setDram h m).ports = s.ports := by cases h <;> rfl
@[simp] theorem setDram_pat (s : State) (h : Half) (m : List Host.Cell) : (s.setDram h m).pat = s.pat := by cases h <;> rfl
@[simp] theorem setDram_hoRun (s : State) (h : Half) (m : List Host.Cell) : (s.setDram h m).hoRun = s.hoRun := by cases h <;> rfl
@[simp] theorem setDram_shed (s : State) (h : Half) (m : List Host.Cell) : (s.setDram h m).shed = s.shed := by cases h <;> rfl
@[simp] theorem setDram_arm (s : State) (h : Half) (m : List Host.Cell) : (s.setDram h m).arm = s.arm := by cases h <;> rfl
@[simp] theorem setDram_rearm (s : State) (h : Half) (m : List Host.Cell) : (s.setDram h m).rearm = s.rearm := by cases h <;> rfl
@[simp] theorem setDram_scrub (s : State) (h : Half) (m : List Host.Cell) : (s.setDram h m).scrub = s.scrub := by cases h <;> rfl
@[simp] theorem setDram_start (s : State) (h : Half) (m : List Host.Cell) : (s.setDram h m).start = s.start := by cases h <;> rfl
@[simp] theorem setDram_insp (s : State) (h : Half) (m : List Host.Cell) : (s.setDram h m).insp = s.insp := by cases h <;> rfl
@[simp] theorem setDram_lcs (s : State) (h : Half) (m : List Host.Cell) : (s.setDram h m).lcs = s.lcs := by cases h <;> rfl
@[simp] theorem setDram_park (s : State) (h : Half) (m : List Host.Cell) : (s.setDram h m).park = s.park := by cases h <;> rfl
@[simp] theorem setDram_pw (s : State) (h : Half) (m : List Host.Cell) : (s.setDram h m).pw = s.pw := by cases h <;> rfl
@[simp] theorem setDram_svc (s : State) (h : Half) (m : List Host.Cell) : (s.setDram h m).svc = s.svc := by cases h <;> rfl
@[simp] theorem setDram_touch (s : State) (h : Half) (m : List Host.Cell) : (s.setDram h m).touch = s.touch := by cases h <;> rfl
@[simp] theorem setDram_hap (s : State) (h : Half) (m : List Host.Cell) : (s.setDram h m).hap = s.hap := by cases h <;> rfl
@[simp] theorem setDram_hapFold (s : State) (h : Half) (m : List Host.Cell) : (s.setDram h m).hapFold = s.hapFold := by cases h <;> rfl
@[simp] theorem setDram_audio (s : State) (h : Half) (m : List Host.Cell) : (s.setDram h m).audio = s.audio := by cases h <;> rfl
@[simp] theorem setDram_peer (s : State) (h : Half) (m : List Host.Cell) : (s.setDram h m).peer = s.peer := by cases h <;> rfl
@[simp] theorem setDram_nightEntered (s : State) (h : Half) (m : List Host.Cell) : (s.setDram h m).nightEntered = s.nightEntered := by cases h <;> rfl
@[simp] theorem setDram_r_reg (s : State) (h : Half) (m : List Host.Cell) (q : Pg) (o : Nat) : (s.setDram h m).reg q o = s.reg q o := by cases h <;> rfl
@[simp] theorem setDram_r_get (s : State) (h : Half) (m : List Host.Cell) (q : Pg) (g : Fld) : (s.setDram h m).get q g = s.get q g := by cases h <;> rfl
@[simp] theorem setDram_r_flag (s : State) (h : Half) (m : List Host.Cell) (q : Pg) (g : Fld) : (s.setDram h m).flag q g = s.flag q g := by cases h <;> rfl
@[simp] theorem setDram_r_port (s : State) (h : Half) (m : List Host.Cell) (k : Nat) : (s.setDram h m).port k = s.port k := by cases h <;> rfl
@[simp] theorem setDram_r_src (s : State) (h : Half) (m : List Host.Cell) (k : Nat) : (s.setDram h m).src k = s.src k := by cases h <;> rfl
@[simp] theorem setDram_r_chan (s : State) (h : Half) (m : List Host.Cell) (k : Nat) : (s.setDram h m).chan k = s.chan k := by cases h <;> rfl
@[simp] theorem setDram_r_hs (s : State) (h : Half) (m : List Host.Cell) (k : Half) : (s.setDram h m).hs k = s.hs k := by cases k <;> (cases h <;> rfl)
@[simp] theorem setDram_r_spm (s : State) (h : Half) (m : List Host.Cell) (k : Half) : (s.setDram h m).spm k = s.spm k := by cases k <;> (cases h <;> rfl)

/-! ### setSpm -/

@[simp] theorem setSpm_pending (s : State) (h : Half) (m : List Host.Cell) : (s.setSpm h m).pending = s.pending := by cases h <;> rfl
@[simp] theorem setSpm_free (s : State) (h : Half) (m : List Host.Cell) : (s.setSpm h m).free = s.free := by cases h <;> rfl
@[simp] theorem setSpm_time (s : State) (h : Half) (m : List Host.Cell) : (s.setSpm h m).time = s.time := by cases h <;> rfl
@[simp] theorem setSpm_regs (s : State) (h : Half) (m : List Host.Cell) : (s.setSpm h m).regs = s.regs := by cases h <;> rfl
@[simp] theorem setSpm_held (s : State) (h : Half) (m : List Host.Cell) : (s.setSpm h m).held = s.held := by cases h <;> rfl
@[simp] theorem setSpm_mram (s : State) (h : Half) (m : List Host.Cell) : (s.setSpm h m).mram = s.mram := by cases h <;> rfl
@[simp] theorem setSpm_dramA (s : State) (h : Half) (m : List Host.Cell) : (s.setSpm h m).dramA = s.dramA := by cases h <;> rfl
@[simp] theorem setSpm_dramB (s : State) (h : Half) (m : List Host.Cell) : (s.setSpm h m).dramB = s.dramB := by cases h <;> rfl
@[simp] theorem setSpm_reply (s : State) (h : Half) (m : List Host.Cell) : (s.setSpm h m).reply = s.reply := by cases h <;> rfl
@[simp] theorem setSpm_irq (s : State) (h : Half) (m : List Host.Cell) : (s.setSpm h m).irq = s.irq := by cases h <;> rfl
@[simp] theorem setSpm_copyFault (s : State) (h : Half) (m : List Host.Cell) : (s.setSpm h m).copyFault = s.copyFault := by cases h <;> rfl
@[simp] theorem setSpm_halfA (s : State) (h : Half) (m : List Host.Cell) : (s.setSpm h m).halfA = s.halfA := by cases h <;> rfl
@[simp] theorem setSpm_halfB (s : State) (h : Half) (m : List Host.Cell) : (s.setSpm h m).halfB = s.halfB := by cases h <;> rfl
@[simp] theorem setSpm_ports (s : State) (h : Half) (m : List Host.Cell) : (s.setSpm h m).ports = s.ports := by cases h <;> rfl
@[simp] theorem setSpm_pat (s : State) (h : Half) (m : List Host.Cell) : (s.setSpm h m).pat = s.pat := by cases h <;> rfl
@[simp] theorem setSpm_hoRun (s : State) (h : Half) (m : List Host.Cell) : (s.setSpm h m).hoRun = s.hoRun := by cases h <;> rfl
@[simp] theorem setSpm_shed (s : State) (h : Half) (m : List Host.Cell) : (s.setSpm h m).shed = s.shed := by cases h <;> rfl
@[simp] theorem setSpm_arm (s : State) (h : Half) (m : List Host.Cell) : (s.setSpm h m).arm = s.arm := by cases h <;> rfl
@[simp] theorem setSpm_rearm (s : State) (h : Half) (m : List Host.Cell) : (s.setSpm h m).rearm = s.rearm := by cases h <;> rfl
@[simp] theorem setSpm_scrub (s : State) (h : Half) (m : List Host.Cell) : (s.setSpm h m).scrub = s.scrub := by cases h <;> rfl
@[simp] theorem setSpm_start (s : State) (h : Half) (m : List Host.Cell) : (s.setSpm h m).start = s.start := by cases h <;> rfl
@[simp] theorem setSpm_insp (s : State) (h : Half) (m : List Host.Cell) : (s.setSpm h m).insp = s.insp := by cases h <;> rfl
@[simp] theorem setSpm_lcs (s : State) (h : Half) (m : List Host.Cell) : (s.setSpm h m).lcs = s.lcs := by cases h <;> rfl
@[simp] theorem setSpm_park (s : State) (h : Half) (m : List Host.Cell) : (s.setSpm h m).park = s.park := by cases h <;> rfl
@[simp] theorem setSpm_pw (s : State) (h : Half) (m : List Host.Cell) : (s.setSpm h m).pw = s.pw := by cases h <;> rfl
@[simp] theorem setSpm_svc (s : State) (h : Half) (m : List Host.Cell) : (s.setSpm h m).svc = s.svc := by cases h <;> rfl
@[simp] theorem setSpm_touch (s : State) (h : Half) (m : List Host.Cell) : (s.setSpm h m).touch = s.touch := by cases h <;> rfl
@[simp] theorem setSpm_hap (s : State) (h : Half) (m : List Host.Cell) : (s.setSpm h m).hap = s.hap := by cases h <;> rfl
@[simp] theorem setSpm_hapFold (s : State) (h : Half) (m : List Host.Cell) : (s.setSpm h m).hapFold = s.hapFold := by cases h <;> rfl
@[simp] theorem setSpm_audio (s : State) (h : Half) (m : List Host.Cell) : (s.setSpm h m).audio = s.audio := by cases h <;> rfl
@[simp] theorem setSpm_peer (s : State) (h : Half) (m : List Host.Cell) : (s.setSpm h m).peer = s.peer := by cases h <;> rfl
@[simp] theorem setSpm_nightEntered (s : State) (h : Half) (m : List Host.Cell) : (s.setSpm h m).nightEntered = s.nightEntered := by cases h <;> rfl
@[simp] theorem setSpm_r_reg (s : State) (h : Half) (m : List Host.Cell) (q : Pg) (o : Nat) : (s.setSpm h m).reg q o = s.reg q o := by cases h <;> rfl
@[simp] theorem setSpm_r_get (s : State) (h : Half) (m : List Host.Cell) (q : Pg) (g : Fld) : (s.setSpm h m).get q g = s.get q g := by cases h <;> rfl
@[simp] theorem setSpm_r_flag (s : State) (h : Half) (m : List Host.Cell) (q : Pg) (g : Fld) : (s.setSpm h m).flag q g = s.flag q g := by cases h <;> rfl
@[simp] theorem setSpm_r_port (s : State) (h : Half) (m : List Host.Cell) (k : Nat) : (s.setSpm h m).port k = s.port k := by cases h <;> rfl
@[simp] theorem setSpm_r_src (s : State) (h : Half) (m : List Host.Cell) (k : Nat) : (s.setSpm h m).src k = s.src k := by cases h <;> rfl
@[simp] theorem setSpm_r_chan (s : State) (h : Half) (m : List Host.Cell) (k : Nat) : (s.setSpm h m).chan k = s.chan k := by cases h <;> rfl
@[simp] theorem setSpm_r_hs (s : State) (h : Half) (m : List Host.Cell) (k : Half) : (s.setSpm h m).hs k = s.hs k := by cases k <;> (cases h <;> rfl)
@[simp] theorem setSpm_r_dram (s : State) (h : Half) (m : List Host.Cell) (k : Half) : (s.setSpm h m).dram k = s.dram k := by cases k <;> (cases h <;> rfl)

/-! ### setHs -/

@[simp] theorem setHs_pending (s : State) (h : Half) (v : HalfSt) : (s.setHs h v).pending = s.pending := by cases h <;> rfl
@[simp] theorem setHs_free (s : State) (h : Half) (v : HalfSt) : (s.setHs h v).free = s.free := by cases h <;> rfl
@[simp] theorem setHs_time (s : State) (h : Half) (v : HalfSt) : (s.setHs h v).time = s.time := by cases h <;> rfl
@[simp] theorem setHs_regs (s : State) (h : Half) (v : HalfSt) : (s.setHs h v).regs = s.regs := by cases h <;> rfl
@[simp] theorem setHs_held (s : State) (h : Half) (v : HalfSt) : (s.setHs h v).held = s.held := by cases h <;> rfl
@[simp] theorem setHs_mram (s : State) (h : Half) (v : HalfSt) : (s.setHs h v).mram = s.mram := by cases h <;> rfl
@[simp] theorem setHs_dramA (s : State) (h : Half) (v : HalfSt) : (s.setHs h v).dramA = s.dramA := by cases h <;> rfl
@[simp] theorem setHs_dramB (s : State) (h : Half) (v : HalfSt) : (s.setHs h v).dramB = s.dramB := by cases h <;> rfl
@[simp] theorem setHs_spmA (s : State) (h : Half) (v : HalfSt) : (s.setHs h v).spmA = s.spmA := by cases h <;> rfl
@[simp] theorem setHs_spmB (s : State) (h : Half) (v : HalfSt) : (s.setHs h v).spmB = s.spmB := by cases h <;> rfl
@[simp] theorem setHs_reply (s : State) (h : Half) (v : HalfSt) : (s.setHs h v).reply = s.reply := by cases h <;> rfl
@[simp] theorem setHs_irq (s : State) (h : Half) (v : HalfSt) : (s.setHs h v).irq = s.irq := by cases h <;> rfl
@[simp] theorem setHs_copyFault (s : State) (h : Half) (v : HalfSt) : (s.setHs h v).copyFault = s.copyFault := by cases h <;> rfl
@[simp] theorem setHs_ports (s : State) (h : Half) (v : HalfSt) : (s.setHs h v).ports = s.ports := by cases h <;> rfl
@[simp] theorem setHs_pat (s : State) (h : Half) (v : HalfSt) : (s.setHs h v).pat = s.pat := by cases h <;> rfl
@[simp] theorem setHs_hoRun (s : State) (h : Half) (v : HalfSt) : (s.setHs h v).hoRun = s.hoRun := by cases h <;> rfl
@[simp] theorem setHs_shed (s : State) (h : Half) (v : HalfSt) : (s.setHs h v).shed = s.shed := by cases h <;> rfl
@[simp] theorem setHs_arm (s : State) (h : Half) (v : HalfSt) : (s.setHs h v).arm = s.arm := by cases h <;> rfl
@[simp] theorem setHs_rearm (s : State) (h : Half) (v : HalfSt) : (s.setHs h v).rearm = s.rearm := by cases h <;> rfl
@[simp] theorem setHs_scrub (s : State) (h : Half) (v : HalfSt) : (s.setHs h v).scrub = s.scrub := by cases h <;> rfl
@[simp] theorem setHs_start (s : State) (h : Half) (v : HalfSt) : (s.setHs h v).start = s.start := by cases h <;> rfl
@[simp] theorem setHs_insp (s : State) (h : Half) (v : HalfSt) : (s.setHs h v).insp = s.insp := by cases h <;> rfl
@[simp] theorem setHs_lcs (s : State) (h : Half) (v : HalfSt) : (s.setHs h v).lcs = s.lcs := by cases h <;> rfl
@[simp] theorem setHs_park (s : State) (h : Half) (v : HalfSt) : (s.setHs h v).park = s.park := by cases h <;> rfl
@[simp] theorem setHs_pw (s : State) (h : Half) (v : HalfSt) : (s.setHs h v).pw = s.pw := by cases h <;> rfl
@[simp] theorem setHs_svc (s : State) (h : Half) (v : HalfSt) : (s.setHs h v).svc = s.svc := by cases h <;> rfl
@[simp] theorem setHs_touch (s : State) (h : Half) (v : HalfSt) : (s.setHs h v).touch = s.touch := by cases h <;> rfl
@[simp] theorem setHs_hap (s : State) (h : Half) (v : HalfSt) : (s.setHs h v).hap = s.hap := by cases h <;> rfl
@[simp] theorem setHs_hapFold (s : State) (h : Half) (v : HalfSt) : (s.setHs h v).hapFold = s.hapFold := by cases h <;> rfl
@[simp] theorem setHs_audio (s : State) (h : Half) (v : HalfSt) : (s.setHs h v).audio = s.audio := by cases h <;> rfl
@[simp] theorem setHs_peer (s : State) (h : Half) (v : HalfSt) : (s.setHs h v).peer = s.peer := by cases h <;> rfl
@[simp] theorem setHs_nightEntered (s : State) (h : Half) (v : HalfSt) : (s.setHs h v).nightEntered = s.nightEntered := by cases h <;> rfl
@[simp] theorem setHs_r_reg (s : State) (h : Half) (v : HalfSt) (q : Pg) (o : Nat) : (s.setHs h v).reg q o = s.reg q o := by cases h <;> rfl
@[simp] theorem setHs_r_get (s : State) (h : Half) (v : HalfSt) (q : Pg) (g : Fld) : (s.setHs h v).get q g = s.get q g := by cases h <;> rfl
@[simp] theorem setHs_r_flag (s : State) (h : Half) (v : HalfSt) (q : Pg) (g : Fld) : (s.setHs h v).flag q g = s.flag q g := by cases h <;> rfl
@[simp] theorem setHs_r_port (s : State) (h : Half) (v : HalfSt) (k : Nat) : (s.setHs h v).port k = s.port k := by cases h <;> rfl
@[simp] theorem setHs_r_src (s : State) (h : Half) (v : HalfSt) (k : Nat) : (s.setHs h v).src k = s.src k := by cases h <;> rfl
@[simp] theorem setHs_r_chan (s : State) (h : Half) (v : HalfSt) (k : Nat) : (s.setHs h v).chan k = s.chan k := by cases h <;> rfl
@[simp] theorem setHs_r_dram (s : State) (h : Half) (v : HalfSt) (k : Half) : (s.setHs h v).dram k = s.dram k := by cases k <;> (cases h <;> rfl)
@[simp] theorem setHs_r_spm (s : State) (h : Half) (v : HalfSt) (k : Half) : (s.setHs h v).spm k = s.spm k := by cases k <;> (cases h <;> rfl)

/-! ### setPort -/

@[simp] theorem setPort_pending (s : State) (n : Nat) (v : Port) : (s.setPort n v).pending = s.pending := rfl
@[simp] theorem setPort_free (s : State) (n : Nat) (v : Port) : (s.setPort n v).free = s.free := rfl
@[simp] theorem setPort_time (s : State) (n : Nat) (v : Port) : (s.setPort n v).time = s.time := rfl
@[simp] theorem setPort_regs (s : State) (n : Nat) (v : Port) : (s.setPort n v).regs = s.regs := rfl
@[simp] theorem setPort_held (s : State) (n : Nat) (v : Port) : (s.setPort n v).held = s.held := rfl
@[simp] theorem setPort_mram (s : State) (n : Nat) (v : Port) : (s.setPort n v).mram = s.mram := rfl
@[simp] theorem setPort_dramA (s : State) (n : Nat) (v : Port) : (s.setPort n v).dramA = s.dramA := rfl
@[simp] theorem setPort_dramB (s : State) (n : Nat) (v : Port) : (s.setPort n v).dramB = s.dramB := rfl
@[simp] theorem setPort_spmA (s : State) (n : Nat) (v : Port) : (s.setPort n v).spmA = s.spmA := rfl
@[simp] theorem setPort_spmB (s : State) (n : Nat) (v : Port) : (s.setPort n v).spmB = s.spmB := rfl
@[simp] theorem setPort_reply (s : State) (n : Nat) (v : Port) : (s.setPort n v).reply = s.reply := rfl
@[simp] theorem setPort_irq (s : State) (n : Nat) (v : Port) : (s.setPort n v).irq = s.irq := rfl
@[simp] theorem setPort_copyFault (s : State) (n : Nat) (v : Port) : (s.setPort n v).copyFault = s.copyFault := rfl
@[simp] theorem setPort_halfA (s : State) (n : Nat) (v : Port) : (s.setPort n v).halfA = s.halfA := rfl
@[simp] theorem setPort_halfB (s : State) (n : Nat) (v : Port) : (s.setPort n v).halfB = s.halfB := rfl
@[simp] theorem setPort_pat (s : State) (n : Nat) (v : Port) : (s.setPort n v).pat = s.pat := rfl
@[simp] theorem setPort_hoRun (s : State) (n : Nat) (v : Port) : (s.setPort n v).hoRun = s.hoRun := rfl
@[simp] theorem setPort_shed (s : State) (n : Nat) (v : Port) : (s.setPort n v).shed = s.shed := rfl
@[simp] theorem setPort_arm (s : State) (n : Nat) (v : Port) : (s.setPort n v).arm = s.arm := rfl
@[simp] theorem setPort_rearm (s : State) (n : Nat) (v : Port) : (s.setPort n v).rearm = s.rearm := rfl
@[simp] theorem setPort_scrub (s : State) (n : Nat) (v : Port) : (s.setPort n v).scrub = s.scrub := rfl
@[simp] theorem setPort_start (s : State) (n : Nat) (v : Port) : (s.setPort n v).start = s.start := rfl
@[simp] theorem setPort_insp (s : State) (n : Nat) (v : Port) : (s.setPort n v).insp = s.insp := rfl
@[simp] theorem setPort_lcs (s : State) (n : Nat) (v : Port) : (s.setPort n v).lcs = s.lcs := rfl
@[simp] theorem setPort_park (s : State) (n : Nat) (v : Port) : (s.setPort n v).park = s.park := rfl
@[simp] theorem setPort_pw (s : State) (n : Nat) (v : Port) : (s.setPort n v).pw = s.pw := rfl
@[simp] theorem setPort_svc (s : State) (n : Nat) (v : Port) : (s.setPort n v).svc = s.svc := rfl
@[simp] theorem setPort_touch (s : State) (n : Nat) (v : Port) : (s.setPort n v).touch = s.touch := rfl
@[simp] theorem setPort_hap (s : State) (n : Nat) (v : Port) : (s.setPort n v).hap = s.hap := rfl
@[simp] theorem setPort_hapFold (s : State) (n : Nat) (v : Port) : (s.setPort n v).hapFold = s.hapFold := rfl
@[simp] theorem setPort_audio (s : State) (n : Nat) (v : Port) : (s.setPort n v).audio = s.audio := rfl
@[simp] theorem setPort_peer (s : State) (n : Nat) (v : Port) : (s.setPort n v).peer = s.peer := rfl
@[simp] theorem setPort_nightEntered (s : State) (n : Nat) (v : Port) : (s.setPort n v).nightEntered = s.nightEntered := rfl
@[simp] theorem setPort_r_reg (s : State) (n : Nat) (v : Port) (q : Pg) (o : Nat) : (s.setPort n v).reg q o = s.reg q o := rfl
@[simp] theorem setPort_r_get (s : State) (n : Nat) (v : Port) (q : Pg) (g : Fld) : (s.setPort n v).get q g = s.get q g := rfl
@[simp] theorem setPort_r_flag (s : State) (n : Nat) (v : Port) (q : Pg) (g : Fld) : (s.setPort n v).flag q g = s.flag q g := rfl
@[simp] theorem setPort_r_src (s : State) (n : Nat) (v : Port) (k : Nat) : (s.setPort n v).src k = s.src k := rfl
@[simp] theorem setPort_r_chan (s : State) (n : Nat) (v : Port) (k : Nat) : (s.setPort n v).chan k = s.chan k := rfl
@[simp] theorem setPort_r_hs (s : State) (n : Nat) (v : Port) (k : Half) : (s.setPort n v).hs k = s.hs k := by cases k <;> rfl
@[simp] theorem setPort_r_dram (s : State) (n : Nat) (v : Port) (k : Half) : (s.setPort n v).dram k = s.dram k := by cases k <;> rfl
@[simp] theorem setPort_r_spm (s : State) (n : Nat) (v : Port) (k : Half) : (s.setPort n v).spm k = s.spm k := by cases k <;> rfl

/-! ### setSrc -/

@[simp] theorem setSrc_pending (s : State) (n : Nat) (v : Source) : (s.setSrc n v).pending = s.pending := rfl
@[simp] theorem setSrc_free (s : State) (n : Nat) (v : Source) : (s.setSrc n v).free = s.free := rfl
@[simp] theorem setSrc_time (s : State) (n : Nat) (v : Source) : (s.setSrc n v).time = s.time := rfl
@[simp] theorem setSrc_regs (s : State) (n : Nat) (v : Source) : (s.setSrc n v).regs = s.regs := rfl
@[simp] theorem setSrc_held (s : State) (n : Nat) (v : Source) : (s.setSrc n v).held = s.held := rfl
@[simp] theorem setSrc_mram (s : State) (n : Nat) (v : Source) : (s.setSrc n v).mram = s.mram := rfl
@[simp] theorem setSrc_dramA (s : State) (n : Nat) (v : Source) : (s.setSrc n v).dramA = s.dramA := rfl
@[simp] theorem setSrc_dramB (s : State) (n : Nat) (v : Source) : (s.setSrc n v).dramB = s.dramB := rfl
@[simp] theorem setSrc_spmA (s : State) (n : Nat) (v : Source) : (s.setSrc n v).spmA = s.spmA := rfl
@[simp] theorem setSrc_spmB (s : State) (n : Nat) (v : Source) : (s.setSrc n v).spmB = s.spmB := rfl
@[simp] theorem setSrc_reply (s : State) (n : Nat) (v : Source) : (s.setSrc n v).reply = s.reply := rfl
@[simp] theorem setSrc_irq (s : State) (n : Nat) (v : Source) : (s.setSrc n v).irq = s.irq := rfl
@[simp] theorem setSrc_copyFault (s : State) (n : Nat) (v : Source) : (s.setSrc n v).copyFault = s.copyFault := rfl
@[simp] theorem setSrc_halfA (s : State) (n : Nat) (v : Source) : (s.setSrc n v).halfA = s.halfA := rfl
@[simp] theorem setSrc_halfB (s : State) (n : Nat) (v : Source) : (s.setSrc n v).halfB = s.halfB := rfl
@[simp] theorem setSrc_ports (s : State) (n : Nat) (v : Source) : (s.setSrc n v).ports = s.ports := rfl
@[simp] theorem setSrc_pat (s : State) (n : Nat) (v : Source) : (s.setSrc n v).pat = s.pat := rfl
@[simp] theorem setSrc_hoRun (s : State) (n : Nat) (v : Source) : (s.setSrc n v).hoRun = s.hoRun := rfl
@[simp] theorem setSrc_shed (s : State) (n : Nat) (v : Source) : (s.setSrc n v).shed = s.shed := rfl
@[simp] theorem setSrc_arm (s : State) (n : Nat) (v : Source) : (s.setSrc n v).arm = s.arm := rfl
@[simp] theorem setSrc_rearm (s : State) (n : Nat) (v : Source) : (s.setSrc n v).rearm = s.rearm := rfl
@[simp] theorem setSrc_scrub (s : State) (n : Nat) (v : Source) : (s.setSrc n v).scrub = s.scrub := rfl
@[simp] theorem setSrc_start (s : State) (n : Nat) (v : Source) : (s.setSrc n v).start = s.start := rfl
@[simp] theorem setSrc_insp (s : State) (n : Nat) (v : Source) : (s.setSrc n v).insp = s.insp := rfl
@[simp] theorem setSrc_lcs (s : State) (n : Nat) (v : Source) : (s.setSrc n v).lcs = s.lcs := rfl
@[simp] theorem setSrc_park (s : State) (n : Nat) (v : Source) : (s.setSrc n v).park = s.park := rfl
@[simp] theorem setSrc_pw (s : State) (n : Nat) (v : Source) : (s.setSrc n v).pw = s.pw := rfl
@[simp] theorem setSrc_svc (s : State) (n : Nat) (v : Source) : (s.setSrc n v).svc = s.svc := rfl
@[simp] theorem setSrc_hap (s : State) (n : Nat) (v : Source) : (s.setSrc n v).hap = s.hap := rfl
@[simp] theorem setSrc_hapFold (s : State) (n : Nat) (v : Source) : (s.setSrc n v).hapFold = s.hapFold := rfl
@[simp] theorem setSrc_audio (s : State) (n : Nat) (v : Source) : (s.setSrc n v).audio = s.audio := rfl
@[simp] theorem setSrc_peer (s : State) (n : Nat) (v : Source) : (s.setSrc n v).peer = s.peer := rfl
@[simp] theorem setSrc_nightEntered (s : State) (n : Nat) (v : Source) : (s.setSrc n v).nightEntered = s.nightEntered := rfl
@[simp] theorem setSrc_r_reg (s : State) (n : Nat) (v : Source) (q : Pg) (o : Nat) : (s.setSrc n v).reg q o = s.reg q o := rfl
@[simp] theorem setSrc_r_get (s : State) (n : Nat) (v : Source) (q : Pg) (g : Fld) : (s.setSrc n v).get q g = s.get q g := rfl
@[simp] theorem setSrc_r_flag (s : State) (n : Nat) (v : Source) (q : Pg) (g : Fld) : (s.setSrc n v).flag q g = s.flag q g := rfl
@[simp] theorem setSrc_r_port (s : State) (n : Nat) (v : Source) (k : Nat) : (s.setSrc n v).port k = s.port k := rfl
@[simp] theorem setSrc_r_chan (s : State) (n : Nat) (v : Source) (k : Nat) : (s.setSrc n v).chan k = s.chan k := rfl
@[simp] theorem setSrc_r_hs (s : State) (n : Nat) (v : Source) (k : Half) : (s.setSrc n v).hs k = s.hs k := by cases k <;> rfl
@[simp] theorem setSrc_r_dram (s : State) (n : Nat) (v : Source) (k : Half) : (s.setSrc n v).dram k = s.dram k := by cases k <;> rfl
@[simp] theorem setSrc_r_spm (s : State) (n : Nat) (v : Source) (k : Half) : (s.setSrc n v).spm k = s.spm k := by cases k <;> rfl

/-! ### setChan -/

@[simp] theorem setChan_pending (s : State) (n : Nat) (v : HapChan) : (s.setChan n v).pending = s.pending := rfl
@[simp] theorem setChan_free (s : State) (n : Nat) (v : HapChan) : (s.setChan n v).free = s.free := rfl
@[simp] theorem setChan_time (s : State) (n : Nat) (v : HapChan) : (s.setChan n v).time = s.time := rfl
@[simp] theorem setChan_regs (s : State) (n : Nat) (v : HapChan) : (s.setChan n v).regs = s.regs := rfl
@[simp] theorem setChan_held (s : State) (n : Nat) (v : HapChan) : (s.setChan n v).held = s.held := rfl
@[simp] theorem setChan_mram (s : State) (n : Nat) (v : HapChan) : (s.setChan n v).mram = s.mram := rfl
@[simp] theorem setChan_dramA (s : State) (n : Nat) (v : HapChan) : (s.setChan n v).dramA = s.dramA := rfl
@[simp] theorem setChan_dramB (s : State) (n : Nat) (v : HapChan) : (s.setChan n v).dramB = s.dramB := rfl
@[simp] theorem setChan_spmA (s : State) (n : Nat) (v : HapChan) : (s.setChan n v).spmA = s.spmA := rfl
@[simp] theorem setChan_spmB (s : State) (n : Nat) (v : HapChan) : (s.setChan n v).spmB = s.spmB := rfl
@[simp] theorem setChan_reply (s : State) (n : Nat) (v : HapChan) : (s.setChan n v).reply = s.reply := rfl
@[simp] theorem setChan_irq (s : State) (n : Nat) (v : HapChan) : (s.setChan n v).irq = s.irq := rfl
@[simp] theorem setChan_copyFault (s : State) (n : Nat) (v : HapChan) : (s.setChan n v).copyFault = s.copyFault := rfl
@[simp] theorem setChan_halfA (s : State) (n : Nat) (v : HapChan) : (s.setChan n v).halfA = s.halfA := rfl
@[simp] theorem setChan_halfB (s : State) (n : Nat) (v : HapChan) : (s.setChan n v).halfB = s.halfB := rfl
@[simp] theorem setChan_ports (s : State) (n : Nat) (v : HapChan) : (s.setChan n v).ports = s.ports := rfl
@[simp] theorem setChan_pat (s : State) (n : Nat) (v : HapChan) : (s.setChan n v).pat = s.pat := rfl
@[simp] theorem setChan_hoRun (s : State) (n : Nat) (v : HapChan) : (s.setChan n v).hoRun = s.hoRun := rfl
@[simp] theorem setChan_shed (s : State) (n : Nat) (v : HapChan) : (s.setChan n v).shed = s.shed := rfl
@[simp] theorem setChan_arm (s : State) (n : Nat) (v : HapChan) : (s.setChan n v).arm = s.arm := rfl
@[simp] theorem setChan_rearm (s : State) (n : Nat) (v : HapChan) : (s.setChan n v).rearm = s.rearm := rfl
@[simp] theorem setChan_scrub (s : State) (n : Nat) (v : HapChan) : (s.setChan n v).scrub = s.scrub := rfl
@[simp] theorem setChan_start (s : State) (n : Nat) (v : HapChan) : (s.setChan n v).start = s.start := rfl
@[simp] theorem setChan_insp (s : State) (n : Nat) (v : HapChan) : (s.setChan n v).insp = s.insp := rfl
@[simp] theorem setChan_lcs (s : State) (n : Nat) (v : HapChan) : (s.setChan n v).lcs = s.lcs := rfl
@[simp] theorem setChan_park (s : State) (n : Nat) (v : HapChan) : (s.setChan n v).park = s.park := rfl
@[simp] theorem setChan_pw (s : State) (n : Nat) (v : HapChan) : (s.setChan n v).pw = s.pw := rfl
@[simp] theorem setChan_svc (s : State) (n : Nat) (v : HapChan) : (s.setChan n v).svc = s.svc := rfl
@[simp] theorem setChan_touch (s : State) (n : Nat) (v : HapChan) : (s.setChan n v).touch = s.touch := rfl
@[simp] theorem setChan_hapFold (s : State) (n : Nat) (v : HapChan) : (s.setChan n v).hapFold = s.hapFold := rfl
@[simp] theorem setChan_audio (s : State) (n : Nat) (v : HapChan) : (s.setChan n v).audio = s.audio := rfl
@[simp] theorem setChan_peer (s : State) (n : Nat) (v : HapChan) : (s.setChan n v).peer = s.peer := rfl
@[simp] theorem setChan_nightEntered (s : State) (n : Nat) (v : HapChan) : (s.setChan n v).nightEntered = s.nightEntered := rfl
@[simp] theorem setChan_r_reg (s : State) (n : Nat) (v : HapChan) (q : Pg) (o : Nat) : (s.setChan n v).reg q o = s.reg q o := rfl
@[simp] theorem setChan_r_get (s : State) (n : Nat) (v : HapChan) (q : Pg) (g : Fld) : (s.setChan n v).get q g = s.get q g := rfl
@[simp] theorem setChan_r_flag (s : State) (n : Nat) (v : HapChan) (q : Pg) (g : Fld) : (s.setChan n v).flag q g = s.flag q g := rfl
@[simp] theorem setChan_r_port (s : State) (n : Nat) (v : HapChan) (k : Nat) : (s.setChan n v).port k = s.port k := rfl
@[simp] theorem setChan_r_src (s : State) (n : Nat) (v : HapChan) (k : Nat) : (s.setChan n v).src k = s.src k := rfl
@[simp] theorem setChan_r_hs (s : State) (n : Nat) (v : HapChan) (k : Half) : (s.setChan n v).hs k = s.hs k := by cases k <;> rfl
@[simp] theorem setChan_r_dram (s : State) (n : Nat) (v : HapChan) (k : Half) : (s.setChan n v).dram k = s.dram k := by cases k <;> rfl
@[simp] theorem setChan_r_spm (s : State) (n : Nat) (v : HapChan) (k : Half) : (s.setChan n v).spm k = s.spm k := by cases k <;> rfl

/-! ### raise -/

@[simp] theorem raise_pending (s : State) (p : Pg) : (s.raise p).pending = s.pending := rfl
@[simp] theorem raise_free (s : State) (p : Pg) : (s.raise p).free = s.free := rfl
@[simp] theorem raise_time (s : State) (p : Pg) : (s.raise p).time = s.time := rfl
@[simp] theorem raise_regs (s : State) (p : Pg) : (s.raise p).regs = s.regs := rfl
@[simp] theorem raise_held (s : State) (p : Pg) : (s.raise p).held = s.held := rfl
@[simp] theorem raise_mram (s : State) (p : Pg) : (s.raise p).mram = s.mram := rfl
@[simp] theorem raise_dramA (s : State) (p : Pg) : (s.raise p).dramA = s.dramA := rfl
@[simp] theorem raise_dramB (s : State) (p : Pg) : (s.raise p).dramB = s.dramB := rfl
@[simp] theorem raise_spmA (s : State) (p : Pg) : (s.raise p).spmA = s.spmA := rfl
@[simp] theorem raise_spmB (s : State) (p : Pg) : (s.raise p).spmB = s.spmB := rfl
@[simp] theorem raise_reply (s : State) (p : Pg) : (s.raise p).reply = s.reply := rfl
@[simp] theorem raise_copyFault (s : State) (p : Pg) : (s.raise p).copyFault = s.copyFault := rfl
@[simp] theorem raise_halfA (s : State) (p : Pg) : (s.raise p).halfA = s.halfA := rfl
@[simp] theorem raise_halfB (s : State) (p : Pg) : (s.raise p).halfB = s.halfB := rfl
@[simp] theorem raise_ports (s : State) (p : Pg) : (s.raise p).ports = s.ports := rfl
@[simp] theorem raise_pat (s : State) (p : Pg) : (s.raise p).pat = s.pat := rfl
@[simp] theorem raise_hoRun (s : State) (p : Pg) : (s.raise p).hoRun = s.hoRun := rfl
@[simp] theorem raise_shed (s : State) (p : Pg) : (s.raise p).shed = s.shed := rfl
@[simp] theorem raise_arm (s : State) (p : Pg) : (s.raise p).arm = s.arm := rfl
@[simp] theorem raise_rearm (s : State) (p : Pg) : (s.raise p).rearm = s.rearm := rfl
@[simp] theorem raise_scrub (s : State) (p : Pg) : (s.raise p).scrub = s.scrub := rfl
@[simp] theorem raise_start (s : State) (p : Pg) : (s.raise p).start = s.start := rfl
@[simp] theorem raise_insp (s : State) (p : Pg) : (s.raise p).insp = s.insp := rfl
@[simp] theorem raise_lcs (s : State) (p : Pg) : (s.raise p).lcs = s.lcs := rfl
@[simp] theorem raise_park (s : State) (p : Pg) : (s.raise p).park = s.park := rfl
@[simp] theorem raise_pw (s : State) (p : Pg) : (s.raise p).pw = s.pw := rfl
@[simp] theorem raise_svc (s : State) (p : Pg) : (s.raise p).svc = s.svc := rfl
@[simp] theorem raise_touch (s : State) (p : Pg) : (s.raise p).touch = s.touch := rfl
@[simp] theorem raise_hap (s : State) (p : Pg) : (s.raise p).hap = s.hap := rfl
@[simp] theorem raise_hapFold (s : State) (p : Pg) : (s.raise p).hapFold = s.hapFold := rfl
@[simp] theorem raise_audio (s : State) (p : Pg) : (s.raise p).audio = s.audio := rfl
@[simp] theorem raise_peer (s : State) (p : Pg) : (s.raise p).peer = s.peer := rfl
@[simp] theorem raise_nightEntered (s : State) (p : Pg) : (s.raise p).nightEntered = s.nightEntered := rfl
@[simp] theorem raise_r_reg (s : State) (p : Pg) (q : Pg) (o : Nat) : (s.raise p).reg q o = s.reg q o := rfl
@[simp] theorem raise_r_get (s : State) (p : Pg) (q : Pg) (g : Fld) : (s.raise p).get q g = s.get q g := rfl
@[simp] theorem raise_r_flag (s : State) (p : Pg) (q : Pg) (g : Fld) : (s.raise p).flag q g = s.flag q g := rfl
@[simp] theorem raise_r_port (s : State) (p : Pg) (k : Nat) : (s.raise p).port k = s.port k := rfl
@[simp] theorem raise_r_src (s : State) (p : Pg) (k : Nat) : (s.raise p).src k = s.src k := rfl
@[simp] theorem raise_r_chan (s : State) (p : Pg) (k : Nat) : (s.raise p).chan k = s.chan k := rfl
@[simp] theorem raise_r_hs (s : State) (p : Pg) (k : Half) : (s.raise p).hs k = s.hs k := by cases k <;> rfl
@[simp] theorem raise_r_dram (s : State) (p : Pg) (k : Half) : (s.raise p).dram k = s.dram k := by cases k <;> rfl
@[simp] theorem raise_r_spm (s : State) (p : Pg) (k : Half) : (s.raise p).spm k = s.spm k := by cases k <;> rfl

/-! ### accessFault -/

@[simp] theorem accessFault_pending (s : State) : (s.accessFault).pending = s.pending := rfl
@[simp] theorem accessFault_free (s : State) : (s.accessFault).free = s.free := rfl
@[simp] theorem accessFault_time (s : State) : (s.accessFault).time = s.time := rfl
@[simp] theorem accessFault_regs (s : State) : (s.accessFault).regs = s.regs := rfl
@[simp] theorem accessFault_held (s : State) : (s.accessFault).held = s.held := rfl
@[simp] theorem accessFault_mram (s : State) : (s.accessFault).mram = s.mram := rfl
@[simp] theorem accessFault_dramA (s : State) : (s.accessFault).dramA = s.dramA := rfl
@[simp] theorem accessFault_dramB (s : State) : (s.accessFault).dramB = s.dramB := rfl
@[simp] theorem accessFault_spmA (s : State) : (s.accessFault).spmA = s.spmA := rfl
@[simp] theorem accessFault_spmB (s : State) : (s.accessFault).spmB = s.spmB := rfl
@[simp] theorem accessFault_irq (s : State) : (s.accessFault).irq = s.irq := rfl
@[simp] theorem accessFault_copyFault (s : State) : (s.accessFault).copyFault = s.copyFault := rfl
@[simp] theorem accessFault_halfA (s : State) : (s.accessFault).halfA = s.halfA := rfl
@[simp] theorem accessFault_halfB (s : State) : (s.accessFault).halfB = s.halfB := rfl
@[simp] theorem accessFault_ports (s : State) : (s.accessFault).ports = s.ports := rfl
@[simp] theorem accessFault_pat (s : State) : (s.accessFault).pat = s.pat := rfl
@[simp] theorem accessFault_hoRun (s : State) : (s.accessFault).hoRun = s.hoRun := rfl
@[simp] theorem accessFault_shed (s : State) : (s.accessFault).shed = s.shed := rfl
@[simp] theorem accessFault_arm (s : State) : (s.accessFault).arm = s.arm := rfl
@[simp] theorem accessFault_rearm (s : State) : (s.accessFault).rearm = s.rearm := rfl
@[simp] theorem accessFault_scrub (s : State) : (s.accessFault).scrub = s.scrub := rfl
@[simp] theorem accessFault_start (s : State) : (s.accessFault).start = s.start := rfl
@[simp] theorem accessFault_insp (s : State) : (s.accessFault).insp = s.insp := rfl
@[simp] theorem accessFault_lcs (s : State) : (s.accessFault).lcs = s.lcs := rfl
@[simp] theorem accessFault_park (s : State) : (s.accessFault).park = s.park := rfl
@[simp] theorem accessFault_pw (s : State) : (s.accessFault).pw = s.pw := rfl
@[simp] theorem accessFault_svc (s : State) : (s.accessFault).svc = s.svc := rfl
@[simp] theorem accessFault_touch (s : State) : (s.accessFault).touch = s.touch := rfl
@[simp] theorem accessFault_hap (s : State) : (s.accessFault).hap = s.hap := rfl
@[simp] theorem accessFault_hapFold (s : State) : (s.accessFault).hapFold = s.hapFold := rfl
@[simp] theorem accessFault_audio (s : State) : (s.accessFault).audio = s.audio := rfl
@[simp] theorem accessFault_peer (s : State) : (s.accessFault).peer = s.peer := rfl
@[simp] theorem accessFault_nightEntered (s : State) : (s.accessFault).nightEntered = s.nightEntered := rfl
@[simp] theorem accessFault_r_reg (s : State) (q : Pg) (o : Nat) : (s.accessFault).reg q o = s.reg q o := rfl
@[simp] theorem accessFault_r_get (s : State) (q : Pg) (g : Fld) : (s.accessFault).get q g = s.get q g := rfl
@[simp] theorem accessFault_r_flag (s : State) (q : Pg) (g : Fld) : (s.accessFault).flag q g = s.flag q g := rfl
@[simp] theorem accessFault_r_port (s : State) (k : Nat) : (s.accessFault).port k = s.port k := rfl
@[simp] theorem accessFault_r_src (s : State) (k : Nat) : (s.accessFault).src k = s.src k := rfl
@[simp] theorem accessFault_r_chan (s : State) (k : Nat) : (s.accessFault).chan k = s.chan k := rfl
@[simp] theorem accessFault_r_hs (s : State) (k : Half) : (s.accessFault).hs k = s.hs k := by cases k <;> rfl
@[simp] theorem accessFault_r_dram (s : State) (k : Half) : (s.accessFault).dram k = s.dram k := by cases k <;> rfl
@[simp] theorem accessFault_r_spm (s : State) (k : Half) : (s.accessFault).spm k = s.spm k := by cases k <;> rfl

end Sys2Proof.Machine
end

