-- ==== Sys2Proof/Laws/Canon.lean ====
section
/-! SUPPORT. The shared operations keep the canonical form of registers and memories. -/

namespace Sys2Proof.Machine

/-- A next state is in canonical form. -/
def ResCanon : Res → Prop
  | .next t => t.Canon
  | .fault _ => True
  | .refused _ => True

theorem resCanon_next {s : State} (h : s.Canon) : ResCanon (.next s) := h
theorem resCanon_fault (f : Fault) : ResCanon (.fault f) := trivial
theorem resCanon_refused (r : Refusal) : ResCanon (.refused r) := trivial
theorem resCanon_ite {c : Prop} [Decidable c] {a b : Res} (ha : ResCanon a) (hb : ResCanon b) : ResCanon (if c then a else b) := by
  split <;> assumption
theorem canon_ite {c : Prop} [Decidable c] {a b : State} (ha : a.Canon) (hb : b.Canon) : State.Canon (if c then a else b) := by
  split <;> assumption

/-- Only the registers and the memories matter. -/
def CanonT (regs : List (Nat × Word)) (mram dramA dramB spmA spmB : List Host.Cell) : Prop :=
  tblWf regReset regs = true ∧ Memory.wf mram = true ∧ (Memory.wf dramA = true ∧ Memory.wf dramB = true) ∧
    Memory.wf spmA = true ∧ Memory.wf spmB = true

theorem canonT_of {s : State} (h : s.Canon) : CanonT s.regs s.mram s.dramA s.dramB s.spmA s.spmB := h

theorem canon_mk {pending free time regs held mram dramA dramB spmA spmB reply irq copyFault halfA halfB ports pat hoRun shed arm rearm scrub
    start insp lcs park pw svc touch hap hapFold audio peer nightEntered} :
    State.Canon ⟨pending, free, time, regs, held, mram, dramA, dramB, spmA, spmB, reply, irq, copyFault, halfA, halfB, ports, pat,
      hoRun, shed, arm, rearm, scrub, start, insp, lcs, park, pw, svc, touch, hap, hapFold, audio, peer, nightEntered⟩ ↔
    CanonT regs mram dramA dramB spmA spmB := Iff.rfl

theorem canon_setReg {s : State} (h : s.Canon) : ∀ p off w, (s.setReg p off w).Canon :=
  fun _ _ _ => ⟨tblSet_wf _ _ h.1, h.2⟩
theorem canon_put {s : State} (h : s.Canon) : ∀ p f v, (s.put p f v).Canon := fun _ _ _ => canon_setReg h _ _ _
theorem canon_setMram {s : State} (h : s.Canon) : ∀ a bs, (s.setMram a bs).Canon :=
  fun _ _ => ⟨h.1, memSetBytes_wf _ _ _ h.2.1, h.2.2⟩
theorem canon_setHs {s : State} (h : s.Canon) : ∀ k v, (s.setHs k v).Canon := fun k _ => by cases k <;> exact h
theorem canon_clearRegs {s : State} (h : s.Canon) : ∀ sel clr, (s.clearRegs sel clr).Canon := by
  intro sel clr
  unfold State.clearRegs
  refine ⟨?_, h.2⟩
  dsimp only
  exact tblMap_wf _ h.1
theorem wf_dram {s : State} (h : s.Canon) (k : Half) : Memory.wf (s.dram k) = true := by
  cases k
  · exact h.2.2.1.1
  · exact h.2.2.1.2
theorem wf_spm {s : State} (h : s.Canon) (k : Half) : Memory.wf (s.spm k) = true := by
  cases k
  · exact h.2.2.2.1
  · exact h.2.2.2.2
theorem canon_setDram {s : State} (h : s.Canon) {m : List Host.Cell} (hm : Memory.wf m = true) : ∀ k, (s.setDram k m).Canon := by
  intro k
  cases k
  · exact ⟨h.1, h.2.1, ⟨hm, h.2.2.1.2⟩, h.2.2.2⟩
  · exact ⟨h.1, h.2.1, ⟨h.2.2.1.1, hm⟩, h.2.2.2⟩
theorem canon_setSpm {s : State} (h : s.Canon) {m : List Host.Cell} (hm : Memory.wf m = true) : ∀ k, (s.setSpm k m).Canon := by
  intro k
  cases k
  · exact ⟨h.1, h.2.1, h.2.2.1, hm, h.2.2.2.2⟩
  · exact ⟨h.1, h.2.1, h.2.2.1, h.2.2.2.1, hm⟩
theorem canon_each {α : Type} {s : State} (h : s.Canon) {xs : List α} {f : α → State → State}
    (hf : ∀ x t, State.Canon t → State.Canon (f x t)) : (s.each xs f).Canon := by
  unfold State.each
  induction xs generalizing s with
  | nil => exact h
  | cons x r ih => exact ih (hf x s h)
theorem canon_whenB {s : State} (h : s.Canon) {c : Bool} {f : State → State} (hf : ∀ t, State.Canon t → State.Canon (f t)) :
    (s.whenB c f).Canon := by
  unfold State.whenB
  split
  · exact hf s h
  · exact h
theorem canon_accessFault {s : State} (h : s.Canon) : s.accessFault.Canon := h
theorem canon_takeFree {s : State} (h : s.Canon) : s.takeFree.2.Canon := h
theorem canon_takeFree_eq {s t : State} {v : Nat} (e : s.takeFree = (v, t)) (h : s.Canon) : t.Canon := by
  cases e
  exact h

end Sys2Proof.Machine
end

