-- ==== Sys2Proof/Laws/CanonState.lean ====
section
/-! SUPPORT. Each operation of the machine keeps the canonical form of registers and memories. -/

namespace Sys2Proof.Machine

theorem canon_putBit {s : State} (h : s.Canon) : ∀ a1 a2 a3 a4, State.Canon (State.putBit s a1 a2 a3 a4) := by
  intro a1 a2 a3 a4
  unfold State.putBit
  repeat' with_reducible first | assumption | (intro _) | apply canon_put

theorem canon_setHap {s : State} (h : s.Canon) : ∀ a1 a2, State.Canon (State.setHap s a1 a2) := by
  intro a1 a2
  unfold State.setHap
  repeat' with_reducible first | assumption | (intro _) | apply canon_put | apply canon_putBit

theorem canon_setChan {s : State} (h : s.Canon) : ∀ a1 a2, State.Canon (State.setChan s a1 a2) := by
  intro a1 a2
  unfold State.setChan
  repeat' with_reducible first | assumption | (intro _) | apply canon_ite | apply resCanon_ite | apply resCanon_next | simp only [canon_mk] | apply canonT_of

theorem canon_hapIdle {s : State} (h : s.Canon) : ∀ a1, State.Canon (State.hapIdle s a1) := by
  intro a1
  unfold State.hapIdle
  repeat' with_reducible first | assumption | (intro _) | apply canon_setHap | apply canon_setChan

theorem canon_hapBrake {s : State} (h : s.Canon) : ∀ a1, State.Canon (State.hapBrake s a1) := by
  intro a1
  unfold State.hapBrake
  repeat' with_reducible first | assumption | (intro _) | apply canon_setHap | apply canon_setChan | apply canon_hapIdle | apply canon_ite

theorem canon_setHart {s : State} (h : s.Canon) : ∀ a1 a2 a3, State.Canon (State.setHart s a1 a2 a3) := by
  intro a1 a2 a3
  unfold State.setHart
  repeat' with_reducible first | assumption | (intro _) | apply canon_setHs

theorem canon_setDirty {s : State} (h : s.Canon) : ∀ a1 a2, State.Canon (State.setDirty s a1 a2) := by
  intro a1 a2
  unfold State.setDirty
  repeat' with_reducible first | assumption | (intro _) | apply canon_setHs | apply canon_put

theorem canon_markDirty {s : State} (h : s.Canon) : ∀ a1 a2 a3, State.Canon (State.markDirty s a1 a2 a3) := by
  intro a1 a2 a3
  unfold State.markDirty
  repeat' with_reducible first | assumption | (intro _) | apply canon_setHs | apply canon_setDirty

theorem canon_mirrorOut {s : State} (h : s.Canon) : ∀ a1 a2 a3, State.Canon (State.mirrorOut s a1 a2 a3) := by
  intro a1 a2 a3
  unfold State.mirrorOut
  repeat' with_reducible first | assumption | (intro _) | apply canon_whenB | apply canon_setHs | apply canon_markDirty | apply canon_ite | apply resCanon_ite | apply resCanon_next | apply canonT_of | dsimp only | split

theorem canon_setSpmU {s : State} (h : s.Canon) : ∀ a1 a2 a3, State.Canon (State.setSpmU s a1 a2 a3) := by
  intro a1 a2 a3
  unfold State.setSpmU
  repeat' with_reducible first | assumption | (intro _) | apply canon_setHs

theorem canon_storeBlock {s : State} (h : s.Canon) : ∀ a1 a2 a3, State.Canon (State.storeBlock s a1 a2 a3) := by
  intro a1 a2 a3
  unfold State.storeBlock
  repeat' with_reducible first | assumption | (intro _) | apply canon_mirrorOut | apply canon_setDram | apply canon_setSpmU | apply canon_setSpm | apply memSetBytes_wf | apply memClear_wf | apply wf_dram | apply wf_spm | exact memEmpty_wf | apply canon_ite

theorem canon_incSat {s : State} (h : s.Canon) : ∀ a1 a2, State.Canon (State.incSat s a1 a2) := by
  intro a1 a2
  unfold State.incSat
  repeat' with_reducible first | assumption | (intro _) | apply canon_put

theorem canon_putFree {s : State} (h : s.Canon) : ∀ a1 a2, State.Canon (State.putFree s a1 a2) := by
  intro a1 a2
  unfold State.putFree
  repeat' with_reducible first | assumption | (intro _) | apply canon_put | refine canon_takeFree_eq (by assumption) ?_ | apply canon_takeFree

theorem canon_snapStart {s : State} (h : s.Canon) : ∀ a1 a2 a3, State.Canon (State.snapStart s a1 a2 a3) := by
  intro a1 a2 a3
  unfold State.snapStart
  repeat' with_reducible first | assumption | (intro _) | apply canon_putBit | apply canon_put | apply canon_ite | apply resCanon_ite | apply resCanon_next | simp only [canon_mk] | apply canonT_of

theorem canon_record {s : State} (h : s.Canon) : ∀ a1, State.Canon (State.record s a1) := by
  intro a1
  unfold State.record
  repeat' with_reducible first | assumption | (intro _) | apply canon_incSat | apply canon_whenB | apply canon_snapStart | apply canon_ite | apply resCanon_ite | apply resCanon_next | simp only [canon_mk] | apply canonT_of | dsimp only | split

theorem canon_deliver {s : State} (h : s.Canon) : ∀ a1, State.Canon (State.deliver s a1) := by
  intro a1
  unfold State.deliver
  repeat' with_reducible first | assumption | (intro _) | apply canon_incSat | apply canon_record | apply canon_ite | apply resCanon_ite | apply resCanon_next | simp only [canon_mk] | apply canonT_of

theorem canon_event {s : State} (h : s.Canon) : ∀ a1 a2 a3 a4 a5, State.Canon (State.event s a1 a2 a3 a4 a5) := by
  intro a1 a2 a3 a4 a5
  unfold State.event
  repeat' with_reducible first | assumption | (intro _) | apply canon_deliver | apply canon_ite | apply resCanon_ite | apply resCanon_next | simp only [canon_mk] | apply canonT_of | dsimp only | split

theorem canon_refuse {s : State} (h : s.Canon) : ∀ a1 a2 a3 a4, State.Canon (State.refuse s a1 a2 a3 a4) := by
  intro a1 a2 a3 a4
  unfold State.refuse
  repeat' with_reducible first | assumption | (intro _) | apply canon_incSat | apply canon_whenB | apply canon_put | apply canon_putFree | apply canon_event | apply canon_ite

theorem canon_writeAt {s : State} (h : s.Canon) : ∀ a1 a2 a3 a4, State.Canon (State.writeAt s a1 a2 a3 a4) := by
  intro a1 a2 a3 a4
  unfold State.writeAt
  repeat' with_reducible first | assumption | (intro _) | apply canon_each | apply canon_storeBlock | apply canon_refuse | apply canon_ite

theorem canon_l2Evict {s : State} (h : s.Canon) : ∀ a1 a2, State.Canon (State.l2Evict s a1 a2) := by
  intro a1 a2
  unfold State.l2Evict
  repeat' with_reducible first | assumption | (intro _) | apply canon_setHs | apply canon_writeAt | apply canon_ite | apply resCanon_ite | apply resCanon_next | apply canonT_of | dsimp only | split

theorem canon_l2Fill {s : State} (h : s.Canon) : ∀ a1 a2 a3 a4 a5 a6, State.Canon (State.l2Fill s a1 a2 a3 a4 a5 a6) := by
  intro a1 a2 a3 a4 a5 a6
  unfold State.l2Fill
  repeat' with_reducible first | assumption | (intro _) | refine canon_takeFree_eq (by assumption) ?_ | apply canon_takeFree | apply canon_l2Evict | apply canon_setHs | apply canon_ite | apply resCanon_ite | apply resCanon_next | apply canonT_of | dsimp only | split

theorem canon_l1Flush {s : State} (h : s.Canon) : ∀ a1 a2, State.Canon (State.l1Flush s a1 a2) := by
  intro a1 a2
  unfold State.l1Flush
  repeat' with_reducible first | assumption | (intro _) | apply canon_each | apply canon_l2Fill | apply canon_setHart

theorem canon_worldSet {s : State} (h : s.Canon) : ∀ a1 a2 a3, State.Canon (State.worldSet s a1 a2 a3) := by
  intro a1 a2 a3
  unfold State.worldSet
  repeat' with_reducible first | assumption | (intro _) | apply canon_put | apply canon_l1Flush | apply canon_setHart | apply canon_ite

theorem canon_haltCheck {s : State} (h : s.Canon) : ∀ a1 a2, State.Canon (State.haltCheck s a1 a2) := by
  intro a1 a2
  unfold State.haltCheck
  repeat' with_reducible first | assumption | (intro _) | apply canon_setHart | apply canon_ite

theorem canon_trapM {s : State} (h : s.Canon) : ∀ a1 a2, State.Canon (State.trapM s a1 a2) := by
  intro a1 a2
  unfold State.trapM
  repeat' with_reducible first | assumption | (intro _) | apply canon_put | apply canon_worldSet | apply canon_haltCheck | apply canon_setHart

theorem canon_startCheck {s : State} (h : s.Canon) : ∀ a1, State.Canon (State.startCheck s a1) := by
  intro a1
  unfold State.startCheck
  repeat' with_reducible first | assumption | (intro _) | apply canon_ite | apply resCanon_ite | apply resCanon_next | simp only [canon_mk] | apply canonT_of

theorem canon_seqRaise {s : State} (h : s.Canon) : State.Canon (State.seqRaise s) := by
  unfold State.seqRaise
  repeat' with_reducible first | assumption | (intro _) | apply canon_setMram

theorem canon_takeSeq {s : State} (h : s.Canon) : (State.takeSeq s).2.Canon := by
  unfold State.takeSeq
  repeat' with_reducible first | assumption | (intro _) | apply canon_whenB | apply canon_seqRaise | apply canon_ite | apply resCanon_ite | apply resCanon_next | simp only [canon_mk] | apply canonT_of

theorem canon_takeSeq_eq {s t : State} {v} (e : State.takeSeq s = (v, t)) (h : s.Canon) : t.Canon := by
  have := canon_takeSeq h 
  rw [e] at this
  exact this

theorem canon_ownFrame {s : State} (h : s.Canon) : ∀ a1 a2 a3 a4, (State.ownFrame s a1 a2 a3 a4).2.Canon := by
  intro a1 a2 a3 a4
  unfold State.ownFrame
  repeat' with_reducible first | assumption | (intro _) | refine canon_takeSeq_eq (by assumption) ?_ | apply canon_takeSeq

theorem canon_ownFrame_eq {s t : State} {v} {a1 a2 a3 a4} (e : State.ownFrame s a1 a2 a3 a4 = (v, t)) (h : s.Canon) : t.Canon := by
  have := canon_ownFrame h a1 a2 a3 a4
  rw [e] at this
  exact this

theorem canon_addWait {s : State} (h : s.Canon) : ∀ a1, State.Canon (State.addWait s a1) := by
  intro a1
  unfold State.addWait
  repeat' with_reducible first | assumption | (intro _) | apply canon_ite | apply resCanon_ite | apply resCanon_next | simp only [canon_mk] | apply canonT_of

theorem canon_plkEmit {s : State} (h : s.Canon) : ∀ a1 a2, State.Canon (State.plkEmit s a1 a2) := by
  intro a1 a2
  unfold State.plkEmit
  repeat' with_reducible first | assumption | (intro _) | apply canon_ite | apply resCanon_ite | apply resCanon_next | simp only [canon_mk] | apply canonT_of

theorem canon_peerEmit {s : State} (h : s.Canon) : ∀ a1 a2, State.Canon (State.peerEmit s a1 a2) := by
  intro a1 a2
  unfold State.peerEmit
  repeat' with_reducible first | assumption | (intro _) | apply canon_plkEmit | apply canon_ite

theorem canon_sendAcked {s : State} (h : s.Canon) : ∀ a1 a2 a3 a4, State.Canon (State.sendAcked s a1 a2 a3 a4) := by
  intro a1 a2 a3 a4
  unfold State.sendAcked
  repeat' with_reducible first | assumption | (intro _) | apply canon_each | apply canon_addWait | apply canon_peerEmit

theorem canon_migAnswer {s : State} (h : s.Canon) : ∀ a1 a2 a3, State.Canon (State.migAnswer s a1 a2 a3) := by
  intro a1 a2 a3
  unfold State.migAnswer
  repeat' with_reducible first | assumption | (intro _) | refine canon_ownFrame_eq (by assumption) ?_ | apply canon_ownFrame | apply canon_sendAcked | apply canon_ite

theorem canon_migStore {s : State} (h : s.Canon) : ∀ a1 a2 a3 a4, State.Canon (State.migStore s a1 a2 a3 a4) := by
  intro a1 a2 a3 a4
  unfold State.migStore
  repeat' with_reducible first | assumption | (intro _) | apply canon_ite | apply resCanon_ite | apply resCanon_next | simp only [canon_mk] | apply canonT_of

theorem canon_raise {s : State} (h : s.Canon) : ∀ a1, State.Canon (State.raise s a1) := by
  intro a1
  unfold State.raise
  repeat' with_reducible first | assumption | (intro _) | apply canon_ite | apply resCanon_ite | apply resCanon_next | simp only [canon_mk] | apply canonT_of

theorem canon_migTake {s : State} (h : s.Canon) : ∀ a1 a2 a3 a4, State.Canon (State.migTake s a1 a2 a3 a4) := by
  intro a1 a2 a3 a4
  unfold State.migTake
  repeat' with_reducible first | assumption | (intro _) | apply canon_migAnswer | apply canon_migStore | apply canon_put | apply canon_raise | apply canon_ite | apply resCanon_ite | apply resCanon_next | simp only [canon_mk] | apply canonT_of

theorem canon_discId {s : State} (h : s.Canon) : ∀ a1 a2 a3 a4, State.Canon (State.discId s a1 a2 a3 a4) := by
  intro a1 a2 a3 a4
  unfold State.discId
  repeat' with_reducible first | assumption | (intro _) | apply canon_setReg

theorem canon_incMod {s : State} (h : s.Canon) : ∀ a1 a2, State.Canon (State.incMod s a1 a2) := by
  intro a1 a2
  unfold State.incMod
  repeat' with_reducible first | assumption | (intro _) | apply canon_put

theorem canon_discSet {s : State} (h : s.Canon) : ∀ a1 a2 a3 a4, State.Canon (State.discSet s a1 a2 a3 a4) := by
  intro a1 a2 a3 a4
  unfold State.discSet
  repeat' with_reducible first | assumption | (intro _) | apply canon_put | apply canon_incMod | apply canon_setReg | apply canon_event | apply canon_ite

theorem canon_hapDrop {s : State} (h : s.Canon) : State.Canon (State.hapDrop s) := by
  unfold State.hapDrop
  repeat' with_reducible first | assumption | (intro _) | apply canon_incSat

theorem canon_setCtx {s : State} (h : s.Canon) : ∀ a1 a2 a3, State.Canon (State.setCtx s a1 a2 a3) := by
  intro a1 a2 a3
  unfold State.setCtx
  repeat' with_reducible first | assumption | (intro _) | apply canon_setHs

theorem canon_rResult {s : State} (h : s.Canon) : ∀ a1 a2 a3, State.Canon (State.rResult s a1 a2 a3) := by
  intro a1 a2 a3
  unfold State.rResult
  repeat' with_reducible first | assumption | (intro _) | apply canon_setCtx

theorem canon_rOut {s : State} (h : s.Canon) : ∀ a1 a2 a3 a4 a5, State.Canon (State.rOut s a1 a2 a3 a4 a5) := by
  intro a1 a2 a3 a4 a5
  unfold State.rOut
  repeat' with_reducible first | assumption | (intro _) | apply canon_writeAt | apply canon_each | apply canon_setCtx | apply canon_ite

theorem canon_rl2Evict {s : State} (h : s.Canon) : ∀ a1 a2, State.Canon (State.rl2Evict s a1 a2) := by
  intro a1 a2
  unfold State.rl2Evict
  repeat' with_reducible first | assumption | (intro _) | apply canon_setHs | apply canon_each | apply canon_rOut | apply canon_ite | apply resCanon_ite | apply resCanon_next | apply canonT_of | dsimp only | split

theorem canon_rl2Fill {s : State} (h : s.Canon) : ∀ a1 a2 a3, State.Canon (State.rl2Fill s a1 a2 a3) := by
  intro a1 a2 a3
  unfold State.rl2Fill
  repeat' with_reducible first | assumption | (intro _) | refine canon_takeFree_eq (by assumption) ?_ | apply canon_takeFree | apply canon_rl2Evict | apply canon_setHs | apply canon_ite | apply resCanon_ite | apply resCanon_next | apply canonT_of | dsimp only | split

theorem canon_rFault {s : State} (h : s.Canon) : ∀ a1 a2 a3 a4 a5 a6, State.Canon (State.rFault s a1 a2 a3 a4 a5 a6) := by
  intro a1 a2 a3 a4 a5 a6
  unfold State.rFault
  repeat' with_reducible first | assumption | (intro _) | apply canon_refuse | apply canon_setCtx | apply canon_put | apply canon_ite | apply resCanon_ite | apply resCanon_next | simp only [canon_mk] | apply canonT_of | dsimp only | split

theorem canon_rTouchBy {s : State} (h : s.Canon) : ∀ a1 a2 a3 a4 a5 a6, State.Canon (State.rTouchBy s a1 a2 a3 a4 a5 a6) := by
  intro a1 a2 a3 a4 a5 a6
  unfold State.rTouchBy
  repeat' with_reducible first | assumption | (intro _) | apply canon_each | apply canon_rl2Fill | apply canon_rFault | apply canon_ite | apply resCanon_ite | apply resCanon_next | simp only [canon_mk] | apply canonT_of | dsimp only | split

theorem canon_rTouch {s : State} (h : s.Canon) : ∀ a1 a2 a3 a4 a5, State.Canon (State.rTouch s a1 a2 a3 a4 a5) := by
  intro a1 a2 a3 a4 a5
  unfold State.rTouch
  repeat' with_reducible first | assumption | (intro _) | apply canon_rTouchBy

theorem canon_storeWait {s : State} (h : s.Canon) : ∀ a1 a2 a3, State.Canon (State.storeWait s a1 a2 a3) := by
  intro a1 a2 a3
  unfold State.storeWait
  repeat' with_reducible first | assumption | (intro _) | apply canon_setCtx

theorem canon_rStoreBy {s : State} (h : s.Canon) : ∀ a1 a2 a3 a4 a5, State.Canon (State.rStoreBy s a1 a2 a3 a4 a5) := by
  intro a1 a2 a3 a4 a5
  unfold State.rStoreBy
  repeat' with_reducible first | assumption | (intro _) | apply canon_each | apply canon_rFault | apply canon_storeWait | apply canon_ite | apply resCanon_ite | apply resCanon_next | apply canonT_of | dsimp only | split

theorem canon_rWrite {s : State} (h : s.Canon) : ∀ a1 a2 a3 a4, State.Canon (State.rWrite s a1 a2 a3 a4) := by
  intro a1 a2 a3 a4
  unfold State.rWrite
  repeat' with_reducible first | assumption | (intro _) | apply canon_rStoreBy

theorem canon_setPipe {s : State} (h : s.Canon) : ∀ a1 a2 a3, State.Canon (State.setPipe s a1 a2 a3) := by
  intro a1 a2 a3
  unfold State.setPipe
  repeat' with_reducible first | assumption | (intro _) | apply canon_setHs

theorem canon_setInst {s : State} (h : s.Canon) : ∀ a1 a2 a3, State.Canon (State.setInst s a1 a2 a3) := by
  intro a1 a2 a3
  unfold State.setInst
  repeat' with_reducible first | assumption | (intro _) | apply canon_setHs

theorem canon_setQu {s : State} (h : s.Canon) : ∀ a1 a2 a3, State.Canon (State.setQu s a1 a2 a3) := by
  intro a1 a2 a3
  unfold State.setQu
  repeat' with_reducible first | assumption | (intro _) | apply canon_setHs

theorem canon_setScan {s : State} (h : s.Canon) : ∀ a1 a2 a3, State.Canon (State.setScan s a1 a2 a3) := by
  intro a1 a2 a3
  unfold State.setScan
  repeat' with_reducible first | assumption | (intro _) | apply canon_setHs

theorem canon_setPort {s : State} (h : s.Canon) : ∀ a1 a2, State.Canon (State.setPort s a1 a2) := by
  intro a1 a2
  unfold State.setPort
  repeat' with_reducible first | assumption | (intro _) | apply canon_ite | apply resCanon_ite | apply resCanon_next | simp only [canon_mk] | apply canonT_of

theorem canon_setSrc {s : State} (h : s.Canon) : ∀ a1 a2, State.Canon (State.setSrc s a1 a2) := by
  intro a1 a2
  unfold State.setSrc
  repeat' with_reducible first | assumption | (intro _) | apply canon_ite | apply resCanon_ite | apply resCanon_next | simp only [canon_mk] | apply canonT_of

theorem canon_wildUnit {s : State} (h : s.Canon) : ∀ w a1, State.Canon (State.wildUnit s w a1) := by
  intro w a1
  unfold State.wildUnit
  repeat' with_reducible first | assumption | (intro _) | apply canon_setPipe | apply canon_setCtx | apply canon_setHs | apply canon_setInst | apply canon_setQu | apply canon_setScan | apply canon_setPort | apply canon_setSrc | apply canon_ite | apply resCanon_ite | apply resCanon_next | simp only [canon_mk] | apply canonT_of | dsimp only | split

theorem canon_wildReg {s : State} (h : s.Canon) : ∀ w a1 a2, State.Canon (State.wildReg s w a1 a2) := by
  intro w a1 a2
  unfold State.wildReg
  repeat' with_reducible first | assumption | (intro _) | apply canon_setReg | apply canon_ite | apply resCanon_ite | apply resCanon_next | apply canonT_of | dsimp only | split

theorem canon_funcEvent {s : State} (h : s.Canon) : ∀ a1 a2 a3, State.Canon (State.funcEvent s a1 a2 a3) := by
  intro a1 a2 a3
  unfold State.funcEvent
  repeat' with_reducible first | assumption | (intro _) | apply canon_event

theorem canon_unpredictable {s : State} (h : s.Canon) : ∀ a1 a2, State.Canon (State.unpredictable s a1 a2) := by
  intro a1 a2
  unfold State.unpredictable
  repeat' with_reducible first | assumption | (intro _) | apply canon_wildUnit | apply canon_each | apply canon_wildReg | apply canon_whenB | apply canon_raise | apply canon_funcEvent | apply canon_ite | apply resCanon_ite | apply resCanon_next | simp only [canon_mk] | apply canonT_of

theorem canon_setShGroup {s : State} (h : s.Canon) : ∀ a1 a2 a3, State.Canon (State.setShGroup s a1 a2 a3) := by
  intro a1 a2 a3
  unfold State.setShGroup
  repeat' with_reducible first | assumption | (intro _) | apply canon_setHs

theorem canon_groupLeave {s : State} (h : s.Canon) : ∀ a1 a2 a3, State.Canon (State.groupLeave s a1 a2 a3) := by
  intro a1 a2 a3
  unfold State.groupLeave
  repeat' with_reducible first | assumption | (intro _) | apply canon_setShGroup

theorem canon_groupsDrop {s : State} (h : s.Canon) : ∀ a1 a2, State.Canon (State.groupsDrop s a1 a2) := by
  intro a1 a2
  unfold State.groupsDrop
  repeat' with_reducible first | assumption | (intro _) | apply canon_each | apply canon_groupLeave

theorem canon_rl2Part {s : State} (h : s.Canon) : ∀ a1 a2 a3, State.Canon (State.rl2Part s a1 a2 a3) := by
  intro a1 a2 a3
  unfold State.rl2Part
  repeat' with_reducible first | assumption | (intro _) | apply canon_rl2Evict | apply canon_ite | apply resCanon_ite | apply resCanon_next | simp only [canon_mk] | apply canonT_of | dsimp only | split

theorem canon_storeOut {s : State} (h : s.Canon) : ∀ a1 a2 a3, State.Canon (State.storeOut s a1 a2 a3) := by
  intro a1 a2 a3
  unfold State.storeOut
  repeat' with_reducible first | assumption | (intro _) | apply canon_rl2Fill | apply canon_rl2Part | apply canon_storeWait | apply canon_setHs | apply canon_rOut | apply canon_ite | apply resCanon_ite | apply resCanon_next | apply canonT_of | dsimp only | split

theorem canon_l1Out {s : State} (h : s.Canon) : ∀ a1 a2, State.Canon (State.l1Out s a1 a2) := by
  intro a1 a2
  unfold State.l1Out
  repeat' with_reducible first | assumption | (intro _) | apply canon_each | apply canon_setCtx | apply canon_storeOut

theorem canon_rWild {s : State} (h : s.Canon) : ∀ a1 a2 a3, State.Canon (State.rWild s a1 a2 a3) := by
  intro a1 a2 a3
  unfold State.rWild
  repeat' with_reducible first | assumption | (intro _) | apply canon_unpredictable | apply canon_groupsDrop | apply canon_l1Out

theorem canon_rWriteIpa {s : State} (h : s.Canon) : ∀ a1 a2 a3 a4, State.Canon (State.rWriteIpa s a1 a2 a3 a4) := by
  intro a1 a2 a3 a4
  unfold State.rWriteIpa
  repeat' with_reducible first | assumption | (intro _) | apply canon_rStoreBy

theorem canon_missRecord {s : State} (h : s.Canon) : ∀ k c bs, (s.missRecord k c bs).Canon := by
  intro k c bs
  unfold State.missRecord
  repeat' with_reducible first | assumption | (intro _) | apply canon_takeFree | apply canon_rWild | apply canon_incSat | apply canon_put | apply canon_rWriteIpa | apply canon_ite

theorem canon_rTexel {s : State} (h : s.Canon) : ∀ a1 a2 a3 a4 a5 a6 a7 a8, State.Canon (State.rTexel s a1 a2 a3 a4 a5 a6 a7 a8) := by
  intro a1 a2 a3 a4 a5 a6 a7 a8
  unfold State.rTexel
  repeat' with_reducible first | assumption | (intro _) | apply canon_rTouch | apply canon_setCtx | apply canon_rResult | apply canon_rl2Fill | apply canon_rFault | apply canon_missRecord | apply canon_ite | apply resCanon_ite | apply resCanon_next | apply canonT_of | dsimp only | split

theorem canon_rOp {s : State} (h : s.Canon) : ∀ a1 a2 a3 a4, State.Canon (State.rOp s a1 a2 a3 a4) := by
  intro a1 a2 a3 a4
  unfold State.rOp
  repeat' with_reducible first | assumption | (intro _) | apply canon_rResult | apply canon_rTouch | apply canon_rWrite | apply canon_setCtx | apply canon_rTexel | apply canon_rWild | apply canon_ite | apply resCanon_ite | apply resCanon_next | apply canonT_of | dsimp only | split

theorem canon_catchupStart {s : State} (h : s.Canon) : ∀ a1, State.Canon (State.catchupStart s a1) := by
  intro a1
  unfold State.catchupStart
  repeat' with_reducible first | assumption | (intro _) | apply canon_setHs | apply canon_ite | apply resCanon_ite | apply resCanon_next | simp only [canon_mk] | apply canonT_of | dsimp only | split

theorem canon_twinSync {s : State} (h : s.Canon) : ∀ a1, State.Canon (State.twinSync s a1) := by
  intro a1
  unfold State.twinSync
  repeat' with_reducible first | assumption | (intro _) | apply canon_each | apply canon_setInst | apply canon_ite

theorem canon_syncShow {s : State} (h : s.Canon) : ∀ a1, State.Canon (State.syncShow s a1) := by
  intro a1
  unfold State.syncShow
  repeat' with_reducible first | assumption | (intro _) | apply canon_put

theorem canon_putClassA {s : State} (h : s.Canon) : ∀ a1 a2, State.Canon (State.putClassA s a1 a2) := by
  intro a1 a2
  unfold State.putClassA
  repeat' with_reducible first | assumption | (intro _) | apply canon_setReg | apply canon_ite | apply resCanon_ite | apply resCanon_next | apply canonT_of | dsimp only | split

theorem canon_applyPages {s : State} (h : s.Canon) : ∀ a1 a2 a3, State.Canon (State.applyPages s a1 a2 a3) := by
  intro a1 a2 a3
  unfold State.applyPages
  repeat' with_reducible first | assumption | (intro _) | apply canon_each | apply canon_putClassA

theorem canon_sinkCfgShow {s : State} (h : s.Canon) : ∀ a1 a2, State.Canon (State.sinkCfgShow s a1 a2) := by
  intro a1 a2
  unfold State.sinkCfgShow
  repeat' with_reducible first | assumption | (intro _) | apply canon_putClassA

theorem canon_tafShow {s : State} (h : s.Canon) : ∀ a1 a2, State.Canon (State.tafShow s a1 a2) := by
  intro a1 a2
  unfold State.tafShow
  repeat' with_reducible first | assumption | (intro _) | apply canon_put | apply canon_ite

theorem canon_setCell {s : State} (h : s.Canon) : ∀ a1 a2 a3, State.Canon (State.setCell s a1 a2 a3) := by
  intro a1 a2 a3
  unfold State.setCell
  repeat' with_reducible first | assumption | (intro _) | apply canon_ite | apply resCanon_ite | apply resCanon_next | simp only [canon_mk] | apply canonT_of

theorem canon_audioLoad {s : State} (h : s.Canon) : ∀ a1, State.Canon (State.audioLoad s a1) := by
  intro a1
  unfold State.audioLoad
  repeat' with_reducible first | assumption | (intro _) | apply canon_each | apply canon_setCell | apply canon_setReg | apply canon_put | apply canon_ite | apply resCanon_ite | apply resCanon_next | simp only [canon_mk] | apply canonT_of

theorem canon_takeSections {s : State} (h : s.Canon) : ∀ a1 a2, State.Canon (State.takeSections s a1 a2) := by
  intro a1 a2
  unfold State.takeSections
  repeat' with_reducible first | assumption | (intro _) | apply canon_applyPages | apply canon_sinkCfgShow | apply canon_tafShow | apply canon_audioLoad | apply canon_ite

theorem canon_armEnd {s : State} (h : s.Canon) : ∀ a1 a2, State.Canon (State.armEnd s a1 a2) := by
  intro a1 a2
  unfold State.armEnd
  repeat' with_reducible first | assumption | (intro _) | apply canon_put | apply canon_raise | apply canon_setHs | apply canon_ite | apply resCanon_ite | apply resCanon_next | simp only [canon_mk] | apply canonT_of | dsimp only | split

theorem canon_rearmStop {s : State} (h : s.Canon) : ∀ a1, State.Canon (State.rearmStop s a1) := by
  intro a1
  unfold State.rearmStop
  repeat' with_reducible first | assumption | (intro _) | apply canon_each | apply canon_takeSections | apply canon_armEnd | apply canon_ite | apply resCanon_ite | apply resCanon_next | simp only [canon_mk] | apply canonT_of | dsimp only | split

theorem canon_halfResetReq {s : State} (h : s.Canon) : ∀ a1 a2, State.Canon (State.halfResetReq s a1 a2) := by
  intro a1 a2
  unfold State.halfResetReq
  repeat' with_reducible first | assumption | (intro _) | apply canon_incSat | apply canon_put | apply canon_event | apply canon_setHs | apply canon_ite

theorem canon_rearmGo {s : State} (h : s.Canon) : State.Canon (State.rearmGo s) := by
  unfold State.rearmGo
  repeat' with_reducible first | assumption | (intro _) | apply canon_rearmStop | apply canon_halfResetReq | apply canon_ite | apply resCanon_ite | apply resCanon_next | simp only [canon_mk] | apply canonT_of | dsimp only | split

theorem canon_raiseBoth {s : State} (h : s.Canon) : ∀ a1, State.Canon (State.raiseBoth s a1) := by
  intro a1
  unfold State.raiseBoth
  repeat' with_reducible first | assumption | (intro _) | apply canon_whenB | apply canon_raise

theorem canon_scrubBegin {s : State} (h : s.Canon) : State.Canon (State.scrubBegin s) := by
  unfold State.scrubBegin
  repeat' with_reducible first | assumption | (intro _) | apply canon_ite | apply resCanon_ite | apply resCanon_next | simp only [canon_mk] | apply canonT_of

theorem canon_setModeTier {s : State} (h : s.Canon) : ∀ a1 a2 a3, State.Canon (State.setModeTier s a1 a2 a3) := by
  intro a1 a2 a3
  unfold State.setModeTier
  repeat' with_reducible first | assumption | (intro _) | apply canon_put | apply canon_event | apply canon_raiseBoth | apply canon_whenB | apply canon_scrubBegin | apply canon_ite | apply resCanon_ite | apply resCanon_next | simp only [canon_mk] | apply canonT_of

theorem canon_setMode {s : State} (h : s.Canon) : ∀ a1 a2, State.Canon (State.setMode s a1 a2) := by
  intro a1 a2
  unfold State.setMode
  repeat' with_reducible first | assumption | (intro _) | apply canon_setModeTier

theorem canon_refreshMode {s : State} (h : s.Canon) : ∀ a1, State.Canon (State.refreshMode s a1) := by
  intro a1
  unfold State.refreshMode
  repeat' with_reducible first | assumption | (intro _) | apply canon_setMode | apply canon_ite | apply resCanon_ite | apply resCanon_next | simp only [canon_mk] | apply canonT_of | dsimp only | split

theorem canon_refreshPairing {s : State} (h : s.Canon) : ∀ a1, State.Canon (State.refreshPairing s a1) := by
  intro a1
  unfold State.refreshPairing
  repeat' with_reducible first | assumption | (intro _) | apply canon_refreshMode | apply canon_put

theorem canon_setHalfState {s : State} (h : s.Canon) : ∀ a1 a2 a3, State.Canon (State.setHalfState s a1 a2 a3) := by
  intro a1 a2 a3
  unfold State.setHalfState
  repeat' with_reducible first | assumption | (intro _) | apply canon_put | apply canon_refreshPairing | apply canon_ite | apply resCanon_ite | apply resCanon_next | simp only [canon_mk] | apply canonT_of | dsimp only | split

theorem canon_becomeReady {s : State} (h : s.Canon) : ∀ a1, State.Canon (State.becomeReady s a1) := by
  intro a1
  unfold State.becomeReady
  repeat' with_reducible first | assumption | (intro _) | apply canon_rearmGo | apply canon_setHalfState

theorem canon_syncCheckOne {s : State} (h : s.Canon) : ∀ a1, State.Canon (State.syncCheckOne s a1) := by
  intro a1
  unfold State.syncCheckOne
  repeat' with_reducible first | assumption | (intro _) | apply canon_becomeReady | apply canon_setHalfState | apply canon_ite

theorem canon_syncCheck {s : State} (h : s.Canon) : State.Canon (State.syncCheck s) := by
  unfold State.syncCheck
  repeat' with_reducible first | assumption | (intro _) | apply canon_syncShow | apply canon_syncCheckOne

theorem canon_imageReq {s : State} (h : s.Canon) : ∀ a1, State.Canon (State.imageReq s a1) := by
  intro a1
  unfold State.imageReq
  repeat' with_reducible first | assumption | (intro _) | refine canon_ownFrame_eq (by assumption) ?_ | apply canon_ownFrame | apply canon_plkEmit

theorem canon_alert {s : State} (h : s.Canon) : State.Canon (State.alert s) := by
  unfold State.alert
  repeat' with_reducible first | assumption | (intro _) | apply canon_put | apply canon_incSat | apply canon_ite | apply resCanon_ite | apply resCanon_next | simp only [canon_mk] | apply canonT_of

theorem canon_dropped {s : State} (h : s.Canon) : ∀ a1, State.Canon (State.dropped s a1) := by
  intro a1
  unfold State.dropped
  repeat' with_reducible first | assumption | (intro _) | apply canon_accessFault | apply canon_ite | apply resCanon_ite | apply resCanon_next | simp only [canon_mk] | apply canonT_of

theorem canon_windowRefuse {s : State} (h : s.Canon) : ∀ a1 a2 a3 a4, State.Canon (State.windowRefuse s a1 a2 a3 a4) := by
  intro a1 a2 a3 a4
  unfold State.windowRefuse
  repeat' with_reducible first | assumption | (intro _) | apply canon_dropped | apply canon_refuse

theorem canon_hostRead {s : State} (h : s.Canon) {rq : Requester} {pg : Pg} {f : State → Res} {off : Nat} (hf : ∀ t, State.Canon t → ResCanon (f t)) :
    ResCanon (hostRead rq pg s f off) := by
  unfold hostRead
  repeat' with_reducible first | assumption | apply hf | apply canon_windowRefuse | apply canon_accessFault | apply canon_dropped | apply resCanon_ite | apply resCanon_next

theorem canon_clearHeld {s : State} (h : s.Canon) : ∀ a1, State.Canon (State.clearHeld s a1) := by
  intro a1
  unfold State.clearHeld
  repeat' with_reducible first | assumption | (intro _) | apply canon_ite | apply resCanon_ite | apply resCanon_next | simp only [canon_mk] | apply canonT_of

theorem canon_plkLink {s : State} (h : s.Canon) : ∀ a1 a2, State.Canon (State.plkLink s a1 a2) := by
  intro a1 a2
  unfold State.plkLink
  repeat' with_reducible first | assumption | (intro _) | apply canon_put | apply canon_ite | apply resCanon_ite | apply resCanon_next | simp only [canon_mk] | apply canonT_of

theorem canon_setPlkState {s : State} (h : s.Canon) : ∀ a1 a2, State.Canon (State.setPlkState s a1 a2) := by
  intro a1 a2
  unfold State.setPlkState
  repeat' with_reducible first | assumption | (intro _) | apply canon_put

theorem canon_lockRefresh {s : State} (h : s.Canon) : ∀ a1, State.Canon (State.lockRefresh s a1) := by
  intro a1
  unfold State.lockRefresh
  repeat' with_reducible first | assumption | (intro _) | apply canon_put | apply canon_setPort | apply canon_ite

theorem canon_lockRefreshAll {s : State} (h : s.Canon) : State.Canon (State.lockRefreshAll s) := by
  unfold State.lockRefreshAll
  repeat' with_reducible first | assumption | (intro _) | apply canon_each | apply canon_lockRefresh

theorem canon_timeFree {s : State} (h : s.Canon) : State.Canon (State.timeFree s) := by
  unfold State.timeFree
  repeat' with_reducible first | assumption | (intro _) | apply canon_lockRefreshAll | apply canon_put | apply canon_ite | apply resCanon_ite | apply resCanon_next | simp only [canon_mk] | apply canonT_of

theorem canon_gmGone {s : State} (h : s.Canon) : ∀ a1, State.Canon (State.gmGone s a1) := by
  intro a1
  unfold State.gmGone
  repeat' with_reducible first | assumption | (intro _) | apply canon_timeFree | apply canon_ite | apply resCanon_ite | apply resCanon_next | simp only [canon_mk] | apply canonT_of

theorem canon_neighbourGone {s : State} (h : s.Canon) : ∀ a1, State.Canon (State.neighbourGone s a1) := by
  intro a1
  unfold State.neighbourGone
  repeat' with_reducible first | assumption | (intro _) | apply canon_discSet | apply canon_ite

theorem canon_plkFall {s : State} (h : s.Canon) : ∀ a1, State.Canon (State.plkFall s a1) := by
  intro a1
  unfold State.plkFall
  repeat' with_reducible first | assumption | (intro _) | apply canon_plkLink | apply canon_whenB | apply canon_setPlkState | apply canon_gmGone | apply canon_neighbourGone

theorem canon_setFails {s : State} (h : s.Canon) : ∀ a1 a2, State.Canon (State.setFails s a1 a2) := by
  intro a1 a2
  unfold State.setFails
  repeat' with_reducible first | assumption | (intro _) | apply canon_setMram | apply canon_put

theorem canon_failsBack {s : State} (h : s.Canon) : State.Canon (State.failsBack s) := by
  unfold State.failsBack
  repeat' with_reducible first | assumption | (intro _) | apply canon_setFails | apply canon_ite | apply resCanon_ite | apply resCanon_next | simp only [canon_mk] | apply canonT_of

theorem canon_enterMaquette {s : State} (h : s.Canon) : ∀ a1 a2, State.Canon (State.enterMaquette s a1 a2) := by
  intro a1 a2
  unfold State.enterMaquette
  repeat' with_reducible first | assumption | (intro _) | apply canon_clearHeld | apply canon_clearRegs | apply canon_whenB | apply canon_plkFall | apply canon_put | apply canon_event | apply canon_failsBack | apply canon_setMode | apply canon_ite | apply resCanon_ite | apply resCanon_next | simp only [canon_mk] | apply canonT_of

theorem canon_setSlotGen {s : State} (h : s.Canon) : ∀ a1 a2, State.Canon (State.setSlotGen s a1 a2) := by
  intro a1 a2
  unfold State.setSlotGen
  repeat' with_reducible first | assumption | (intro _) | apply canon_put

theorem canon_setSlotState {s : State} (h : s.Canon) : ∀ a1 a2, State.Canon (State.setSlotState s a1 a2) := by
  intro a1 a2
  unfold State.setSlotState
  repeat' with_reducible first | assumption | (intro _) | apply canon_put

theorem canon_loaderEvent {s : State} (h : s.Canon) : ∀ a1 a2 a3 a4 a5 a6, State.Canon (State.loaderEvent s a1 a2 a3 a4 a5 a6) := by
  intro a1 a2 a3 a4 a5 a6
  unfold State.loaderEvent
  repeat' with_reducible first | assumption | (intro _) | apply canon_event

theorem canon_slotChecked {s : State} (h : s.Canon) : ∀ a1 a2, State.Canon (State.slotChecked s a1 a2) := by
  intro a1 a2
  unfold State.slotChecked
  repeat' with_reducible first | assumption | (intro _) | apply canon_setSlotGen | apply canon_setSlotState | apply canon_loaderEvent | apply canon_ite

theorem canon_txNew {s : State} (h : s.Canon) : State.Canon (State.txNew s) := by
  unfold State.txNew
  repeat' with_reducible first | assumption | (intro _) | apply canon_ite | apply resCanon_ite | apply resCanon_next | simp only [canon_mk] | apply canonT_of

theorem canon_fetchBegin {s : State} (h : s.Canon) : State.Canon (State.fetchBegin s) := by
  unfold State.fetchBegin
  repeat' with_reducible first | assumption | (intro _) | apply canon_setSlotState | apply canon_ite | apply resCanon_ite | apply resCanon_next | simp only [canon_mk] | apply canonT_of

theorem canon_pciDiscover {s : State} (h : s.Canon) : ∀ a1, State.Canon (State.pciDiscover s a1) := by
  intro a1
  unfold State.pciDiscover
  repeat' with_reducible first | assumption | (intro _) | apply canon_discSet | apply canon_ite

theorem canon_bootGo {s : State} (h : s.Canon) : State.Canon (State.bootGo s) := by
  unfold State.bootGo
  repeat' with_reducible first | assumption | (intro _) | apply canon_enterMaquette | apply canon_setFails | apply canon_startCheck | apply canon_slotChecked | apply canon_imageReq | apply canon_txNew | apply canon_fetchBegin | apply canon_whenB | apply canon_pciDiscover | apply canon_ite | apply resCanon_ite | apply resCanon_next | simp only [canon_mk] | apply canonT_of

theorem canon_setDomain {s : State} (h : s.Canon) : ∀ a1 a2 a3, State.Canon (State.setDomain s a1 a2 a3) := by
  intro a1 a2 a3
  unfold State.setDomain
  repeat' with_reducible first | assumption | (intro _) | apply canon_put

theorem canon_halfClear {s : State} (h : s.Canon) : ∀ a1, State.Canon (State.halfClear s a1) := by
  intro a1
  unfold State.halfClear
  repeat' with_reducible first | assumption | (intro _) | apply canon_clearHeld | apply canon_clearRegs | apply canon_setHs | apply canon_each | apply canon_setDomain | apply canon_put | apply canon_whenB | apply canon_ite | apply resCanon_ite | apply resCanon_next | simp only [canon_mk] | apply canonT_of

theorem canon_mboxWrite {s : State} (h : s.Canon) : ∀ a1 a2 a3 a4, State.Canon (State.mboxWrite s a1 a2 a3 a4) := by
  intro a1 a2 a3 a4
  unfold State.mboxWrite
  repeat' with_reducible first | assumption | (intro _) | apply canon_setInst | apply canon_writeAt | apply canon_ite

theorem canon_cplWrite {s : State} (h : s.Canon) : ∀ a1 a2 a3, State.Canon (State.cplWrite s a1 a2 a3) := by
  intro a1 a2 a3
  unfold State.cplWrite
  repeat' with_reducible first | assumption | (intro _) | apply canon_mboxWrite | apply canon_setInst

theorem canon_instDone {s : State} (h : s.Canon) : ∀ a1 a2 a3 a4, State.Canon (State.instDone s a1 a2 a3 a4) := by
  intro a1 a2 a3 a4
  unfold State.instDone
  repeat' with_reducible first | assumption | (intro _) | apply canon_put | apply canon_raise

theorem canon_setInstState {s : State} (h : s.Canon) : ∀ a1 a2 a3, State.Canon (State.setInstState s a1 a2 a3) := by
  intro a1 a2 a3
  unfold State.setInstState
  repeat' with_reducible first | assumption | (intro _) | apply canon_put

theorem canon_instFrozen {s : State} (h : s.Canon) : ∀ a1 a2 a3, State.Canon (State.instFrozen s a1 a2 a3) := by
  intro a1 a2 a3
  unfold State.instFrozen
  repeat' with_reducible first | assumption | (intro _) | apply canon_put | apply canon_setInstState

theorem canon_busFetch {s : State} (h : s.Canon) : ∀ a1 a2, State.Canon (State.busFetch s a1 a2) := by
  intro a1 a2
  unfold State.busFetch
  repeat' with_reducible first | assumption | (intro _) | apply canon_setInst | apply canon_ite

theorem canon_hubBoundary {s : State} (h : s.Canon) : ∀ a1 a2, State.Canon (State.hubBoundary s a1 a2) := by
  intro a1 a2
  unfold State.hubBoundary
  repeat' with_reducible first | assumption | (intro _) | apply canon_instDone | apply canon_instFrozen | apply canon_busFetch | apply canon_setInst | apply canon_put | apply canon_ite | apply resCanon_ite | apply resCanon_next | apply canonT_of | dsimp only | split

theorem canon_hubFinish {s : State} (h : s.Canon) : ∀ a1 a2 a3 a4, State.Canon (State.hubFinish s a1 a2 a3 a4) := by
  intro a1 a2 a3 a4
  unfold State.hubFinish
  repeat' with_reducible first | assumption | (intro _) | apply canon_cplWrite | apply canon_setInst | apply canon_whenB | apply canon_raise | apply canon_hubBoundary

theorem canon_askDone {s : State} (h : s.Canon) : ∀ a1 a2, State.Canon (State.askDone s a1 a2) := by
  intro a1 a2
  unfold State.askDone
  repeat' with_reducible first | assumption | (intro _) | apply canon_setInst

theorem canon_thawed {s : State} (h : s.Canon) : ∀ a1 a2, State.Canon (State.thawed s a1 a2) := by
  intro a1 a2
  unfold State.thawed
  repeat' with_reducible first | assumption | (intro _) | apply canon_setInstState | apply canon_busFetch | apply canon_instDone | apply canon_ite

theorem canon_thawFrozen {s : State} (h : s.Canon) : ∀ a1 a2, State.Canon (State.thawFrozen s a1 a2) := by
  intro a1 a2
  unfold State.thawFrozen
  repeat' with_reducible first | assumption | (intro _) | apply canon_instDone | apply canon_thawed | apply canon_ite

theorem canon_heldThaw {s : State} (h : s.Canon) : ∀ a1 a2, State.Canon (State.heldThaw s a1 a2) := by
  intro a1 a2
  unfold State.heldThaw
  repeat' with_reducible first | assumption | (intro _) | apply canon_askDone | apply canon_thawFrozen | apply canon_instDone | apply canon_ite

theorem canon_heldEnd {s : State} (h : s.Canon) : ∀ a1 a2, State.Canon (State.heldEnd s a1 a2) := by
  intro a1 a2
  unfold State.heldEnd
  repeat' with_reducible first | assumption | (intro _) | apply canon_heldThaw | apply canon_ite

theorem canon_saveNow {s : State} (h : s.Canon) : ∀ a1 a2, State.Canon (State.saveNow s a1 a2) := by
  intro a1 a2
  unfold State.saveNow
  repeat' with_reducible first | assumption | (intro _) | apply canon_instDone | apply canon_writeAt | apply canon_setInst

theorem canon_twinDrop {s : State} (h : s.Canon) : ∀ a1, State.Canon (State.twinDrop s a1) := by
  intro a1
  unfold State.twinDrop
  repeat' with_reducible first | assumption | (intro _) | apply canon_each | apply canon_put | apply canon_setInst | apply canon_hubFinish | apply canon_whenB | apply canon_heldEnd | apply canon_saveNow | apply canon_ite | apply resCanon_ite | apply resCanon_next | simp only [canon_mk] | apply canonT_of | dsimp only | split

theorem canon_queueDirty {s : State} (h : s.Canon) : ∀ a1, State.Canon (State.queueDirty s a1) := by
  intro a1
  unfold State.queueDirty
  repeat' with_reducible first | assumption | (intro _) | apply canon_setHs | apply canon_each | apply canon_markDirty

theorem canon_mirrorSurvivor {s : State} (h : s.Canon) : ∀ a1, State.Canon (State.mirrorSurvivor s a1) := by
  intro a1
  unfold State.mirrorSurvivor
  repeat' with_reducible first | assumption | (intro _) | apply canon_twinDrop | apply canon_queueDirty | apply canon_setHs | apply canon_put | apply canon_ite

theorem canon_trigger {s : State} (h : s.Canon) : ∀ a1 a2, State.Canon (State.trigger s a1 a2) := by
  intro a1 a2
  unfold State.trigger
  repeat' with_reducible first | assumption | (intro _) | apply canon_setPort

theorem canon_pairDone {s : State} (h : s.Canon) : ∀ a1, State.Canon (State.pairDone s a1) := by
  intro a1
  unfold State.pairDone
  repeat' with_reducible first | assumption | (intro _) | apply canon_put | apply canon_raise

theorem canon_hoStart {s : State} (h : s.Canon) : ∀ a1 a2 a3, State.Canon (State.hoStart s a1 a2 a3) := by
  intro a1 a2 a3
  unfold State.hoStart
  repeat' with_reducible first | assumption | (intro _) | apply canon_each | apply canon_setPort | apply canon_put | apply canon_refreshPairing | apply canon_ite | apply resCanon_ite | apply resCanon_next | simp only [canon_mk] | apply canonT_of

theorem canon_shedIssue {s : State} (h : s.Canon) : State.Canon (State.shedIssue s) := by
  unfold State.shedIssue
  repeat' with_reducible first | assumption | (intro _) | apply canon_hoStart | apply canon_ite | apply resCanon_ite | apply resCanon_next | simp only [canon_mk] | apply canonT_of | dsimp only | split

theorem canon_hoSettle {s : State} (h : s.Canon) : State.Canon (State.hoSettle s) := by
  unfold State.hoSettle
  repeat' with_reducible first | assumption | (intro _) | apply canon_put | apply canon_pairDone | apply canon_whenB | apply canon_rearmStop | apply canon_shedIssue | apply canon_refreshPairing | apply canon_ite | apply resCanon_ite | apply resCanon_next | simp only [canon_mk] | apply canonT_of | dsimp only | split

theorem canon_hoEnd {s : State} (h : s.Canon) : ∀ a1 a2, State.Canon (State.hoEnd s a1 a2) := by
  intro a1 a2
  unfold State.hoEnd
  repeat' with_reducible first | assumption | (intro _) | apply canon_each | apply canon_setPort | apply canon_whenB | apply canon_hoSettle | apply canon_ite | apply resCanon_ite | apply resCanon_next | simp only [canon_mk] | apply canonT_of | dsimp only | split

theorem canon_declareLost {s : State} (h : s.Canon) : ∀ a1 a2 a3, State.Canon (State.declareLost s a1 a2 a3) := by
  intro a1 a2 a3
  unfold State.declareLost
  repeat' with_reducible first | assumption | (intro _) | apply canon_mirrorSurvivor | apply canon_setHalfState | apply canon_each | apply canon_trigger | apply canon_hoEnd | apply canon_ite | apply resCanon_ite | apply resCanon_next | simp only [canon_mk] | apply canonT_of | dsimp only | split

theorem canon_resetNoticed {s : State} (h : s.Canon) : ∀ a1, State.Canon (State.resetNoticed s a1) := by
  intro a1
  unfold State.resetNoticed
  repeat' with_reducible first | assumption | (intro _) | apply canon_declareLost | apply canon_ite

theorem canon_halfNotice {s : State} (h : s.Canon) : ∀ a1, State.Canon (State.halfNotice s a1) := by
  intro a1
  unfold State.halfNotice
  repeat' with_reducible first | assumption | (intro _) | apply canon_syncCheck | apply canon_halfClear | apply canon_resetNoticed | apply canon_ite

theorem canon_noteRefusals {s : State} (h : s.Canon) : ∀ a1 a2 a3 a4 a5, State.Canon (State.noteRefusals s a1 a2 a3 a4 a5) := by
  intro a1 a2 a3 a4 a5
  unfold State.noteRefusals
  repeat' with_reducible first | assumption | (intro _) | apply canon_each | apply canon_refuse

theorem canon_spmUeNote {s : State} (h : s.Canon) : ∀ a1 a2 a3 a4, State.Canon (State.spmUeNote s a1 a2 a3 a4) := by
  intro a1 a2 a3 a4
  unfold State.spmUeNote
  repeat' with_reducible first | assumption | (intro _) | apply canon_funcEvent | apply canon_put

theorem canon_noteRead {s : State} (h : s.Canon) : ∀ a1 a2 a3 a4 a5, State.Canon (State.noteRead s a1 a2 a3 a4 a5) := by
  intro a1 a2 a3 a4 a5
  unfold State.noteRead
  repeat' with_reducible first | assumption | (intro _) | apply canon_each | apply canon_noteRefusals | apply canon_spmUeNote

theorem canon_lcsNote {s : State} (h : s.Canon) : ∀ a1, State.Canon (State.lcsNote s a1) := by
  intro a1
  unfold State.lcsNote
  repeat' with_reducible first | assumption | (intro _) | apply canon_noteRead

theorem canon_laneRefresh {s : State} (h : s.Canon) : ∀ a1, State.Canon (State.laneRefresh s a1) := by
  intro a1
  unfold State.laneRefresh
  repeat' with_reducible first | assumption | (intro _) | apply canon_put | apply canon_whenB | apply canon_setPort

theorem canon_genStart {s : State} (h : s.Canon) : ∀ a1, State.Canon (State.genStart s a1) := by
  intro a1
  unfold State.genStart
  repeat' with_reducible first | assumption | (intro _) | apply canon_setPort | apply canon_put | apply canon_laneRefresh

theorem canon_showAct {s : State} (h : s.Canon) : ∀ a1, State.Canon (State.showAct s a1) := by
  intro a1
  unfold State.showAct
  repeat' with_reducible first | assumption | (intro _) | apply canon_each | apply canon_put

theorem canon_setSource {s : State} (h : s.Canon) : ∀ a1 a2, State.Canon (State.setSource s a1 a2) := by
  intro a1 a2
  unfold State.setSource
  repeat' with_reducible first | assumption | (intro _) | apply canon_put | apply canon_setPort | apply canon_each | apply canon_laneRefresh | apply canon_showAct | apply canon_ite

theorem canon_trainFail {s : State} (h : s.Canon) : ∀ a1 a2, State.Canon (State.trainFail s a1 a2) := by
  intro a1 a2
  unfold State.trainFail
  repeat' with_reducible first | assumption | (intro _) | apply canon_setPort | apply canon_put | apply canon_discSet

theorem canon_train {s : State} (h : s.Canon) : ∀ a1, State.Canon (State.train s a1) := by
  intro a1
  unfold State.train
  repeat' with_reducible first | assumption | (intro _) | apply canon_put | apply canon_setPort | apply canon_trainFail | apply canon_ite

theorem canon_sinkAccept {s : State} (h : s.Canon) : ∀ a1 a2 a3, State.Canon (State.sinkAccept s a1 a2 a3) := by
  intro a1 a2 a3
  unfold State.sinkAccept
  repeat' with_reducible first | assumption | (intro _) | apply canon_discSet | apply canon_setPort | apply canon_genStart | apply canon_setSource | apply canon_train | apply canon_ite

theorem canon_hostWrite {s : State} (h : s.Canon) {rq : Requester} {pg : Pg} {f : State → Res} {off : Nat} (hf : ∀ t, State.Canon t → ResCanon (f t)) :
    ResCanon (hostWrite rq pg s f off) := by
  unfold hostWrite
  repeat' with_reducible first | assumption | apply hf | apply canon_windowRefuse | apply canon_accessFault | apply canon_dropped | apply resCanon_ite | apply resCanon_next
  exact h

theorem canon_instBusy {s : State} (h : s.Canon) : ∀ a1 a2 a3, State.Canon (State.instBusy s a1 a2 a3) := by
  intro a1 a2 a3
  unfold State.instBusy
  repeat' with_reducible first | assumption | (intro _) | apply canon_put

theorem canon_hubShadows {s : State} (h : s.Canon) : ∀ a1 a2 a3, State.Canon (State.hubShadows s a1 a2 a3) := by
  intro a1 a2 a3
  unfold State.hubShadows
  repeat' with_reducible first | assumption | (intro _) | apply canon_each | apply canon_setReg | apply canon_put

theorem canon_blockLoad {s : State} (h : s.Canon) : ∀ a1 a2 a3, State.Canon (State.blockLoad s a1 a2 a3) := by
  intro a1 a2 a3
  unfold State.blockLoad
  repeat' with_reducible first | assumption | (intro _) | apply canon_setInst | apply canon_put | apply canon_setReg | apply canon_hubShadows

theorem canon_restoreEnd {s : State} (h : s.Canon) : ∀ a1 a2, State.Canon (State.restoreEnd s a1 a2) := by
  intro a1 a2
  unfold State.restoreEnd
  repeat' with_reducible first | assumption | (intro _) | apply canon_instDone | apply canon_instFrozen | apply canon_setInst

theorem canon_restoreFrom {s : State} (h : s.Canon) : ∀ a1 a2 a3, State.Canon (State.restoreFrom s a1 a2 a3) := by
  intro a1 a2 a3
  unfold State.restoreFrom
  repeat' with_reducible first | assumption | (intro _) | apply canon_instDone | apply canon_instBusy | apply canon_blockLoad | apply canon_restoreEnd | apply canon_ite

theorem canon_watchdogLoad {s : State} (h : s.Canon) : ∀ a1, State.Canon (State.watchdogLoad s a1) := by
  intro a1
  unfold State.watchdogLoad
  repeat' with_reducible first | assumption | (intro _) | apply canon_put

theorem canon_sameCycle {s : State} (h : s.Canon) : ∀ a1, (State.sameCycle s a1).2.Canon := by
  intro a1
  unfold State.sameCycle
  repeat' with_reducible first | assumption | (intro _) | refine canon_takeFree_eq (by assumption) ?_ | apply canon_takeFree | apply canon_ite | apply resCanon_ite | apply resCanon_next | apply canonT_of | dsimp only | split

theorem canon_sameCycle_eq {s t : State} {v} {a1} (e : State.sameCycle s a1 = (v, t)) (h : s.Canon) : t.Canon := by
  have := canon_sameCycle h a1
  rw [e] at this
  exact this

theorem canon_peerEvent {s : State} (h : s.Canon) : ∀ a1 a2, State.Canon (State.peerEvent s a1 a2) := by
  intro a1 a2
  unfold State.peerEvent
  repeat' with_reducible first | assumption | (intro _) | apply canon_event

theorem canon_moveAlarms {s : State} (h : s.Canon) : ∀ a1, State.Canon (State.moveAlarms s a1) := by
  intro a1
  unfold State.moveAlarms
  repeat' with_reducible first | assumption | (intro _) | apply canon_each | apply canon_peerEmit | apply canon_peerEvent | apply canon_alert | apply canon_ite | apply resCanon_ite | apply resCanon_next | simp only [canon_mk] | apply canonT_of

theorem canon_plkCheck {s : State} (h : s.Canon) : ∀ a1, State.Canon (State.plkCheck s a1) := by
  intro a1
  unfold State.plkCheck
  repeat' with_reducible first | assumption | (intro _) | apply canon_peerEvent | apply canon_setPlkState | apply canon_gmGone | apply canon_moveAlarms | apply canon_discSet | apply canon_alert | apply canon_raise | apply canon_ite

theorem canon_tecUp {s : State} (h : s.Canon) : ∀ a1, State.Canon (State.tecUp s a1) := by
  intro a1
  unfold State.tecUp
  repeat' with_reducible first | assumption | (intro _) | refine canon_sameCycle_eq (by assumption) ?_ | apply canon_sameCycle | apply canon_plkCheck | apply canon_put | apply canon_ite

theorem canon_failoverOne {s : State} (h : s.Canon) : ∀ a1 a2 a3 a4, State.Canon (State.failoverOne s a1 a2 a3 a4) := by
  intro a1 a2 a3 a4
  unfold State.failoverOne
  repeat' with_reducible first | assumption | (intro _) | apply canon_setSource | apply canon_incSat | apply canon_put | apply canon_alert | apply canon_raise | apply canon_setPort | apply canon_event

theorem canon_inspEnd {s : State} (h : s.Canon) : ∀ a1, State.Canon (State.inspEnd s a1) := by
  intro a1
  unfold State.inspEnd
  repeat' with_reducible first | assumption | (intro _) | apply canon_setMram | apply canon_setHs | apply canon_put | apply canon_refreshMode | apply canon_raiseBoth | apply canon_ite | apply resCanon_ite | apply resCanon_next | simp only [canon_mk] | apply canonT_of | dsimp only | split

theorem canon_failover {s : State} (h : s.Canon) : ∀ a1 a2 a3, State.Canon (State.failover s a1 a2 a3) := by
  intro a1 a2 a3
  unfold State.failover
  repeat' with_reducible first | assumption | (intro _) | apply canon_setPort | apply canon_hoEnd | apply canon_each | apply canon_failoverOne | apply canon_rearmStop | apply canon_inspEnd | apply canon_ite | apply resCanon_ite | apply resCanon_next | apply canonT_of | dsimp only | split

theorem canon_setRs {s : State} (h : s.Canon) : ∀ a1 a2 a3, State.Canon (State.setRs s a1 a2 a3) := by
  intro a1 a2 a3
  unfold State.setRs
  repeat' with_reducible first | assumption | (intro _) | apply canon_put

theorem canon_rFaulted {s : State} (h : s.Canon) : ∀ a1 a2 a3, State.Canon (State.rFaulted s a1 a2 a3) := by
  intro a1 a2 a3
  unfold State.rFaulted
  repeat' with_reducible first | assumption | (intro _) | apply canon_groupsDrop | apply canon_l1Out | apply canon_put | apply canon_setRs | apply canon_setCtx

theorem canon_unpause {s : State} (h : s.Canon) : ∀ a1, State.Canon (State.unpause s a1) := by
  intro a1
  unfold State.unpause
  repeat' with_reducible first | assumption | (intro _) | apply canon_each | apply canon_setCtx | apply canon_setHs | apply canon_ite

theorem canon_hoLatch {s : State} (h : s.Canon) : ∀ a1, State.Canon (State.hoLatch s a1) := by
  intro a1
  unfold State.hoLatch
  repeat' with_reducible first | assumption | (intro _) | apply canon_each | apply canon_setPort | apply canon_ite | apply resCanon_ite | apply resCanon_next | apply canonT_of | dsimp only | split

theorem canon_setRole {s : State} (h : s.Canon) : ∀ a1 a2 a3, State.Canon (State.setRole s a1 a2 a3) := by
  intro a1 a2 a3
  unfold State.setRole
  repeat' with_reducible first | assumption | (intro _) | apply canon_put | apply canon_ite | apply resCanon_ite | apply resCanon_next | simp only [canon_mk] | apply canonT_of | dsimp only | split

theorem canon_domRaise {s : State} (h : s.Canon) : ∀ a1, State.Canon (State.domRaise s a1) := by
  intro a1
  unfold State.domRaise
  repeat' with_reducible first | assumption | (intro _) | apply canon_each | apply canon_setDomain | apply canon_ite | apply resCanon_ite | apply resCanon_next | simp only [canon_mk] | apply canonT_of | dsimp only | split

theorem canon_served {s : State} (h : s.Canon) : ∀ a1 a2, State.Canon (State.served s a1 a2) := by
  intro a1 a2
  unfold State.served
  repeat' with_reducible first | assumption | (intro _) | apply canon_setHs

theorem canon_sendLock {s : State} (h : s.Canon) : State.Canon (State.sendLock s) := by
  unfold State.sendLock
  repeat' with_reducible first | assumption | (intro _) | refine canon_ownFrame_eq (by assumption) ?_ | apply canon_ownFrame | apply canon_peerEmit

theorem canon_recDown {s : State} (h : s.Canon) : ∀ a1, State.Canon (State.recDown s a1) := by
  intro a1
  unfold State.recDown
  repeat' with_reducible first | assumption | (intro _) | apply canon_plkCheck | apply canon_put

theorem canon_recUp {s : State} (h : s.Canon) : ∀ a1, State.Canon (State.recUp s a1) := by
  intro a1
  unfold State.recUp
  repeat' with_reducible first | assumption | (intro _) | refine canon_sameCycle_eq (by assumption) ?_ | apply canon_sameCycle | apply canon_plkCheck | apply canon_put | apply canon_ite

theorem canon_frameSeen {s : State} (h : s.Canon) : ∀ a1 a2, (State.frameSeen s a1 a2).2.Canon := by
  intro a1 a2
  unfold State.frameSeen
  repeat' with_reducible first | assumption | (intro _) | apply canon_recDown | apply canon_recUp | apply canon_ite | apply resCanon_ite | apply resCanon_next | simp only [canon_mk] | apply canonT_of | dsimp only | split

theorem canon_frameSeen_eq {s t : State} {v} {a1 a2} (e : State.frameSeen s a1 a2 = (v, t)) (h : s.Canon) : t.Canon := by
  have := canon_frameSeen h a1 a2
  rw [e] at this
  exact this

theorem canon_peerGood {s : State} (h : s.Canon) : ∀ a1 a2 a3, (State.peerGood s a1 a2 a3).2.Canon := by
  intro a1 a2 a3
  unfold State.peerGood
  repeat' with_reducible first | assumption | (intro _) | refine canon_frameSeen_eq (by assumption) ?_ | apply canon_frameSeen | apply canon_ite | apply resCanon_ite | apply resCanon_next | apply canonT_of | dsimp only | split

theorem canon_peerGood_eq {s t : State} {v} {a1 a2 a3} (e : State.peerGood s a1 a2 a3 = (v, t)) (h : s.Canon) : t.Canon := by
  have := canon_peerGood h a1 a2 a3
  rw [e] at this
  exact this

theorem canon_peerNote {s : State} (h : s.Canon) : ∀ a1 a2, State.Canon (State.peerNote s a1 a2) := by
  intro a1 a2
  unfold State.peerNote
  repeat' with_reducible first | assumption | (intro _) | apply canon_ite | apply resCanon_ite | apply resCanon_next | simp only [canon_mk] | apply canonT_of

theorem canon_peerRx {s : State} (h : s.Canon) : ∀ a1 a2 a3, (State.peerRx s a1 a2 a3).2.Canon := by
  intro a1 a2 a3
  unfold State.peerRx
  repeat' with_reducible first | assumption | (intro _) | refine canon_peerGood_eq (by assumption) ?_ | apply canon_peerGood | apply canon_peerNote | apply canon_ite | apply resCanon_ite | apply resCanon_next | apply canonT_of | dsimp only | split

theorem canon_peerRx_eq {s t : State} {v} {a1 a2 a3} (e : State.peerRx s a1 a2 a3 = (v, t)) (h : s.Canon) : t.Canon := by
  have := canon_peerRx h a1 a2 a3
  rw [e] at this
  exact this

theorem canon_ackBack {s : State} (h : s.Canon) : ∀ a1 a2, State.Canon (State.ackBack s a1 a2) := by
  intro a1 a2
  unfold State.ackBack
  repeat' with_reducible first | assumption | (intro _) | refine canon_ownFrame_eq (by assumption) ?_ | apply canon_ownFrame | apply canon_peerEmit | apply canon_ite

theorem canon_peerAccept {s : State} (h : s.Canon) : ∀ a1 a2 a3, (State.peerAccept s a1 a2 a3).2.Canon := by
  intro a1 a2 a3
  unfold State.peerAccept
  repeat' with_reducible first | assumption | (intro _) | refine canon_peerRx_eq (by assumption) ?_ | apply canon_peerRx | apply canon_ackBack | apply canon_ite | apply resCanon_ite | apply resCanon_next | simp only [canon_mk] | apply canonT_of | dsimp only | split

theorem canon_peerAccept_eq {s t : State} {v} {a1 a2 a3} (e : State.peerAccept s a1 a2 a3 = (v, t)) (h : s.Canon) : t.Canon := by
  have := canon_peerAccept h a1 a2 a3
  rw [e] at this
  exact this

theorem canon_relay {s : State} (h : s.Canon) : ∀ a1 a2 a3 a4, State.Canon (State.relay s a1 a2 a3 a4) := by
  intro a1 a2 a3 a4
  unfold State.relay
  repeat' with_reducible first | assumption | (intro _) | apply canon_sendAcked | apply canon_peerEmit | apply canon_ite

theorem canon_quDrop {s : State} (h : s.Canon) : ∀ a1 a2, State.Canon (State.quDrop s a1 a2) := by
  intro a1 a2
  unfold State.quDrop
  repeat' with_reducible first | assumption | (intro _) | apply canon_raise | apply canon_incSat | apply canon_put

theorem canon_quShow {s : State} (h : s.Canon) : ∀ a1 a2, State.Canon (State.quShow s a1 a2) := by
  intro a1 a2
  unfold State.quShow
  repeat' with_reducible first | assumption | (intro _) | apply canon_put | apply canon_raise | apply canon_ite

theorem canon_spmPort {s : State} (h : s.Canon) : ∀ a1 a2 a3 a4 a5, State.Canon (State.spmPort s a1 a2 a3 a4 a5) := by
  intro a1 a2 a3 a4 a5
  unfold State.spmPort
  repeat' with_reducible first | assumption | (intro _) | apply canon_noteRefusals | apply canon_setSpmU | apply canon_each | apply canon_incSat | apply canon_spmUeNote | apply canon_ite

theorem canon_spmStore {s : State} (h : s.Canon) : ∀ a1 a2 a3, State.Canon (State.spmStore s a1 a2 a3) := by
  intro a1 a2 a3
  unfold State.spmStore
  repeat' with_reducible first | assumption | (intro _) | apply canon_writeAt | apply canon_ite | apply resCanon_ite | apply resCanon_next | simp only [canon_mk] | apply canonT_of | dsimp only | split

theorem canon_spmCycle {s : State} (h : s.Canon) : ∀ a1 a2 a3 a4 a5, State.Canon (State.spmCycle s a1 a2 a3 a4 a5) := by
  intro a1 a2 a3 a4 a5
  unfold State.spmCycle
  repeat' with_reducible first | assumption | (intro _) | apply canon_spmPort | apply canon_spmStore | apply canon_put | apply canon_incSat | apply canon_whenB | apply canon_raise | apply canon_ite | apply resCanon_ite | apply resCanon_next | simp only [canon_mk] | apply canonT_of | dsimp only | split

theorem canon_spmEngine {s : State} (h : s.Canon) : ∀ a1 a2 a3 a4 a5, State.Canon (State.spmEngine s a1 a2 a3 a4 a5) := by
  intro a1 a2 a3 a4 a5
  unfold State.spmEngine
  repeat' with_reducible first | assumption | (intro _) | apply canon_spmCycle

theorem canon_quStore {s : State} (h : s.Canon) : ∀ a1 a2 a3 a4, State.Canon (State.quStore s a1 a2 a3 a4) := by
  intro a1 a2 a3 a4
  unfold State.quStore
  repeat' with_reducible first | assumption | (intro _) | apply canon_each | apply canon_spmEngine | apply canon_setQu | apply canon_unpredictable | apply canon_ite

theorem canon_some {o : Option State} {t : State} (ho : ∀ u, o = some u → u.Canon) (e : o = some t) : t.Canon := ho t e

theorem canon_isome {u t : State} (h : u.Canon) (e : some u = some t) : t.Canon := Option.some.inj e ▸ h

theorem canon_quOpen {s : State} (h : s.Canon) : ∀ k q, ∀ t, State.quOpen s k q = some t → t.Canon := by
  intro k q t e
  unfold State.quOpen at e
  dsimp only at e
  split at e
  · exact nomatch e
  · split at e
    · exact canon_isome (canon_quDrop h _ _) e
    · exact canon_isome (canon_quShow (canon_quStore h _ _ _ _) _ _) e

theorem canon_quPush {s : State} (h : s.Canon) : ∀ k q d, ∀ t, State.quPush s k q d = some t → t.Canon := by
  intro k q d t e
  unfold State.quPush at e
  dsimp only at e
  split at e
  · exact canon_isome (canon_quDrop h _ _) e
  · split at e
    · exact canon_isome (canon_quShow (canon_quStore h _ _ _ _) _ _) e
    · split at e
      · exact nomatch e
      · exact canon_isome (canon_quShow (canon_quStore h _ _ _ _) _ _) e

theorem canon_quClose {s : State} (h : s.Canon) : ∀ k q, ∀ t, State.quClose s k q = some t → t.Canon := by
  intro k q t e
  unfold State.quClose at e
  dsimp only at e
  split at e
  · exact nomatch e
  · exact canon_isome (canon_quShow (canon_quStore h _ _ _ _) _ _) e

theorem canon_getD {o : Option State} {s : State} (h : s.Canon) (ho : ∀ t, o = some t → t.Canon) : (o.getD s).Canon := by
  cases o with
  | none => exact h
  | some t => exact ho t rfl

theorem canon_foldl {α : Type} {f : State → α → State} (hf : ∀ t x, State.Canon t → State.Canon (f t x)) :
    ∀ (xs : List α) {s : State}, s.Canon → State.Canon (xs.foldl f s)
  | [], _, h => h
  | x :: xs, _, h => canon_foldl hf xs (hf _ x h)

theorem canon_foldl_snd {α β : Type} {f : β × State → α → β × State} (hf : ∀ t x, State.Canon t.2 → State.Canon (f t x).2) :
    ∀ (xs : List α) {s : β × State}, s.2.Canon → State.Canon (xs.foldl f s).2
  | [], _, h => h
  | x :: xs, _, h => canon_foldl_snd hf xs (hf _ x h)

theorem canon_quPacket {s : State} (h : s.Canon) : ∀ k q es, State.Canon (State.quPacket s k q es) := by
  intro k q es
  unfold State.quPacket
  split
  · exact h
  · next t e =>
    have ht := canon_quOpen h _ _ _ e
    split
    · exact ht
    · have := canon_foldl (f := fun s e => (State.quPush s k q e).getD s) (fun t x ht => canon_getD ht (canon_quPush ht _ _ _)) es ht
      exact canon_getD this (canon_quClose this _ _)

theorem canon_alarmPush {s : State} (h : s.Canon) : ∀ a1 a2 a3, State.Canon (State.alarmPush s a1 a2 a3) := by
  intro a1 a2 a3
  unfold State.alarmPush
  repeat' with_reducible first | assumption | (intro _) | apply canon_quPacket | apply canon_quDrop | apply canon_ite | apply resCanon_ite | apply resCanon_next | simp only [canon_mk] | apply canonT_of

theorem canon_alarmRx {s : State} (h : s.Canon) : ∀ a1 a2 a3, (State.alarmRx s a1 a2 a3).2.Canon := by
  intro a1 a2 a3
  unfold State.alarmRx
  repeat' with_reducible first | assumption | (intro _) | refine canon_peerAccept_eq (by assumption) ?_ | apply canon_peerAccept | apply canon_txNew | apply canon_relay | apply canon_alarmPush | apply canon_ite | apply resCanon_ite | apply resCanon_next | apply canonT_of | dsimp only | split

theorem canon_alarmRx_eq {s t : State} {v} {a1 a2 a3} (e : State.alarmRx s a1 a2 a3 = (v, t)) (h : s.Canon) : t.Canon := by
  have := canon_alarmRx h a1 a2 a3
  rw [e] at this
  exact this

theorem canon_probe {s : State} (h : s.Canon) : ∀ a1, State.Canon (State.probe s a1) := by
  intro a1
  unfold State.probe
  repeat' with_reducible first | assumption | (intro _) | apply canon_setPort | apply canon_discSet

theorem canon_hpdUp {s : State} (h : s.Canon) : ∀ a1, State.Canon (State.hpdUp s a1) := by
  intro a1
  unfold State.hpdUp
  repeat' with_reducible first | assumption | (intro _) | apply canon_put | apply canon_probe | apply canon_ite

theorem canon_linkLost {s : State} (h : s.Canon) : ∀ a1, State.Canon (State.linkLost s a1) := by
  intro a1
  unfold State.linkLost
  repeat' with_reducible first | assumption | (intro _) | apply canon_put | apply canon_setPort

theorem canon_hpdDown {s : State} (h : s.Canon) : ∀ a1, State.Canon (State.hpdDown s a1) := by
  intro a1
  unfold State.hpdDown
  repeat' with_reducible first | assumption | (intro _) | apply canon_put | apply canon_discSet | apply canon_linkLost | apply canon_setPort

theorem canon_hpdAgain {s : State} (h : s.Canon) : ∀ a1, State.Canon (State.hpdAgain s a1) := by
  intro a1
  unfold State.hpdAgain
  repeat' with_reducible first | assumption | (intro _) | apply canon_hpdUp | apply canon_hpdDown | apply canon_ite

theorem canon_dramWake {s : State} (h : s.Canon) : ∀ a1, State.Canon (State.dramWake s a1) := by
  intro a1
  unfold State.dramWake
  repeat' with_reducible first | assumption | (intro _) | apply canon_setHs | apply canon_ite

theorem canon_openTake {s : State} (h : s.Canon) : ∀ a1 a2, State.Canon (State.openTake s a1 a2) := by
  intro a1 a2
  unfold State.openTake
  repeat' with_reducible first | assumption | (intro _) | apply canon_setHart | apply canon_ite | apply resCanon_ite | apply resCanon_next | simp only [canon_mk] | apply canonT_of | dsimp only | split

theorem canon_hartResume {s : State} (h : s.Canon) : ∀ a1 a2, State.Canon (State.hartResume s a1 a2) := by
  intro a1 a2
  unfold State.hartResume
  repeat' with_reducible first | assumption | (intro _) | apply canon_openTake | apply canon_haltCheck

theorem canon_domWake {s : State} (h : s.Canon) : ∀ a1, State.Canon (State.domWake s a1) := by
  intro a1
  unfold State.domWake
  repeat' with_reducible first | assumption | (intro _) | apply canon_each | apply canon_setDomain | apply canon_hartResume

theorem canon_portRestart {s : State} (h : s.Canon) : ∀ a1, State.Canon (State.portRestart s a1) := by
  intro a1
  unfold State.portRestart
  repeat' with_reducible first | assumption | (intro _) | apply canon_genStart | apply canon_train | apply canon_ite

theorem canon_srcPut {s : State} (h : s.Canon) : ∀ a1 a2 a3, State.Canon (State.srcPut s a1 a2 a3) := by
  intro a1 a2 a3
  unfold State.srcPut
  repeat' with_reducible first | assumption | (intro _) | apply canon_put

theorem canon_setSrcState {s : State} (h : s.Canon) : ∀ a1 a2, State.Canon (State.setSrcState s a1 a2) := by
  intro a1 a2
  unfold State.setSrcState
  repeat' with_reducible first | assumption | (intro _) | apply canon_srcPut

theorem canon_touchStart {s : State} (h : s.Canon) : ∀ a1, State.Canon (State.touchStart s a1) := by
  intro a1
  unfold State.touchStart
  repeat' with_reducible first | assumption | (intro _) | apply canon_setSrc | apply canon_setSrcState | apply canon_srcPut | apply canon_each | apply canon_discSet | apply canon_ite

theorem canon_touchResume {s : State} (h : s.Canon) : State.Canon (State.touchResume s) := by
  unfold State.touchResume
  repeat' with_reducible first | assumption | (intro _) | apply canon_each | apply canon_touchStart | apply canon_ite

theorem canon_unparkHalf {s : State} (h : s.Canon) : ∀ a1, State.Canon (State.unparkHalf s a1) := by
  intro a1
  unfold State.unparkHalf
  repeat' with_reducible first | assumption | (intro _) | apply canon_setHs | apply canon_ite

theorem canon_setPdomain {s : State} (h : s.Canon) : ∀ a1 a2, State.Canon (State.setPdomain s a1 a2) := by
  intro a1 a2
  unfold State.setPdomain
  repeat' with_reducible first | assumption | (intro _) | apply canon_put

theorem canon_pdomRaise {s : State} (h : s.Canon) : State.Canon (State.pdomRaise s) := by
  unfold State.pdomRaise
  repeat' with_reducible first | assumption | (intro _) | apply canon_each | apply canon_setPdomain | apply canon_ite | apply resCanon_ite | apply resCanon_next | simp only [canon_mk] | apply canonT_of | dsimp only | split

theorem canon_raiseAll {s : State} (h : s.Canon) : State.Canon (State.raiseAll s) := by
  unfold State.raiseAll
  repeat' with_reducible first | assumption | (intro _) | apply canon_pdomRaise | apply canon_domRaise

theorem canon_hapUnwait {s : State} (h : s.Canon) : ∀ a1, State.Canon (State.hapUnwait s a1) := by
  intro a1
  unfold State.hapUnwait
  repeat' with_reducible first | assumption | (intro _) | apply canon_hapDrop | apply canon_setChan | apply canon_ite

theorem canon_hapT3 {s : State} (h : s.Canon) : State.Canon (State.hapT3 s) := by
  unfold State.hapT3
  repeat' with_reducible first | assumption | (intro _) | apply canon_each | apply canon_whenB | apply canon_hapUnwait | apply canon_hapBrake | apply canon_ite

theorem canon_peerSettle {s : State} (h : s.Canon) : State.Canon (State.peerSettle s) := by
  unfold State.peerSettle
  repeat' with_reducible first | assumption | (intro _) | apply canon_each | apply canon_gmGone | apply canon_moveAlarms | apply canon_neighbourGone | apply canon_setPlkState | apply canon_plkLink | apply canon_ite

theorem canon_hapT4 {s : State} (h : s.Canon) : State.Canon (State.hapT4 s) := by
  unfold State.hapT4
  repeat' with_reducible first | assumption | (intro _) | apply canon_each | apply canon_hapUnwait | apply canon_hapBrake | apply canon_ite

theorem canon_captureCounts {s : State} (h : s.Canon) : ∀ a1, (State.captureCounts s a1).2.Canon := by
  intro a1
  unfold State.captureCounts
  repeat' with_reducible first | assumption | (intro _) | apply canon_ite | apply resCanon_ite | apply resCanon_next | simp only [canon_mk] | apply canonT_of

theorem canon_captureCounts_eq {s t : State} {v} {a1} (e : State.captureCounts s a1 = (v, t)) (h : s.Canon) : t.Canon := by
  have := canon_captureCounts h a1
  rw [e] at this
  exact this

theorem canon_refShow {s : State} (h : s.Canon) : State.Canon (State.refShow s) := by
  unfold State.refShow
  repeat' with_reducible first | assumption | (intro _) | apply canon_put

theorem canon_captureEnd {s : State} (h : s.Canon) : State.Canon (State.captureEnd s) := by
  unfold State.captureEnd
  split
  · exact h
  · have hf : State.Canon ((upTo 9).foldl (fun (a : List Nat × State) src =>
        match a.2.captureCounts src with
        | (c, s) => (a.1 ++ c, s)) ([], s)).2 :=
      canon_foldl_snd (fun t x ht => by
        dsimp only
        exact canon_captureCounts ht _) _ h
    revert hf
    generalize List.foldl _ _ _ = r
    obtain ⟨c, t⟩ := r
    intro hf
    repeat' with_reducible first | assumption | (intro _) | apply canon_refShow | apply canon_put | apply canon_setMram

theorem canon_touchPush {s : State} (h : s.Canon) : ∀ a1 a2 a3, State.Canon (State.touchPush s a1 a2 a3) := by
  intro a1 a2 a3
  unfold State.touchPush
  repeat' with_reducible first | assumption | (intro _) | apply canon_quPacket | apply canon_incSat | apply canon_setSrc | apply canon_ite

theorem canon_touchReport {s : State} (h : s.Canon) : ∀ a1 a2, State.Canon (State.touchReport s a1 a2) := by
  intro a1 a2
  unfold State.touchReport
  repeat' with_reducible first | assumption | (intro _) | apply canon_touchPush

theorem canon_touchEndAll {s : State} (h : s.Canon) : ∀ a1, State.Canon (State.touchEndAll s a1) := by
  intro a1
  unfold State.touchEndAll
  repeat' with_reducible first | assumption | (intro _) | apply canon_whenB | apply canon_touchReport | apply canon_setSrc | apply canon_each | apply canon_setReg | apply canon_ite

theorem canon_touchStop {s : State} (h : s.Canon) : ∀ a1, State.Canon (State.touchStop s a1) := by
  intro a1
  unfold State.touchStop
  repeat' with_reducible first | assumption | (intro _) | apply canon_touchEndAll | apply canon_setSrc | apply canon_setSrcState | apply canon_srcPut | apply canon_ite

theorem canon_touchT4 {s : State} (h : s.Canon) : State.Canon (State.touchT4 s) := by
  unfold State.touchT4
  repeat' with_reducible first | assumption | (intro _) | apply canon_each | apply canon_captureEnd | apply canon_touchStop

theorem canon_unitsFour {s : State} (h : s.Canon) : State.Canon (State.unitsFour s) := by
  unfold State.unitsFour
  repeat' with_reducible first | assumption | (intro _) | apply canon_each | apply canon_setDomain | apply canon_setPort | apply canon_peerSettle | apply canon_hapT4 | apply canon_touchT4 | apply canon_ite

theorem canon_hoEndAll {s : State} (h : s.Canon) : ∀ a1, State.Canon (State.hoEndAll s a1) := by
  intro a1
  unfold State.hoEndAll
  repeat' with_reducible first | assumption | (intro _) | apply canon_each | apply canon_hoEnd

theorem canon_parkFreeze {s : State} (h : s.Canon) : ∀ a1, State.Canon (State.parkFreeze s a1) := by
  intro a1
  unfold State.parkFreeze
  repeat' with_reducible first | assumption | (intro _) | apply canon_each | apply canon_instFrozen | apply canon_setInstState | apply canon_ite

theorem canon_parkHalf {s : State} (h : s.Canon) : ∀ a1, State.Canon (State.parkHalf s a1) := by
  intro a1
  unfold State.parkHalf
  repeat' with_reducible first | assumption | (intro _) | apply canon_halfNotice | apply canon_halfResetReq | apply canon_setHs | apply canon_each | apply canon_setDomain | apply canon_put | apply canon_setSpmU | apply canon_mirrorSurvivor | apply canon_setHalfState | apply canon_syncCheck | apply canon_ite | apply resCanon_ite | apply resCanon_next | simp only [canon_mk] | apply canonT_of

theorem canon_shedFour {s : State} (h : s.Canon) : State.Canon (State.shedFour s) := by
  unfold State.shedFour
  repeat' with_reducible first | assumption | (intro _) | apply canon_inspEnd | apply canon_rearmGo | apply canon_hoEndAll | apply canon_setHs | apply canon_each | apply canon_setPort | apply canon_setSource | apply canon_parkFreeze | apply canon_parkHalf | apply canon_ite | apply resCanon_ite | apply resCanon_next | simp only [canon_mk] | apply canonT_of

theorem canon_shedTwo {s : State} (h : s.Canon) : State.Canon (State.shedTwo s) := by
  unfold State.shedTwo
  repeat' with_reducible first | assumption | (intro _) | apply canon_inspEnd | apply canon_rearmGo | apply canon_setHs | apply canon_parkHalf | apply canon_shedIssue | apply canon_parkFreeze | apply canon_ite | apply resCanon_ite | apply resCanon_next | simp only [canon_mk] | apply canonT_of

theorem canon_tierApply {s : State} (h : s.Canon) : State.Canon (State.tierApply s) := by
  unfold State.tierApply
  repeat' with_reducible first | assumption | (intro _) | apply canon_hapT3 | apply canon_unitsFour | apply canon_shedFour | apply canon_shedTwo | apply canon_ite

theorem canon_modDone {s : State} (h : s.Canon) : ∀ a1, State.Canon (State.modDone s a1) := by
  intro a1
  unfold State.modDone
  repeat' with_reducible first | assumption | (intro _) | apply canon_put | apply canon_raiseBoth

theorem canon_nightExit {s : State} (h : s.Canon) : State.Canon (State.nightExit s) := by
  unfold State.nightExit
  repeat' with_reducible first | assumption | (intro _) | apply canon_setMode | apply canon_each | apply canon_hpdAgain | apply canon_setPort | apply canon_dramWake | apply canon_domWake | apply canon_portRestart | apply canon_touchResume | apply canon_unparkHalf | apply canon_raiseAll | apply canon_tierApply | apply canon_peerSettle | apply canon_modDone | apply canon_ite | apply resCanon_ite | apply resCanon_next | simp only [canon_mk] | apply canonT_of

theorem canon_auxFail {s : State} (h : s.Canon) : ∀ a1, State.Canon (State.auxFail s a1) := by
  intro a1
  unfold State.auxFail
  repeat' with_reducible first | assumption | (intro _) | apply canon_setPort | apply canon_discSet | apply canon_put | apply canon_ite

theorem canon_funcClear {s : State} (h : s.Canon) : ∀ a1, State.Canon (State.funcClear s a1) := by
  intro a1
  unfold State.funcClear
  repeat' with_reducible first | assumption | (intro _) | apply canon_clearHeld | apply canon_clearRegs

theorem canon_hapDiscover {s : State} (h : s.Canon) : State.Canon (State.hapDiscover s) := by
  unfold State.hapDiscover
  repeat' with_reducible first | assumption | (intro _) | apply canon_each | apply canon_discSet

theorem canon_hapReset {s : State} (h : s.Canon) : State.Canon (State.hapReset s) := by
  unfold State.hapReset
  repeat' with_reducible first | assumption | (intro _) | apply canon_funcClear | apply canon_each | apply canon_setHap | apply canon_hapDiscover | apply canon_ite | apply resCanon_ite | apply resCanon_next | simp only [canon_mk] | apply canonT_of

theorem canon_oneCycle {s : State} (h : s.Canon) {f : State → State} (hf : ∀ t, State.Canon t → State.Canon (f t)) : (s.oneCycle f).Canon := by
  unfold State.oneCycle
  split
  · exact hf s h
  · have k := hf { s with pat := { s.pat with arriving := some [] } } h
    dsimp only
    refine canon_each ?_ fun _ _ ht => canon_deliver ht _
    exact k

theorem canon_notePackets {s : State} (h : s.Canon) : ∀ a1 a2, State.Canon (State.notePackets s a1 a2) := by
  intro a1 a2
  unfold State.notePackets
  repeat' with_reducible first | assumption | (intro _) | apply canon_setPort

theorem canon_substEnd {s : State} (h : s.Canon) : ∀ a1, State.Canon (State.substEnd s a1) := by
  intro a1
  unfold State.substEnd
  repeat' with_reducible first | assumption | (intro _) | apply canon_event | apply canon_setPort | apply canon_ite

theorem canon_rectMismatch {s : State} (h : s.Canon) : ∀ a1 a2 a3 a4, (State.rectMismatch s a1 a2 a3 a4).2.Canon := by
  intro a1 a2 a3 a4
  unfold State.rectMismatch
  repeat' with_reducible first | assumption | (intro _) | refine canon_takeFree_eq (by assumption) ?_ | apply canon_takeFree | apply canon_ite | apply resCanon_ite | apply resCanon_next | apply canonT_of | dsimp only | split

theorem canon_rectMismatch_eq {s t : State} {v} {a1 a2 a3 a4} (e : State.rectMismatch s a1 a2 a3 a4 = (v, t)) (h : s.Canon) : t.Canon := by
  have := canon_rectMismatch h a1 a2 a3 a4
  rw [e] at this
  exact this

theorem canon_setLane {s : State} (h : s.Canon) : ∀ a1 a2 a3, State.Canon (State.setLane s a1 a2 a3) := by
  intro a1 a2 a3
  unfold State.setLane
  repeat' with_reducible first | assumption | (intro _) | apply canon_setPort

theorem canon_darkSet {s : State} (h : s.Canon) : ∀ a1, State.Canon (State.darkSet s a1) := by
  intro a1
  unfold State.darkSet
  repeat' with_reducible first | assumption | (intro _) | apply canon_setPort | apply canon_put

theorem canon_reactS {s : State} (h : s.Canon) : ∀ a1 a2, State.Canon (State.reactS s a1 a2) := by
  intro a1 a2
  unfold State.reactS
  repeat' with_reducible first | assumption | (intro _) | apply canon_whenB | apply canon_alert | apply canon_trigger | apply canon_setPort | apply canon_darkSet | apply canon_ite

theorem canon_rectDone {s : State} (h : s.Canon) : ∀ a1 a2 a3, State.Canon (State.rectDone s a1 a2 a3) := by
  intro a1 a2 a3
  unfold State.rectDone
  repeat' with_reducible first | assumption | (intro _) | refine canon_rectMismatch_eq (by assumption) ?_ | apply canon_rectMismatch | apply canon_setLane | apply canon_put | apply canon_whenB | apply canon_incSat | apply canon_raise | apply canon_putBit | apply canon_event | apply canon_alert | apply canon_reactS | apply canon_ite

theorem canon_rectsDone {s : State} (h : s.Canon) : ∀ a1 a2, State.Canon (State.rectsDone s a1 a2) := by
  intro a1 a2
  unfold State.rectsDone
  repeat' with_reducible first | assumption | (intro _) | apply canon_each | apply canon_rectDone | apply canon_ite

theorem canon_blenOff {s : State} (h : s.Canon) : ∀ a1, State.Canon (State.blenOff s a1) := by
  intro a1
  unfold State.blenOff
  repeat' with_reducible first | assumption | (intro _) | apply canon_each | apply canon_setPort

theorem canon_frameDone {s : State} (h : s.Canon) : ∀ a1, State.Canon (State.frameDone s a1) := by
  intro a1
  unfold State.frameDone
  repeat' with_reducible first | assumption | (intro _) | apply canon_whenB | apply canon_setLane | apply canon_setPort | apply canon_put | apply canon_ite

theorem canon_shedMove {s : State} (h : s.Canon) : ∀ a1, State.Canon (State.shedMove s a1) := by
  intro a1
  unfold State.shedMove
  repeat' with_reducible first | assumption | (intro _) | apply canon_each | apply canon_setSource | apply canon_setPort | apply canon_ite | apply resCanon_ite | apply resCanon_next | simp only [canon_mk] | apply canonT_of | dsimp only | split

theorem canon_dropPackets {s : State} (h : s.Canon) : ∀ a1 a2, State.Canon (State.dropPackets s a1 a2) := by
  intro a1 a2
  unfold State.dropPackets
  repeat' with_reducible first | assumption | (intro _) | apply canon_setPort

theorem canon_sendLine {s : State} (h : s.Canon) : ∀ a1, State.Canon (State.sendLine s a1) := by
  intro a1
  unfold State.sendLine
  repeat' with_reducible first | assumption | (intro _) | apply canon_setPort

theorem canon_substNote {s : State} (h : s.Canon) : ∀ a1 a2 a3, State.Canon (State.substNote s a1 a2 a3) := by
  intro a1 a2 a3
  unfold State.substNote
  repeat' with_reducible first | assumption | (intro _) | apply canon_setPort | apply canon_incSat | apply canon_ite

theorem canon_laneLine {s : State} (h : s.Canon) : ∀ a1 a2 a3 a4 a5, State.Canon (State.laneLine s a1 a2 a3 a4 a5) := by
  intro a1 a2 a3 a4 a5
  unfold State.laneLine
  repeat' with_reducible first | assumption | (intro _) | apply canon_setLane

theorem canon_takeLine {s : State} (h : s.Canon) : ∀ a1 a2, State.Canon (State.takeLine s a1 a2) := by
  intro a1 a2
  unfold State.takeLine
  repeat' with_reducible first | assumption | (intro _) | apply canon_setPort | apply canon_substNote | apply canon_laneLine | apply canon_ite | apply resCanon_ite | apply resCanon_next | apply canonT_of | dsimp only | split

theorem canon_lineBoundary {s : State} (h : s.Canon) : ∀ a1 a2, State.Canon (State.lineBoundary s a1 a2) := by
  intro a1 a2
  unfold State.lineBoundary
  repeat' with_reducible first | assumption | (intro _) | apply canon_each | apply canon_setPort | apply canon_put | apply canon_notePackets | apply canon_substEnd | apply canon_rectsDone | apply canon_blenOff | apply canon_frameDone | apply canon_failover | apply canon_shedMove | apply canon_darkSet | apply canon_hoEnd | apply canon_dropPackets | apply canon_sendLine | apply canon_takeLine | apply canon_ite | apply resCanon_ite | apply resCanon_next | apply canonT_of | dsimp only | split

theorem canon_hapUnlocked {s : State} (h : s.Canon) : ∀ a1, State.Canon (State.hapUnlocked s a1) := by
  intro a1
  unfold State.hapUnlocked
  repeat' with_reducible first | assumption | (intro _) | apply canon_hapIdle | apply canon_setHap | apply canon_setChan | apply canon_ite

theorem canon_scnReset {s : State} (h : s.Canon) : ∀ a1, State.Canon (State.scnReset s a1) := by
  intro a1
  unfold State.scnReset
  repeat' with_reducible first | assumption | (intro _) | apply canon_linkLost | apply canon_each | apply canon_setSource | apply canon_put | apply canon_funcClear | apply canon_setPort | apply canon_probe | apply canon_ite

theorem canon_darkReset {s : State} (h : s.Canon) : ∀ a1, State.Canon (State.darkReset s a1) := by
  intro a1
  unfold State.darkReset
  repeat' with_reducible first | assumption | (intro _) | apply canon_setPort

theorem canon_ickReset {s : State} (h : s.Canon) : ∀ a1, State.Canon (State.ickReset s a1) := by
  intro a1
  unfold State.ickReset
  repeat' with_reducible first | assumption | (intro _) | apply canon_put | apply canon_funcClear | apply canon_darkReset | apply canon_setPort | apply canon_laneRefresh | apply canon_showAct

theorem canon_touchAgain {s : State} (h : s.Canon) : ∀ a1, State.Canon (State.touchAgain s a1) := by
  intro a1
  unfold State.touchAgain
  repeat' with_reducible first | assumption | (intro _) | apply canon_setSrcState | apply canon_setSrc | apply canon_touchStart | apply canon_ite

theorem canon_aioDiscover {s : State} (h : s.Canon) : State.Canon (State.aioDiscover s) := by
  unfold State.aioDiscover
  repeat' with_reducible first | assumption | (intro _) | apply canon_each | apply canon_discSet

theorem canon_plkRise {s : State} (h : s.Canon) : ∀ a1, State.Canon (State.plkRise s a1) := by
  intro a1
  unfold State.plkRise
  repeat' with_reducible first | assumption | (intro _) | apply canon_plkCheck | apply canon_setPlkState | apply canon_whenB | apply canon_discSet | apply canon_each | apply canon_peerEmit | apply canon_ite | apply resCanon_ite | apply resCanon_next | simp only [canon_mk] | apply canonT_of

theorem canon_plkReset {s : State} (h : s.Canon) : State.Canon (State.plkReset s) := by
  unfold State.plkReset
  repeat' with_reducible first | assumption | (intro _) | apply canon_funcClear | apply canon_peerSettle | apply canon_each | apply canon_plkRise | apply canon_plkLink | apply canon_lockRefreshAll | apply canon_ite | apply resCanon_ite | apply resCanon_next | simp only [canon_mk] | apply canonT_of

theorem canon_plinthUnitReset {s : State} (h : s.Canon) : ∀ a1, State.Canon (State.plinthUnitReset s a1) := by
  intro a1
  unfold State.plinthUnitReset
  repeat' with_reducible first | assumption | (intro _) | apply canon_scnReset | apply canon_ickReset | apply canon_touchAgain | apply canon_funcClear | apply canon_refShow | apply canon_hapReset | apply canon_aioDiscover | apply canon_plkReset | apply canon_ite | apply resCanon_ite | apply resCanon_next | simp only [canon_mk] | apply canonT_of | dsimp only | split

theorem canon_setSlot {s : State} (h : s.Canon) : ∀ a1 a2, State.Canon (State.setSlot s a1 a2) := by
  intro a1 a2
  unfold State.setSlot
  repeat' with_reducible first | assumption | (intro _) | apply canon_put

theorem canon_plinthTake {s : State} (h : s.Canon) : ∀ a1, State.Canon (State.plinthTake s a1) := by
  intro a1
  unfold State.plinthTake
  repeat' with_reducible first | assumption | (intro _) | apply canon_each | apply canon_takeSections | apply canon_laneRefresh | apply canon_applyPages | apply canon_setSlot | apply canon_armEnd | apply canon_ite | apply resCanon_ite | apply resCanon_next | simp only [canon_mk] | apply canonT_of | dsimp only | split

theorem canon_mrExtend {s : State} (h : s.Canon) : ∀ a1 a2 a3, State.Canon (State.mrExtend s a1 a2 a3) := by
  intro a1 a2 a3
  unfold State.mrExtend
  repeat' with_reducible first | assumption | (intro _) | apply canon_each | apply canon_setReg

theorem canon_dbgMeasure {s : State} (h : s.Canon) : ∀ a1, State.Canon (State.dbgMeasure s a1) := by
  intro a1
  unfold State.dbgMeasure
  repeat' with_reducible first | assumption | (intro _) | apply canon_mrExtend

theorem canon_dbgRefresh {s : State} (h : s.Canon) : State.Canon (State.dbgRefresh s) := by
  unfold State.dbgRefresh
  repeat' with_reducible first | assumption | (intro _) | apply canon_each | apply canon_dbgMeasure | apply canon_put | apply canon_ite

theorem canon_rearmFail {s : State} (h : s.Canon) : ∀ a1, State.Canon (State.rearmFail s a1) := by
  intro a1
  unfold State.rearmFail
  repeat' with_reducible first | assumption | (intro _) | apply canon_rearmGo | apply canon_whenB | apply canon_hoEndAll | apply canon_ite | apply resCanon_ite | apply resCanon_next | simp only [canon_mk] | apply canonT_of | dsimp only | split

theorem canon_rstTurn {s : State} (h : s.Canon) : ∀ a1, (State.rstTurn s a1).2.Canon := by
  intro a1
  unfold State.rstTurn
  repeat' with_reducible first | assumption | (intro _) | refine canon_sameCycle_eq (by assumption) ?_ | apply canon_sameCycle | apply canon_ite | apply resCanon_ite | apply resCanon_next | simp only [canon_mk] | apply canonT_of | dsimp only | split

theorem canon_rstTurn_eq {s t : State} {v} {a1} (e : State.rstTurn s a1 = (v, t)) (h : s.Canon) : t.Canon := by
  have := canon_rstTurn h a1
  rw [e] at this
  exact this

theorem canon_rstDone {s : State} (h : s.Canon) : ∀ a1 a2, State.Canon (State.rstDone s a1 a2) := by
  intro a1 a2
  unfold State.rstDone
  repeat' with_reducible first | assumption | (intro _) | apply canon_put

theorem canon_quReset {s : State} (h : s.Canon) : ∀ a1 a2, State.Canon (State.quReset s a1 a2) := by
  intro a1 a2
  unfold State.quReset
  repeat' with_reducible first | assumption | (intro _) | apply canon_clearRegs | apply canon_setQu

theorem canon_instClear {s : State} (h : s.Canon) : ∀ a1 a2, State.Canon (State.instClear s a1 a2) := by
  intro a1 a2
  unfold State.instClear
  repeat' with_reducible first | assumption | (intro _) | apply canon_clearRegs | apply canon_setInstState | apply canon_setInst | apply canon_put | apply canon_heldEnd | apply canon_ite

theorem canon_halfUnitReset {s : State} (h : s.Canon) : ∀ a1 a2, State.Canon (State.halfUnitReset s a1 a2) := by
  intro a1 a2
  unfold State.halfUnitReset
  repeat' with_reducible first | assumption | (intro _) | apply canon_groupsDrop | apply canon_funcClear | apply canon_setPipe | apply canon_setCtx | apply canon_unpause | apply canon_setHs | apply canon_quReset | apply canon_setScan | apply canon_instClear | apply canon_pciDiscover | apply canon_ite | apply resCanon_ite | apply resCanon_next | apply canonT_of | dsimp only | split

theorem canon_tileRestore {s : State} (h : s.Canon) : ∀ a1 a2, State.Canon (State.tileRestore s a1 a2) := by
  intro a1 a2
  unfold State.tileRestore
  repeat' with_reducible first | assumption | (intro _) | apply canon_rTouchBy | apply canon_setCtx | apply canon_ite

theorem canon_dramArrive {s : State} (h : s.Canon) : ∀ a1 a2, State.Canon (State.dramArrive s a1 a2) := by
  intro a1 a2
  unfold State.dramArrive
  repeat' with_reducible first | assumption | (intro _) | apply canon_setHs | apply canon_refuse | apply canon_accessFault | apply canon_ite | apply resCanon_ite | apply resCanon_next | apply canonT_of | dsimp only | split

theorem canon_sinkStart {s : State} (h : s.Canon) : ∀ a1, State.Canon (State.sinkStart s a1) := by
  intro a1
  unfold State.sinkStart
  repeat' with_reducible first | assumption | (intro _) | apply canon_whenB | apply canon_setPort

theorem canon_hubTake {s : State} (h : s.Canon) : ∀ a1 a2 a3, State.Canon (State.hubTake s a1 a2 a3) := by
  intro a1 a2 a3
  unfold State.hubTake
  repeat' with_reducible first | assumption | (intro _) | apply canon_setInst | apply canon_noteRead | apply canon_mboxWrite | apply canon_setReg | apply canon_ite

theorem canon_hubCommand {s : State} (h : s.Canon) {k : Half} {i op : Nat} {bus : BusRead} {run : List Byte → Completion → State → Res}
    (hr : ∀ b c t, State.Canon t → ResCanon (run b c t)) : ResCanon (hubCommand k i op bus s run) := by
  unfold hubCommand
  repeat' with_reducible first | assumption | (intro _) | apply hr | apply canon_hubTake | apply canon_unpredictable | apply canon_whenB | apply canon_incSat | apply canon_hubFinish | apply canon_ite | apply resCanon_ite | apply resCanon_next | dsimp only | split

theorem canon_windowPut {s : State} (h : s.Canon) : ∀ a1 a2 a3, State.Canon (State.windowPut s a1 a2 a3) := by
  intro a1 a2 a3
  unfold State.windowPut
  repeat' with_reducible first | assumption | (intro _) | apply canon_setInst | apply canon_setReg | apply canon_put

theorem canon_forward {s : State} (h : s.Canon) : ∀ a1 a2 a3, State.Canon (State.forward s a1 a2 a3) := by
  intro a1 a2 a3
  unfold State.forward
  repeat' with_reducible first | assumption | (intro _) | apply canon_setInst | apply canon_ite

theorem canon_hubComplete {s : State} (h : s.Canon) : ∀ a1 a2 a3 a4, State.Canon (State.hubComplete s a1 a2 a3 a4) := by
  intro a1 a2 a3 a4
  unfold State.hubComplete
  repeat' with_reducible first | assumption | (intro _) | apply canon_windowPut | apply canon_forward | apply canon_setInst | apply canon_hubFinish | apply canon_ite

theorem canon_quSpillLost {s : State} (h : s.Canon) : ∀ a1 a2, State.Canon (State.quSpillLost s a1 a2) := by
  intro a1 a2
  unfold State.quSpillLost
  repeat' with_reducible first | assumption | (intro _) | apply canon_put | apply canon_quShow | apply canon_setQu

theorem canon_spmLeaves {s : State} (h : s.Canon) : ∀ a1 a2, State.Canon (State.spmLeaves s a1 a2) := by
  intro a1 a2
  unfold State.spmLeaves
  repeat' with_reducible first | assumption | (intro _) | apply canon_each | apply canon_quSpillLost | apply canon_ite

theorem canon_issueChunk {s : State} (h : s.Canon) : ∀ a1 a2 a3 a4, State.Canon (State.issueChunk s a1 a2 a3 a4) := by
  intro a1 a2 a3 a4
  unfold State.issueChunk
  repeat' with_reducible first | assumption | (intro _) | apply canon_setHs | apply canon_refuse | apply canon_setPipe | apply canon_ite

theorem canon_setTier {s : State} (h : s.Canon) : ∀ a1 a2, State.Canon (State.setTier s a1 a2) := by
  intro a1 a2
  unfold State.setTier
  repeat' with_reducible first | assumption | (intro _) | apply canon_put | apply canon_incSat | apply canon_setModeTier | apply canon_ite

theorem canon_askTest {s : State} (h : s.Canon) : ∀ a1, State.Canon (State.askTest s a1) := by
  intro a1
  unfold State.askTest
  repeat' with_reducible first | assumption | (intro _) | apply canon_setSrc

theorem canon_identified {s : State} (h : s.Canon) : ∀ a1 a2, State.Canon (State.identified s a1 a2) := by
  intro a1 a2
  unfold State.identified
  repeat' with_reducible first | assumption | (intro _) | apply canon_setPort | apply canon_discId | apply canon_sinkAccept | apply canon_discSet | apply canon_linkLost | apply canon_ite

theorem canon_ringWrite {s : State} (h : s.Canon) : ∀ a1, State.Canon (State.ringWrite s a1) := by
  intro a1
  unfold State.ringWrite
  repeat' with_reducible first | assumption | (intro _) | apply canon_setMram | apply canon_put | apply canon_ite | apply resCanon_ite | apply resCanon_next | simp only [canon_mk] | apply canonT_of

theorem canon_writesAll {s : State} (h : s.Canon) : ∀ a1, State.Canon (State.writesAll s a1) := by
  intro a1
  unfold State.writesAll
  repeat' with_reducible first | assumption | (intro _) | apply canon_each | apply canon_setMram

theorem canon_applyImage {s : State} (h : s.Canon) : ∀ a1 a2, State.Canon (State.applyImage s a1 a2) := by
  intro a1 a2
  unfold State.applyImage
  repeat' with_reducible first | assumption | (intro _) | apply canon_applyPages

theorem canon_portApply {s : State} (h : s.Canon) : ∀ a1, State.Canon (State.portApply s a1) := by
  intro a1
  unfold State.portApply
  repeat' with_reducible first | assumption | (intro _) | apply canon_setPort | apply canon_setSource | apply canon_linkLost | apply canon_genStart | apply canon_probe | apply canon_ite

theorem canon_touchApply {s : State} (h : s.Canon) : State.Canon (State.touchApply s) := by
  unfold State.touchApply
  repeat' with_reducible first | assumption | (intro _) | apply canon_each | apply canon_refShow | apply canon_tafShow | apply canon_touchStart

theorem canon_halfFirst {s : State} (h : s.Canon) : ∀ a1, State.Canon (State.halfFirst s a1) := by
  intro a1
  unfold State.halfFirst
  repeat' with_reducible first | assumption | (intro _) | apply canon_setHalfState | apply canon_setHs | apply canon_pciDiscover | apply canon_domRaise | apply canon_ite

theorem canon_plinthApply {s : State} (h : s.Canon) : ∀ a1, State.Canon (State.plinthApply s a1) := by
  intro a1
  unfold State.plinthApply
  repeat' with_reducible first | assumption | (intro _) | apply canon_setSlot | apply canon_each | apply canon_applyImage | apply canon_sinkCfgShow | apply canon_portApply | apply canon_pdomRaise | apply canon_aioDiscover | apply canon_hapDiscover | apply canon_touchApply | apply canon_audioLoad | apply canon_setMode | apply canon_halfFirst

theorem canon_startUse {s : State} (h : s.Canon) : ∀ a1, State.Canon (State.startUse s a1) := by
  intro a1
  unfold State.startUse
  repeat' with_reducible first | assumption | (intro _) | apply canon_plinthApply | apply canon_ite | apply resCanon_ite | apply resCanon_next | simp only [canon_mk] | apply canonT_of

theorem canon_startChecked {s : State} (h : s.Canon) : ∀ a1 a2, State.Canon (State.startChecked s a1 a2) := by
  intro a1 a2
  unfold State.startChecked
  repeat' with_reducible first | assumption | (intro _) | apply canon_startUse | apply canon_enterMaquette | apply canon_startCheck | apply canon_ite | apply resCanon_ite | apply resCanon_next | simp only [canon_mk] | apply canonT_of | dsimp only | split

theorem canon_cvuTaken {s : State} (h : s.Canon) : ∀ a1 a2 a3 a4 a5 a6, State.Canon (State.cvuTaken s a1 a2 a3 a4 a5 a6) := by
  intro a1 a2 a3 a4 a5 a6
  unfold State.cvuTaken
  repeat' with_reducible first | assumption | (intro _) | apply canon_whenB | apply canon_spmEngine | apply canon_noteRefusals | apply canon_put | apply canon_setScan | apply canon_ite

theorem canon_scanBlock {s : State} (h : s.Canon) : ∀ a1 a2, State.Canon (State.scanBlock s a1 a2) := by
  intro a1 a2
  unfold State.scanBlock
  repeat' with_reducible first | assumption | (intro _) | apply canon_cvuTaken

theorem canon_cvuHalt {s : State} (h : s.Canon) : ∀ a1 a2, State.Canon (State.cvuHalt s a1 a2) := by
  intro a1 a2
  unfold State.cvuHalt
  repeat' with_reducible first | assumption | (intro _) | apply canon_setScan | apply canon_ite

theorem canon_touchUnplug {s : State} (h : s.Canon) : ∀ a1, State.Canon (State.touchUnplug s a1) := by
  intro a1
  unfold State.touchUnplug
  repeat' with_reducible first | assumption | (intro _) | apply canon_touchEndAll | apply canon_srcPut | apply canon_askTest | apply canon_discSet | apply canon_setSrc

theorem canon_touchProbe {s : State} (h : s.Canon) : ∀ a1 a2 a3 a4, State.Canon (State.touchProbe s a1 a2 a3 a4) := by
  intro a1 a2 a3 a4
  unfold State.touchProbe
  repeat' with_reducible first | assumption | (intro _) | apply canon_discId | apply canon_setSrc | apply canon_discSet | apply canon_ite

theorem canon_tasShow {s : State} (h : s.Canon) : ∀ a1, State.Canon (State.tasShow s a1) := by
  intro a1
  unfold State.tasShow
  repeat' with_reducible first | assumption | (intro _) | apply canon_srcPut

theorem canon_touchBase {s : State} (h : s.Canon) : ∀ a1 a2 a3, State.Canon (State.touchBase s a1 a2 a3) := by
  intro a1 a2 a3
  unfold State.touchBase
  repeat' with_reducible first | assumption | (intro _) | apply canon_setSrc | apply canon_tasShow | apply canon_ite

theorem canon_touchDrift {s : State} (h : s.Canon) : ∀ a1 a2 a3, State.Canon (State.touchDrift s a1 a2 a3) := by
  intro a1 a2 a3
  unfold State.touchDrift
  repeat' with_reducible first | assumption | (intro _) | apply canon_setSrc

theorem canon_hapStart {s : State} (h : s.Canon) : ∀ a1 a2, State.Canon (State.hapStart s a1 a2) := by
  intro a1 a2
  unfold State.hapStart
  repeat' with_reducible first | assumption | (intro _) | apply canon_setChan | apply canon_put | apply canon_setHap

theorem canon_hapPlay {s : State} (h : s.Canon) : ∀ a1 a2, State.Canon (State.hapPlay s a1 a2) := by
  intro a1 a2
  unfold State.hapPlay
  repeat' with_reducible first | assumption | (intro _) | apply canon_hapDrop | apply canon_hapStart | apply canon_setChan | apply canon_ite

theorem canon_bindings {s : State} (h : s.Canon) : ∀ a1 a2, State.Canon (State.bindings s a1 a2) := by
  intro a1 a2
  unfold State.bindings
  repeat' with_reducible first | assumption | (intro _) | apply canon_hapPlay | apply canon_ite | apply resCanon_ite | apply resCanon_next | simp only [canon_mk] | apply canonT_of | dsimp only | split

theorem canon_touchWake {s : State} (h : s.Canon) : ∀ a1 a2, State.Canon (State.touchWake s a1 a2) := by
  intro a1 a2
  unfold State.touchWake
  repeat' with_reducible first | assumption | (intro _) | apply canon_nightExit | apply canon_ite

theorem canon_keyFrame {s : State} (h : s.Canon) : ∀ a1 a2 a3, State.Canon (State.keyFrame s a1 a2 a3) := by
  intro a1 a2 a3
  unfold State.keyFrame
  repeat' with_reducible first | assumption | (intro _) | apply canon_setSrc | apply canon_each | apply canon_setReg | apply canon_whenB | apply canon_touchReport | apply canon_touchDrift | apply canon_bindings | apply canon_touchWake

theorem canon_contactIds {s : State} (h : s.Canon) : ∀ used new, (State.contactIds s used new).2.Canon := by
  intro used new
  unfold State.contactIds
  refine canon_foldl_snd (fun t x ht => ?_) _ h
  dsimp only
  split <;> exact canon_takeFree ht

theorem canon_contactIds_eq {s t : State} {v} {used new} (e : State.contactIds s used new = (v, t)) (h : s.Canon) : t.Canon := by
  have := canon_contactIds h used new
  rw [e] at this
  exact this

theorem canon_sensorFrame {s : State} (h : s.Canon) : ∀ a1 a2 a3 a4, State.Canon (State.sensorFrame s a1 a2 a3 a4) := by
  intro a1 a2 a3 a4
  unfold State.sensorFrame
  repeat' with_reducible first | assumption | (intro _) | refine canon_contactIds_eq (by assumption) ?_ | apply canon_contactIds | apply canon_setSrc | apply canon_whenB | apply canon_touchReport | apply canon_touchDrift | apply canon_each | apply canon_bindings | apply canon_touchWake

theorem canon_showHup {s : State} (h : s.Canon) : ∀ a1, State.Canon (State.showHup s a1) := by
  intro a1
  unfold State.showHup
  repeat' with_reducible first | assumption | (intro _) | apply canon_put

theorem canon_hupRead {s : State} (h : s.Canon) : State.Canon (State.hupRead s) := by
  unfold State.hupRead
  repeat' with_reducible first | assumption | (intro _) | refine canon_takeFree_eq (by assumption) ?_ | apply canon_takeFree | apply canon_showHup | apply canon_ite

theorem canon_withFetchWord {s : State} (h : s.Canon) : ∀ a1 a2, State.Canon (State.withFetchWord s a1 a2) := by
  intro a1 a2
  unfold State.withFetchWord
  repeat' with_reducible first | assumption | (intro _) | apply canon_ite | apply resCanon_ite | apply resCanon_next | simp only [canon_mk] | apply canonT_of | dsimp only | split

theorem canon_maskRegs {s : State} (h : s.Canon) : ∀ a1 a2 a3, State.Canon (State.maskRegs s a1 a2 a3) := by
  intro a1 a2 a3
  unfold State.maskRegs
  repeat' with_reducible first | assumption | (intro _) | apply canon_each | apply canon_setReg

theorem canon_testVerdict {s : State} (h : s.Canon) : ∀ a1 a2 a3, State.Canon (State.testVerdict s a1 a2 a3) := by
  intro a1 a2 a3
  unfold State.testVerdict
  repeat' with_reducible first | assumption | (intro _) | apply canon_discSet | apply canon_touchEndAll | apply canon_askTest | apply canon_ite

theorem canon_fillShow {s : State} (h : s.Canon) : ∀ a1 a2, State.Canon (State.fillShow s a1 a2) := by
  intro a1 a2
  unfold State.fillShow
  repeat' with_reducible first | assumption | (intro _) | apply canon_put | apply canon_ite

theorem canon_issueSlot {s : State} (h : s.Canon) : ∀ k p f r, State.issueSlot s k p f = some r → r.1.Canon := by
  intro k p f r e
  unfold State.issueSlot at e
  split at e
  · exact nomatch e
  · dsimp only at e
    split at e
    · exact nomatch e
    · split at e
      · exact nomatch e
      · split at e
        all_goals
          obtain rfl := Option.some.inj e
          exact canon_each h fun _ _ ht => canon_issueChunk ht _ _ _ _

theorem canon_fetchGo : ∀ (n : Nat) {s : State}, s.Canon → ∀ k p, State.Canon (State.fetchGo s k p n)
  | 0, _, h, _, _ => h
  | n + 1, s, h, k, p => by
    unfold State.fetchGo
    dsimp only
    repeat' split
    all_goals first
      | exact h
      | exact canon_fetchGo n (canon_setPipe h _ _ _) _ _
      | next e => exact canon_fetchGo n (canon_setPipe (canon_issueSlot h _ _ _ _ e) _ _ _) _ _

theorem canon_fetchStep {s : State} (h : s.Canon) : ∀ a1 a2, State.Canon (State.fetchStep s a1 a2) := by
  intro a1 a2
  unfold State.fetchStep
  repeat' with_reducible first | assumption | (intro _) | apply canon_fillShow | apply canon_fetchGo

theorem canon_composeStart {s : State} (h : s.Canon) : ∀ a1 a2, State.Canon (State.composeStart s a1 a2) := by
  intro a1 a2
  unfold State.composeStart
  repeat' with_reducible first | assumption | (intro _) | apply canon_setPipe | apply canon_put | apply canon_ite | apply resCanon_ite | apply resCanon_next | apply canonT_of | dsimp only | split

theorem canon_thermEvents {s : State} (h : s.Canon) : ∀ a1 a2 a3 a4, State.Canon (State.thermEvents s a1 a2 a3 a4) := by
  intro a1 a2 a3 a4
  unfold State.thermEvents
  repeat' with_reducible first | assumption | (intro _) | apply canon_each | apply canon_funcEvent

theorem canon_leaveFour {s : State} (h : s.Canon) : State.Canon (State.leaveFour s) := by
  unfold State.leaveFour
  repeat' with_reducible first | assumption | (intro _) | apply canon_domWake | apply canon_each | apply canon_setPort | apply canon_portRestart | apply canon_peerSettle | apply canon_hapDiscover | apply canon_touchResume | apply canon_ite

theorem canon_meter {s : State} (h : s.Canon) : ∀ a1 a2 a3, State.Canon (State.meter s a1 a2 a3) := by
  intro a1 a2 a3
  unfold State.meter
  repeat' with_reducible first | assumption | (intro _) | apply canon_put | apply canon_whenB | apply canon_ite | apply resCanon_ite | apply resCanon_next | simp only [canon_mk] | apply canonT_of

theorem canon_rLeave {s : State} (h : s.Canon) : ∀ a1 a2, State.Canon (State.rLeave s a1 a2) := by
  intro a1 a2
  unfold State.rLeave
  repeat' with_reducible first | assumption | (intro _) | apply canon_groupsDrop | apply canon_l1Out | apply canon_setRs | apply canon_setCtx

theorem canon_jobDone {s : State} (h : s.Canon) : ∀ a1 a2, State.Canon (State.jobDone s a1 a2) := by
  intro a1 a2
  unfold State.jobDone
  repeat' with_reducible first | assumption | (intro _) | apply canon_incMod | apply canon_whenB | apply canon_raise | apply canon_setCtx | apply canon_rLeave | apply canon_ite | apply resCanon_ite | apply resCanon_next | apply canonT_of | dsimp only | split

theorem canon_waitCheck {s : State} (h : s.Canon) : ∀ a1 a2, State.Canon (State.waitCheck s a1 a2) := by
  intro a1 a2
  unfold State.waitCheck
  repeat' with_reducible first | assumption | (intro _) | apply canon_rFaulted | apply canon_rFault | apply canon_jobDone | apply canon_ite | apply resCanon_ite | apply resCanon_next | simp only [canon_mk] | apply canonT_of | dsimp only | split

theorem canon_takeJob {s : State} (h : s.Canon) : ∀ a1 a2, State.Canon (State.takeJob s a1 a2) := by
  intro a1 a2
  unfold State.takeJob
  repeat' with_reducible first | assumption | (intro _) | apply canon_rWild | apply canon_rFaulted | apply canon_rFault | apply canon_setCtx | apply canon_setRs | apply canon_waitCheck | apply canon_rTouch | apply canon_ite | apply resCanon_ite | apply resCanon_next | simp only | apply canonT_of | dsimp only | split

theorem canon_savesGo {s : State} (h : s.Canon) : ∀ a1, State.Canon (State.savesGo s a1) := by
  intro a1
  unfold State.savesGo
  repeat' with_reducible first | assumption | (intro _) | apply canon_each | apply canon_saveNow | apply canon_ite

theorem canon_segClear {s : State} (h : s.Canon) : ∀ k g m, (State.segClear s k g m).Canon :=
  fun k _ _ => canon_setDram h (tblKeep_wf _ (wf_dram h k)) k

theorem canon_dramLose {s : State} (h : s.Canon) : ∀ a1, State.Canon (State.dramLose s a1) := by
  intro a1
  unfold State.dramLose
  repeat' with_reducible first | assumption | (intro _) | apply canon_each | apply canon_segClear | apply canon_setHs

theorem canon_alertOff {s : State} (h : s.Canon) : State.Canon (State.alertOff s) := by
  unfold State.alertOff
  repeat' with_reducible first | assumption | (intro _) | apply canon_put | apply canon_ite | apply resCanon_ite | apply resCanon_next | simp only [canon_mk] | apply canonT_of

theorem canon_domOn {s : State} (h : s.Canon) : ∀ a1 a2, State.Canon (State.domOn s a1 a2) := by
  intro a1 a2
  unfold State.domOn
  repeat' with_reducible first | assumption | (intro _) | apply canon_setDomain | apply canon_setHart | apply canon_put | apply canon_ite

theorem canon_pdomOn {s : State} (h : s.Canon) : ∀ a1, State.Canon (State.pdomOn s a1) := by
  intro a1
  unfold State.pdomOn
  repeat' with_reducible first | assumption | (intro _) | apply canon_setPdomain | apply canon_each | apply canon_setHap | apply canon_ite

theorem canon_gptpEmit {s : State} (h : s.Canon) : ∀ a1 a2, State.Canon (State.gptpEmit s a1 a2) := by
  intro a1 a2
  unfold State.gptpEmit
  repeat' with_reducible first | assumption | (intro _) | apply canon_ite | apply resCanon_ite | apply resCanon_next | simp only [canon_mk] | apply canonT_of

theorem canon_gptpRelay {s : State} (h : s.Canon) : ∀ a1 a2, State.Canon (State.gptpRelay s a1 a2) := by
  intro a1 a2
  unfold State.gptpRelay
  repeat' with_reducible first | assumption | (intro _) | apply canon_gptpEmit | apply canon_ite

theorem canon_thermByte {s : State} (h : s.Canon) : ∀ a1, (State.thermByte s a1).2.Canon := by
  intro a1
  unfold State.thermByte
  repeat' with_reducible first | assumption | (intro _) | refine canon_takeFree_eq (by assumption) ?_ | apply canon_takeFree | apply canon_ite | apply resCanon_ite | apply resCanon_next | simp only [canon_mk] | apply canonT_of | dsimp only | split

theorem canon_thermByte_eq {s t : State} {v} {a1} (e : State.thermByte s a1 = (v, t)) (h : s.Canon) : t.Canon := by
  have := canon_thermByte h a1
  rw [e] at this
  exact this

theorem canon_takeMarker {s : State} (h : s.Canon) : ∀ a1 a2 a3, State.Canon (State.takeMarker s a1 a2 a3) := by
  intro a1 a2 a3
  unfold State.takeMarker
  repeat' with_reducible first | assumption | (intro _) | apply canon_setHs | apply canon_setPipe | apply canon_put | apply canon_fillShow | apply canon_setReg | apply canon_ite

theorem canon_pipesIdle {s : State} (h : s.Canon) : ∀ a1, State.Canon (State.pipesIdle s a1) := by
  intro a1
  unfold State.pipesIdle
  repeat' with_reducible first | assumption | (intro _) | apply canon_setRole | apply canon_put | apply canon_setPort | apply canon_whenB | apply canon_takeMarker

theorem canon_genStop {s : State} (h : s.Canon) : ∀ a1 a2, State.Canon (State.genStop s a1 a2) := by
  intro a1 a2
  unfold State.genStop
  repeat' with_reducible first | assumption | (intro _) | apply canon_whenB | apply canon_shedMove | apply canon_linkLost | apply canon_setPort | apply canon_lockRefresh | apply canon_laneRefresh | apply canon_pipesIdle | apply canon_ite

theorem canon_armCut {s : State} (h : s.Canon) : State.Canon (State.armCut s) := by
  unfold State.armCut
  split
  · exact h
  · refine canon_ite h ?_
    split
    next v t e =>
    have ht := canon_takeFree_eq e h
    refine canon_ite ht (canon_ite ?_ (canon_ite ht (canon_setMram (s := { t with arm := none }) ht _ _)))
    exact ⟨ht.1, memClear_wf _ _ _ ht.2.1, ht.2.2⟩

theorem canon_halfOff {s : State} (h : s.Canon) : ∀ a1, State.Canon (State.halfOff s a1) := by
  intro a1
  unfold State.halfOff
  repeat' with_reducible first | assumption | (intro _) | apply canon_setHs | apply canon_halfClear | apply canon_each | apply canon_setDomain | apply canon_put | apply canon_setHalfState | apply canon_setDram | apply memSetBytes_wf | apply memClear_wf | apply wf_dram | apply wf_spm | exact memEmpty_wf

theorem canon_pdomGone {s : State} (h : s.Canon) : ∀ a1, State.Canon (State.pdomGone s a1) := by
  intro a1
  unfold State.pdomGone
  repeat' with_reducible first | assumption | (intro _) | apply canon_setPdomain | apply canon_each | apply canon_setHap | apply canon_setChan | apply canon_put | apply canon_ite

theorem canon_lcsCut {s : State} (h : s.Canon) : State.Canon (State.lcsCut s) := by
  unfold State.lcsCut
  repeat' with_reducible first | assumption | (intro _) | refine canon_takeFree_eq (by assumption) ?_ | apply canon_takeFree | apply canon_writesAll | apply canon_ite | apply resCanon_ite | apply resCanon_next | simp only [canon_mk] | apply canonT_of | dsimp only | split

theorem canon_holdup {s : State} (h : s.Canon) : ∀ a1 a2 a3, State.Canon (State.holdup s a1 a2 a3) := by
  intro a1 a2 a3
  unfold State.holdup
  repeat' with_reducible first | assumption | (intro _) | apply canon_setMode | apply canon_event | apply canon_rearmStop | apply canon_hoEndAll | apply canon_failsBack | apply canon_inspEnd | apply canon_each | apply canon_genStop | apply canon_setPort | apply canon_armCut | apply canon_halfOff | apply canon_pdomGone | apply canon_setSrc | apply canon_lcsCut | apply canon_ite | apply resCanon_ite | apply resCanon_next | simp only [canon_mk] | apply canonT_of

theorem canon_thermPlinth {s : State} (h : s.Canon) : ∀ a1, State.Canon (State.thermPlinth s a1) := by
  intro a1
  unfold State.thermPlinth
  repeat' with_reducible first | assumption | (intro _) | refine canon_thermByte_eq (by assumption) ?_ | apply canon_thermByte | apply canon_put | apply canon_whenB | apply canon_thermEvents | apply canon_alert | apply canon_holdup | apply canon_hupRead | apply canon_ite | apply resCanon_ite | apply resCanon_next | simp only [canon_mk] | apply canonT_of

theorem canon_thermHalf {s : State} (h : s.Canon) : ∀ a1 a2, State.Canon (State.thermHalf s a1 a2) := by
  intro a1 a2
  unfold State.thermHalf
  repeat' with_reducible first | assumption | (intro _) | refine canon_thermByte_eq (by assumption) ?_ | apply canon_thermByte | apply canon_put | apply canon_whenB | apply canon_thermEvents | apply canon_alert | apply canon_parkHalf | apply canon_unparkHalf | apply canon_ite | apply resCanon_ite | apply resCanon_next | simp only [canon_mk] | apply canonT_of

theorem canon_l2Out {s : State} (h : s.Canon) : ∀ a1 a2, State.Canon (State.l2Out s a1 a2) := by
  intro a1 a2
  unfold State.l2Out
  repeat' with_reducible first | assumption | (intro _) | apply canon_each | apply canon_rl2Evict | apply canon_ite | apply resCanon_ite | apply resCanon_next | simp only [canon_mk] | apply canonT_of | dsimp only | split

theorem canon_fenceWrite {s : State} (h : s.Canon) : ∀ a1 a2 a3, State.Canon (State.fenceWrite s a1 a2 a3) := by
  intro a1 a2 a3
  unfold State.fenceWrite
  repeat' with_reducible first | assumption | (intro _) | apply canon_l2Out | apply canon_l1Out | apply canon_rResult | apply canon_rWrite | apply canon_ite

theorem canon_strapTake {s : State} (h : s.Canon) : ∀ a1 a2, State.Canon (State.strapTake s a1 a2) := by
  intro a1 a2
  unfold State.strapTake
  repeat' with_reducible first | assumption | (intro _) | apply canon_put | apply canon_event | apply canon_ite | apply resCanon_ite | apply resCanon_next | simp only [canon_mk] | apply canonT_of

theorem canon_scanDone {s : State} (h : s.Canon) : State.Canon (State.scanDone s) := by
  unfold State.scanDone
  repeat' with_reducible first | assumption | (intro _) | apply canon_put | apply canon_each | apply canon_putBit | apply canon_record | apply canon_ite | apply resCanon_ite | apply resCanon_next | simp only [canon_mk] | apply canonT_of

theorem canon_putDmc {s : State} (h : s.Canon) : ∀ a1 a2 a3, State.Canon (State.putDmc s a1 a2 a3) := by
  intro a1 a2 a3
  unfold State.putDmc
  repeat' with_reducible first | assumption | (intro _) | apply canon_put

theorem canon_xspiChecked {s : State} (h : s.Canon) : State.Canon (State.xspiChecked s) := by
  unfold State.xspiChecked
  repeat' with_reducible first | assumption | (intro _) | apply canon_enterMaquette | apply canon_loaderEvent | apply canon_startUse | apply canon_setSlotState | apply canon_ite | apply resCanon_ite | apply resCanon_next | simp only [canon_mk] | apply canonT_of | dsimp only | split

theorem canon_moduleClear {s : State} (h : s.Canon) : State.Canon (State.moduleClear s) := by
  unfold State.moduleClear
  repeat' with_reducible first | assumption | (intro _) | apply canon_clearRegs | apply canon_clearHeld | apply canon_setReg | apply canon_ite | apply resCanon_ite | apply resCanon_next | simp only [canon_mk] | apply canonT_of

theorem canon_hartFill {s : State} (h : s.Canon) : ∀ a1 a2 a3 a4 a5 a6, State.Canon (State.hartFill s a1 a2 a3 a4 a5 a6) := by
  intro a1 a2 a3 a4 a5 a6
  unfold State.hartFill
  repeat' with_reducible first | assumption | (intro _) | apply canon_l2Fill | apply canon_setHart

theorem canon_askRebase {s : State} (h : s.Canon) : ∀ a1, State.Canon (State.askRebase s a1) := by
  intro a1
  unfold State.askRebase
  repeat' with_reducible first | assumption | (intro _) | apply canon_setSrc

theorem canon_setSpmState {s : State} (h : s.Canon) : ∀ a1 a2 a3, State.Canon (State.setSpmState s a1 a2 a3) := by
  intro a1 a2 a3
  unfold State.setSpmState
  repeat' with_reducible first | assumption | (intro _) | apply canon_put

theorem canon_marchStart {s : State} (h : s.Canon) : ∀ a1 a2 a3, State.Canon (State.marchStart s a1 a2 a3) := by
  intro a1 a2 a3
  unfold State.marchStart
  repeat' with_reducible first | assumption | (intro _) | apply canon_setSpmU | apply canon_put | apply canon_setSpmState

theorem canon_l2Flush {s : State} (h : s.Canon) : ∀ a1 a2, State.Canon (State.l2Flush s a1 a2) := by
  intro a1 a2
  unfold State.l2Flush
  repeat' with_reducible first | assumption | (intro _) | apply canon_each | apply canon_l2Evict

theorem canon_domGone {s : State} (h : s.Canon) : ∀ a1 a2, State.Canon (State.domGone s a1 a2) := by
  intro a1 a2
  unfold State.domGone
  repeat' with_reducible first | assumption | (intro _) | apply canon_setHart | apply canon_setDomain | apply canon_l1Flush | apply canon_l2Flush | apply canon_ite

theorem canon_setPciIn {s : State} (h : s.Canon) : ∀ a1 a2, State.Canon (State.setPciIn s a1 a2) := by
  intro a1 a2
  unfold State.setPciIn
  repeat' with_reducible first | assumption | (intro _) | apply canon_ite | apply resCanon_ite | apply resCanon_next | simp only [canon_mk] | apply canonT_of

theorem canon_mirrorStore {s : State} (h : s.Canon) : ∀ a1 a2, State.Canon (State.mirrorStore s a1 a2) := by
  intro a1 a2
  unfold State.mirrorStore
  repeat' with_reducible first | assumption | (intro _) | apply canon_writeAt | apply canon_refuse | apply canon_ite

theorem canon_dramTake {s : State} (h : s.Canon) : ∀ a1 a2, State.Canon (State.dramTake s a1 a2) := by
  intro a1 a2
  unfold State.dramTake
  repeat' with_reducible first | assumption | (intro _) | apply canon_setHs

theorem canon_mirrorApply {s : State} (h : s.Canon) : ∀ a1 a2, State.Canon (State.mirrorApply s a1 a2) := by
  intro a1 a2
  unfold State.mirrorApply
  repeat' with_reducible first | assumption | (intro _) | apply canon_mirrorStore | apply canon_dramTake | apply canon_setHs | apply canon_syncCheck | apply canon_savesGo

theorem canon_seqStart {s : State} (h : s.Canon) : State.Canon (State.seqStart s) := by
  unfold State.seqStart
  repeat' with_reducible first | assumption | (intro _) | apply canon_seqRaise | apply canon_ite | apply resCanon_ite | apply resCanon_next | simp only [canon_mk] | apply canonT_of

theorem canon_wildStatus {s : State} (h : s.Canon) : ∀ a1 a2, State.Canon (State.wildStatus s a1 a2) := by
  intro a1 a2
  unfold State.wildStatus
  repeat' with_reducible first | assumption | (intro _) | apply canon_each | apply canon_putFree

theorem canon_reservedWrite {s : State} (h : s.Canon) : ∀ a1 a2 a3 a4, State.Canon (State.reservedWrite s a1 a2 a3 a4) := by
  intro a1 a2 a3 a4
  unfold State.reservedWrite
  repeat' with_reducible first | assumption | (intro _) | apply canon_wildStatus | refine canon_takeFree_eq (by assumption) ?_ | apply canon_takeFree | apply canon_whenB | apply canon_event | apply canon_unpredictable | apply canon_ite | apply resCanon_ite | apply resCanon_next | apply canonT_of | dsimp only | split

theorem canon_writeAlso {s : State} (h : s.Canon) : ∀ a1 a2 a3 a4, State.Canon (State.writeAlso s a1 a2 a3 a4) := by
  intro a1 a2 a3 a4
  unfold State.writeAlso
  repeat' with_reducible first | assumption | (intro _) | apply canon_put | apply canon_peerSettle | apply canon_setMram | apply canon_ite | apply resCanon_ite | apply resCanon_next | simp only [canon_mk] | apply canonT_of | dsimp only | split

theorem canon_regWrite {s : State} (h : s.Canon) : ∀ a1 a2 a3 a4 a5 a6, State.Canon (State.regWrite s a1 a2 a3 a4 a5 a6) := by
  intro a1 a2 a3 a4 a5 a6
  unfold State.regWrite
  repeat' with_reducible first | assumption | (intro _) | apply canon_setReg | apply canon_reservedWrite | apply canon_setCell | apply canon_writeAlso | apply canon_ite | apply resCanon_ite | apply resCanon_next | simp only [canon_mk] | apply canonT_of

theorem canon_modAnswer {s : State} (h : s.Canon) : ∀ a1, State.Canon (State.modAnswer s a1) := by
  intro a1
  unfold State.modAnswer
  repeat' with_reducible first | assumption | (intro _) | apply canon_put | apply canon_raiseBoth

theorem canon_inspHalf {s : State} (h : s.Canon) : ∀ a1 a2, State.Canon (State.inspHalf s a1 a2) := by
  intro a1 a2
  unfold State.inspHalf
  repeat' with_reducible first | assumption | (intro _) | apply canon_hoStart | apply canon_ite | apply resCanon_ite | apply resCanon_next | simp only [canon_mk] | apply canonT_of

theorem canon_applyHalf {s : State} (h : s.Canon) : ∀ a1 a2, State.Canon (State.applyHalf s a1 a2) := by
  intro a1 a2
  unfold State.applyHalf
  repeat' with_reducible first | assumption | (intro _) | apply canon_setSlot | apply canon_applyImage | apply canon_each | apply canon_put | apply canon_setHs

theorem canon_armAnswer {s : State} (h : s.Canon) : ∀ a1 a2, State.Canon (State.armAnswer s a1 a2) := by
  intro a1 a2
  unfold State.armAnswer
  repeat' with_reducible first | assumption | (intro _) | apply canon_put | apply canon_raise | apply canon_ite | apply resCanon_ite | apply resCanon_next | simp only [canon_mk] | apply canonT_of

theorem canon_cvuCtrl {s : State} (h : s.Canon) : ∀ a1 a2 a3, State.Canon (State.cvuCtrl s a1 a2 a3) := by
  intro a1 a2 a3
  unfold State.cvuCtrl
  repeat' with_reducible first | assumption | (intro _) | apply canon_setReg

theorem canon_rtcTick {s : State} (h : s.Canon) : State.Canon (State.rtcTick s) := by
  unfold State.rtcTick
  repeat' with_reducible first | assumption | (intro _) | apply canon_put | apply canon_ite | apply resCanon_ite | apply resCanon_next | simp only [canon_mk] | apply canonT_of

theorem canon_pauseCtx {s : State} (h : s.Canon) : ∀ a1 a2, State.Canon (State.pauseCtx s a1 a2) := by
  intro a1 a2
  unfold State.pauseCtx
  repeat' with_reducible first | assumption | (intro _) | apply canon_setCtx | apply canon_each | apply canon_l1Out | apply canon_setShGroup | apply canon_ite

theorem canon_pciDown {s : State} (h : s.Canon) : ∀ a1, State.Canon (State.pciDown s a1) := by
  intro a1
  unfold State.pciDown
  repeat' with_reducible first | assumption | (intro _) | apply canon_put

theorem canon_cvuStop {s : State} (h : s.Canon) : ∀ a1 a2, State.Canon (State.cvuStop s a1 a2) := by
  intro a1 a2
  unfold State.cvuStop
  repeat' with_reducible first | assumption | (intro _) | apply canon_setScan | apply canon_put | apply canon_ite

theorem canon_nightHalf {s : State} (h : s.Canon) : ∀ a1, State.Canon (State.nightHalf s a1) := by
  intro a1
  unfold State.nightHalf
  repeat' with_reducible first | assumption | (intro _) | apply canon_each | apply canon_setDomain | apply canon_dramLose | apply canon_putDmc | apply canon_pciDown | apply canon_cvuStop | apply canon_ite

theorem canon_nightSettle {s : State} (h : s.Canon) : State.Canon (State.nightSettle s) := by
  unfold State.nightSettle
  repeat' with_reducible first | assumption | (intro _) | apply canon_whenB | apply canon_nightHalf | apply canon_touchT4 | apply canon_each | apply canon_pdomGone | apply canon_modDone | apply canon_peerSettle | apply canon_ite | apply resCanon_ite | apply resCanon_next | simp only [canon_mk] | apply canonT_of

theorem canon_mfenceCheck {s : State} (h : s.Canon) : ∀ a1, State.Canon (State.mfenceCheck s a1) := by
  intro a1
  unfold State.mfenceCheck
  repeat' with_reducible first | assumption | (intro _) | apply canon_put | apply canon_setHs | apply canon_ite | apply resCanon_ite | apply resCanon_next | apply canonT_of | dsimp only | split

theorem canon_pipeFault {s : State} (h : s.Canon) : ∀ a1 a2, State.Canon (State.pipeFault s a1 a2) := by
  intro a1 a2
  unfold State.pipeFault
  repeat' with_reducible first | assumption | (intro _) | apply canon_trigger | apply canon_rearmGo | apply canon_hoEnd | apply canon_ite | apply resCanon_ite | apply resCanon_next | simp only [canon_mk] | apply canonT_of | dsimp only | split

theorem canon_imageEnd {s : State} (h : s.Canon) : State.Canon (State.imageEnd s) := by
  unfold State.imageEnd
  repeat' with_reducible first | assumption | (intro _) | apply canon_ite | apply resCanon_ite | apply resCanon_next | simp only [canon_mk] | apply canonT_of | dsimp only | split

theorem canon_imageBytes {s : State} (h : s.Canon) : ∀ a1 a2 a3, State.Canon (State.imageBytes s a1 a2 a3) := by
  intro a1 a2 a3
  unfold State.imageBytes
  repeat' with_reducible first | assumption | (intro _) | apply canon_setMram | apply canon_ite

theorem canon_setMpart {s : State} (h : s.Canon) : ∀ a1 a2 a3, State.Canon (State.setMpart s a1 a2 a3) := by
  intro a1 a2 a3
  unfold State.setMpart
  repeat' with_reducible first | assumption | (intro _) | apply canon_put | apply canon_ite

theorem canon_hapTake {s : State} (h : s.Canon) : ∀ a1 a2, State.Canon (State.hapTake s a1 a2) := by
  intro a1 a2
  unfold State.hapTake
  repeat' with_reducible first | assumption | (intro _) | apply canon_hapDrop | apply canon_setChan | apply canon_hapStart | apply canon_ite | apply resCanon_ite | apply resCanon_next | apply canonT_of | dsimp only | split

theorem canon_alarmEnd {s : State} (h : s.Canon) : ∀ a1 a2, State.Canon (State.alarmEnd s a1 a2) := by
  intro a1 a2
  unfold State.alarmEnd
  repeat' with_reducible first | assumption | (intro _) | apply canon_putBit

theorem canon_startNote {s : State} (h : s.Canon) : ∀ a1 a2, State.Canon (State.startNote s a1 a2) := by
  intro a1 a2
  unfold State.startNote
  repeat' with_reducible first | assumption | (intro _) | apply canon_put | apply canon_event

theorem canon_intentRoll {s : State} (h : s.Canon) : State.Canon (State.intentRoll s) := by
  unfold State.intentRoll
  repeat' with_reducible first | assumption | (intro _) | apply canon_writesAll | apply canon_ite

theorem canon_lcShow {s : State} (h : s.Canon) : State.Canon (State.lcShow s) := by
  unfold State.lcShow
  repeat' with_reducible first | assumption | (intro _) | apply canon_put

theorem canon_startStores {s : State} (h : s.Canon) : State.Canon (State.startStores s) := by
  unfold State.startStores
  repeat' with_reducible first | assumption | (intro _) | apply canon_intentRoll | apply canon_seqStart | apply canon_refShow | apply canon_lcShow | apply canon_put | apply canon_setReg | apply canon_each | apply canon_ite | apply resCanon_ite | apply resCanon_next | simp only [canon_mk] | apply canonT_of

theorem canon_groupPass {s : State} (h : s.Canon) : ∀ a1 a2 a3, State.Canon (State.groupPass s a1 a2 a3) := by
  intro a1 a2 a3
  unfold State.groupPass
  repeat' with_reducible first | assumption | (intro _) | apply canon_setShGroup

theorem canon_startOn {s : State} (h : s.Canon) : ∀ a1 a2 a3, State.Canon (State.startOn s a1 a2 a3) := by
  intro a1 a2 a3
  unfold State.startOn
  repeat' with_reducible first | assumption | (intro _) | apply canon_each | apply canon_groupPass | apply canon_setShGroup | apply canon_setRs | apply canon_served | apply canon_tileRestore

theorem canon_startAsync {s : State} (h : s.Canon) : ∀ a1 a2 a3, State.Canon (State.startAsync s a1 a2 a3) := by
  intro a1 a2 a3
  unfold State.startAsync
  repeat' with_reducible first | assumption | (intro _) | apply canon_groupPass | apply canon_setShGroup | apply canon_setRs | apply canon_served

theorem canon_giveGroups {s : State} (h : s.Canon) : ∀ a1, State.Canon (State.giveGroups s a1) := by
  intro a1
  unfold State.giveGroups
  repeat' with_reducible first | assumption | (intro _) | apply canon_startOn | apply canon_each | apply canon_startAsync | apply canon_ite | apply resCanon_ite | apply resCanon_next | simp only [canon_mk] | apply canonT_of | dsimp only | split

theorem canon_arbitrateOn {s : State} (h : s.Canon) : ∀ a1, State.Canon (State.arbitrateOn s a1) := by
  intro a1
  unfold State.arbitrateOn
  repeat' with_reducible first | assumption | (intro _) | apply canon_each | apply canon_setCtx | apply canon_waitCheck | apply canon_takeJob | apply canon_setRs | apply canon_setHs | apply canon_giveGroups | apply canon_ite

theorem canon_rYield {s : State} (h : s.Canon) : ∀ a1 a2 a3, State.Canon (State.rYield s a1 a2 a3) := by
  intro a1 a2 a3
  unfold State.rYield
  repeat' with_reducible first | assumption | (intro _) | apply canon_rLeave | apply canon_groupLeave | apply canon_l1Out | apply canon_ite

theorem canon_tileSave {s : State} (h : s.Canon) : ∀ a1 a2, State.Canon (State.tileSave s a1 a2) := by
  intro a1 a2
  unfold State.tileSave
  repeat' with_reducible first | assumption | (intro _) | apply canon_rWriteIpa | apply canon_setCtx

theorem canon_saveEnd {s : State} (h : s.Canon) : ∀ a1 a2, State.Canon (State.saveEnd s a1 a2) := by
  intro a1 a2
  unfold State.saveEnd
  repeat' with_reducible first | assumption | (intro _) | apply canon_rYield | apply canon_tileSave | apply canon_ite | apply resCanon_ite | apply resCanon_next | simp only [canon_mk] | apply canonT_of | dsimp only | split

theorem canon_arbitrate {s : State} (h : s.Canon) : ∀ a1, State.Canon (State.arbitrate s a1) := by
  intro a1
  unfold State.arbitrate
  repeat' with_reducible first | assumption | (intro _) | apply canon_arbitrateOn | apply canon_each | apply canon_saveEnd

theorem canon_giveUp {s : State} (h : s.Canon) : ∀ a1 a2 a3, State.Canon (State.giveUp s a1 a2 a3) := by
  intro a1 a2 a3
  unfold State.giveUp
  repeat' with_reducible first | assumption | (intro _) | apply canon_rYield | apply canon_setCtx | apply canon_ite

theorem canon_lcsEnd {s : State} (h : s.Canon) : ∀ a1, State.Canon (State.lcsEnd s a1) := by
  intro a1
  unfold State.lcsEnd
  repeat' with_reducible first | assumption | (intro _) | apply canon_put | apply canon_ite | apply resCanon_ite | apply resCanon_next | simp only [canon_mk] | apply canonT_of

theorem canon_setHpart {s : State} (h : s.Canon) : ∀ a1 a2 a3, State.Canon (State.setHpart s a1 a2 a3) := by
  intro a1 a2 a3
  unfold State.setHpart
  repeat' with_reducible first | assumption | (intro _) | apply canon_put | apply canon_ite

theorem canon_l2DropTrusted {s : State} (h : s.Canon) : ∀ a1, State.Canon (State.l2DropTrusted s a1) := by
  intro a1
  unfold State.l2DropTrusted
  repeat' with_reducible first | assumption | (intro _) | apply canon_setHs

theorem canon_armCommand {s : State} (h : s.Canon) {rq : Requester} {op : Nat} {f : State → Res} (hf : ∀ t, State.Canon t → ResCanon (f t)) :
    ResCanon (armCommand rq op s f) := by
  unfold armCommand
  repeat' with_reducible first | assumption | (intro _) | apply hf | apply canon_hostWrite | apply canon_put | apply canon_armAnswer | apply resCanon_ite | apply resCanon_next

theorem canon_tecDown {s : State} (h : s.Canon) : ∀ a1, State.Canon (State.tecDown s a1) := by
  intro a1
  unfold State.tecDown
  repeat' with_reducible first | assumption | (intro _) | apply canon_plkCheck | apply canon_put

theorem canon_halfStarting {s : State} (h : s.Canon) : ∀ a1, State.Canon (State.halfStarting s a1) := by
  intro a1
  unfold State.halfStarting
  repeat' with_reducible first | assumption | (intro _) | apply canon_each | apply canon_setPort | apply canon_put | apply canon_setHalfState | apply canon_raise | apply canon_setHs | apply canon_syncCheck | apply canon_twinSync | apply canon_catchupStart | apply canon_ite

theorem canon_halfRelease {s : State} (h : s.Canon) : ∀ a1, State.Canon (State.halfRelease s a1) := by
  intro a1
  unfold State.halfRelease
  repeat' with_reducible first | assumption | (intro _) | apply canon_setHs | apply canon_put | apply canon_halfStarting | apply canon_watchdogLoad

theorem canon_armStart {s : State} (h : s.Canon) : ∀ a1 a2, State.Canon (State.armStart s a1 a2) := by
  intro a1 a2
  unfold State.armStart
  repeat' with_reducible first | assumption | (intro _) | apply canon_put | apply canon_ite | apply resCanon_ite | apply resCanon_next | simp only [canon_mk] | apply canonT_of

theorem canon_flushN {s : State} (h : s.Canon) : ∀ a1, State.Canon (State.flushN s a1) := by
  intro a1
  unfold State.flushN
  repeat' with_reducible first | assumption | (intro _) | apply canon_each | apply canon_ringWrite | apply canon_ite | apply resCanon_ite | apply resCanon_next | simp only [canon_mk] | apply canonT_of

theorem canon_closeSnap {s : State} (h : s.Canon) : State.Canon (State.closeSnap s) := by
  unfold State.closeSnap
  repeat' with_reducible first | assumption | (intro _) | apply canon_flushN | apply canon_setMram | apply canon_putBit | apply canon_put | apply canon_ite | apply resCanon_ite | apply resCanon_next | simp only [canon_mk] | apply canonT_of | dsimp only | split

theorem canon_svcEnd {s : State} (h : s.Canon) : State.Canon (State.svcEnd s) := by
  unfold State.svcEnd
  repeat' with_reducible first | assumption | (intro _) | apply canon_put | apply canon_lcsCut | apply canon_ite | apply resCanon_ite | apply resCanon_next | simp only [canon_mk] | apply canonT_of | dsimp only | split

theorem canon_safReset {s : State} (h : s.Canon) : ∀ a1, State.Canon (State.safReset s a1) := by
  intro a1
  unfold State.safReset
  repeat' with_reducible first | assumption | (intro _) | apply canon_setHs | apply canon_put

theorem canon_repairShow {s : State} (h : s.Canon) : ∀ a1 a2, State.Canon (State.repairShow s a1 a2) := by
  intro a1 a2
  unfold State.repairShow
  repeat' with_reducible first | assumption | (intro _) | apply canon_each | apply canon_put

theorem canon_rowRepair {s : State} (h : s.Canon) : ∀ a1 a2 a3 a4 a5, State.Canon (State.rowRepair s a1 a2 a3 a4 a5) := by
  intro a1 a2 a3 a4 a5
  unfold State.rowRepair
  repeat' with_reducible first | assumption | (intro _) | apply canon_repairShow | apply canon_setSpmU | apply canon_putBit | apply canon_alert | apply canon_funcEvent | apply canon_ite

theorem canon_marchEnd {s : State} (h : s.Canon) : ∀ a1 a2 a3 a4, State.Canon (State.marchEnd s a1 a2 a3 a4) := by
  intro a1 a2 a3 a4
  unfold State.marchEnd
  repeat' with_reducible first | assumption | (intro _) | apply canon_setSpmU | apply canon_put | apply canon_whenB | apply canon_setSpmState

theorem canon_inspMarch {s : State} (h : s.Canon) : ∀ a1 a2 a3, State.Canon (State.inspMarch s a1 a2 a3) := by
  intro a1 a2 a3
  unfold State.inspMarch
  repeat' with_reducible first | assumption | (intro _) | apply canon_each | apply canon_rowRepair | apply canon_setSpm | apply canon_marchEnd | apply canon_setSpmU | apply memSetBytes_wf | apply memClear_wf | apply wf_dram | apply wf_spm | exact memEmpty_wf | apply canon_ite

theorem canon_trainFailed {s : State} (h : s.Canon) : ∀ a1 a2, State.Canon (State.trainFailed s a1 a2) := by
  intro a1 a2
  unfold State.trainFailed
  repeat' with_reducible first | assumption | (intro _) | apply canon_each | apply canon_funcEvent | apply canon_put | apply canon_ite

theorem canon_inspItems {s : State} (h : s.Canon) : ∀ a1 a2 a3, State.Canon (State.inspItems s a1 a2 a3) := by
  intro a1 a2 a3
  unfold State.inspItems
  repeat' with_reducible first | assumption | (intro _) | apply canon_each | apply canon_inspMarch | apply canon_trainFailed | apply canon_ite | apply resCanon_ite | apply resCanon_next | simp only [canon_mk] | apply canonT_of

theorem canon_lcsBegin {s : State} (h : s.Canon) : ∀ a1 a2 a3 a4, State.Canon (State.lcsBegin s a1 a2 a3 a4) := by
  intro a1 a2 a3 a4
  unfold State.lcsBegin
  repeat' with_reducible first | assumption | (intro _) | apply canon_put | apply canon_lcsEnd | apply canon_ite | apply resCanon_ite | apply resCanon_next | simp only [canon_mk] | apply canonT_of | dsimp only | split

theorem canon_hubCopy {s : State} (h : s.Canon) : ∀ a1 a2, State.Canon (State.hubCopy s a1 a2) := by
  intro a1 a2
  unfold State.hubCopy
  repeat' with_reducible first | assumption | (intro _) | apply canon_hubShadows | apply canon_setInst

theorem canon_attemptFail {s : State} (h : s.Canon) : ∀ a1 a2, State.Canon (State.attemptFail s a1 a2) := by
  intro a1 a2
  unfold State.attemptFail
  repeat' with_reducible first | assumption | (intro _) | apply canon_setPort | apply canon_trainFail | apply canon_ite

theorem canon_lineFree {s : State} (h : s.Canon) : ∀ a1 a2 a3, State.Canon (State.lineFree s a1 a2 a3) := by
  intro a1 a2 a3
  unfold State.lineFree
  repeat' with_reducible first | assumption | (intro _) | apply canon_setPipe | apply canon_putFree | apply canon_ite | apply resCanon_ite | apply resCanon_next | simp only [canon_mk] | apply canonT_of

theorem canon_sendPacket {s : State} (h : s.Canon) : ∀ a1 a2, State.Canon (State.sendPacket s a1 a2) := by
  intro a1 a2
  unfold State.sendPacket
  repeat' with_reducible first | assumption | (intro _) | apply canon_setHs

theorem canon_lineClosed {s : State} (h : s.Canon) : ∀ a1 a2 a3, State.Canon (State.lineClosed s a1 a2 a3) := by
  intro a1 a2 a3
  unfold State.lineClosed
  repeat' with_reducible first | assumption | (intro _) | apply canon_setPipe | apply canon_fetchStep | apply canon_composeStart

theorem canon_showVin {s : State} (h : s.Canon) : ∀ a1, State.Canon (State.showVin s a1) := by
  intro a1
  unfold State.showVin
  repeat' with_reducible first | assumption | (intro _) | apply canon_put | apply canon_ite | apply resCanon_ite | apply resCanon_next | simp only [canon_mk] | apply canonT_of

theorem canon_startBegin {s : State} (h : s.Canon) : ∀ a1 a2 a3, State.Canon (State.startBegin s a1 a2 a3) := by
  intro a1 a2 a3
  unfold State.startBegin
  repeat' with_reducible first | assumption | (intro _) | apply canon_moduleClear | apply canon_startStores | apply canon_put | apply canon_showVin | apply canon_startNote | apply canon_event | apply canon_peerSettle | apply canon_pdomRaise | apply canon_each | apply canon_hpdAgain | apply canon_ite | apply resCanon_ite | apply resCanon_next | simp only [canon_mk] | apply canonT_of

theorem canon_frameEnter {s : State} (h : s.Canon) : ∀ a1, State.Canon (State.frameEnter s a1) := by
  intro a1
  unfold State.frameEnter
  repeat' with_reducible first | assumption | (intro _) | apply canon_setPort | apply canon_put | apply canon_incMod | apply canon_laneRefresh | apply canon_ite

theorem canon_halfGo {s : State} (h : s.Canon) : ∀ a1, State.Canon (State.halfGo s a1) := by
  intro a1
  unfold State.halfGo
  repeat' with_reducible first | assumption | (intro _) | apply canon_setHs | apply canon_halfRelease | apply canon_ite

theorem canon_unitReset {s : State} (h : s.Canon) : ∀ a1, State.Canon (State.unitReset s a1) := by
  intro a1
  unfold State.unitReset
  repeat' with_reducible first | assumption | (intro _) | apply canon_halfUnitReset | apply canon_plinthUnitReset | apply canon_ite | apply resCanon_ite | apply resCanon_next | simp only [canon_mk] | apply canonT_of | dsimp only | split

theorem canon_setMemb {s : State} (h : s.Canon) : ∀ a1, State.Canon (State.setMemb s a1) := by
  intro a1
  unfold State.setMemb
  repeat' with_reducible first | assumption | (intro _) | apply canon_lockRefreshAll | apply canon_put | apply canon_ite

theorem canon_commitCopy {s : State} (h : s.Canon) : ∀ a1 a2 a3, State.Canon (State.commitCopy s a1 a2 a3) := by
  intro a1 a2 a3
  unfold State.commitCopy
  repeat' with_reducible first | assumption | (intro _) | apply canon_forward | apply canon_hubCopy | apply canon_hubComplete | apply canon_setInst | apply canon_ite

theorem canon_restartRelease {s : State} (h : s.Canon) : ∀ a1, State.Canon (State.restartRelease s a1) := by
  intro a1
  unfold State.restartRelease
  repeat' with_reducible first | assumption | (intro _) | apply canon_setHs | apply canon_each | apply canon_haltCheck | apply canon_setHart | apply canon_trapM | apply canon_watchdogLoad | apply canon_put | apply canon_incSat | apply canon_ite

theorem canon_ack {s : State} (h : s.Canon) : State.Canon (State.ack s) := by
  unfold State.ack
  repeat' with_reducible first | assumption | (intro _) | apply canon_ite | apply resCanon_ite | apply resCanon_next | simp only [canon_mk] | apply canonT_of

theorem canon_blFrameEnd {s : State} (h : s.Canon) : ∀ a1, State.Canon (State.blFrameEnd s a1) := by
  intro a1
  unfold State.blFrameEnd
  repeat' with_reducible first | assumption | (intro _) | apply canon_setPort | apply canon_ite

theorem canon_wakeTick {s : State} (h : s.Canon) : State.Canon (State.wakeTick s) := by
  unfold State.wakeTick
  repeat' with_reducible first | assumption | (intro _) | refine canon_takeFree_eq (by assumption) ?_ | apply canon_takeFree | apply canon_put | apply canon_ite

theorem canon_trustedPageClear {s : State} (h : s.Canon) : ∀ a1 a2, State.Canon (State.trustedPageClear s a1 a2) := by
  intro a1 a2
  unfold State.trustedPageClear
  repeat' with_reducible first | assumption | (intro _) | apply canon_clearHeld | apply canon_clearRegs | apply canon_setReg | apply canon_groupsDrop | apply canon_setCtx | apply canon_quReset | apply canon_setScan | apply canon_instClear | apply canon_ite | apply resCanon_ite | apply resCanon_next | apply canonT_of | dsimp only | split

theorem canon_spmClear {s : State} (h : s.Canon) : ∀ a1 a2 a3, State.Canon (State.spmClear s a1 a2 a3) := by
  intro a1 a2 a3
  unfold State.spmClear
  repeat' with_reducible first | assumption | (intro _) | apply canon_each | apply canon_setSpm | apply canon_setSpmU | apply memSetBytes_wf | apply memClear_wf | apply wf_dram | apply wf_spm

theorem canon_rearmApplied {s : State} (h : s.Canon) : ∀ a1, State.Canon (State.rearmApplied s a1) := by
  intro a1
  unfold State.rearmApplied
  repeat' with_reducible first | assumption | (intro _) | apply canon_ite | apply resCanon_ite | apply resCanon_next | simp only [canon_mk] | apply canonT_of | dsimp only | split

theorem canon_rCompute : ∀ (n : Nat) {s : State}, s.Canon → ∀ k c, State.Canon (State.rCompute s k c n)
  | 0, _, h, _, _ => h
  | n + 1, _, h, _, _ => canon_rCompute n (canon_rResult h _ _ _) _ _

theorem canon_groupKeep {s : State} (h : s.Canon) : ∀ a1 a2 a3 a4 a5, State.Canon (State.groupKeep s a1 a2 a3 a4 a5) := by
  intro a1 a2 a3 a4 a5
  unfold State.groupKeep
  repeat' with_reducible first | assumption | (intro _) | apply canon_setShGroup | apply canon_ite

theorem canon_rStep {s : State} (h : s.Canon) : ∀ a1 a2 a3 a4, State.Canon (State.rStep s a1 a2 a3 a4) := by
  intro a1 a2 a3 a4
  unfold State.rStep
  repeat' with_reducible first | assumption | (intro _) | apply canon_rOp | apply canon_groupKeep | apply canon_setCtx | apply canon_ite | apply resCanon_ite | apply resCanon_next | apply canonT_of | dsimp only | split

theorem canon_wakeBy {s : State} (h : s.Canon) : ∀ a1, State.Canon (State.wakeBy s a1) := by
  intro a1
  unfold State.wakeBy
  repeat' with_reducible first | assumption | (intro _) | apply canon_put | apply canon_startBegin | apply canon_ite | apply resCanon_ite | apply resCanon_next | simp only [canon_mk] | apply canonT_of

theorem canon_qualFrame {s : State} (h : s.Canon) : ∀ a1, State.Canon (State.qualFrame s a1) := by
  intro a1
  unfold State.qualFrame
  repeat' with_reducible first | assumption | (intro _) | apply canon_put | apply canon_setPort | apply canon_ite | apply resCanon_ite | apply resCanon_next | apply canonT_of | dsimp only | split

theorem canon_psrFrame {s : State} (h : s.Canon) : ∀ a1, State.Canon (State.psrFrame s a1) := by
  intro a1
  unfold State.psrFrame
  repeat' with_reducible first | assumption | (intro _) | apply canon_setPort

theorem canon_frameSource {s : State} (h : s.Canon) : ∀ a1, State.Canon (State.frameSource s a1) := by
  intro a1
  unfold State.frameSource
  repeat' with_reducible first | assumption | (intro _) | apply canon_each | apply canon_put | apply canon_setSource | apply canon_setPort | apply canon_hoEnd | apply canon_ite | apply resCanon_ite | apply resCanon_next | apply canonT_of | dsimp only | split

theorem canon_psrStep {s : State} (h : s.Canon) : ∀ a1, State.Canon (State.psrStep s a1) := by
  intro a1
  unfold State.psrStep
  repeat' with_reducible first | assumption | (intro _) | apply canon_each | apply canon_put | apply canon_setPort | apply canon_ite

theorem canon_darkRelease {s : State} (h : s.Canon) : ∀ a1, State.Canon (State.darkRelease s a1) := by
  intro a1
  unfold State.darkRelease
  repeat' with_reducible first | assumption | (intro _) | apply canon_setPort | apply canon_each | apply canon_ite

theorem canon_frameLock {s : State} (h : s.Canon) : ∀ a1 a2, State.Canon (State.frameLock s a1 a2) := by
  intro a1 a2
  unfold State.frameLock
  repeat' with_reducible first | assumption | (intro _) | apply canon_each | apply canon_put | apply canon_lockRefresh | apply canon_setPort | apply canon_ite

theorem canon_frameStops {s : State} (h : s.Canon) : ∀ a1, State.Canon (State.frameStops s a1) := by
  intro a1
  unfold State.frameStops
  repeat' with_reducible first | assumption | (intro _) | apply canon_put | apply canon_genStop | apply canon_setPort | apply canon_ite

theorem canon_spmInvert {s : State} (h : s.Canon) : ∀ a1 a2 a3, State.Canon (State.spmInvert s a1 a2 a3) := by
  intro a1 a2 a3
  unfold State.spmInvert
  repeat' with_reducible first | assumption | (intro _) | apply canon_setSpmU

theorem canon_armBroken {s : State} (h : s.Canon) : ∀ a1, State.Canon (State.armBroken s a1) := by
  intro a1
  unfold State.armBroken
  repeat' with_reducible first | assumption | (intro _) | apply canon_armEnd | apply canon_setSlotState

theorem canon_armCopy {s : State} (h : s.Canon) : ∀ a1 a2, State.Canon (State.armCopy s a1 a2) := by
  intro a1 a2
  unfold State.armCopy
  repeat' with_reducible first | assumption | (intro _) | apply canon_noteRead | apply canon_setMram | apply canon_ite | apply resCanon_ite | apply resCanon_next | simp only [canon_mk] | apply canonT_of | dsimp only | split

theorem canon_armCopyTo {s : State} (h : s.Canon) : ∀ a1 a2, State.Canon (State.armCopyTo s a1 a2) := by
  intro a1 a2
  unfold State.armCopyTo
  repeat' with_reducible first | assumption | (intro _) | apply canon_each | apply canon_armCopy | apply canon_ite | apply resCanon_ite | apply resCanon_next | simp only [canon_mk] | apply canonT_of

theorem canon_ickTake {s : State} (h : s.Canon) : ∀ a1 a2, State.Canon (State.ickTake s a1 a2) := by
  intro a1 a2
  unfold State.ickTake
  repeat' with_reducible first | assumption | (intro _) | apply canon_put | apply canon_setPort

theorem canon_latch {s : State} (h : s.Canon) : ∀ a1 a2, State.Canon (State.latch s a1 a2) := by
  intro a1 a2
  unfold State.latch
  repeat' with_reducible first | assumption | (intro _) | apply canon_setPipe | apply canon_put | apply canon_putFree | apply canon_incMod | apply canon_ickTake | apply canon_each | apply canon_setInst | apply canon_ite

theorem canon_slotNext {s : State} (h : s.Canon) : ∀ a1 a2, State.Canon (State.slotNext s a1 a2) := by
  intro a1 a2
  unfold State.slotNext
  repeat' with_reducible first | assumption | (intro _) | apply canon_setHs

theorem canon_markerGone {s : State} (h : s.Canon) : ∀ a1 a2, State.Canon (State.markerGone s a1 a2) := by
  intro a1 a2
  unfold State.markerGone
  repeat' with_reducible first | assumption | (intro _) | apply canon_setPort

theorem canon_armWild {s : State} (h : s.Canon) : ∀ a1 a2, State.Canon (State.armWild s a1 a2) := by
  intro a1 a2
  unfold State.armWild
  repeat' with_reducible first | assumption | (intro _) | apply canon_setMram | apply canon_wildStatus | apply canon_whenB | apply canon_raise | apply canon_ite | apply resCanon_ite | apply resCanon_next | simp only [canon_mk] | apply canonT_of

theorem canon_rStopAt {s : State} (h : s.Canon) : ∀ a1 a2 a3, State.Canon (State.rStopAt s a1 a2 a3) := by
  intro a1 a2 a3
  unfold State.rStopAt
  repeat' with_reducible first | assumption | (intro _) | apply canon_setRs | apply canon_setCtx | apply canon_ite | apply resCanon_ite | apply resCanon_next | apply canonT_of | dsimp only | split

theorem canon_sendEnd {s : State} (h : s.Canon) : ∀ a1, State.Canon (State.sendEnd s a1) := by
  intro a1
  unfold State.sendEnd
  repeat' with_reducible first | assumption | (intro _) | apply canon_put | apply canon_raise

theorem canon_migEnd {s : State} (h : s.Canon) : ∀ a1, State.Canon (State.migEnd s a1) := by
  intro a1
  unfold State.migEnd
  repeat' with_reducible first | assumption | (intro _) | apply canon_sendEnd | apply canon_put | apply canon_ite | apply resCanon_ite | apply resCanon_next | simp only [canon_mk] | apply canonT_of

theorem canon_slew {s : State} (h : s.Canon) : State.Canon (State.slew s) := by
  unfold State.slew
  repeat' with_reducible first | assumption | (intro _) | refine canon_takeFree_eq (by assumption) ?_ | apply canon_takeFree | apply canon_ite | apply resCanon_ite | apply resCanon_next | simp only [canon_mk] | apply canonT_of

theorem canon_gptpRx {s : State} (h : s.Canon) : ∀ a1, (State.gptpRx s a1).2.Canon := by
  intro a1
  unfold State.gptpRx
  repeat' with_reducible first | assumption | (intro _) | refine canon_frameSeen_eq (by assumption) ?_ | apply canon_frameSeen | apply canon_ite | apply resCanon_ite | apply resCanon_next | simp only [canon_mk] | apply canonT_of

theorem canon_gptpRx_eq {s t : State} {v} {a1} (e : State.gptpRx s a1 = (v, t)) (h : s.Canon) : t.Canon := by
  have := canon_gptpRx h a1
  rw [e] at this
  exact this

theorem canon_safTick {s : State} (h : s.Canon) : ∀ a1, State.Canon (State.safTick s a1) := by
  intro a1
  unfold State.safTick
  repeat' with_reducible first | assumption | (intro _) | apply canon_safReset | apply canon_ite

theorem canon_hubReset {s : State} (h : s.Canon) : ∀ a1 a2, State.Canon (State.hubReset s a1 a2) := by
  intro a1 a2
  unfold State.hubReset
  repeat' with_reducible first | assumption | (intro _) | apply canon_each | apply canon_put | apply canon_setInst | apply canon_setInstState | apply canon_heldEnd | apply canon_ite

theorem canon_hartStored {s : State} (h : s.Canon) : ∀ a1 a2 a3 a4 a5, State.Canon (State.hartStored s a1 a2 a3 a4 a5) := by
  intro a1 a2 a3 a4 a5
  unfold State.hartStored
  repeat' with_reducible first | assumption | (intro _) | apply canon_setHs | apply canon_ite | apply resCanon_ite | apply resCanon_next | apply canonT_of | dsimp only | split

theorem canon_serve {s : State} (h : s.Canon) : ∀ a1 a2, State.Canon (State.serve s a1 a2) := by
  intro a1 a2
  unfold State.serve
  repeat' with_reducible first | assumption | (intro _) | apply canon_dramTake | apply canon_setHs | apply canon_setPipe | apply canon_writeAt | apply canon_hartStored | apply canon_hartFill | apply canon_ite | apply resCanon_ite | apply resCanon_next | apply canonT_of | dsimp only | split

theorem canon_slotGrant {s : State} (h : s.Canon) : ∀ a1 a2, State.Canon (State.slotGrant s a1 a2) := by
  intro a1 a2
  unfold State.slotGrant
  repeat' with_reducible first | assumption | (intro _) | apply canon_serve | apply canon_mirrorApply | apply canon_dramTake | apply canon_setHs | apply canon_mirrorStore | apply canon_scanBlock | apply canon_ite | apply resCanon_ite | apply resCanon_next | apply canonT_of | dsimp only | split

theorem canon_setLock {s : State} (h : s.Canon) : ∀ a1 a2, State.Canon (State.setLock s a1 a2) := by
  intro a1 a2
  unfold State.setLock
  repeat' with_reducible first | assumption | (intro _) | apply canon_setMram | apply canon_putBit | apply canon_ite | apply resCanon_ite | apply resCanon_next | simp only [canon_mk] | apply canonT_of | dsimp only | split

theorem canon_hapAbort {s : State} (h : s.Canon) : ∀ a1 a2, State.Canon (State.hapAbort s a1 a2) := by
  intro a1 a2
  unfold State.hapAbort
  repeat' with_reducible first | assumption | (intro _) | apply canon_whenB | apply canon_hapDrop | apply canon_put | apply canon_incSat | apply canon_event | apply canon_setChan | apply canon_raise | apply canon_setHap

theorem canon_hapFoldStep {s : State} (h : s.Canon) : ∀ a1, State.Canon (State.hapFoldStep s a1) := by
  intro a1
  unfold State.hapFoldStep
  repeat' with_reducible first | assumption | (intro _) | refine canon_takeFree_eq (by assumption) ?_ | apply canon_takeFree | apply canon_incSat | apply canon_ite | apply resCanon_ite | apply resCanon_next | simp only [canon_mk] | apply canonT_of

theorem canon_membRefresh {s : State} (h : s.Canon) : State.Canon (State.membRefresh s) := by
  unfold State.membRefresh
  repeat' with_reducible first | assumption | (intro _) | apply canon_setMemb | apply canon_put | apply canon_ite | apply resCanon_ite | apply resCanon_next | simp only [canon_mk] | apply canonT_of | dsimp only | split

theorem canon_goOutside {s : State} (h : s.Canon) : ∀ a1, State.Canon (State.goOutside s a1) := by
  intro a1
  unfold State.goOutside
  repeat' with_reducible first | assumption | (intro _) | apply canon_put | apply canon_setMemb | apply canon_timeFree | apply canon_ite | apply resCanon_ite | apply resCanon_next | simp only [canon_mk] | apply canonT_of

theorem canon_tryAuthority {s : State} (h : s.Canon) : ∀ a1, State.Canon (State.tryAuthority s a1) := by
  intro a1
  unfold State.tryAuthority
  repeat' with_reducible first | assumption | (intro _) | apply canon_put | apply canon_sendLock | apply canon_setMemb | apply canon_ite | apply resCanon_ite | apply resCanon_next | simp only [canon_mk] | apply canonT_of

theorem canon_armTick {s : State} (h : s.Canon) : State.Canon (State.armTick s) := by
  unfold State.armTick
  repeat' with_reducible first | assumption | (intro _) | apply canon_armCopyTo | apply canon_ite | apply resCanon_ite | apply resCanon_next | simp only [canon_mk] | apply canonT_of | dsimp only | split

theorem canon_touchFlood {s : State} (h : s.Canon) : ∀ a1, State.Canon (State.touchFlood s a1) := by
  intro a1
  unfold State.touchFlood
  repeat' with_reducible first | assumption | (intro _) | apply canon_srcPut | apply canon_touchReport | apply canon_setSrcState | apply canon_funcEvent | apply canon_ite

theorem canon_watchdogTick {s : State} (h : s.Canon) : ∀ a1, State.Canon (State.watchdogTick s a1) := by
  intro a1
  unfold State.watchdogTick
  repeat' with_reducible first | assumption | (intro _) | apply canon_put | apply canon_ite

theorem canon_digestCapture {s : State} (h : s.Canon) : ∀ a1 a2, State.Canon (State.digestCapture s a1 a2) := by
  intro a1 a2
  unfold State.digestCapture
  repeat' with_reducible first | assumption | (intro _) | apply canon_setPort | apply canon_ite | apply resCanon_ite | apply resCanon_next | apply canonT_of | dsimp only | split

theorem canon_measureStore {s : State} (h : s.Canon) : ∀ a1 a2 a3 a4, State.Canon (State.measureStore s a1 a2 a3 a4) := by
  intro a1 a2 a3 a4
  unfold State.measureStore
  repeat' with_reducible first | assumption | (intro _) | apply canon_each | apply canon_storeBlock | apply canon_ite

theorem canon_applyFx {s : State} (h : s.Canon) : ∀ a1 a2 a3, State.Canon (State.applyFx s a1 a2 a3) := by
  intro a1 a2 a3
  unfold State.applyFx
  repeat' with_reducible first | assumption | (intro _) | apply canon_setInst | apply canon_hubCopy | apply canon_hubReset | apply canon_windowPut | apply canon_hubShadows | apply canon_put | apply canon_setReg | apply canon_setInstState | apply canon_ite | apply resCanon_ite | apply resCanon_next | apply canonT_of | dsimp only | split

theorem canon_dropAuthority {s : State} (h : s.Canon) : State.Canon (State.dropAuthority s) := by
  unfold State.dropAuthority
  repeat' with_reducible first | assumption | (intro _) | apply canon_membRefresh | apply canon_put | apply canon_ite

theorem canon_domStop {s : State} (h : s.Canon) : ∀ a1 a2, State.Canon (State.domStop s a1 a2) := by
  intro a1 a2
  unfold State.domStop
  repeat' with_reducible first | assumption | (intro _) | apply canon_setDomain | apply canon_setSpmU | apply canon_spmLeaves | apply canon_put | apply canon_setSpmState | apply canon_ite

theorem canon_tick {s : State} (h : s.Canon) : State.Canon (tick s) := by
  unfold tick
  repeat' with_reducible first | assumption | (intro _) | apply canon_armTick | apply canon_hupRead | apply canon_wakeTick | apply canon_safTick | apply canon_watchdogTick | apply canon_rtcTick | apply canon_ite | apply resCanon_ite | apply resCanon_next | simp only [canon_mk] | apply canonT_of

end Sys2Proof.Machine
end

