-- ==== Sys2Proof/Laws/CanonExec.lean ====
section
/-! SUPPORT. The meaning of each command keeps the canonical form of registers and memories. -/

namespace Sys2Proof.Machine

theorem canon_execSvcRead {s : State} (h : s.Canon) : ∀ a1, ResCanon (execSvcRead a1 s) := by
  intro a1
  unfold execSvcRead
  repeat' with_reducible first | assumption | (intro _) | apply canon_ite | apply resCanon_ite | apply resCanon_next | simp only [canon_mk] | apply canonT_of

theorem canon_execTrustedInterrupt {s : State} (h : s.Canon) : ∀ a1 a2, ResCanon (execTrustedInterrupt a1 a2 s) := by
  intro a1 a2
  unfold execTrustedInterrupt
  repeat' with_reducible first | assumption | (intro _) | apply canon_setHart | apply canon_trapM | apply canon_ite | apply resCanon_ite | apply resCanon_next

theorem canon_execHeadsetMeasureDone {s : State} (h : s.Canon) : ∀ a1 a2, ResCanon (execHeadsetMeasureDone a1 a2 s) := by
  intro a1 a2
  unfold execHeadsetMeasureDone
  repeat' with_reducible first | assumption | (intro _) | apply canon_put | apply canon_discId | apply canon_discSet | apply canon_ite | apply resCanon_ite | apply resCanon_next

theorem canon_execTwinLinkUp {s : State} (h : s.Canon) : ResCanon (execTwinLinkUp s) := by
  unfold execTwinLinkUp
  repeat' with_reducible first | assumption | (intro _) | apply canon_each | apply canon_put | apply canon_catchupStart | apply canon_twinSync | apply canon_syncCheck | apply canon_ite | apply resCanon_ite | apply resCanon_next

theorem canon_execCvuPassEnd {s : State} (h : s.Canon) : ∀ a1 a2, ResCanon (execCvuPassEnd a1 a2 s) := by
  intro a1 a2
  unfold execCvuPassEnd
  repeat' with_reducible first | assumption | (intro _) | apply canon_put | apply canon_incMod | apply canon_raise | apply canon_funcEvent | apply canon_whenB | apply canon_alert | apply canon_setScan | apply canon_ite | apply resCanon_ite | apply resCanon_next

theorem canon_execInstRestore {s : State} (h : s.Canon) : ∀ rq i, ResCanon (execInstRestore rq i s) := by
  intro rq i
  unfold execInstRestore
  repeat' with_reducible first | assumption | (intro _) | apply canon_hostWrite | apply canon_instDone | apply canon_noteRead | apply canon_restoreFrom | apply resCanon_ite | apply resCanon_next

theorem canon_execRasterT4Timeout {s : State} (h : s.Canon) : ∀ a1, ResCanon (execRasterT4Timeout a1 s) := by
  intro a1
  unfold execRasterT4Timeout
  repeat' with_reducible first | assumption | (intro _) | apply canon_each | apply canon_rFaulted | apply canon_unpause | apply canon_ite | apply resCanon_ite | apply resCanon_next

theorem canon_execLatchLineStart {s : State} (h : s.Canon) : ∀ a1, ResCanon (execLatchLineStart a1 s) := by
  intro a1
  unfold execLatchLineStart
  repeat' with_reducible first | assumption | (intro _) | apply canon_hoLatch | apply canon_each | apply canon_setRole | apply canon_setPort | apply canon_put | apply canon_ite | apply resCanon_ite | apply resCanon_next

theorem canon_execHalfResetRelease {s : State} (h : s.Canon) : ∀ a1, ResCanon (execHalfResetRelease a1 s) := by
  intro a1
  unfold execHalfResetRelease
  repeat' with_reducible first | assumption | (intro _) | apply canon_setHs | apply canon_pciDiscover | apply canon_domRaise | apply canon_setHalfState | apply canon_ite | apply resCanon_ite | apply resCanon_next

theorem canon_execPeerAlarm {s : State} (h : s.Canon) : ∀ a1 a2 a3, ResCanon (execPeerAlarm a1 a2 a3 s) := by
  intro a1 a2 a3
  unfold execPeerAlarm
  repeat' with_reducible first | assumption | (intro _) | refine canon_alarmRx_eq (by assumption) ?_ | apply canon_alarmRx | apply canon_nightExit | apply canon_ite | apply resCanon_ite | apply resCanon_next

theorem canon_execScnAccept {s : State} (h : s.Canon) : ∀ a1 a2, ResCanon (execScnAccept a1 a2 s) := by
  intro a1 a2
  unfold execScnAccept
  repeat' with_reducible first | assumption | (intro _) | apply canon_hostWrite | apply canon_sinkAccept | apply canon_ite | apply resCanon_ite | apply resCanon_next | simp only [canon_mk] | apply canonT_of | dsimp only | split

theorem canon_execPortLineBoundary {s : State} (h : s.Canon) : ∀ a1, ResCanon (execPortLineBoundary a1 s) := by
  intro a1
  unfold execPortLineBoundary
  repeat' with_reducible first | assumption | (intro _) | apply canon_rearmGo | apply canon_oneCycle | apply canon_lineBoundary | apply canon_ite | apply resCanon_ite | apply resCanon_next

theorem canon_execRearmStartWindowTimeout {s : State} (h : s.Canon) : ResCanon (execRearmStartWindowTimeout s) := by
  unfold execRearmStartWindowTimeout
  repeat' with_reducible first | assumption | (intro _) | apply canon_rearmFail | apply canon_ite | apply resCanon_ite | apply resCanon_next | apply canonT_of | dsimp only | split

theorem canon_execRstPartReset {s : State} (h : s.Canon) : ∀ a1 a2, ResCanon (execRstPartReset a1 a2 s) := by
  intro a1 a2
  unfold execRstPartReset
  repeat' with_reducible first | assumption | (intro _) | apply canon_hostWrite | refine canon_rstTurn_eq (by assumption) ?_ | apply canon_rstTurn | apply canon_rstDone | apply canon_each | apply canon_halfUnitReset | apply canon_plinthUnitReset | apply canon_ite | apply resCanon_ite | apply resCanon_next

theorem canon_execIckRelease {s : State} (h : s.Canon) : ∀ a1 a2, ResCanon (execIckRelease a1 a2 s) := by
  intro a1 a2
  unfold execIckRelease
  repeat' with_reducible first | assumption | (intro _) | apply canon_hostWrite | apply canon_whenB | apply canon_setPort | apply canon_ite | apply resCanon_ite | apply resCanon_next

theorem canon_execHubNop {s : State} (h : s.Canon) : ∀ a1 a2 a3 a4, ResCanon (execHubNop a1 a2 a3 a4 s) := by
  intro a1 a2 a3 a4
  unfold execHubNop
  repeat' with_reducible first | assumption | (intro _) | apply canon_hubCommand | apply canon_hubComplete | apply canon_ite | apply resCanon_ite | apply resCanon_next

theorem canon_execAudSwap {s : State} (h : s.Canon) : ∀ a1, ResCanon (execAudSwap a1 s) := by
  intro a1
  unfold execAudSwap
  repeat' with_reducible first | assumption | (intro _) | apply canon_hostWrite | apply canon_put | apply canon_ite | apply resCanon_ite | apply resCanon_next

theorem canon_execTouchDiscoveryTimer {s : State} (h : s.Canon) : ∀ a1 a2, ResCanon (execTouchDiscoveryTimer a1 a2 s) := by
  intro a1 a2
  unfold execTouchDiscoveryTimer
  repeat' with_reducible first | assumption | (intro _) | apply canon_askTest | apply canon_discSet | apply canon_ite | apply resCanon_ite | apply resCanon_next

theorem canon_execAuxTransactionDone {s : State} (h : s.Canon) : ∀ a1 a2, ResCanon (execAuxTransactionDone a1 a2 s) := by
  intro a1 a2
  unfold execAuxTransactionDone
  repeat' with_reducible first | assumption | (intro _) | apply canon_auxFail | apply canon_put | apply canon_setPort | apply canon_identified | apply canon_ite | apply resCanon_ite | apply resCanon_next | apply canonT_of | dsimp only | split

theorem canon_execVioFaultClear {s : State} (h : s.Canon) : ∀ a1 a2, ResCanon (execVioFaultClear a1 a2 s) := by
  intro a1 a2
  unfold execVioFaultClear
  repeat' with_reducible first | assumption | (intro _) | apply canon_hostWrite | apply canon_put | apply canon_ite | apply resCanon_ite | apply resCanon_next | simp only [canon_mk] | apply canonT_of

theorem canon_execTouchFrameEnd {s : State} (h : s.Canon) : ∀ a1 a2, ResCanon (execTouchFrameEnd a1 a2 s) := by
  intro a1 a2
  unfold execTouchFrameEnd
  repeat' with_reducible first | assumption | (intro _) | apply canon_touchUnplug | apply canon_srcPut | apply canon_setSrcState | apply canon_setSrc | apply canon_each | apply canon_touchProbe | apply canon_touchBase | apply canon_keyFrame | apply canon_sensorFrame | apply canon_ite | apply resCanon_ite | apply resCanon_next

theorem canon_execElectrodeTestDone {s : State} (h : s.Canon) : ∀ a1 a2, ResCanon (execElectrodeTestDone a1 a2 s) := by
  intro a1 a2
  unfold execElectrodeTestDone
  repeat' with_reducible first | assumption | (intro _) | apply canon_maskRegs | apply canon_srcPut | apply canon_setSrc | apply canon_each | apply canon_testVerdict | apply canon_setSrcState | apply canon_ite | apply resCanon_ite | apply resCanon_next

theorem canon_execPipeLineStart {s : State} (h : s.Canon) : ∀ a1 a2, ResCanon (execPipeLineStart a1 a2 s) := by
  intro a1 a2
  unfold execPipeLineStart
  repeat' with_reducible first | assumption | (intro _) | apply canon_setPipe | apply canon_fetchStep | apply canon_composeStart | apply canon_ite | apply resCanon_ite | apply resCanon_next

theorem canon_execPlkCancel {s : State} (h : s.Canon) : ∀ a1, ResCanon (execPlkCancel a1 s) := by
  intro a1
  unfold execPlkCancel
  repeat' with_reducible first | assumption | (intro _) | apply canon_hostWrite | apply canon_put | apply canon_ite | apply resCanon_ite | apply resCanon_next | simp only [canon_mk] | apply canonT_of

theorem canon_execAutoReturn {s : State} (h : s.Canon) : ∀ a1, ResCanon (execAutoReturn a1 s) := by
  intro a1
  unfold execAutoReturn
  repeat' with_reducible first | assumption | (intro _) | apply canon_hoStart | apply canon_ite | apply resCanon_ite | apply resCanon_next

theorem canon_execHeadsetButton {s : State} (h : s.Canon) : ∀ a1 a2, ResCanon (execHeadsetButton a1 a2 s) := by
  intro a1 a2
  unfold execHeadsetButton
  repeat' with_reducible first | assumption | (intro _) | apply canon_put | apply canon_raise | apply canon_ite | apply resCanon_ite | apply resCanon_next

theorem canon_execInsqDoorbell {s : State} (h : s.Canon) : ∀ a1 a2 a3 a4, ResCanon (execInsqDoorbell a1 a2 a3 a4 s) := by
  intro a1 a2 a3 a4
  unfold execInsqDoorbell
  repeat' with_reducible first | assumption | (intro _) | apply canon_dropped | apply canon_busFetch | apply canon_setInst | apply canon_ite | apply resCanon_ite | apply resCanon_next | simp only [canon_mk] | apply canonT_of

theorem canon_execAlertClearDelayed {s : State} (h : s.Canon) : ResCanon (execAlertClearDelayed s) := by
  unfold execAlertClearDelayed
  repeat' with_reducible first | assumption | (intro _) | apply canon_alertOff | apply canon_ite | apply resCanon_ite | apply resCanon_next

theorem canon_execPatSnap {s : State} (h : s.Canon) : ∀ a1, ResCanon (execPatSnap a1 s) := by
  intro a1
  unfold execPatSnap
  repeat' with_reducible first | assumption | (intro _) | apply canon_hostWrite | apply canon_event | apply canon_ite | apply resCanon_ite | apply resCanon_next

theorem canon_execTceCaptureRef {s : State} (h : s.Canon) : ∀ a1, ResCanon (execTceCaptureRef a1 s) := by
  intro a1
  unfold execTceCaptureRef
  repeat' with_reducible first | assumption | (intro _) | apply canon_hostWrite | apply canon_put | apply canon_ite | apply resCanon_ite | apply resCanon_next

theorem canon_execAudCopy {s : State} (h : s.Canon) : ∀ a1, ResCanon (execAudCopy a1 s) := by
  intro a1
  unfold execAudCopy
  repeat' with_reducible first | assumption | (intro _) | apply canon_hostWrite | apply canon_put | apply canon_ite | apply resCanon_ite | apply resCanon_next

theorem canon_execDomainPowerOnDone {s : State} (h : s.Canon) : ∀ a1 a2, ResCanon (execDomainPowerOnDone a1 a2 s) := by
  intro a1 a2
  unfold execDomainPowerOnDone
  repeat' with_reducible first | assumption | (intro _) | apply canon_domRaise | apply canon_domOn | apply canon_pdomRaise | apply canon_pdomOn | apply canon_ite | apply resCanon_ite | apply resCanon_next | apply canonT_of | dsimp only | split

theorem canon_execThermalSample {s : State} (h : s.Canon) : ∀ a1 a2 a3, ResCanon (execThermalSample a1 a2 a3 s) := by
  intro a1 a2 a3
  unfold execThermalSample
  repeat' with_reducible first | assumption | (intro _) | apply canon_rearmGo | apply canon_thermPlinth | apply canon_thermHalf | apply canon_ite | apply resCanon_ite | apply resCanon_next

theorem canon_execBankIdleClose {s : State} (h : s.Canon) : ∀ a1 a2 a3, ResCanon (execBankIdleClose a1 a2 a3 s) := by
  intro a1 a2 a3
  unfold execBankIdleClose
  repeat' with_reducible first | assumption | (intro _) | apply canon_setHs | apply canon_ite | apply resCanon_ite | apply resCanon_next

theorem canon_execStrapSample {s : State} (h : s.Canon) : ∀ a1 a2, ResCanon (execStrapSample a1 a2 s) := by
  intro a1 a2
  unfold execStrapSample
  repeat' with_reducible first | assumption | (intro _) | apply canon_bootGo | apply canon_strapTake | apply canon_ite | apply resCanon_ite | apply resCanon_next

theorem canon_execKeepAlivePowerUp {s : State} (h : s.Canon) : ∀ a1, ResCanon (execKeepAlivePowerUp a1 s) := by
  intro a1
  unfold execKeepAlivePowerUp
  repeat' with_reducible first | assumption | (intro _) | apply canon_clearRegs | apply canon_put | apply canon_ite | apply resCanon_ite | apply resCanon_next | simp only [canon_mk] | apply canonT_of

theorem canon_execInstSave {s : State} (h : s.Canon) : ∀ a1 a2, ResCanon (execInstSave a1 a2 s) := by
  intro a1 a2
  unfold execInstSave
  repeat' with_reducible first | assumption | (intro _) | apply canon_hostWrite | apply canon_instDone | apply canon_instBusy | apply canon_setInst | apply canon_saveNow | apply canon_ite | apply resCanon_ite | apply resCanon_next

theorem canon_execPlkRxDone {s : State} (h : s.Canon) : ∀ a1, ResCanon (execPlkRxDone a1 s) := by
  intro a1
  unfold execPlkRxDone
  repeat' with_reducible first | assumption | (intro _) | apply canon_hostWrite | apply canon_put | apply canon_ite | apply resCanon_ite | apply resCanon_next

theorem canon_execHapStop {s : State} (h : s.Canon) : ∀ a1 a2, ResCanon (execHapStop a1 a2 s) := by
  intro a1 a2
  unfold execHapStop
  repeat' with_reducible first | assumption | (intro _) | apply canon_hostWrite | apply canon_hapBrake | apply canon_ite | apply resCanon_ite | apply resCanon_next

theorem canon_execTceRebase {s : State} (h : s.Canon) : ∀ a1, ResCanon (execTceRebase a1 s) := by
  intro a1
  unfold execTceRebase
  repeat' with_reducible first | assumption | (intro _) | apply canon_hostWrite | apply canon_askRebase | apply canon_ite | apply resCanon_ite | apply resCanon_next

theorem canon_execHapLoadCheck {s : State} (h : s.Canon) : ∀ a1, ResCanon (execHapLoadCheck a1 s) := by
  intro a1
  unfold execHapLoadCheck
  repeat' with_reducible first | assumption | (intro _) | apply canon_discSet | apply canon_ite | apply resCanon_ite | apply resCanon_next

theorem canon_execHoldupEntry {s : State} (h : s.Canon) : ∀ a1, ResCanon (execHoldupEntry a1 s) := by
  intro a1
  unfold execHoldupEntry
  repeat' with_reducible first | assumption | (intro _) | apply canon_holdup | apply canon_showHup | apply canon_ite | apply resCanon_ite | apply resCanon_next | simp only [canon_mk] | apply canonT_of

theorem canon_execSvcWrite {s : State} (h : s.Canon) : ∀ a1, ResCanon (execSvcWrite a1 s) := by
  intro a1
  unfold execSvcWrite
  repeat' with_reducible first | assumption | (intro _) | apply canon_setSlotState | apply canon_ite | apply resCanon_ite | apply resCanon_next | simp only [canon_mk] | apply canonT_of

theorem canon_execPlkNodeWrite {s : State} (h : s.Canon) : ∀ a1 a2, ResCanon (execPlkNodeWrite a1 a2 s) := by
  intro a1 a2
  unfold execPlkNodeWrite
  repeat' with_reducible first | assumption | (intro _) | apply canon_hostWrite | apply canon_unpredictable | apply canon_put | apply canon_setMram | apply canon_ite | apply resCanon_ite | apply resCanon_next

theorem canon_execTwnMfence {s : State} (h : s.Canon) : ∀ a1 a2, ResCanon (execTwnMfence a1 a2 s) := by
  intro a1 a2
  unfold execTwnMfence
  repeat' with_reducible first | assumption | (intro _) | apply canon_hostWrite | apply canon_setHs | apply canon_ite | apply resCanon_ite | apply resCanon_next

theorem canon_execRegisterWrite {s : State} (h : s.Canon) : ∀ a1 a2 a3 a4, ResCanon (execRegisterWrite a1 a2 a3 a4 s) := by
  intro a1 a2 a3 a4
  unfold execRegisterWrite
  repeat' with_reducible first | assumption | (intro _) | apply canon_dropped | apply canon_unpredictable | apply canon_regWrite | apply canon_hostWrite | apply canon_ite | apply resCanon_ite | apply resCanon_next | simp only [canon_mk] | apply canonT_of | dsimp only | split

theorem canon_execModInspect {s : State} (h : s.Canon) : ∀ a1, ResCanon (execModInspect a1 s) := by
  intro a1
  unfold execModInspect
  repeat' with_reducible first | assumption | (intro _) | apply canon_hostWrite | apply canon_modAnswer | apply canon_put | apply canon_inspHalf | apply canon_setMode | apply canon_ite | apply resCanon_ite | apply resCanon_next | simp only [canon_mk] | apply canonT_of

theorem canon_execVkaLoss {s : State} (h : s.Canon) : ResCanon (execVkaLoss s) := by
  unfold execVkaLoss
  repeat' with_reducible first | assumption | (intro _) | apply canon_put | apply canon_ite | apply resCanon_ite | apply resCanon_next | simp only [canon_mk] | apply canonT_of

theorem canon_execArmAbort {s : State} (h : s.Canon) : ∀ a1, ResCanon (execArmAbort a1 s) := by
  intro a1
  unfold execArmAbort
  repeat' with_reducible first | assumption | (intro _) | apply canon_hostWrite | apply canon_put | apply canon_armAnswer | apply canon_rearmFail | apply canon_whenB | apply canon_ite | apply resCanon_ite | apply resCanon_next | simp only [canon_mk] | apply canonT_of | dsimp only | split

theorem canon_execThawTwinQuery {s : State} (h : s.Canon) : ∀ a1 a2, ResCanon (execThawTwinQuery a1 a2 s) := by
  intro a1 a2
  unfold execThawTwinQuery
  repeat' with_reducible first | assumption | (intro _) | apply canon_thawed | apply canon_askDone | apply canon_heldThaw | apply canon_instDone | apply canon_ite | apply resCanon_ite | apply resCanon_next

theorem canon_execFenceI {s : State} (h : s.Canon) : ∀ a1 a2, ResCanon (execFenceI a1 a2 s) := by
  intro a1 a2
  unfold execFenceI
  repeat' with_reducible first | assumption | (intro _) | apply canon_setHart | apply canon_ite | apply resCanon_ite | apply resCanon_next

theorem canon_execWatchdogKick {s : State} (h : s.Canon) : ∀ a1 a2, ResCanon (execWatchdogKick a1 a2 s) := by
  intro a1 a2
  unfold execWatchdogKick
  repeat' with_reducible first | assumption | (intro _) | apply canon_hostWrite | apply canon_watchdogLoad | apply canon_ite | apply resCanon_ite | apply resCanon_next

theorem canon_execScrubDue {s : State} (h : s.Canon) : ResCanon (execScrubDue s) := by
  unfold execScrubDue
  repeat' with_reducible first | assumption | (intro _) | apply canon_scrubBegin | apply canon_ite | apply resCanon_ite | apply resCanon_next | simp only [canon_mk] | apply canonT_of

theorem canon_execPowerLimitStep {s : State} (h : s.Canon) : ∀ a1 a2 a3, ResCanon (execPowerLimitStep a1 a2 a3 s) := by
  intro a1 a2 a3
  unfold execPowerLimitStep
  repeat' with_reducible first | assumption | (intro _) | apply canon_put | apply canon_funcEvent | apply canon_tierApply | apply canon_setTier | apply canon_ite | apply resCanon_ite | apply resCanon_next | simp only [canon_mk] | apply canonT_of

theorem canon_execModNight {s : State} (h : s.Canon) : ∀ a1, ResCanon (execModNight a1 s) := by
  intro a1
  unfold execModNight
  repeat' with_reducible first | assumption | (intro _) | apply canon_hostWrite | apply canon_modAnswer | apply canon_setMode | apply canon_put | apply canon_each | apply canon_setPort | apply canon_nightSettle | apply canon_ite | apply resCanon_ite | apply resCanon_next

theorem canon_execSlotTableSwitch {s : State} (h : s.Canon) : ∀ a1, ResCanon (execSlotTableSwitch a1 s) := by
  intro a1
  unfold execSlotTableSwitch
  repeat' with_reducible first | assumption | (intro _) | apply canon_putDmc | apply canon_ite | apply resCanon_ite | apply resCanon_next

theorem canon_execServiceBulkOut {s : State} (h : s.Canon) : ∀ a1, ResCanon (execServiceBulkOut a1 s) := by
  intro a1
  unfold execServiceBulkOut
  repeat' with_reducible first | assumption | (intro _) | apply canon_imageEnd | apply canon_imageBytes | apply canon_ite | apply resCanon_ite | apply resCanon_next | simp only [canon_mk] | apply canonT_of | dsimp only | split

theorem canon_execHubCommitComplete {s : State} (h : s.Canon) : ∀ a1 a2, ResCanon (execHubCommitComplete a1 a2 s) := by
  intro a1 a2
  unfold execHubCommitComplete
  repeat' with_reducible first | assumption | (intro _) | apply canon_restoreEnd | apply canon_hubComplete | apply canon_ite | apply resCanon_ite | apply resCanon_next | apply canonT_of | dsimp only | split

theorem canon_execMirrorSourceSwap {s : State} (h : s.Canon) : ∀ a1, ResCanon (execMirrorSourceSwap a1 s) := by
  intro a1
  unfold execMirrorSourceSwap
  repeat' with_reducible first | assumption | (intro _) | apply canon_setHs | apply canon_putBit | apply canon_ite | apply resCanon_ite | apply resCanon_next | apply canonT_of | dsimp only | split

theorem canon_execTwinEffectAck {s : State} (h : s.Canon) : ∀ a1 a2, ResCanon (execTwinEffectAck a1 a2 s) := by
  intro a1 a2
  unfold execTwinEffectAck
  repeat' with_reducible first | assumption | (intro _) | apply canon_setInst | apply canon_put | apply canon_hubFinish | apply canon_ite | apply resCanon_ite | apply resCanon_next | apply canonT_of | dsimp only | split

theorem canon_execSinkCrcReadDone {s : State} (h : s.Canon) : ∀ a1 a2, ResCanon (execSinkCrcReadDone a1 a2 s) := by
  intro a1 a2
  unfold execSinkCrcReadDone
  repeat' with_reducible first | assumption | (intro _) | apply canon_setPort | apply canon_incSat | apply canon_put | apply canon_event | apply canon_whenB | apply canon_alert | apply canon_darkSet | apply canon_ite | apply resCanon_ite | apply resCanon_next | apply canonT_of | dsimp only | split

theorem canon_execSvcStart {s : State} (h : s.Canon) : ∀ a1 a2, ResCanon (execSvcStart a1 a2 s) := by
  intro a1 a2
  unfold execSvcStart
  repeat' with_reducible first | assumption | (intro _) | apply canon_setFails | apply canon_startNote | apply canon_put | apply canon_startStores | apply canon_bootGo | apply canon_strapTake | apply canon_setMode | apply canon_ite | apply resCanon_ite | apply resCanon_next | simp only [canon_mk] | apply canonT_of

theorem canon_execAudOverrideWrite {s : State} (h : s.Canon) : ∀ a1 a2 a3, ResCanon (execAudOverrideWrite a1 a2 a3 s) := by
  intro a1 a2 a3
  unfold execAudOverrideWrite
  repeat' with_reducible first | assumption | (intro _) | apply canon_hostWrite | apply canon_setReg | apply canon_ite | apply resCanon_ite | apply resCanon_next

theorem canon_execLoaderCheckDone {s : State} (h : s.Canon) : ResCanon (execLoaderCheckDone s) := by
  unfold execLoaderCheckDone
  repeat' with_reducible first | assumption | (intro _) | apply canon_xspiChecked | apply canon_slotChecked | apply canon_startChecked | apply canon_armEnd | apply canon_ite | apply resCanon_ite | apply resCanon_next | simp only [canon_mk] | apply canonT_of | dsimp only | split

theorem canon_execIckLatchAck {s : State} (h : s.Canon) : ∀ a1 a2, ResCanon (execIckLatchAck a1 a2 s) := by
  intro a1 a2
  unfold execIckLatchAck
  repeat' with_reducible first | assumption | (intro _) | apply canon_setPort | apply canon_setLane | apply canon_showAct | apply canon_ite | apply resCanon_ite | apply resCanon_next | apply canonT_of | dsimp only | split

theorem canon_execPreemptionPoint {s : State} (h : s.Canon) : ∀ a1 a2 a3, ResCanon (execPreemptionPoint a1 a2 a3 s) := by
  intro a1 a2 a3
  unfold execPreemptionPoint
  repeat' with_reducible first | assumption | (intro _) | apply canon_arbitrate | apply canon_rFaulted | apply canon_setCtx | apply canon_arbitrateOn | apply canon_giveUp | apply canon_ite | apply resCanon_ite | apply resCanon_next | apply canonT_of | dsimp only | split

theorem canon_execWldExtend {s : State} (h : s.Canon) : ∀ a1 a2, ResCanon (execWldExtend a1 a2 s) := by
  intro a1 a2
  unfold execWldExtend
  repeat' with_reducible first | assumption | (intro _) | apply canon_hostWrite | apply canon_mrExtend | apply canon_ite | apply resCanon_ite | apply resCanon_next

theorem canon_execHapUnlock {s : State} (h : s.Canon) : ∀ a1 a2, ResCanon (execHapUnlock a1 a2 s) := by
  intro a1 a2
  unfold execHapUnlock
  repeat' with_reducible first | assumption | (intro _) | apply canon_hostWrite | apply canon_each | apply canon_hapUnlocked | apply canon_ite | apply resCanon_ite | apply resCanon_next

theorem canon_execSpmAccess {s : State} (h : s.Canon) : ∀ a1 a2 a3 a4 a5, ResCanon (execSpmAccess a1 a2 a3 a4 a5 s) := by
  intro a1 a2 a3 a4 a5
  unfold execSpmAccess
  repeat' with_reducible first | assumption | (intro _) | apply canon_spmCycle | apply canon_ite | apply resCanon_ite | apply resCanon_next | simp only [canon_mk] | apply canonT_of | dsimp only | split

theorem canon_execHpartWrite {s : State} (h : s.Canon) : ∀ a1 a2 a3, ResCanon (execHpartWrite a1 a2 a3 s) := by
  intro a1 a2 a3
  unfold execHpartWrite
  repeat' with_reducible first | assumption | (intro _) | refine canon_takeFree_eq (by assumption) ?_ | apply canon_takeFree | apply canon_setHpart | apply canon_ite | apply resCanon_ite | apply resCanon_next

theorem canon_execHartreset {s : State} (h : s.Canon) : ∀ a1 a2, ResCanon (execHartreset a1 a2 s) := by
  intro a1 a2
  unfold execHartreset
  repeat' with_reducible first | assumption | (intro _) | apply canon_setHart | apply canon_ite | apply resCanon_ite | apply resCanon_next

theorem canon_execMirrorWrite {s : State} (h : s.Canon) : ∀ a1 a2 a3, ResCanon (execMirrorWrite a1 a2 a3 s) := by
  intro a1 a2 a3
  unfold execMirrorWrite
  repeat' with_reducible first | assumption | (intro _) | apply canon_each | apply canon_writeAt | apply canon_accessFault | apply canon_ite | apply resCanon_ite | apply resCanon_next

theorem canon_execArmRaiseFloor {s : State} (h : s.Canon) : ∀ a1, ResCanon (execArmRaiseFloor a1 s) := by
  intro a1
  unfold execArmRaiseFloor
  repeat' with_reducible first | assumption | (intro _) | apply canon_armCommand | apply canon_armAnswer | apply canon_setMram | apply canon_put | apply canon_ite | apply resCanon_ite | apply resCanon_next

theorem canon_execDigestCompare {s : State} (h : s.Canon) : ∀ p, ResCanon (execDigestCompare p s) := by
  intro p
  unfold execDigestCompare
  split
  · exact h
  · split
    · split
      · exact h
      · split
        · exact canon_setPort h _ _
        · refine resCanon_next (canon_rearmGo (canon_hoEnd ?_ _ _))
          simp only [canon_mk]
          exact canonT_of (canon_whenB h fun t ht => canon_put (canon_put ht _ _ _) _ _ _)
    · exact h

theorem canon_execPeerAck {s : State} (h : s.Canon) : ∀ a1 a2 a3 a4, ResCanon (execPeerAck a1 a2 a3 a4 s) := by
  intro a1 a2 a3 a4
  unfold execPeerAck
  repeat' with_reducible first | assumption | (intro _) | refine canon_peerRx_eq (by assumption) ?_ | apply canon_peerRx | apply canon_txNew | apply canon_tecDown | apply canon_alarmEnd | apply canon_ite | apply resCanon_ite | apply resCanon_next | simp only [canon_mk] | apply canonT_of | dsimp only | split

theorem canon_execArmVerify {s : State} (h : s.Canon) : ∀ a1 a2, ResCanon (execArmVerify a1 a2 s) := by
  intro a1 a2
  unfold execArmVerify
  repeat' with_reducible first | assumption | (intro _) | apply canon_armCommand | apply canon_armStart | apply canon_ite | apply resCanon_ite | apply resCanon_next

theorem canon_execDebugPreempt {s : State} (h : s.Canon) : ∀ a1 a2, ResCanon (execDebugPreempt a1 a2 s) := by
  intro a1 a2
  unfold execDebugPreempt
  repeat' with_reducible first | assumption | (intro _) | apply canon_setHart | apply canon_trapM | apply canon_put | apply canon_ite | apply resCanon_ite | apply resCanon_next

theorem canon_execServiceWriteStall {s : State} (h : s.Canon) : ResCanon (execServiceWriteStall s) := by
  unfold execServiceWriteStall
  repeat' with_reducible first | assumption | (intro _) | apply canon_each | apply canon_setSlotState | apply canon_ite | apply resCanon_ite | apply resCanon_next | simp only [canon_mk] | apply canonT_of

theorem canon_execServiceDetach {s : State} (h : s.Canon) : ∀ a1 a2, ResCanon (execServiceDetach a1 a2 s) := by
  intro a1 a2
  unfold execServiceDetach
  repeat' with_reducible first | assumption | (intro _) | apply canon_put | apply canon_svcEnd | apply canon_ite | apply resCanon_ite | apply resCanon_next

theorem canon_execHeadsetUnplug {s : State} (h : s.Canon) : ∀ a1, ResCanon (execHeadsetUnplug a1 s) := by
  intro a1
  unfold execHeadsetUnplug
  repeat' with_reducible first | assumption | (intro _) | apply canon_put | apply canon_discSet | apply canon_ite | apply resCanon_ite | apply resCanon_next

theorem canon_execNightWatchWake {s : State} (h : s.Canon) : ∀ a1, ResCanon (execNightWatchWake a1 s) := by
  intro a1
  unfold execNightWatchWake
  repeat' with_reducible first | assumption | (intro _) | apply canon_nightExit | apply canon_whenB | apply canon_put | apply canon_ite | apply resCanon_ite | apply resCanon_next

theorem canon_execMarchDone {s : State} (h : s.Canon) : ∀ a1 a2 a3, ResCanon (execMarchDone a1 a2 a3 s) := by
  intro a1 a2 a3
  unfold execMarchDone
  repeat' with_reducible first | assumption | (intro _) | apply canon_marchEnd | apply canon_each | apply canon_rowRepair | apply canon_setSpm | apply canon_setSpmU | apply memSetBytes_wf | apply memClear_wf | apply wf_dram | apply wf_spm | exact memEmpty_wf | apply canon_ite | apply resCanon_ite | apply resCanon_next | apply canonT_of | dsimp only | split

theorem canon_execBlenDelayExpiry {s : State} (h : s.Canon) : ∀ a1, ResCanon (execBlenDelayExpiry a1 s) := by
  intro a1
  unfold execBlenDelayExpiry
  repeat' with_reducible first | assumption | (intro _) | apply canon_setPort | apply canon_ite | apply resCanon_ite | apply resCanon_next

theorem canon_execLcsKeyUpdate {s : State} (h : s.Canon) : ∀ a1, ResCanon (execLcsKeyUpdate a1 s) := by
  intro a1
  unfold execLcsKeyUpdate
  repeat' with_reducible first | assumption | (intro _) | apply canon_hostWrite | apply canon_lcsBegin | apply canon_lcsNote | apply canon_ite | apply resCanon_ite | apply resCanon_next

theorem canon_execModDormant {s : State} (h : s.Canon) : ∀ a1, ResCanon (execModDormant a1 s) := by
  intro a1
  unfold execModDormant
  repeat' with_reducible first | assumption | (intro _) | apply canon_hostWrite | apply canon_modAnswer | apply canon_put | apply canon_holdup | apply canon_hupRead | apply canon_wildStatus | apply canon_ite | apply resCanon_ite | apply resCanon_next

theorem canon_execHupBelow12v {s : State} (h : s.Canon) : ResCanon (execHupBelow12v s) := by
  unfold execHupBelow12v
  repeat' with_reducible first | assumption | (intro _) | apply canon_ite | apply resCanon_ite | apply resCanon_next | simp only [canon_mk] | apply canonT_of | dsimp only | split

theorem canon_execTafTest {s : State} (h : s.Canon) : ∀ a1 a2, ResCanon (execTafTest a1 a2 s) := by
  intro a1 a2
  unfold execTafTest
  repeat' with_reducible first | assumption | (intro _) | apply canon_hostWrite | apply canon_askTest | apply canon_ite | apply resCanon_ite | apply resCanon_next

theorem canon_execTrainAttemptDone {s : State} (h : s.Canon) : ∀ a1 a2, ResCanon (execTrainAttemptDone a1 a2 s) := by
  intro a1 a2
  unfold execTrainAttemptDone
  repeat' with_reducible first | assumption | (intro _) | apply canon_incSat | apply canon_attemptFail | apply canon_put | apply canon_setPort | apply canon_ite | apply resCanon_ite | apply resCanon_next | apply canonT_of | dsimp only | split

theorem canon_execLineClose {s : State} (h : s.Canon) : ∀ a1 a2, ResCanon (execLineClose a1 a2 s) := by
  intro a1 a2
  unfold execLineClose
  repeat' with_reducible first | assumption | (intro _) | apply canon_lineFree | apply canon_sendPacket | apply canon_event | apply canon_put | apply canon_setPipe | apply canon_lineClosed | apply canon_ite | apply resCanon_ite | apply resCanon_next | apply canonT_of | dsimp only | split

theorem canon_execStartWindowExpiry {s : State} (h : s.Canon) : ResCanon (execStartWindowExpiry s) := by
  unfold execStartWindowExpiry
  repeat' with_reducible first | assumption | (intro _) | apply canon_startBegin | apply canon_lcsCut | apply canon_armCut | apply canon_ite | apply resCanon_ite | apply resCanon_next

theorem canon_execCompositorStart {s : State} (h : s.Canon) : ∀ a1 a2, ResCanon (execCompositorStart a1 a2 s) := by
  intro a1 a2
  unfold execCompositorStart
  repeat' with_reducible first | assumption | (intro _) | apply canon_each | apply canon_saveEnd | apply canon_pauseCtx | apply canon_setRs | apply canon_setHs | apply canon_put | apply canon_ite | apply resCanon_ite | apply resCanon_next

theorem canon_execRstFuncReset {s : State} (h : s.Canon) : ∀ a1 a2 a3, ResCanon (execRstFuncReset a1 a2 a3 s) := by
  intro a1 a2 a3
  unfold execRstFuncReset
  repeat' with_reducible first | assumption | (intro _) | apply canon_hostWrite | refine canon_rstTurn_eq (by assumption) ?_ | apply canon_rstTurn | apply canon_rstDone | apply canon_wildStatus | apply canon_unpredictable | apply canon_unitReset | apply canon_ite | apply resCanon_ite | apply resCanon_next | apply canonT_of | dsimp only | split

theorem canon_execHapLoadCheckDone {s : State} (h : s.Canon) : ∀ a1 a2 a3, ResCanon (execHapLoadCheckDone a1 a2 a3 s) := by
  intro a1 a2 a3
  unfold execHapLoadCheckDone
  repeat' with_reducible first | assumption | (intro _) | apply canon_discId | apply canon_discSet | apply canon_ite | apply resCanon_ite | apply resCanon_next

theorem canon_execPlkEnable {s : State} (h : s.Canon) : ∀ a1, ResCanon (execPlkEnable a1 s) := by
  intro a1
  unfold execPlkEnable
  repeat' with_reducible first | assumption | (intro _) | apply canon_hostWrite | apply canon_put | refine canon_takeFree_eq (by assumption) ?_ | apply canon_takeFree | apply canon_setMemb | apply canon_ite | apply resCanon_ite | apply resCanon_next | simp only [canon_mk] | apply canonT_of

theorem canon_execPatHostEvent {s : State} (h : s.Canon) : ∀ a1 a2, ResCanon (execPatHostEvent a1 a2 s) := by
  intro a1 a2
  unfold execPatHostEvent
  repeat' with_reducible first | assumption | (intro _) | apply canon_hostWrite | apply canon_event | apply canon_ite | apply resCanon_ite | apply resCanon_next

theorem canon_execDomainShutdownDone {s : State} (h : s.Canon) : ∀ a1 a2, ResCanon (execDomainShutdownDone a1 a2 s) := by
  intro a1 a2
  unfold execDomainShutdownDone
  repeat' with_reducible first | assumption | (intro _) | apply canon_domRaise | apply canon_domGone | apply canon_plkFall | apply canon_pdomRaise | apply canon_pdomGone | apply canon_ite | apply resCanon_ite | apply resCanon_next | apply canonT_of | dsimp only | split

theorem canon_execInstFace {s : State} (h : s.Canon) : ∀ a1 a2 a3, ResCanon (execInstFace a1 a2 a3 s) := by
  intro a1 a2 a3
  unfold execInstFace
  repeat' with_reducible first | assumption | (intro _) | apply canon_hostWrite | apply canon_setInst | apply canon_hubBoundary | apply canon_instBusy | apply canon_ite | apply resCanon_ite | apply resCanon_next

theorem canon_execDramTrainingDone {s : State} (h : s.Canon) : ∀ a1 a2, ResCanon (execDramTrainingDone a1 a2 s) := by
  intro a1 a2
  unfold execDramTrainingDone
  repeat' with_reducible first | assumption | (intro _) | apply canon_trainFailed | apply canon_setHs | apply canon_putDmc | apply canon_halfGo | apply canon_ite | apply resCanon_ite | apply resCanon_next

theorem canon_execQuSpillTransfer {s : State} (h : s.Canon) : ∀ a1 a2 a3, ResCanon (execQuSpillTransfer a1 a2 a3 s) := by
  intro a1 a2 a3
  unfold execQuSpillTransfer
  repeat' with_reducible first | assumption | (intro _) | apply canon_quStore | apply canon_ite | apply resCanon_ite | apply resCanon_next

theorem canon_execTrainAttemptTimeout {s : State} (h : s.Canon) : ∀ a1, ResCanon (execTrainAttemptTimeout a1 s) := by
  intro a1
  unfold execTrainAttemptTimeout
  repeat' with_reducible first | assumption | (intro _) | apply canon_attemptFail | apply canon_incSat | apply canon_ite | apply resCanon_ite | apply resCanon_next | simp only [canon_mk] | apply canonT_of | dsimp only | split

theorem canon_execIckSinkNow {s : State} (h : s.Canon) : ∀ a1 a2, ResCanon (execIckSinkNow a1 a2 s) := by
  intro a1 a2
  unfold execIckSinkNow
  repeat' with_reducible first | assumption | (intro _) | apply canon_hostWrite | apply canon_sinkStart | apply canon_ite | apply resCanon_ite | apply resCanon_next

theorem canon_execTrustedClearDone {s : State} (h : s.Canon) : ∀ a1, ResCanon (execTrustedClearDone a1 s) := by
  intro a1
  unfold execTrustedClearDone
  repeat' with_reducible first | assumption | (intro _) | apply canon_clearRegs | apply canon_each | apply canon_trustedPageClear | apply canon_l2DropTrusted | apply canon_spmClear | apply canon_setHs | apply canon_restartRelease | apply canon_ite | apply resCanon_ite | apply resCanon_next

theorem canon_execRasterMemoryAccess {s : State} (h : s.Canon) : ∀ a1 a2 a3, ResCanon (execRasterMemoryAccess a1 a2 a3 s) := by
  intro a1 a2 a3
  unfold execRasterMemoryAccess
  repeat' with_reducible first | assumption | (intro _) | apply canon_rCompute | apply canon_rStep | apply canon_ite | apply resCanon_ite | apply resCanon_next

theorem canon_execParkComplete {s : State} (h : s.Canon) : ResCanon (execParkComplete s) := by
  unfold execParkComplete
  repeat' with_reducible first | assumption | (intro _) | apply canon_closeSnap | apply canon_scanDone | apply canon_flushN | apply canon_put | apply canon_moduleClear | apply canon_wakeBy | apply canon_startBegin | apply canon_ite | apply resCanon_ite | apply resCanon_next | simp only [canon_mk] | apply canonT_of | dsimp only | split

theorem canon_execRstHalfReset {s : State} (h : s.Canon) : ∀ a1 a2, ResCanon (execRstHalfReset a1 a2 s) := by
  intro a1 a2
  unfold execRstHalfReset
  repeat' with_reducible first | assumption | (intro _) | apply canon_hostWrite | refine canon_rstTurn_eq (by assumption) ?_ | apply canon_rstTurn | apply canon_rstDone | apply canon_halfResetReq | apply canon_ite | apply resCanon_ite | apply resCanon_next

theorem canon_execPorstNRelease {s : State} (h : s.Canon) : ∀ a1, ResCanon (execPorstNRelease a1 s) := by
  intro a1
  unfold execPorstNRelease
  repeat' with_reducible first | assumption | (intro _) | apply canon_startBegin | apply canon_put | apply canon_ite | apply resCanon_ite | apply resCanon_next | simp only [canon_mk] | apply canonT_of

theorem canon_execRearmChecksDone {s : State} (h : s.Canon) : ResCanon (execRearmChecksDone s) := by
  unfold execRearmChecksDone
  repeat' with_reducible first | assumption | (intro _) | apply canon_whenB | apply canon_put | apply canon_rearmStop | apply canon_loaderEvent | apply canon_rearmGo | apply canon_hoStart | apply canon_rearmFail | apply canon_ite | apply resCanon_ite | apply resCanon_next | simp only [canon_mk] | apply canonT_of | dsimp only | split

theorem canon_execCvuStart {s : State} (h : s.Canon) : ∀ a1 a2 a3, ResCanon (execCvuStart a1 a2 a3 s) := by
  intro a1 a2 a3
  unfold execCvuStart
  repeat' with_reducible first | assumption | (intro _) | apply canon_hostWrite | apply canon_unpredictable | apply canon_cvuCtrl | apply canon_setScan | apply canon_put | apply canon_ite | apply resCanon_ite | apply resCanon_next

theorem canon_execMworldWrite {s : State} (h : s.Canon) : ∀ a1 a2 a3, ResCanon (execMworldWrite a1 a2 a3 s) := by
  intro a1 a2 a3
  unfold execMworldWrite
  repeat' with_reducible first | assumption | (intro _) | refine canon_takeFree_eq (by assumption) ?_ | apply canon_takeFree | apply canon_put | apply canon_setMpart | apply canon_ite | apply resCanon_ite | apply resCanon_next

theorem canon_execPortFrameBoundary {s : State} (h : s.Canon) : ∀ a1 a2, ResCanon (execPortFrameBoundary a1 a2 s) := by
  intro a1 a2
  unfold execPortFrameBoundary
  repeat' with_reducible first | assumption | (intro _) | apply canon_each | apply canon_setPort | apply canon_qualFrame | apply canon_psrFrame | apply canon_blFrameEnd | apply canon_frameSource | apply canon_psrStep | apply canon_plinthTake | apply canon_darkRelease | apply canon_frameEnter | apply canon_frameLock | apply canon_rearmGo | apply canon_nightSettle | apply canon_frameStops | apply canon_ite | apply resCanon_ite | apply resCanon_next

theorem canon_execFailsClear {s : State} (h : s.Canon) : ResCanon (execFailsClear s) := by
  unfold execFailsClear
  repeat' with_reducible first | assumption | (intro _) | apply canon_setFails | apply canon_ite | apply resCanon_ite | apply resCanon_next | simp only [canon_mk] | apply canonT_of | dsimp only | split

theorem canon_execTamperEvent {s : State} (h : s.Canon) : ResCanon (execTamperEvent s) := by
  unfold execTamperEvent
  repeat' with_reducible first | assumption | (intro _) | apply canon_put | apply canon_wakeBy | apply canon_ite | apply resCanon_ite | apply resCanon_next

theorem canon_execPeerRetry {s : State} (h : s.Canon) : ∀ a1 a2 a3, ResCanon (execPeerRetry a1 a2 a3 s) := by
  intro a1 a2 a3
  unfold execPeerRetry
  repeat' with_reducible first | assumption | (intro _) | apply canon_txNew | apply canon_tecUp | apply canon_peerEmit | apply canon_ite | apply resCanon_ite | apply resCanon_next | apply canonT_of | dsimp only | split

theorem canon_execNdmreset {s : State} (h : s.Canon) : ∀ a1, ResCanon (execNdmreset a1 s) := by
  intro a1
  unfold execNdmreset
  repeat' with_reducible first | assumption | (intro _) | apply canon_halfResetReq | apply canon_ite | apply resCanon_ite | apply resCanon_next

theorem canon_execDiscoveryRetry {s : State} (h : s.Canon) : ∀ a1, ResCanon (execDiscoveryRetry a1 s) := by
  intro a1
  unfold execDiscoveryRetry
  repeat' with_reducible first | assumption | (intro _) | apply canon_probe | apply canon_ite | apply resCanon_ite | apply resCanon_next

theorem canon_execAudCopyDone {s : State} (h : s.Canon) : ResCanon (execAudCopyDone s) := by
  unfold execAudCopyDone
  repeat' with_reducible first | assumption | (intro _) | apply canon_put | apply canon_ite | apply resCanon_ite | apply resCanon_next | simp only [canon_mk] | apply canonT_of

theorem canon_execPatinaMramWrite {s : State} (h : s.Canon) : ∀ a1, ResCanon (execPatinaMramWrite a1 s) := by
  intro a1
  unfold execPatinaMramWrite
  repeat' with_reducible first | assumption | (intro _) | apply canon_flushN | apply canon_ite | apply resCanon_ite | apply resCanon_next | simp only [canon_mk] | apply canonT_of

theorem canon_execTdmFrameSlip {s : State} (h : s.Canon) : ∀ a1 a2, ResCanon (execTdmFrameSlip a1 a2 s) := by
  intro a1 a2
  unfold execTdmFrameSlip
  repeat' with_reducible first | assumption | (intro _) | apply canon_funcEvent | apply canon_ite | apply resCanon_ite | apply resCanon_next | simp only [canon_mk] | apply canonT_of

theorem canon_execArmCopyDone {s : State} (h : s.Canon) : ResCanon (execArmCopyDone s) := by
  unfold execArmCopyDone
  repeat' with_reducible first | assumption | (intro _) | apply canon_armBroken | apply canon_armCopyTo | apply canon_ite | apply resCanon_ite | apply resCanon_next | simp only [canon_mk] | apply canonT_of | dsimp only | split

theorem canon_execArmEraseDone {s : State} (h : s.Canon) : ResCanon (execArmEraseDone s) := by
  unfold execArmEraseDone
  split
  · exact h
  · next o _ =>
    have hm : State.Canon { s with mram := memClear s.mram (slotBase o.slot) slotSize } := ⟨h.1, memClear_wf _ _ _ h.2.1, h.2.2⟩
    exact resCanon_ite h (resCanon_ite (canon_armBroken h _) (canon_armEnd (canon_setSlotGen (canon_setSlotState hm _ _) _ _) _ _))

theorem canon_execPowerOn {s : State} (h : s.Canon) : ∀ a1, ResCanon (execPowerOn a1 s) := by
  intro a1
  unfold execPowerOn
  repeat' with_reducible first | assumption | (intro _) | apply canon_wakeBy | apply canon_startBegin | apply canon_ite | apply resCanon_ite | apply resCanon_next | simp only [canon_mk] | apply canonT_of

theorem canon_execArbitration {s : State} (h : s.Canon) : ∀ a1, ResCanon (execArbitration a1 s) := by
  intro a1
  unfold execArbitration
  repeat' with_reducible first | assumption | (intro _) | apply canon_arbitrate | apply canon_ite | apply resCanon_ite | apply resCanon_next

theorem canon_execPeriodicTraining {s : State} (h : s.Canon) : ∀ a1 a2 a3, ResCanon (execPeriodicTraining a1 a2 a3 s) := by
  intro a1 a2 a3
  unfold execPeriodicTraining
  repeat' with_reducible first | assumption | (intro _) | apply canon_setHs | apply canon_ite | apply resCanon_ite | apply resCanon_next

theorem canon_execSvcProvision {s : State} (h : s.Canon) : ∀ a1, ResCanon (execSvcProvision a1 s) := by
  intro a1
  unfold execSvcProvision
  repeat' with_reducible first | assumption | (intro _) | apply canon_lcsBegin | apply canon_ite | apply resCanon_ite | apply resCanon_next

theorem canon_execAudioSample {s : State} (h : s.Canon) : ∀ a1, ResCanon (execAudioSample a1 s) := by
  intro a1
  unfold execAudioSample
  repeat' with_reducible first | assumption | (intro _) | apply canon_plinthTake | apply canon_put | apply canon_each | apply canon_meter | apply canon_ite | apply resCanon_ite | apply resCanon_next | simp only [canon_mk] | apply canonT_of | dsimp only | split

theorem canon_execComposeResume {s : State} (h : s.Canon) : ∀ a1 a2, ResCanon (execComposeResume a1 a2 s) := by
  intro a1 a2
  unfold execComposeResume
  repeat' with_reducible first | assumption | (intro _) | apply canon_composeStart | apply canon_setPipe | apply canon_ite | apply resCanon_ite | apply resCanon_next

theorem canon_execRcxResume {s : State} (h : s.Canon) : ∀ a1 a2, ResCanon (execRcxResume a1 a2 s) := by
  intro a1 a2
  unfold execRcxResume
  repeat' with_reducible first | assumption | (intro _) | apply canon_hostWrite | apply canon_setRs | apply canon_ite | apply resCanon_ite | apply resCanon_next

theorem canon_execPcsTransmitFault {s : State} (h : s.Canon) : ∀ a1, ResCanon (execPcsTransmitFault a1 s) := by
  intro a1
  unfold execPcsTransmitFault
  repeat' with_reducible first | assumption | (intro _) | apply canon_txNew | apply canon_tecUp | apply canon_ite | apply resCanon_ite | apply resCanon_next

theorem canon_execArmWrite {s : State} (h : s.Canon) : ∀ a1 a2, ResCanon (execArmWrite a1 a2 s) := by
  intro a1 a2
  unfold execArmWrite
  repeat' with_reducible first | assumption | (intro _) | apply canon_armCommand | apply canon_armAnswer | apply canon_armWild | apply canon_setSlotState | apply canon_armStart | apply canon_ite | apply resCanon_ite | apply resCanon_next

theorem canon_execHpdUnplug {s : State} (h : s.Canon) : ∀ a1, ResCanon (execHpdUnplug a1 s) := by
  intro a1
  unfold execHpdUnplug
  repeat' with_reducible first | assumption | (intro _) | apply canon_setPort | apply canon_hpdDown | apply canon_ite | apply resCanon_ite | apply resCanon_next

theorem canon_execNeighbourTimeout {s : State} (h : s.Canon) : ∀ a1, ResCanon (execNeighbourTimeout a1 s) := by
  intro a1
  unfold execNeighbourTimeout
  repeat' with_reducible first | assumption | (intro _) | apply canon_discSet | apply canon_ite | apply resCanon_ite | apply resCanon_next

theorem canon_execRcxSuspend {s : State} (h : s.Canon) : ∀ a1 a2, ResCanon (execRcxSuspend a1 a2 s) := by
  intro a1 a2
  unfold execRcxSuspend
  repeat' with_reducible first | assumption | (intro _) | apply canon_hostWrite | apply canon_setCtx | apply canon_rStopAt | apply canon_ite | apply resCanon_ite | apply resCanon_next

theorem canon_execPeerPortLink {s : State} (h : s.Canon) : ∀ a1 a2, ResCanon (execPeerPortLink a1 a2 s) := by
  intro a1 a2
  unfold execPeerPortLink
  repeat' with_reducible first | assumption | (intro _) | apply canon_txNew | apply canon_plkLink | apply canon_plkRise | apply canon_whenB | apply canon_imageReq | apply canon_plkFall | apply canon_ite | apply resCanon_ite | apply resCanon_next

theorem canon_execMModeTrap {s : State} (h : s.Canon) : ∀ a1 a2, ResCanon (execMModeTrap a1 a2 s) := by
  intro a1 a2
  unfold execMModeTrap
  repeat' with_reducible first | assumption | (intro _) | apply canon_setHart | apply canon_trapM | apply canon_ite | apply resCanon_ite | apply resCanon_next

theorem canon_execPwrReqWrite {s : State} (h : s.Canon) : ∀ a1 a2, ResCanon (execPwrReqWrite a1 a2 s) := by
  intro a1 a2
  unfold execPwrReqWrite
  repeat' with_reducible first | assumption | (intro _) | apply canon_hostWrite | refine canon_takeFree_eq (by assumption) ?_ | apply canon_takeFree | apply canon_domRaise | apply canon_put | apply canon_ite | apply resCanon_ite | apply resCanon_next

theorem canon_execCaptureRefDone {s : State} (h : s.Canon) : ResCanon (execCaptureRefDone s) := by
  unfold execCaptureRefDone
  repeat' with_reducible first | assumption | (intro _) | apply canon_captureEnd | apply canon_ite | apply resCanon_ite | apply resCanon_next

theorem canon_execScrubSlotDone {s : State} (h : s.Canon) : ResCanon (execScrubSlotDone s) := by
  unfold execScrubSlotDone
  repeat' with_reducible first | assumption | (intro _) | apply canon_loaderEvent | apply canon_setSlotState | apply canon_ite | apply resCanon_ite | apply resCanon_next | simp only [canon_mk] | apply canonT_of | dsimp only | split

theorem canon_execPeerTimeout {s : State} (h : s.Canon) : ∀ a1 a2, ResCanon (execPeerTimeout a1 a2 s) := by
  intro a1 a2
  unfold execPeerTimeout
  repeat' with_reducible first | assumption | (intro _) | apply canon_txNew | apply canon_migEnd | apply canon_alarmEnd | apply canon_ite | apply resCanon_ite | apply resCanon_next | simp only [canon_mk] | apply canonT_of | dsimp only | split

theorem canon_execCmpGo {s : State} (h : s.Canon) : ∀ a1 a2, ResCanon (execCmpGo a1 a2 s) := by
  intro a1 a2
  unfold execCmpGo
  repeat' with_reducible first | assumption | (intro _) | apply canon_hostWrite | apply canon_put | apply canon_ite | apply resCanon_ite | apply resCanon_next

theorem canon_execCvuStop {s : State} (h : s.Canon) : ∀ a1 a2, ResCanon (execCvuStop a1 a2 s) := by
  intro a1 a2
  unfold execCvuStop
  repeat' with_reducible first | assumption | (intro _) | apply canon_hostWrite | apply canon_cvuHalt | apply canon_ite | apply resCanon_ite | apply resCanon_next

theorem canon_execHandoverTimeout {s : State} (h : s.Canon) : ∀ a1, ResCanon (execHandoverTimeout a1 s) := by
  intro a1
  unfold execHandoverTimeout
  repeat' with_reducible first | assumption | (intro _) | apply canon_rearmGo | apply canon_hoEnd | apply canon_ite | apply resCanon_ite | apply resCanon_next | simp only [canon_mk] | apply canonT_of | dsimp only | split

theorem canon_execSpmOffClearDone {s : State} (h : s.Canon) : ∀ a1 a2, ResCanon (execSpmOffClearDone a1 a2 s) := by
  intro a1 a2
  unfold execSpmOffClearDone
  repeat' with_reducible first | assumption | (intro _) | apply canon_setSpm | apply canon_setSpmState | apply memSetBytes_wf | apply memClear_wf | apply wf_dram | apply wf_spm | exact memEmpty_wf | apply canon_ite | apply resCanon_ite | apply resCanon_next

theorem canon_execRtcAlarm {s : State} (h : s.Canon) : ResCanon (execRtcAlarm s) := by
  unfold execRtcAlarm
  repeat' with_reducible first | assumption | (intro _) | apply canon_wakeBy | apply canon_ite | apply resCanon_ite | apply resCanon_next

theorem canon_execHalfPark {s : State} (h : s.Canon) : ∀ a1, ResCanon (execHalfPark a1 s) := by
  intro a1
  unfold execHalfPark
  repeat' with_reducible first | assumption | (intro _) | apply canon_parkHalf | apply canon_unparkHalf | apply canon_ite | apply resCanon_ite | apply resCanon_next | apply canonT_of | dsimp only | split

theorem canon_execGptpPdelayReq {s : State} (h : s.Canon) : ∀ a1, ResCanon (execGptpPdelayReq a1 s) := by
  intro a1
  unfold execGptpPdelayReq
  repeat' with_reducible first | assumption | (intro _) | refine canon_gptpRx_eq (by assumption) ?_ | apply canon_gptpRx | apply canon_gptpEmit | apply canon_ite | apply resCanon_ite | apply resCanon_next | simp only [canon_mk] | apply canonT_of

theorem canon_execLcsService {s : State} (h : s.Canon) : ∀ a1, ResCanon (execLcsService a1 s) := by
  intro a1
  unfold execLcsService
  repeat' with_reducible first | assumption | (intro _) | apply canon_hostWrite | apply canon_lcsBegin | apply canon_ite | apply resCanon_ite | apply resCanon_next

theorem canon_execFetchChunkArrival {s : State} (h : s.Canon) : ∀ a1 a2, ResCanon (execFetchChunkArrival a1 a2 s) := by
  intro a1 a2
  unfold execFetchChunkArrival
  repeat' with_reducible first | assumption | (intro _) | apply canon_fetchStep | apply canon_setPipe | apply canon_ite | apply resCanon_ite | apply resCanon_next | apply canonT_of | dsimp only | split

theorem canon_execInstanceTimeout {s : State} (h : s.Canon) : ∀ a1 a2, ResCanon (execInstanceTimeout a1 a2 s) := by
  intro a1 a2
  unfold execInstanceTimeout
  repeat' with_reducible first | assumption | (intro _) | refine canon_takeFree_eq (by assumption) ?_ | apply canon_takeFree | apply canon_setInst | apply canon_mboxWrite | apply canon_setReg | apply canon_hubFinish | apply canon_forward | apply canon_windowPut | apply canon_ite | apply resCanon_ite | apply resCanon_next | apply canonT_of | dsimp only | split

theorem canon_execHeartbeatSend {s : State} (h : s.Canon) : ∀ a1, ResCanon (execHeartbeatSend a1 s) := by
  intro a1
  unfold execHeartbeatSend
  repeat' with_reducible first | assumption | (intro _) | apply canon_setHs | apply canon_ite | apply resCanon_ite | apply resCanon_next

theorem canon_execRearmQualTimeout {s : State} (h : s.Canon) : ∀ a1, ResCanon (execRearmQualTimeout a1 s) := by
  intro a1
  unfold execRearmQualTimeout
  repeat' with_reducible first | assumption | (intro _) | apply canon_rearmFail | apply canon_ite | apply resCanon_ite | apply resCanon_next | simp only [canon_mk] | apply canonT_of | dsimp only | split

theorem canon_execPatLock {s : State} (h : s.Canon) : ∀ a1 a2, ResCanon (execPatLock a1 a2 s) := by
  intro a1 a2
  unfold execPatLock
  repeat' with_reducible first | assumption | (intro _) | apply canon_hostWrite | apply canon_setLock | apply canon_ite | apply resCanon_ite | apply resCanon_next

theorem canon_execGptpSync {s : State} (h : s.Canon) : ∀ a1 a2, ResCanon (execGptpSync a1 a2 s) := by
  intro a1 a2
  unfold execGptpSync
  repeat' with_reducible first | assumption | (intro _) | refine canon_gptpRx_eq (by assumption) ?_ | apply canon_gptpRx | apply canon_gptpRelay | apply canon_put | apply canon_slew | apply canon_lockRefreshAll | apply canon_ite | apply resCanon_ite | apply resCanon_next | simp only [canon_mk] | apply canonT_of

theorem canon_execPatinaScanDone {s : State} (h : s.Canon) : ResCanon (execPatinaScanDone s) := by
  unfold execPatinaScanDone
  repeat' with_reducible first | assumption | (intro _) | apply canon_scanDone | apply canon_ite | apply resCanon_ite | apply resCanon_next

theorem canon_execMirrorWriteApply {s : State} (h : s.Canon) : ∀ a1, ResCanon (execMirrorWriteApply a1 s) := by
  intro a1
  unfold execMirrorWriteApply
  repeat' with_reducible first | assumption | (intro _) | apply canon_mirrorApply | apply canon_slotNext | apply canon_ite | apply resCanon_ite | apply resCanon_next | apply canonT_of | dsimp only | split

theorem canon_execHostGone {s : State} (h : s.Canon) : ∀ a1, ResCanon (execHostGone a1 s) := by
  intro a1
  unfold execHostGone
  repeat' with_reducible first | assumption | (intro _) | apply canon_each | apply canon_setInst | apply canon_instFrozen | apply canon_whenB | apply canon_heldEnd | apply canon_instDone | apply canon_askDone | apply canon_hubBoundary | apply canon_ite | apply resCanon_ite | apply resCanon_next

theorem canon_execFenceComplete {s : State} (h : s.Canon) : ∀ a1 a2, ResCanon (execFenceComplete a1 a2 s) := by
  intro a1 a2
  unfold execFenceComplete
  repeat' with_reducible first | assumption | (intro _) | apply canon_l2Out | apply canon_l1Out | apply canon_fenceWrite | apply canon_arbitrate | apply canon_rFaulted | apply canon_jobDone | apply canon_ite | apply resCanon_ite | apply resCanon_next | apply canonT_of | dsimp only | split

theorem canon_execServiceAttach {s : State} (h : s.Canon) : ∀ a1, ResCanon (execServiceAttach a1 s) := by
  intro a1
  unfold execServiceAttach
  repeat' with_reducible first | assumption | (intro _) | apply canon_put | apply canon_incSat | apply canon_ite | apply resCanon_ite | apply resCanon_next

theorem canon_execHapControlSample {s : State} (h : s.Canon) : ∀ a1 a2 a3, ResCanon (execHapControlSample a1 a2 a3 s) := by
  intro a1 a2 a3
  unfold execHapControlSample
  repeat' with_reducible first | assumption | (intro _) | apply canon_setChan | apply canon_setHap | apply canon_hapAbort | apply canon_hapTake | apply canon_hapFoldStep | apply canon_hapIdle | apply canon_whenB | apply canon_ite | apply resCanon_ite | apply resCanon_next | apply canonT_of | dsimp only | split

theorem canon_execHoldoverExpiry {s : State} (h : s.Canon) : ∀ a1, ResCanon (execHoldoverExpiry a1 s) := by
  intro a1
  unfold execHoldoverExpiry
  repeat' with_reducible first | assumption | (intro _) | apply canon_put | apply canon_ite | apply resCanon_ite | apply resCanon_next

theorem canon_execTafMode {s : State} (h : s.Canon) : ∀ a1 a2 a3, ResCanon (execTafMode a1 a2 a3 s) := by
  intro a1 a2 a3
  unfold execTafMode
  repeat' with_reducible first | assumption | (intro _) | apply canon_hostWrite | apply canon_unpredictable | apply canon_put | apply canon_ite | apply resCanon_ite | apply resCanon_next

theorem canon_execMarchRowDone {s : State} (h : s.Canon) : ∀ a1 a2 a3 a4 a5, ResCanon (execMarchRowDone a1 a2 a3 a4 a5 s) := by
  intro a1 a2 a3 a4 a5
  unfold execMarchRowDone
  repeat' with_reducible first | assumption | (intro _) | apply canon_whenB | apply canon_rowRepair | apply canon_each | apply canon_spmInvert | apply canon_marchEnd | apply canon_ite | apply resCanon_ite | apply resCanon_next | apply canonT_of | dsimp only | split

theorem canon_execContactStale {s : State} (h : s.Canon) : ∀ a1 a2, ResCanon (execContactStale a1 a2 s) := by
  intro a1 a2
  unfold execContactStale
  repeat' with_reducible first | assumption | (intro _) | apply canon_setSrc | apply canon_ite | apply resCanon_ite | apply resCanon_next | apply canonT_of | dsimp only | split

theorem canon_execPeerLock {s : State} (h : s.Canon) : ∀ a1 a2 a3 a4, ResCanon (execPeerLock a1 a2 a3 a4 s) := by
  intro a1 a2 a3 a4
  unfold execPeerLock
  repeat' with_reducible first | assumption | (intro _) | refine canon_peerAccept_eq (by assumption) ?_ | apply canon_peerAccept | apply canon_txNew | apply canon_relay | apply canon_membRefresh | apply canon_ite | apply resCanon_ite | apply resCanon_next | simp only [canon_mk] | apply canonT_of

theorem canon_execHubCommit {s : State} (h : s.Canon) : ∀ a1 a2 a3 a4 a5, ResCanon (execHubCommit a1 a2 a3 a4 a5 s) := by
  intro a1 a2 a3 a4 a5
  unfold execHubCommit
  repeat' with_reducible first | assumption | (intro _) | apply canon_hubCommand | apply canon_setReg | apply canon_setInst | apply canon_commitCopy | apply canon_ite | apply resCanon_ite | apply resCanon_next

theorem canon_execRcxPrioWrite {s : State} (h : s.Canon) : ∀ a1 a2 a3, ResCanon (execRcxPrioWrite a1 a2 a3 s) := by
  intro a1 a2 a3
  unfold execRcxPrioWrite
  repeat' with_reducible first | assumption | (intro _) | apply canon_hostWrite | apply canon_rWild | apply canon_whenB | apply canon_put | apply canon_arbitrate | apply canon_setCtx | apply canon_ite | apply resCanon_ite | apply resCanon_next

theorem canon_execResetNotice {s : State} (h : s.Canon) : ∀ a1, ResCanon (execResetNotice a1 s) := by
  intro a1
  unfold execResetNotice
  repeat' with_reducible first | assumption | (intro _) | apply canon_rearmGo | apply canon_halfNotice | apply canon_ite | apply resCanon_ite | apply resCanon_next

theorem canon_execDebugHaltRequest {s : State} (h : s.Canon) : ∀ a1 a2, ResCanon (execDebugHaltRequest a1 a2 s) := by
  intro a1 a2
  unfold execDebugHaltRequest
  repeat' with_reducible first | assumption | (intro _) | apply canon_haltCheck | apply canon_setHart | apply canon_ite | apply resCanon_ite | apply resCanon_next

theorem canon_execJobComplete {s : State} (h : s.Canon) : ∀ a1 a2, ResCanon (execJobComplete a1 a2 s) := by
  intro a1 a2
  unfold execJobComplete
  repeat' with_reducible first | assumption | (intro _) | apply canon_arbitrate | apply canon_rFaulted | apply canon_jobDone | apply canon_ite | apply resCanon_ite | apply resCanon_next | simp only [canon_mk] | apply canonT_of | dsimp only | split

theorem canon_execInstReset {s : State} (h : s.Canon) : ∀ a1 a2, ResCanon (execInstReset a1 a2 s) := by
  intro a1 a2
  unfold execInstReset
  repeat' with_reducible first | assumption | (intro _) | apply canon_hostWrite | apply canon_instDone | apply canon_hubReset | apply canon_forward | apply canon_ite | apply resCanon_ite | apply resCanon_next

theorem canon_execSpmMarchD {s : State} (h : s.Canon) : ∀ a1 a2, ResCanon (execSpmMarchD a1 a2 s) := by
  intro a1 a2
  unfold execSpmMarchD
  repeat' with_reducible first | assumption | (intro _) | apply canon_hostWrite | apply canon_spmLeaves | apply canon_marchStart | apply canon_ite | apply resCanon_ite | apply resCanon_next

theorem canon_execPatUnlock {s : State} (h : s.Canon) : ∀ a1 a2, ResCanon (execPatUnlock a1 a2 s) := by
  intro a1 a2
  unfold execPatUnlock
  repeat' with_reducible first | assumption | (intro _) | apply canon_hostWrite | apply canon_setLock | apply canon_ite | apply resCanon_ite | apply resCanon_next

theorem canon_execHeartbeatTimeout {s : State} (h : s.Canon) : ∀ a1, ResCanon (execHeartbeatTimeout a1 s) := by
  intro a1
  unfold execHeartbeatTimeout
  repeat' with_reducible first | assumption | (intro _) | apply canon_rearmGo | apply canon_halfResetReq | apply canon_syncCheck | apply canon_declareLost | apply canon_ite | apply resCanon_ite | apply resCanon_next

theorem canon_execDmcBeWrite {s : State} (h : s.Canon) : ∀ a1 a2 a3, ResCanon (execDmcBeWrite a1 a2 a3 s) := by
  intro a1 a2 a3
  unfold execDmcBeWrite
  repeat' with_reducible first | assumption | (intro _) | apply canon_hostWrite | apply canon_unpredictable | apply canon_setReg | apply canon_ite | apply resCanon_ite | apply resCanon_next

theorem canon_execPorstNAssert {s : State} (h : s.Canon) : ResCanon (execPorstNAssert s) := by
  unfold execPorstNAssert
  repeat' with_reducible first | assumption | (intro _) | apply canon_moduleClear | apply canon_lcsCut | apply canon_armCut | apply canon_put | apply canon_ite | apply resCanon_ite | apply resCanon_next | simp only [canon_mk] | apply canonT_of

theorem canon_execKalInc {s : State} (h : s.Canon) : ∀ a1 a2, ResCanon (execKalInc a1 a2 s) := by
  intro a1 a2
  unfold execKalInc
  repeat' with_reducible first | assumption | (intro _) | apply canon_hostWrite | apply canon_each | apply canon_incSat | apply canon_ite | apply resCanon_ite | apply resCanon_next

theorem canon_execDramZeroFillDone {s : State} (h : s.Canon) : ∀ a1 a2, ResCanon (execDramZeroFillDone a1 a2 s) := by
  intro a1 a2
  unfold execDramZeroFillDone
  repeat' with_reducible first | assumption | (intro _) | apply canon_setHs | apply canon_setDram | apply canon_putDmc | apply canon_halfGo | apply canon_segClear | apply memSetBytes_wf | apply memClear_wf | apply wf_dram | apply wf_spm | exact memEmpty_wf | apply canon_ite | apply resCanon_ite | apply resCanon_next | apply canonT_of | dsimp only | split

theorem canon_execWldDbgWrite {s : State} (h : s.Canon) : ∀ a1 a2, ResCanon (execWldDbgWrite a1 a2 s) := by
  intro a1 a2
  unfold execWldDbgWrite
  repeat' with_reducible first | assumption | (intro _) | apply canon_hostWrite | apply canon_unpredictable | apply canon_put | apply canon_dbgMeasure | apply canon_each | apply canon_haltCheck | apply canon_ite | apply resCanon_ite | apply resCanon_next

theorem canon_execLcsRetire {s : State} (h : s.Canon) : ∀ a1 a2, ResCanon (execLcsRetire a1 a2 s) := by
  intro a1 a2
  unfold execLcsRetire
  repeat' with_reducible first | assumption | (intro _) | apply canon_hostWrite | apply canon_lcsBegin | apply canon_ite | apply resCanon_ite | apply resCanon_next

theorem canon_execDramSlot {s : State} (h : s.Canon) : ∀ k c rs b, ResCanon (execDramSlot k c rs b s) := by
  intro k c rs b
  unfold execDramSlot
  have ha : State.Canon (s.each rs fun r s => s.dramArrive k r) := canon_each h fun r t ht => canon_dramArrive ht _ _
  revert ha
  generalize State.each s rs _ = t
  intro ht
  have hn := canon_slotNext ht k c
  revert hn
  refine fun hn => resCanon_ite ht ?_
  dsimp only
  split
  · exact hn
  · exact canon_setHs hn _ _
  · exact canon_ite (canon_setHs hn _ _) (canon_alert (canon_put (canon_setHs hn _ _) _ _ _))
  · exact canon_slotGrant hn _ _

theorem canon_execMfenceAcknowledge {s : State} (h : s.Canon) : ∀ a1, ResCanon (execMfenceAcknowledge a1 s) := by
  intro a1
  unfold execMfenceAcknowledge
  repeat' with_reducible first | assumption | (intro _) | apply canon_mfenceCheck | apply canon_ite | apply resCanon_ite | apply resCanon_next

theorem canon_execPciPresenceChange {s : State} (h : s.Canon) : ∀ a1 a2, ResCanon (execPciPresenceChange a1 a2 s) := by
  intro a1 a2
  unfold execPciPresenceChange
  repeat' with_reducible first | assumption | (intro _) | apply canon_setPciIn | apply canon_discSet | apply canon_put | apply canon_discId | apply canon_pciDown | apply canon_ite | apply resCanon_ite | apply resCanon_next | apply canonT_of | dsimp only | split

theorem canon_execPlinthSwitch {s : State} (h : s.Canon) : ResCanon (execPlinthSwitch s) := by
  unfold execPlinthSwitch
  repeat' with_reducible first | assumption | (intro _) | apply canon_plinthTake | apply canon_ite | apply resCanon_ite | apply resCanon_next | simp only [canon_mk] | apply canonT_of | dsimp only | split

theorem canon_execPeerMigrate {s : State} (h : s.Canon) : ∀ p hdr x f d, ResCanon (execPeerMigrate p hdr x f d s) := by
  intro p hdr x f d
  unfold execPeerMigrate
  repeat' with_reducible first | assumption | (intro _) | refine canon_peerAccept_eq (by with_reducible assumption) ?_ | apply canon_peerAccept | apply canon_txNew | apply canon_relay | apply canon_migTake | apply canon_ite | apply resCanon_ite | apply resCanon_next

theorem canon_execTwnMirSrcWrite {s : State} (h : s.Canon) : ∀ a1 a2, ResCanon (execTwnMirSrcWrite a1 a2 s) := by
  intro a1 a2
  unfold execTwnMirSrcWrite
  repeat' with_reducible first | assumption | (intro _) | apply canon_hostWrite | apply canon_unpredictable | apply canon_setHs | apply canon_ite | apply resCanon_ite | apply resCanon_next

theorem canon_execRasterTierReport {s : State} (h : s.Canon) : ∀ a1 a2, ResCanon (execRasterTierReport a1 a2 s) := by
  intro a1 a2
  unfold execRasterTierReport
  repeat' with_reducible first | assumption | (intro _) | apply canon_put | apply canon_each | apply canon_setRs | apply canon_rStopAt | apply canon_setHs | apply canon_ite | apply resCanon_ite | apply resCanon_next

theorem canon_execPeerImageData {s : State} (h : s.Canon) : ∀ a1 a2 a3 a4 a5, ResCanon (execPeerImageData a1 a2 a3 a4 a5 s) := by
  intro a1 a2 a3 a4 a5
  unfold execPeerImageData
  repeat' with_reducible first | assumption | (intro _) | refine canon_peerGood_eq (by assumption) ?_ | apply canon_peerGood | apply canon_txNew | apply canon_imageBytes | apply canon_imageEnd | apply canon_imageReq | apply canon_ite | apply resCanon_ite | apply resCanon_next | simp only [canon_mk] | apply canonT_of

theorem canon_execHubLayerOff {s : State} (h : s.Canon) : ∀ a1 a2 a3 a4 a5, ResCanon (execHubLayerOff a1 a2 a3 a4 a5 s) := by
  intro a1 a2 a3 a4 a5
  unfold execHubLayerOff
  repeat' with_reducible first | assumption | (intro _) | apply canon_hubCommand | apply canon_unpredictable | apply canon_setInst | apply canon_hubComplete | apply canon_forward | apply canon_ite | apply resCanon_ite | apply resCanon_next

theorem canon_execTouchFrameSlot {s : State} (h : s.Canon) : ∀ a1 a2 a3, ResCanon (execTouchFrameSlot a1 a2 a3 s) := by
  intro a1 a2 a3
  unfold execTouchFrameSlot
  repeat' with_reducible first | assumption | (intro _) | apply canon_plinthTake | apply canon_setSrc | apply canon_touchFlood | apply canon_srcPut | apply canon_setSrcState | apply canon_ite | apply resCanon_ite | apply resCanon_next

theorem canon_execPeerMigDone {s : State} (h : s.Canon) : ∀ a1 a2 a3 a4, ResCanon (execPeerMigDone a1 a2 a3 a4 s) := by
  intro a1 a2 a3 a4
  unfold execPeerMigDone
  repeat' with_reducible first | assumption | (intro _) | refine canon_peerAccept_eq (by assumption) ?_ | apply canon_peerAccept | apply canon_txNew | apply canon_relay | apply canon_migEnd | apply canon_ite | apply resCanon_ite | apply resCanon_next

theorem canon_execHalfResetRequest {s : State} (h : s.Canon) : ∀ a1 a2, ResCanon (execHalfResetRequest a1 a2 s) := by
  intro a1 a2
  unfold execHalfResetRequest
  repeat' with_reducible first | assumption | (intro _) | apply canon_halfResetReq | apply canon_ite | apply resCanon_ite | apply resCanon_next

theorem canon_execSpmAbort {s : State} (h : s.Canon) : ∀ a1 a2, ResCanon (execSpmAbort a1 a2 s) := by
  intro a1 a2
  unfold execSpmAbort
  repeat' with_reducible first | assumption | (intro _) | apply canon_hostWrite | apply canon_setSpmU | apply canon_ite | apply resCanon_ite | apply resCanon_next | apply canonT_of | dsimp only | split

theorem canon_execPairRejoin {s : State} (h : s.Canon) : ∀ a1 a2, ResCanon (execPairRejoin a1 a2 s) := by
  intro a1 a2
  unfold execPairRejoin
  repeat' with_reducible first | assumption | (intro _) | apply canon_hostWrite | apply canon_each | apply canon_setPort | apply canon_pairDone | apply canon_ite | apply resCanon_ite | apply resCanon_next

theorem canon_execMret {s : State} (h : s.Canon) : ∀ a1 a2, ResCanon (execMret a1 a2 s) := by
  intro a1 a2
  unfold execMret
  repeat' with_reducible first | assumption | (intro _) | apply canon_worldSet | apply canon_setHart | apply canon_openTake | apply canon_haltCheck | apply canon_ite | apply resCanon_ite | apply resCanon_next

theorem canon_execMsiWrite {s : State} (h : s.Canon) : ∀ a1 a2 a3 a4 a5, ResCanon (execMsiWrite a1 a2 a3 a4 a5 s) := by
  intro a1 a2 a3 a4 a5
  unfold execMsiWrite
  repeat' with_reducible first | assumption | (intro _) | apply canon_setHart | apply canon_incSat | apply canon_openTake | apply canon_ite | apply resCanon_ite | apply resCanon_next

theorem canon_execVioOverload {s : State} (h : s.Canon) : ∀ a1, ResCanon (execVioOverload a1 s) := by
  intro a1
  unfold execVioOverload
  repeat' with_reducible first | assumption | (intro _) | apply canon_put | apply canon_funcEvent | apply canon_alert | apply canon_ite | apply resCanon_ite | apply resCanon_next | simp only [canon_mk] | apply canonT_of

theorem canon_execPairCancel {s : State} (h : s.Canon) : ∀ a1, ResCanon (execPairCancel a1 s) := by
  intro a1
  unfold execPairCancel
  repeat' with_reducible first | assumption | (intro _) | apply canon_hostWrite | apply canon_pairDone | apply canon_rearmGo | apply canon_hoEndAll | apply canon_ite | apply resCanon_ite | apply resCanon_next | simp only [canon_mk] | apply canonT_of | dsimp only | split

theorem canon_execHpdPlug {s : State} (h : s.Canon) : ∀ a1, ResCanon (execHpdPlug a1 s) := by
  intro a1
  unfold execHpdPlug
  repeat' with_reducible first | assumption | (intro _) | apply canon_setPort | apply canon_hpdUp | apply canon_ite | apply resCanon_ite | apply resCanon_next

theorem canon_execInspectionStep {s : State} (h : s.Canon) : ∀ a1, ResCanon (execInspectionStep a1 s) := by
  intro a1
  unfold execInspectionStep
  repeat' with_reducible first | assumption | (intro _) | apply canon_setHs | apply canon_inspEnd | refine canon_takeFree_eq (by assumption) ?_ | apply canon_takeFree | apply canon_inspItems | apply canon_hoStart | apply canon_inspHalf | apply canon_ite | apply resCanon_ite | apply resCanon_next | simp only [canon_mk] | apply canonT_of | dsimp only | split

theorem canon_execDrecStatusRead {s : State} (h : s.Canon) : ∀ a1 a2 a3 a4, ResCanon (execDrecStatusRead a1 a2 a3 a4 s) := by
  intro a1 a2 a3 a4
  unfold execDrecStatusRead
  repeat' with_reducible first | assumption | (intro _) | apply canon_hostRead | apply canon_dropped | apply canon_ite | apply resCanon_ite | apply resCanon_next | simp only [canon_mk] | apply canonT_of

theorem canon_execPlinthCopyDisagree {s : State} (h : s.Canon) : ∀ a1, ResCanon (execPlinthCopyDisagree a1 s) := by
  intro a1
  unfold execPlinthCopyDisagree
  repeat' with_reducible first | assumption | (intro _) | apply canon_alert | apply canon_event | apply canon_rearmStop | apply canon_hoEndAll | apply canon_ite | apply resCanon_ite | apply resCanon_next | simp only [canon_mk] | apply canonT_of

theorem canon_execLinePacketArrival {s : State} (h : s.Canon) : ∀ a1 a2 a3, ResCanon (execLinePacketArrival a1 a2 a3 s) := by
  intro a1 a2 a3
  unfold execLinePacketArrival
  repeat' with_reducible first | assumption | (intro _) | apply canon_setHs | apply canon_setPort | apply canon_ite | apply resCanon_ite | apply resCanon_next | apply canonT_of | dsimp only | split

theorem canon_execArmErase {s : State} (h : s.Canon) : ∀ a1 a2, ResCanon (execArmErase a1 a2 s) := by
  intro a1 a2
  unfold execArmErase
  repeat' with_reducible first | assumption | (intro _) | apply canon_armCommand | apply canon_armAnswer | apply canon_setSlotState | apply canon_armStart | apply canon_ite | apply resCanon_ite | apply resCanon_next

theorem canon_execArmRearm {s : State} (h : s.Canon) : ∀ a1 a2, ResCanon (execArmRearm a1 a2 s) := by
  intro a1 a2
  unfold execArmRearm
  repeat' with_reducible first | assumption | (intro _) | apply canon_armCommand | apply canon_armAnswer | apply canon_put | apply canon_ite | apply resCanon_ite | apply resCanon_next | simp only [canon_mk] | apply canonT_of

theorem canon_execRearmHandoverIssue {s : State} (h : s.Canon) : ∀ a1, ResCanon (execRearmHandoverIssue a1 s) := by
  intro a1
  unfold execRearmHandoverIssue
  repeat' with_reducible first | assumption | (intro _) | apply canon_hoStart | apply canon_ite | apply resCanon_ite | apply resCanon_next | apply canonT_of | dsimp only | split

theorem canon_execLatchMarker {s : State} (h : s.Canon) : ∀ a1 a2, ResCanon (execLatchMarker a1 a2 s) := by
  intro a1 a2
  unfold execLatchMarker
  repeat' with_reducible first | assumption | (intro _) | apply canon_each | apply canon_markerGone | apply canon_takeMarker | apply canon_whenB | apply canon_latch | apply canon_digestCapture | apply canon_fetchStep | apply canon_setPipe | apply canon_ite | apply resCanon_ite | apply resCanon_next

theorem canon_execLineCutoff {s : State} (h : s.Canon) : ∀ a1 a2 a3 a4, ResCanon (execLineCutoff a1 a2 a3 a4 s) := by
  intro a1 a2 a3 a4
  unfold execLineCutoff
  repeat' with_reducible first | assumption | (intro _) | apply canon_sendPacket | apply canon_lineFree | apply canon_put | apply canon_incSat | apply canon_raise | apply canon_event | apply canon_setPipe | apply canon_lineClosed | apply canon_pipeFault | apply canon_ite | apply resCanon_ite | apply resCanon_next

theorem canon_execHpdIrq {s : State} (h : s.Canon) : ∀ a1, ResCanon (execHpdIrq a1 s) := by
  intro a1
  unfold execHpdIrq
  repeat' with_reducible first | assumption | (intro _) | apply canon_put | apply canon_setPort | apply canon_ite | apply resCanon_ite | apply resCanon_next

theorem canon_execScnRetrain {s : State} (h : s.Canon) : ∀ a1 a2, ResCanon (execScnRetrain a1 a2 s) := by
  intro a1 a2
  unfold execScnRetrain
  repeat' with_reducible first | assumption | (intro _) | apply canon_hostWrite | apply canon_train | apply canon_probe | apply canon_ite | apply resCanon_ite | apply resCanon_next

theorem canon_execScnPsrEn {s : State} (h : s.Canon) : ∀ a1 a2 a3, ResCanon (execScnPsrEn a1 a2 a3 s) := by
  intro a1 a2 a3
  unfold execScnPsrEn
  repeat' with_reducible first | assumption | (intro _) | apply canon_hostWrite | apply canon_put | apply canon_setPort | apply canon_ite | apply resCanon_ite | apply resCanon_next

theorem canon_execLinkStatusReadDone {s : State} (h : s.Canon) : ∀ a1 a2, ResCanon (execLinkStatusReadDone a1 a2 s) := by
  intro a1 a2
  unfold execLinkStatusReadDone
  repeat' with_reducible first | assumption | (intro _) | apply canon_setPort | apply canon_discSet | apply canon_put | apply canon_linkLost | apply canon_train | apply canon_ite | apply resCanon_ite | apply resCanon_next | apply canonT_of | dsimp only | split

theorem canon_execIckGo {s : State} (h : s.Canon) : ∀ a1 a2, ResCanon (execIckGo a1 a2 s) := by
  intro a1 a2
  unfold execIckGo
  repeat' with_reducible first | assumption | (intro _) | apply canon_hostWrite | apply canon_put | apply canon_ite | apply resCanon_ite | apply resCanon_next

theorem canon_execSinkCheckDue {s : State} (h : s.Canon) : ∀ a1, ResCanon (execSinkCheckDue a1 s) := by
  intro a1
  unfold execSinkCheckDue
  repeat' with_reducible first | assumption | (intro _) | apply canon_sinkStart | apply canon_ite | apply resCanon_ite | apply resCanon_next

theorem canon_execRcxDoorbell {s : State} (h : s.Canon) : ∀ a1 a2 a3, ResCanon (execRcxDoorbell a1 a2 a3 s) := by
  intro a1 a2 a3
  unfold execRcxDoorbell
  repeat' with_reducible first | assumption | (intro _) | apply canon_hostWrite | apply canon_rWild | apply canon_put | apply canon_setRs | apply canon_arbitrate | apply canon_ite | apply resCanon_ite | apply resCanon_next

theorem canon_execCompositorLeave {s : State} (h : s.Canon) : ∀ a1, ResCanon (execCompositorLeave a1 s) := by
  intro a1
  unfold execCompositorLeave
  repeat' with_reducible first | assumption | (intro _) | apply canon_unpause | apply canon_ite | apply resCanon_ite | apply resCanon_next

theorem canon_execHeartbeatReceive {s : State} (h : s.Canon) : ∀ a1 a2, ResCanon (execHeartbeatReceive a1 a2 s) := by
  intro a1 a2
  unfold execHeartbeatReceive
  repeat' with_reducible first | assumption | (intro _) | apply canon_setHs | apply canon_ite | apply resCanon_ite | apply resCanon_next | apply canonT_of | dsimp only | split

theorem canon_execCatchupGranuleDone {s : State} (h : s.Canon) : ∀ k, ResCanon (execCatchupGranuleDone k s) := by
  intro k
  unfold execCatchupGranuleDone
  split
  · exact h
  · repeat' with_reducible first | assumption | (intro _) | apply canon_setDram | apply canon_setHs | apply canon_setDirty | apply canon_catchupStart | apply canon_syncCheck | apply canon_ite | apply resCanon_next | dsimp only
    all_goals exact tblOverlay_wf _ _ _ (wf_dram h _)

theorem canon_execTwinLinkDown {s : State} (h : s.Canon) : ResCanon (execTwinLinkDown s) := by
  unfold execTwinLinkDown
  repeat' with_reducible first | assumption | (intro _) | apply canon_each | apply canon_put | apply canon_mfenceCheck | apply canon_twinDrop | apply canon_queueDirty | apply canon_alert | apply canon_setHalfState | apply canon_ite | apply resCanon_ite | apply resCanon_next

theorem canon_execPairHandover {s : State} (h : s.Canon) : ∀ a1 a2 a3, ResCanon (execPairHandover a1 a2 a3 s) := by
  intro a1 a2 a3
  unfold execPairHandover
  repeat' with_reducible first | assumption | (intro _) | apply canon_hostWrite | apply canon_pairDone | apply canon_wildStatus | apply canon_hoStart | apply canon_ite | apply resCanon_ite | apply resCanon_next

theorem canon_execLockstepMismatch {s : State} (h : s.Canon) : ∀ a1, ResCanon (execLockstepMismatch a1 s) := by
  intro a1
  unfold execLockstepMismatch
  repeat' with_reducible first | assumption | (intro _) | apply canon_put | apply canon_incSat | apply canon_event | apply canon_alert | apply canon_setHs | apply canon_ite | apply resCanon_ite | apply resCanon_next

theorem canon_execAplicDelegateWrite {s : State} (h : s.Canon) : ∀ a1 a2 a3, ResCanon (execAplicDelegateWrite a1 a2 a3 s) := by
  intro a1 a2 a3
  unfold execAplicDelegateWrite
  repeat' with_reducible first | assumption | (intro _) | apply canon_setHs | apply canon_ite | apply resCanon_ite | apply resCanon_next

theorem canon_execWldRestart {s : State} (h : s.Canon) : ∀ a1, ResCanon (execWldRestart a1 s) := by
  intro a1
  unfold execWldRestart
  repeat' with_reducible first | assumption | (intro _) | apply canon_hostWrite | apply canon_put | apply canon_each | apply canon_setReg | apply canon_setHart | apply canon_trustedPageClear | apply canon_unpause | apply canon_setHs | apply canon_ite | apply resCanon_ite | apply resCanon_next

theorem canon_execMeasureImageDone {s : State} (h : s.Canon) : ∀ a1, ResCanon (execMeasureImageDone a1 s) := by
  intro a1
  unfold execMeasureImageDone
  repeat' with_reducible first | assumption | (intro _) | apply canon_noteRead | apply canon_measureStore | apply canon_setHs | apply canon_mrExtend | apply canon_halfRelease | apply canon_restartRelease | apply canon_put | apply canon_halfResetReq | apply canon_ite | apply resCanon_ite | apply resCanon_next | apply canonT_of | dsimp only | split

theorem canon_execWatchdogExpiry {s : State} (h : s.Canon) : ∀ a1, ResCanon (execWatchdogExpiry a1 s) := by
  intro a1
  unfold execWatchdogExpiry
  repeat' with_reducible first | assumption | (intro _) | apply canon_incSat | apply canon_event | apply canon_halfResetReq | apply canon_alert | apply canon_ite | apply resCanon_ite | apply resCanon_next

theorem canon_execInstFreeze {s : State} (h : s.Canon) : ∀ a1 a2, ResCanon (execInstFreeze a1 a2 s) := by
  intro a1 a2
  unfold execInstFreeze
  repeat' with_reducible first | assumption | (intro _) | apply canon_hostWrite | apply canon_instDone | apply canon_instFrozen | apply canon_instBusy | apply canon_setInstState | apply canon_ite | apply resCanon_ite | apply resCanon_next

theorem canon_execInstThaw {s : State} (h : s.Canon) : ∀ a1 a2, ResCanon (execInstThaw a1 a2 s) := by
  intro a1 a2
  unfold execInstThaw
  repeat' with_reducible first | assumption | (intro _) | apply canon_hostWrite | apply canon_instBusy | apply canon_setInst | apply canon_instDone | apply canon_thawFrozen | apply canon_thawed | apply canon_ite | apply resCanon_ite | apply resCanon_next

theorem canon_execHubLayerSet {s : State} (h : s.Canon) : ∀ a1 a2 a3 a4 a5 a6, ResCanon (execHubLayerSet a1 a2 a3 a4 a5 a6 s) := by
  intro a1 a2 a3 a4 a5 a6
  unfold execHubLayerSet
  repeat' with_reducible first | assumption | (intro _) | apply canon_hubCommand | apply canon_unpredictable | apply canon_setInst | apply canon_hubComplete | apply canon_forward | apply canon_ite | apply resCanon_ite | apply resCanon_next

theorem canon_execHubCommitCopy {s : State} (h : s.Canon) : ∀ a1 a2, ResCanon (execHubCommitCopy a1 a2 s) := by
  intro a1 a2
  unfold execHubCommitCopy
  repeat' with_reducible first | assumption | (intro _) | apply canon_commitCopy | apply canon_ite | apply resCanon_ite | apply resCanon_next | simp only [canon_mk] | apply canonT_of | dsimp only | split

theorem canon_execTwinEffect {s : State} (h : s.Canon) : ∀ a1 a2, ResCanon (execTwinEffect a1 a2 s) := by
  intro a1 a2
  unfold execTwinEffect
  repeat' with_reducible first | assumption | (intro _) | apply canon_setInst | apply canon_applyFx | apply canon_ite | apply resCanon_ite | apply resCanon_next | apply canonT_of | dsimp only | split

theorem canon_execSpmWakeMarch {s : State} (h : s.Canon) : ∀ a1 a2, ResCanon (execSpmWakeMarch a1 a2 s) := by
  intro a1 a2
  unfold execSpmWakeMarch
  repeat' with_reducible first | assumption | (intro _) | apply canon_setSpmU | apply canon_put | apply canon_marchStart | apply canon_repairShow | apply canon_ite | apply resCanon_ite | apply resCanon_next

theorem canon_execSpmMarchP {s : State} (h : s.Canon) : ∀ a1 a2, ResCanon (execSpmMarchP a1 a2 s) := by
  intro a1 a2
  unfold execSpmMarchP
  repeat' with_reducible first | assumption | (intro _) | apply canon_hostWrite | apply canon_marchStart | apply canon_ite | apply resCanon_ite | apply resCanon_next

theorem canon_execRefreshDue {s : State} (h : s.Canon) : ∀ a1 a2 a3 a4, ResCanon (execRefreshDue a1 a2 a3 a4 s) := by
  intro a1 a2 a3 a4
  unfold execRefreshDue
  repeat' with_reducible first | assumption | (intro _) | apply canon_setHs | apply canon_put | apply canon_ite | apply resCanon_ite | apply resCanon_next

theorem canon_execCvuBlock {s : State} (h : s.Canon) : ∀ a1 a2, ResCanon (execCvuBlock a1 a2 s) := by
  intro a1 a2
  unfold execCvuBlock
  repeat' with_reducible first | assumption | (intro _) | apply canon_scanBlock | apply canon_slotGrant | apply canon_slotNext | apply canon_ite | apply resCanon_ite | apply resCanon_next | apply canonT_of | dsimp only | split

theorem canon_execStuckAccessTimeout {s : State} (h : s.Canon) : ∀ a1 a2 a3 a4 a5 a6, ResCanon (execStuckAccessTimeout a1 a2 a3 a4 a5 a6 s) := by
  intro a1 a2 a3 a4 a5 a6
  unfold execStuckAccessTimeout
  repeat' with_reducible first | assumption | (intro _) | apply canon_funcEvent | apply canon_ite | apply resCanon_ite | apply resCanon_next | simp only [canon_mk] | apply canonT_of

theorem canon_execQuPush {s : State} (h : s.Canon) : ∀ a1 a2 a3, ResCanon (execQuPush a1 a2 a3 s) := by
  intro a1 a2 a3
  unfold execQuPush
  repeat' with_reducible first | assumption | (intro _) | apply canon_hostWrite | refine canon_quPush ?_ _ _ _ _ (by assumption) | apply canon_unpredictable | apply canon_ite | apply resCanon_ite | apply resCanon_next | apply canonT_of | dsimp only | split

theorem canon_execQuPop {s : State} (h : s.Canon) : ∀ a1 a2 a3, ResCanon (execQuPop a1 a2 a3 s) := by
  intro a1 a2 a3
  unfold execQuPop
  repeat' with_reducible first | assumption | (intro _) | apply canon_hostRead | apply canon_put | apply canon_quShow | apply canon_quStore | apply canon_ite | apply resCanon_ite | apply resCanon_next | simp only [canon_mk] | apply canonT_of | dsimp only | split

theorem canon_execQuOpen {s : State} (h : s.Canon) : ∀ a1 a2, ResCanon (execQuOpen a1 a2 s) := by
  intro a1 a2
  unfold execQuOpen
  repeat' with_reducible first | assumption | (intro _) | apply canon_hostWrite | refine canon_quOpen ?_ _ _ _ (by assumption) | apply canon_unpredictable | apply canon_ite | apply resCanon_ite | apply resCanon_next | simp only [canon_mk] | apply canonT_of | dsimp only | split

theorem canon_execQuClose {s : State} (h : s.Canon) : ∀ a1 a2, ResCanon (execQuClose a1 a2 s) := by
  intro a1 a2
  unfold execQuClose
  repeat' with_reducible first | assumption | (intro _) | apply canon_hostWrite | refine canon_quClose ?_ _ _ _ (by assumption) | apply canon_unpredictable | apply canon_ite | apply resCanon_ite | apply resCanon_next | simp only [canon_mk] | apply canonT_of | dsimp only | split

theorem canon_execQuPointerSync {s : State} (h : s.Canon) : ∀ a1 a2 a3, ResCanon (execQuPointerSync a1 a2 a3 s) := by
  intro a1 a2 a3
  unfold execQuPointerSync
  repeat' with_reducible first | assumption | (intro _) | apply canon_quShow | apply canon_setQu | apply canon_ite | apply resCanon_ite | apply resCanon_next

theorem canon_execTafRebase {s : State} (h : s.Canon) : ∀ a1 a2, ResCanon (execTafRebase a1 a2 s) := by
  intro a1 a2
  unfold execTafRebase
  repeat' with_reducible first | assumption | (intro _) | apply canon_hostWrite | apply canon_askRebase | apply canon_ite | apply resCanon_ite | apply resCanon_next

theorem canon_execTceTest {s : State} (h : s.Canon) : ∀ a1, ResCanon (execTceTest a1 s) := by
  intro a1
  unfold execTceTest
  repeat' with_reducible first | assumption | (intro _) | apply canon_hostWrite | apply canon_askTest | apply canon_ite | apply resCanon_ite | apply resCanon_next

theorem canon_execHapPlay {s : State} (h : s.Canon) : ∀ a1 a2 a3, ResCanon (execHapPlay a1 a2 a3 s) := by
  intro a1 a2 a3
  unfold execHapPlay
  repeat' with_reducible first | assumption | (intro _) | apply canon_hostWrite | apply canon_hapPlay | apply canon_ite | apply resCanon_ite | apply resCanon_next

theorem canon_execHeadsetPlug {s : State} (h : s.Canon) : ∀ a1, ResCanon (execHeadsetPlug a1 s) := by
  intro a1
  unfold execHeadsetPlug
  repeat' with_reducible first | assumption | (intro _) | apply canon_discSet | apply canon_ite | apply resCanon_ite | apply resCanon_next

theorem canon_execPeerAnnounce {s : State} (h : s.Canon) : ∀ a1 a2 a3 a4 a5 a6, ResCanon (execPeerAnnounce a1 a2 a3 a4 a5 a6 s) := by
  intro a1 a2 a3 a4 a5 a6
  unfold execPeerAnnounce
  repeat' with_reducible first | assumption | (intro _) | refine canon_peerGood_eq (by assumption) ?_ | apply canon_peerGood | apply canon_txNew | apply canon_discId | apply canon_discSet | apply canon_peerNote | apply canon_goOutside | apply canon_ite | apply resCanon_ite | apply resCanon_next

theorem canon_execPeerImageReq {s : State} (h : s.Canon) : ∀ a1 a2 a3 a4, ResCanon (execPeerImageReq a1 a2 a3 a4 s) := by
  intro a1 a2 a3 a4
  unfold execPeerImageReq
  repeat' with_reducible first | assumption | (intro _) | refine canon_peerRx_eq (by assumption) ?_ | apply canon_peerRx | apply canon_txNew | refine canon_ownFrame_eq (by assumption) ?_ | apply canon_ownFrame | apply canon_peerEmit | apply canon_ite | apply resCanon_ite | apply resCanon_next

theorem canon_execAnnounceTimer {s : State} (h : s.Canon) : ResCanon (execAnnounceTimer s) := by
  unfold execAnnounceTimer
  repeat' with_reducible first | assumption | (intro _) | apply canon_txNew | refine canon_ownFrame_eq (by assumption) ?_ | apply canon_ownFrame | apply canon_peerEmit | apply canon_ite | apply resCanon_ite | apply resCanon_next

theorem canon_execLockTimer {s : State} (h : s.Canon) : ResCanon (execLockTimer s) := by
  unfold execLockTimer
  repeat' with_reducible first | assumption | (intro _) | apply canon_dropAuthority | apply canon_txNew | apply canon_sendLock | apply canon_put | apply canon_ite | apply resCanon_ite | apply resCanon_next | simp only [canon_mk] | apply canonT_of | dsimp only | split

theorem canon_execCurrentLockExpiry {s : State} (h : s.Canon) : ResCanon (execCurrentLockExpiry s) := by
  unfold execCurrentLockExpiry
  repeat' with_reducible first | assumption | (intro _) | apply canon_txNew | apply canon_tryAuthority | apply canon_membRefresh | apply canon_ite | apply resCanon_ite | apply resCanon_next | simp only [canon_mk] | apply canonT_of

theorem canon_execPcsLockLoss {s : State} (h : s.Canon) : ∀ a1, ResCanon (execPcsLockLoss a1 s) := by
  intro a1
  unfold execPcsLockLoss
  repeat' with_reducible first | assumption | (intro _) | apply canon_txNew | apply canon_plkLink | apply canon_plkFall | apply canon_recUp | apply canon_ite | apply resCanon_ite | apply resCanon_next

theorem canon_execPlkDisable {s : State} (h : s.Canon) : ∀ a1, ResCanon (execPlkDisable a1 s) := by
  intro a1
  unfold execPlkDisable
  repeat' with_reducible first | assumption | (intro _) | apply canon_hostWrite | apply canon_goOutside | apply canon_ite | apply resCanon_ite | apply resCanon_next

theorem canon_execPlkSend {s : State} (h : s.Canon) : ∀ a1, ResCanon (execPlkSend a1 s) := by
  intro a1
  unfold execPlkSend
  repeat' with_reducible first | assumption | (intro _) | apply canon_hostWrite | apply canon_txNew | refine canon_sameCycle_eq (by assumption) ?_ | apply canon_sameCycle | apply canon_unpredictable | apply canon_sendEnd | refine canon_ownFrame_eq (by assumption) ?_ | apply canon_ownFrame | apply canon_putBit | apply canon_sendAcked | refine canon_takeFree_eq (by assumption) ?_ | apply canon_takeFree | apply canon_put | apply canon_each | apply canon_ite | apply resCanon_ite | apply resCanon_next | simp only [canon_mk] | apply canonT_of | dsimp only | split

theorem canon_execPlkClearq {s : State} (h : s.Canon) : ∀ a1 a2, ResCanon (execPlkClearq a1 a2 s) := by
  intro a1 a2
  unfold execPlkClearq
  repeat' with_reducible first | assumption | (intro _) | apply canon_hostWrite | apply canon_txNew | apply canon_put | apply canon_plkCheck | apply canon_peerSettle | apply canon_discSet | apply canon_setPlkState | apply canon_plkRise | apply canon_ite | apply resCanon_ite | apply resCanon_next | simp only [canon_mk] | apply canonT_of

theorem canon_execModWake {s : State} (h : s.Canon) : ∀ a1, ResCanon (execModWake a1 s) := by
  intro a1
  unfold execModWake
  repeat' with_reducible first | assumption | (intro _) | apply canon_hostWrite | apply canon_wildStatus | apply canon_modDone | apply canon_nightExit | apply canon_ite | apply resCanon_ite | apply resCanon_next

theorem canon_execLcsProvision {s : State} (h : s.Canon) : ∀ a1, ResCanon (execLcsProvision a1 s) := by
  intro a1
  unfold execLcsProvision
  repeat' with_reducible first | assumption | (intro _) | apply canon_hostWrite | apply canon_lcsBegin | apply canon_lcsNote | apply canon_ite | apply resCanon_ite | apply resCanon_next

theorem canon_execHalfApplyDone {s : State} (h : s.Canon) : ∀ a1, ResCanon (execHalfApplyDone a1 s) := by
  intro a1
  unfold execHalfApplyDone
  repeat' with_reducible first | assumption | (intro _) | apply canon_applyHalf | apply canon_mrExtend | apply canon_domRaise | apply canon_rearmApplied | apply canon_setHs | apply canon_halfGo | apply canon_ite | apply resCanon_ite | apply resCanon_next

theorem canon_execSvcVerify {s : State} (h : s.Canon) : ∀ a1, ResCanon (execSvcVerify a1 s) := by
  intro a1
  unfold execSvcVerify
  repeat' with_reducible first | assumption | (intro _) | apply canon_ite | apply resCanon_ite | apply resCanon_next | simp only [canon_mk] | apply canonT_of

theorem canon_execPcieBootLength {s : State} (h : s.Canon) : ∀ a1, ResCanon (execPcieBootLength a1 s) := by
  intro a1
  unfold execPcieBootLength
  repeat' with_reducible first | assumption | (intro _) | apply canon_imageEnd | apply canon_ite | apply resCanon_ite | apply resCanon_next | simp only [canon_mk] | apply canonT_of

theorem canon_execTierStepDown {s : State} (h : s.Canon) : ∀ a1, ResCanon (execTierStepDown a1 s) := by
  intro a1
  unfold execTierStepDown
  repeat' with_reducible first | assumption | (intro _) | apply canon_showVin | apply canon_tierApply | apply canon_setTier | apply canon_ite | apply resCanon_ite | apply resCanon_next

theorem canon_execTierStepUp {s : State} (h : s.Canon) : ∀ a1, ResCanon (execTierStepUp a1 s) := by
  intro a1
  unfold execTierStepUp
  repeat' with_reducible first | assumption | (intro _) | apply canon_showVin | apply canon_setTier | apply canon_leaveFour | apply canon_unparkHalf | apply canon_raiseAll | apply canon_ite | apply resCanon_ite | apply resCanon_next

theorem canon_execPowerLimitHoldEnd {s : State} (h : s.Canon) : ResCanon (execPowerLimitHoldEnd s) := by
  unfold execPowerLimitHoldEnd
  repeat' with_reducible first | assumption | (intro _) | apply canon_ite | apply resCanon_ite | apply resCanon_next | simp only [canon_mk] | apply canonT_of

theorem canon_execShdReqWrite {s : State} (h : s.Canon) : ∀ a1 a2, ResCanon (execShdReqWrite a1 a2 s) := by
  intro a1 a2
  unfold execShdReqWrite
  repeat' with_reducible first | assumption | (intro _) | apply canon_hostWrite | refine canon_takeFree_eq (by assumption) ?_ | apply canon_takeFree | apply canon_pdomRaise | apply canon_put | apply canon_ite | apply resCanon_ite | apply resCanon_next

theorem canon_execDomainSwitchOff {s : State} (h : s.Canon) : ∀ a1 a2, ResCanon (execDomainSwitchOff a1 a2 s) := by
  intro a1 a2
  unfold execDomainSwitchOff
  repeat' with_reducible first | assumption | (intro _) | apply canon_domStop | apply canon_setPdomain | apply canon_ite | apply resCanon_ite | apply resCanon_next | apply canonT_of | dsimp only | split

theorem canon_execDormantWake {s : State} (h : s.Canon) : ∀ a1, ResCanon (execDormantWake a1 s) := by
  intro a1
  unfold execDormantWake
  repeat' with_reducible first | assumption | (intro _) | apply canon_whenB | apply canon_put | apply canon_wakeBy | apply canon_ite | apply resCanon_ite | apply resCanon_next

theorem canon_execKalRtcHiWrite {s : State} (h : s.Canon) : ∀ a1 a2, ResCanon (execKalRtcHiWrite a1 a2 s) := by
  intro a1 a2
  unfold execKalRtcHiWrite
  repeat' with_reducible first | assumption | (intro _) | apply canon_hostWrite | apply canon_wildStatus | apply canon_unpredictable | apply canon_put | apply canon_ite | apply resCanon_ite | apply resCanon_next | simp only [canon_mk] | apply canonT_of | dsimp only | split

theorem canon_execSnapshotClose {s : State} (h : s.Canon) : ResCanon (execSnapshotClose s) := by
  unfold execSnapshotClose
  repeat' with_reducible first | assumption | (intro _) | apply canon_closeSnap | apply canon_ite | apply resCanon_ite | apply resCanon_next

theorem canon_execPatSlotRead {s : State} (h : s.Canon) : ∀ a1 a2, ResCanon (execPatSlotRead a1 a2 s) := by
  intro a1 a2
  unfold execPatSlotRead
  repeat' with_reducible first | assumption | (intro _) | apply canon_hostRead | apply canon_ite | apply resCanon_ite | apply resCanon_next | simp only [canon_mk] | apply canonT_of

theorem canon_execSvcAlertClear {s : State} (h : s.Canon) : ∀ a1, ResCanon (execSvcAlertClear a1 s) := by
  intro a1
  unfold execSvcAlertClear
  repeat' with_reducible first | assumption | (intro _) | apply canon_hostWrite | apply canon_alertOff | apply canon_ite | apply resCanon_ite | apply resCanon_next | simp only [canon_mk] | apply canonT_of

theorem canon_execGptpAnnounce {s : State} (h : s.Canon) : ∀ a1, ResCanon (execGptpAnnounce a1 s) := by
  intro a1
  unfold execGptpAnnounce
  repeat' with_reducible first | assumption | (intro _) | refine canon_gptpRx_eq (by assumption) ?_ | apply canon_gptpRx | apply canon_txNew | apply canon_gptpRelay | apply canon_tryAuthority | apply canon_dropAuthority | apply canon_timeFree | apply canon_ite | apply resCanon_ite | apply resCanon_next | simp only [canon_mk] | apply canonT_of

theorem canon_execLcsOperationDone {s : State} (h : s.Canon) : ∀ a1, ResCanon (execLcsOperationDone a1 s) := by
  intro a1
  unfold execLcsOperationDone
  repeat' with_reducible first | assumption | (intro _) | apply canon_dbgRefresh | apply canon_lcShow | apply canon_lcsEnd | apply canon_writesAll | apply canon_ite | apply resCanon_ite | apply resCanon_next | simp only [canon_mk] | apply canonT_of | dsimp only | split

theorem canon_execPcieBootDataWrite {s : State} (h : s.Canon) : ∀ a1 a2, ResCanon (execPcieBootDataWrite a1 a2 s) := by
  intro a1 a2
  unfold execPcieBootDataWrite
  repeat' with_reducible first | assumption | (intro _) | apply canon_imageBytes | apply canon_ite | apply resCanon_ite | apply resCanon_next

end Sys2Proof.Machine
end

