-- ==== Sys2Proof/Laws/Frame.lean ====
section
/-! SUPPORT. What a host access does where it is admitted and where it is not, and how the frames of statements compose. -/

namespace Sys2Proof.Machine

/-- An admitted host write runs its meaning on the acknowledged state. -/
theorem hostWrite_admitted {rq : Requester} {pg : Pg} {s : State} {off : Nat} (h : Admitted rq pg s off) (f : State → Res) :
    hostWrite rq pg s f off = f s.ack := by
  obtain ⟨h0, h1, h2, h3⟩ := h
  have h4 : ¬((pg.die = .P && s.copyFault) = true) := by
    simp only [Bool.and_eq_true, decide_eq_true_eq, not_and, Bool.not_eq_true]
    exact h3
  simp only [hostWrite, h0, h1, h2, h4, Bool.not_true, Bool.or_self, Bool.false_eq_true, if_false]
  rfl

/-- A host write that the window's controller refuses is recorded, and dropped. -/
theorem hostWrite_refused {rq : Requester} {pg : Pg} {s : State} {off : Nat} (h : s.windowAdmits rq pg .write off = false) (f : State → Res) :
    hostWrite rq pg s f off = .next (s.windowRefuse rq pg .write off) := by
  simp only [hostWrite, h, Bool.not_false, if_true]

/-- A host write that the grant does not admit, or to a Function whose domain is not On, is dropped. -/
theorem hostWrite_dropped {rq : Requester} {pg : Pg} {s : State} {off : Nat} (hw : s.windowAdmits rq pg .write off = true)
    (h : s.admits rq pg = false ∨ s.pageOn pg = false) (f : State → Res) : hostWrite rq pg s f off = .next (s.dropped rq) := by
  rcases h with h | h <;> simp [hostWrite, hw, h]

/-- A host write to the Plinth that only the disagreement of its control copies keeps from its page has the page's error status (R15). -/
theorem hostWrite_copyFault {rq : Requester} {pg : Pg} {s : State} {off : Nat} (hw : s.windowAdmits rq pg .write off = true)
    (ha : s.admits rq pg = true) (ho : s.pageOn pg = true) (hp : pg.die = .P) (hc : s.copyFault = true) (f : State → Res) :
    hostWrite rq pg s f off = .next s.accessFault := by
  simp [hostWrite, hw, ha, ho, hp, hc]

/-- An admitted host read runs its meaning. -/
theorem hostRead_admitted {rq : Requester} {pg : Pg} {s : State} {off : Nat} (h : AdmittedRead rq pg s off) (f : State → Res) :
    hostRead rq pg s f off = f s := by
  simp [hostRead, h.1, h.2.1, h.2.2]

@[simp] theorem ack_reg (s : State) (p : Pg) (o : Nat) : s.ack.reg p o = s.reg p o := rfl
@[simp] theorem ack_get (s : State) (p : Pg) (f : Fld) : s.ack.get p f = s.get p f := rfl
@[simp] theorem ack_flag (s : State) (p : Pg) (f : Fld) : s.ack.flag p f = s.flag p f := rfl
@[simp] theorem ack_hs (s : State) (h : Half) : s.ack.hs h = s.hs h := by cases h <;> rfl
@[simp] theorem ack_time (s : State) : s.ack.time = s.time := rfl
@[simp] theorem ack_port (s : State) (n : Nat) : s.ack.port n = s.port n := rfl
@[simp] theorem ack_pat (s : State) : s.ack.pat = s.pat := rfl
@[simp] theorem ack_copyFault (s : State) : s.ack.copyFault = s.copyFault := rfl

theorem sameMem_rfl (s : State) : SameMem s s := ⟨fun _ => rfl, fun _ _ => rfl, fun _ _ => rfl⟩

/-- Equal memories read the same. -/
theorem sameMem_of {s t : State} (h1 : t.mram = s.mram) (h2 : t.dramA = s.dramA) (h3 : t.dramB = s.dramB) (h4 : t.spmA = s.spmA)
    (h5 : t.spmB = s.spmB) : SameMem s t := by
  refine ⟨fun a => by rw [h1], fun h a => ?_, fun h a => ?_⟩ <;> cases h <;> simp only [State.dram, State.spm, h2, h3, h4, h5]

theorem SameMem.trans {s t u : State} (h : SameMem s t) (k : SameMem t u) : SameMem s u :=
  ⟨fun a => (k.1 a).trans (h.1 a), fun x a => (k.2.1 x a).trans (h.2.1 x a), fun x a => (k.2.2 x a).trans (h.2.2 x a)⟩

theorem keepsRegs_of {K : Pg → Nat → Prop} {s t : State} (h : t.regs = s.regs) : KeepsRegs K s t :=
  fun _ _ _ _ _ => by simp only [State.reg, h]

theorem KeepsRegs.trans {K : Pg → Nat → Prop} {s t u : State} (h : KeepsRegs K s t) (k : KeepsRegs K t u) : KeepsRegs K s u :=
  fun p o hp ho hk => (k p o hp ho hk).trans (h p o hp ho hk)

theorem KeepsRegs.mono {K L : Pg → Nat → Prop} {s t : State} (h : KeepsRegs K s t) (hl : ∀ p o, L p o → K p o) : KeepsRegs L s t :=
  fun p o hp ho hk => h p o hp ho (hl p o hk)

/-- A write of one register keeps every other one. -/
theorem keepsRegs_setReg {K : Pg → Nat → Prop} (s : State) {q : Pg} {o : Nat} (w : Word) (hq : q.code < 0x10000) (ho : o < 0x10000)
    (hk : ¬K q o) : KeepsRegs K s (s.setReg q o w) := by
  intro p o' hp ho' hko
  apply reg_setReg_ne
  by_cases h : p = q
  · subst h
    apply key_ne_of_off
    rintro rfl
    exact hk hko
  · exact key_ne_of_page hq hp ho ho' h

theorem keepsRegs_put {K : Pg → Nat → Prop} (s : State) {q : Pg} {f : Fld} (v : Nat) (hq : q.code < 0x10000) (ho : f.off < 0x10000)
    (hk : ¬K q f.off) : KeepsRegs K s (s.put q f v) := keepsRegs_setReg s _ hq ho hk

/-- What replacing one bit of a field does to its bits. -/
theorem putBit_testBit (s : State) (p : Pg) (f : Fld) (i j : Nat) (b : Bool) (h : f.lsb + f.width ≤ 32) (hi : i < f.width) (hj : j < f.width) :
    ((s.putBit p f i b).get p f).testBit j = if j = i then b else (s.get p f).testBit j := by
  unfold State.putBit
  rw [get_put_same _ _ _ _ h, Nat.testBit_mod_two_pow]
  simp only [hj, decide_true, Bool.true_and]
  cases b
  · have : (2 ^ f.width - 1 - 2 ^ i).testBit j = (decide (j < f.width) && !(decide (j = i))) := by
      have h1 : 2 ^ f.width - 1 - 2 ^ i = 2 ^ f.width - (2 ^ i + 1) := by omega
      rw [h1, Nat.testBit_two_pow_sub_succ (Nat.pow_lt_pow_right (by omega) hi)]
      simp [Nat.testBit_two_pow, eq_comm]
    simp only [Bool.false_eq_true, if_false, Nat.testBit_and, this, hj, decide_true, Bool.true_and]
    by_cases hji : j = i <;> simp [hji]
  · simp only [if_true, Nat.testBit_or, Nat.testBit_two_pow]
    by_cases hji : j = i
    · simp [hji]
    · have : ¬i = j := fun e => hji e.symm
      simp [hji, this]

theorem keepsRegs_putBit {K : Pg → Nat → Prop} (s : State) {q : Pg} {f : Fld} (i : Nat) (b : Bool) (hq : q.code < 0x10000)
    (ho : f.off < 0x10000) (hk : ¬K q f.off) : KeepsRegs K s (s.putBit q f i b) := keepsRegs_put s _ hq ho hk

/-- `s` is `r` but for the registers of one page and the raised interrupts. -/
def OnlyPage (q : Pg) (r s : State) : Prop :=
  (∃ regs irq, s = { r with regs := regs, irq := irq }) ∧ KeepsRegs (fun p _ => p ≠ q) r s

theorem onlyPage_rfl (q : Pg) (s : State) : OnlyPage q s s := ⟨⟨_, _, rfl⟩, keepsRegs_of rfl⟩

theorem OnlyPage.put {q : Pg} {r s : State} (h : OnlyPage q r s) {f : Fld} (v : Nat) (hq : q.code < 0x10000) (hf : f.off < 0x10000) :
    OnlyPage q r (s.put q f v) := by
  obtain ⟨⟨regs, irq, rfl⟩, hk⟩ := h
  exact ⟨⟨_, _, rfl⟩, hk.trans (keepsRegs_put _ _ hq hf (by simp))⟩

theorem OnlyPage.raise {q : Pg} {r s : State} (h : OnlyPage q r s) (p : Pg) : OnlyPage q r (s.raise p) := by
  obtain ⟨⟨regs, irq, rfl⟩, hk⟩ := h
  exact ⟨⟨_, _, rfl⟩, hk.trans (keepsRegs_of rfl)⟩

theorem OnlyPage.sameMem {q : Pg} {r s : State} (h : OnlyPage q r s) : SameMem r s := by
  obtain ⟨⟨regs, irq, rfl⟩, _⟩ := h
  exact sameMem_of rfl rfl rfl rfl rfl

theorem OnlyPage.hs {q : Pg} {r s : State} (h : OnlyPage q r s) (k : Half) : s.hs k = r.hs k := by
  obtain ⟨⟨regs, irq, rfl⟩, _⟩ := h
  cases k <;> rfl

end Sys2Proof.Machine
end

