-- ==== Sys2Proof/Laws/Queue.lean ====
section
/-! SUPPORT. Moves between the parts of a queue unit keep its entries and their order; showing its state changes its page only. -/

namespace Sys2Proof.Machine

theorem entries_take (u : Queue) (k : Nat) : (u.take k).entries = u.entries := by
  simp only [Queue.take, Queue.entries, List.append_assoc]
  rw [← List.append_assoc (List.take k u.mid), List.take_append_drop]

theorem entries_give (u : Queue) (k : Nat) : (u.give k).entries = u.entries := by
  simp [Queue.give, Queue.entries, List.append_assoc]

theorem entries_burstIn (u : Queue) : u.burstIn.entries = u.entries := by
  unfold Queue.burstIn
  split
  · exact entries_take _ _
  · rfl

theorem entries_forwardHead (u : Queue) : u.forwardHead.entries = u.entries := by
  rw [← entries_burstIn u, ← entries_burstIn u.burstIn]
  unfold Queue.forwardHead
  dsimp only
  split
  · rename_i h
    simp only [List.isEmpty_iff] at h
    simp [Queue.entries, h, List.append_assoc]
  · rfl

theorem entries_spillOut (u : Queue) (r : Nat) : (u.spillOut r).entries = u.entries := by
  unfold Queue.spillOut
  split
  · exact entries_give _ _
  · rfl

theorem entries_makeRoom (u : Queue) (r : Nat) : (u.makeRoom r).entries = u.entries := by
  unfold Queue.makeRoom
  dsimp only
  repeat' split
  all_goals simp only [entries_give, entries_take, entries_spillOut, entries_forwardHead]

/-- A pushed entry is the last one. -/
theorem entries_add (u : Queue) (r : Nat) (e : BitVec 64) : (u.add r e).entries = u.entries ++ [e] := by
  unfold Queue.add
  split
  · rename_i h
    simp only [Bool.and_eq_true, List.isEmpty_iff] at h
    simp [Queue.entries, h.1.1, h.1.2]
  · dsimp only
    split
    · simp [Queue.entries]
    · rw [← entries_makeRoom u r]
      simp [Queue.entries]

@[simp] theorem take_pkt (u : Queue) (k : Nat) : (u.take k).pkt = u.pkt := rfl
@[simp] theorem give_pkt (u : Queue) (k : Nat) : (u.give k).pkt = u.pkt := rfl
@[simp] theorem burstIn_pkt (u : Queue) : u.burstIn.pkt = u.pkt := by unfold Queue.burstIn; split <;> rfl
@[simp] theorem forwardHead_pkt (u : Queue) : u.forwardHead.pkt = u.pkt := by
  unfold Queue.forwardHead
  dsimp only
  split <;> simp
@[simp] theorem spillOut_pkt (u : Queue) (r : Nat) : (u.spillOut r).pkt = u.pkt := by unfold Queue.spillOut; split <;> rfl
@[simp] theorem makeRoom_pkt (u : Queue) (r : Nat) : (u.makeRoom r).pkt = u.pkt := by
  unfold Queue.makeRoom
  dsimp only
  repeat' split
  all_goals simp

theorem add_pkt (u : Queue) (r : Nat) (e : BitVec 64) : (u.add r e).pkt = u.pkt := by
  unfold Queue.add
  dsimp only
  repeat' split
  all_goals simp

/-- Two bursts leave the head registers empty only where the middle is empty too. -/
theorem burstIn_head_nil {u : Queue} (h : u.burstIn.head = []) : u.head = [] ∧ u.mid = [] := by
  unfold Queue.burstIn at h
  split at h
  · simp only [Queue.take, List.append_eq_nil_iff, List.take_eq_nil_iff] at h
    refine ⟨h.1, ?_⟩
    rcases h.2 with h2 | h2
    · cases hm : u.mid with
      | nil => rfl
      | cons a b => rw [hm] at h2; simp at h2
    · exact h2
  · rename_i hc
    simp [h] at hc

/-- After the move to the head registers the oldest entry stands at the head. -/
theorem forwardHead_head (u : Queue) {e : BitVec 64} {r : List (BitVec 64)} (h : u.entries = e :: r) :
    ∃ r', u.forwardHead.head = e :: r' := by
  have h2 := entries_forwardHead u
  rw [h] at h2
  cases hh : u.forwardHead.head with
  | cons x y =>
    simp only [Queue.entries, hh, List.cons_append, List.cons.injEq] at h2
    exact ⟨y, by rw [h2.1]⟩
  | nil =>
    exfalso
    have h3 := (entries_burstIn u.burstIn).trans ((entries_burstIn u).trans h)
    unfold Queue.forwardHead at hh
    dsimp only at hh
    split at hh
    · rename_i hm
      simp only [List.isEmpty_iff] at hm
      simp only [List.append_eq_nil_iff, List.take_eq_nil_iff] at hh
      obtain ⟨h4, h5⟩ := hh
      have ht : u.burstIn.burstIn.tail = [] := by
        rcases h5 with h5 | h5
        · cases ht : u.burstIn.burstIn.tail with
          | nil => rfl
          | cons a b => rw [ht, h4] at h5; simp at h5
        · exact h5
      simp [Queue.entries, h4, hm, ht] at h3
    · rename_i hm
      obtain ⟨_, h5⟩ := burstIn_head_nil hh
      have h6 : u.burstIn.burstIn.mid = [] := by
        unfold Queue.burstIn at *
        split <;> simp_all [Queue.take]
      simp [h6] at hm

/-- Showing a queue's state changes its page and the raised interrupts only. -/
theorem quShow_only (s : State) (k : Half) (q : Fin 256) : OnlyPage (pgQu k q) s (s.quShow k q) := by
  have hq : (pgQu k q).code < 0x10000 := by simp only [pgQu, halfPg]; omega
  unfold State.quShow
  dsimp only
  repeat' with_reducible first | exact onlyPage_rfl _ _ | exact hq | apply OnlyPage.raise | apply OnlyPage.put | decide | split

end Sys2Proof.Machine
end

