-- ==== Sys2Proof/Laws/Record.lean ====
section
/-! SUPPORT. Everything that an event of the Patina record changes: the recorder and the registers of its page. -/

namespace Sys2Proof.Machine

/-- `t` is `s` but for the recorder and the PAT page. -/
def OnlyPat (s t : State) : Prop :=
  t = { s with regs := t.regs, pat := t.pat } ∧ KeepsRegs (fun p _ => p ≠ pgPat) s t

theorem onlyPat_rfl (s : State) : OnlyPat s s := ⟨rfl, keepsRegs_of rfl⟩

theorem OnlyPat.trans {s t u : State} (h : OnlyPat s t) (k : OnlyPat t u) : OnlyPat s u := by
  refine ⟨?_, h.2.trans k.2⟩
  have h1 := h.1
  have k1 := k.1
  rw [h1] at k1
  exact k1

variable {r s : State}

theorem OnlyPat.put (h : OnlyPat r s) (f : Fld) (v : Nat) (hf : f.off < 0x10000) : OnlyPat r (s.put pgPat f v) :=
  h.trans ⟨rfl, keepsRegs_put _ _ (by decide) hf (by simp)⟩

theorem OnlyPat.pat (h : OnlyPat r s) (p : Patina) : OnlyPat r { s with pat := p } := h.trans ⟨rfl, keepsRegs_of rfl⟩

theorem OnlyPat.whenB (h : OnlyPat r s) {c : Bool} {f : State → State} (hf : OnlyPat r s → OnlyPat r (f s)) : OnlyPat r (s.whenB c f) := by
  unfold State.whenB
  split
  · exact hf h
  · exact h

theorem OnlyPat.each {α : Type} {xs : List α} {f : α → State → State} (hf : ∀ x t, OnlyPat r t → OnlyPat r (f x t)) (h : OnlyPat r s) :
    OnlyPat r (s.each xs f) := by
  unfold State.each
  induction xs generalizing s with
  | nil => exact h
  | cons x l ih => exact ih (hf x s h)

theorem OnlyPat.snapStart (h : OnlyPat r s) (pos code seq : Nat) : OnlyPat r (s.snapStart pos code seq) := by
  unfold State.snapStart State.putBit
  exact OnlyPat.put (OnlyPat.put (OnlyPat.put (OnlyPat.pat h _) _ _ (by decide)) _ _ (by decide)) _ _ (by decide)

theorem OnlyPat.record (h : OnlyPat r s) (e : PatEvent) : OnlyPat r (s.record e) := by
  unfold State.record
  split
  · exact OnlyPat.pat (OnlyPat.put h _ _ (by decide)) _
  · dsimp only
    split
    · exact OnlyPat.whenB (OnlyPat.pat h _) fun h => OnlyPat.put h _ _ (by decide)
    · exact OnlyPat.snapStart (OnlyPat.whenB (OnlyPat.pat h _) fun h => OnlyPat.put h _ _ (by decide)) _ _ _

/-- An event whose turn has come changes the recorder and the PAT page only. -/
theorem OnlyPat.deliver (h : OnlyPat r s) (e : PatEvent) : OnlyPat r (s.deliver e) := by
  unfold State.deliver
  dsimp only
  split
  · split
    · exact OnlyPat.pat (OnlyPat.put h _ _ (by decide)) _
    · exact OnlyPat.pat h _
  · exact OnlyPat.record h _

/-- An event changes the recorder and the PAT page only. -/
theorem OnlyPat.event (h : OnlyPat r s) (src code : Nat) (data : List Byte) (trig host : Bool) :
    OnlyPat r (s.event src code data trig host) := by
  unfold State.event
  dsimp only
  split
  · exact OnlyPat.pat h _
  · exact OnlyPat.deliver h _

theorem event_only (s : State) (src code : Nat) (data : List Byte) (trig host : Bool) : OnlyPat s (s.event src code data trig host) :=
  (onlyPat_rfl s).event _ _ _ _ _

theorem OnlyPat.sameMem {t : State} (h : OnlyPat s t) : SameMem s t := by
  have := h.1
  refine sameMem_of ?_ ?_ ?_ ?_ ?_ <;> rw [this]

/-- A register outside the PAT page after an event. -/
theorem OnlyPat.reg {t : State} (h : OnlyPat s t) {p : Pg} {o : Nat} (hp : p.code < 0x10000) (ho : o < 0x10000) (hne : p ≠ pgPat) :
    t.reg p o = s.reg p o := h.2 p o hp ho hne

theorem OnlyPat.get {t : State} (h : OnlyPat s t) {p : Pg} {f : Fld} (hp : p.code < 0x10000) (ho : f.off < 0x10000) (hne : p ≠ pgPat) :
    t.get p f = s.get p f := by
  simp only [State.get]
  rw [h.reg hp ho hne]

end Sys2Proof.Machine
end

