-- ==== Sys2Proof/Laws/Ring.lean ====
section
/-! SUPPORT. What a write of an event into the ring changes: the 64 bytes of its slot, the PAT page and the recorder. -/

namespace Sys2Proof.Machine

/-- Bytes outside the ring read in `t` as in `s`, no other memory changed, and no register outside the PAT page. -/
def RingOnly (s t : State) : Prop :=
  (∀ a, a < ringBase ∨ ringBase + 64 * ringSlots ≤ a → memByte t.mram a = memByte s.mram a) ∧
    t = { s with regs := t.regs, pat := t.pat, mram := t.mram } ∧
    KeepsRegs (fun p o => p ≠ pgPat ∨ (o ≠ F.PAT_SEQ_LO_SEQ.off ∧ o ≠ F.PAT_SEQ_HI_SEQ.off)) s t

theorem padTo_length (n : Nat) (bs : List Byte) : (padTo n bs).length = n := by simp [padTo]

/-- An event has 64 bytes (R418). -/
theorem event_bytes_length (e : PatEvent) : e.bytes.length = 64 := by
  simp [PatEvent.bytes, leBytes_length, b1, b2, b4, padTo_length]

theorem freeSlot_lt (s : State) (n i : Nat) : s.freeSlot n i < ringSlots := by
  induction n generalizing i with
  | zero => exact Nat.mod_lt _ (by decide)
  | succ n ih =>
    unfold State.freeSlot
    split
    · exact Nat.mod_lt _ (by decide)
    · split
      · exact ih _
      · exact Nat.mod_lt _ (by decide)

theorem RingOnly.trans {s t u : State} (h : RingOnly s t) (k : RingOnly t u) : RingOnly s u := by
  refine ⟨fun a ha => (k.1 a ha).trans (h.1 a ha), ?_, h.2.2.trans k.2.2⟩
  have h1 := h.2.1
  have k1 := k.2.1
  rw [h1] at k1
  exact k1

theorem ringOnly_pat (s : State) (p : Patina) : RingOnly s { s with pat := p } := ⟨fun _ _ => rfl, rfl, keepsRegs_of rfl⟩

/-- The slot that an event is written to holds its bytes. -/
theorem ringWrite_bytes (s : State) (e : PatEvent) :
    memBytes (s.ringWrite e).mram (ringBase + 64 * s.freeSlot ringSlots s.pat.nextSlot) 64 = e.bytes := by
  unfold State.ringWrite
  simp only [put_mram, State.setMram]
  have := memBytes_setBytes s.mram (ringBase + 64 * s.freeSlot ringSlots s.pat.nextSlot) e.bytes
  rwa [event_bytes_length] at this

/-- Only the slot of an event changes in MRAM. -/
theorem ringWrite_other (s : State) (e : PatEvent) (a : Nat)
    (h : a < ringBase + 64 * s.freeSlot ringSlots s.pat.nextSlot ∨ ringBase + 64 * s.freeSlot ringSlots s.pat.nextSlot + 64 ≤ a) :
    memByte (s.ringWrite e).mram a = memByte s.mram a := by
  unfold State.ringWrite
  simp only [put_mram, State.setMram]
  rw [memByte_setBytes, if_neg (by rw [event_bytes_length]; omega)]

theorem ringWrite_only (s : State) (e : PatEvent) : RingOnly s (s.ringWrite e) := by
  refine ⟨fun a ha => ?_, ?_, ?_⟩
  · apply ringWrite_other
    have := freeSlot_lt s ringSlots s.pat.nextSlot
    omega
  · unfold State.ringWrite
    generalize s.freeSlot ringSlots s.pat.nextSlot = i
    generalize e.bytes = bs
    rfl
  · unfold State.ringWrite
    generalize s.freeSlot ringSlots s.pat.nextSlot = i
    generalize e.bytes = bs
    have h (t : State) : KeepsRegs (fun p o => p ≠ pgPat ∨ (o ≠ F.PAT_SEQ_LO_SEQ.off ∧ o ≠ F.PAT_SEQ_HI_SEQ.off)) t
        ((t.put pgPat F.PAT_SEQ_LO_SEQ (e.seq % 2 ^ 32)).put pgPat F.PAT_SEQ_HI_SEQ (e.seq / 2 ^ 32)) :=
      KeepsRegs.trans (keepsRegs_put _ _ (by decide) (by decide) (by simp)) (keepsRegs_put _ _ (by decide) (by decide) (by simp))
    exact KeepsRegs.trans (keepsRegs_of rfl) (h _)

theorem each_ringOnly (xs : List PatEvent) (s : State) : RingOnly s (s.each xs fun e s => s.ringWrite e) := by
  unfold State.each
  induction xs generalizing s with
  | nil => exact ringOnly_pat s s.pat
  | cons x r ih => exact (ringWrite_only s x).trans (ih _)

/-- Writing buffered events changes the ring, PAT_SEQ and the recorder only. -/
theorem flushN_only (s : State) (n : Nat) : RingOnly s (s.flushN n) := (ringOnly_pat s _).trans (each_ringOnly _ _)

theorem ringWrite_buf (s : State) (e : PatEvent) : (s.ringWrite e).pat.buf = s.pat.buf := by
  unfold State.ringWrite
  generalize s.freeSlot ringSlots s.pat.nextSlot = i
  generalize e.bytes = bs
  rfl
theorem ringWrite_closing (s : State) (e : PatEvent) : (s.ringWrite e).pat.closing = s.pat.closing := by
  unfold State.ringWrite
  generalize s.freeSlot ringSlots s.pat.nextSlot = i
  generalize e.bytes = bs
  rfl

theorem each_ring_keeps (xs : List PatEvent) (s : State) :
    (s.each xs fun e s => s.ringWrite e).pat.buf = s.pat.buf ∧ (s.each xs fun e s => s.ringWrite e).pat.closing = s.pat.closing := by
  unfold State.each
  induction xs generalizing s with
  | nil => exact ⟨rfl, rfl⟩
  | cons x r ih =>
    have := ih (s.ringWrite x)
    rw [ringWrite_buf, ringWrite_closing] at this
    exact this

/-- The oldest events leave the buffer. -/
theorem flushN_buf (s : State) (n : Nat) : (s.flushN n).pat.buf = s.pat.buf.drop n := (each_ring_keeps _ _).1
theorem flushN_closing (s : State) (n : Nat) : (s.flushN n).pat.closing = s.pat.closing := (each_ring_keeps _ _).2

end Sys2Proof.Machine
end

