-- ==== Sys2Proof/WellFormed.lean ====
section
/-! DEFINITION. The commands that can be sent: operands within the widths and lengths that the manual gives them. A meaning is total on ill-formed
commands too; what a statement needs of an operand it says itself. -/

namespace Sys2Proof

/-- A number below a bound. -/
def wfBelow (n x : Nat) : Bool := decide (x < n)

/-- A physical address of a half (R447). -/
def wfAddr (a : Nat) : Bool := wfBelow 0x1000000000000 a

/-- A page number of a window (R394: PAGE has 12 bits). -/
def wfPage (p : Nat) : Bool := wfBelow 0x1000 p

/-- Bytes that one command carries: at least one, at most 1,032 (R339: the longest payload). -/
def wfBlock (bs : List Byte) : Bool := !bs.isEmpty && wfBelow 1033 bs.length

/-- Caps of a sink: lane counts 1, 2 or 4 (R120) and rate codes of SCN_LINK.RATE; an identity whose manufacturer is a PNP identifier or a 24-bit OUI
(R119). -/
def wfAux : AuxResult → Bool
  | .failed => true
  | .dpcd c => [1, 2, 4].contains c.maxLanes && c.rates.all (wfBelow 16)
  | .identity i => wfBelow 0x1000000 i.manufacturer && wfBelow 0x10000 i.product && wfBelow 0x100000000 i.serial

/-- What issues an access: a hart of eight, a virtual function, an engine's page. -/
def wfIssuer : Issuer → Bool
  | .hart n => wfBelow 8 n
  | .pcie n => wfBelow 64 n
  | .engine code => wfPage code || code = 0x2003
  | .safety | .mirror => true

/-- An access at a scratchpad port begins within the SPM (R251, R252), and a write has the length it names. -/
def wfSpm : Option SpmPort → Bool
  | none => true
  | some p => wfIssuer p.by_ && wfBelow 65 p.len && !(p.len = 0) && wfBelow 0x400000 p.offset &&
    (match p.write with
     | none => true
     | some bs => bs.length = p.len)

/-- A DRAM request: an address of the half's 16 GB, and at most a 64-byte block. -/
def wfDram (r : DramReq) : Bool :=
  wfIssuer r.by_ && wfBelow 0x400000000 r.addr &&
    (match r.write with
     | none => true
     | some bs => wfBelow 65 bs.length)

/-- The dirty lines of an L1 data cache: 64 bytes at a multiple of 64 (R219). -/
def wfLines (ls : List CacheLine) : Bool := ls.all fun l => wfAddr l.addr && l.addr % 64 = 0 && l.bytes.length = 64

/-- A mailbox read over PCIe returns a 64-byte command (R237). -/
def wfBus (log2 cplTail : Nat) (cmd : List Byte) : Bool := wfBelow 16 log2 && wfBelow 65536 cplTail && cmd.length = 64

/-- A frame of a TYPE, or one that its EtherType or a reserved TYPE makes none of R340's (R338 to R340). gPTP frames have commands of their own. -/
def wfHdr (typ : Nat) (h : PeerHdr) : Bool :=
  wfBelow 16 h.major && wfBelow 16 h.minor && wfBelow 32 h.hops && wfBelow 262144 h.origin && wfBelow 262144 h.dest && wfBelow 1033 h.len &&
  h.etherType != 0x88F7 && (h.typ = typ || h.typ = 0 || (9 ≤ h.typ && h.typ < 256))

/-- The fields of a systemIdentity (R348). -/
def wfGm (g : GmIdentity) : Bool :=
  wfBelow 256 g.priority1 && wfBelow 256 g.clockClass && wfBelow 256 g.clockAccuracy && wfBelow 65536 g.variance &&
  wfBelow 256 g.priority2 && wfBelow 0x10000000000000000 g.clockId

/-- Link widths and speeds of PCI_STATUS (R457). -/
def wfPci : PciEvent → Bool
  | .presence => true
  | .trained _ _ _ lanes speed vfs => [1, 2, 4].contains lanes && wfBelow 6 speed && wfBelow 64 vfs
  | .trainingFailed => true
  | .removed => true

/-- Is the command well-formed? -/
def Instr.wf : Instr → Bool
  | .registerWrite _ addr width _ => wfAddr addr && [1, 2, 4, 8].contains width
  | .plinthCopyDisagree .. | .linePacketArrival .. | .portLineBoundary .. => true
  | .drecStatusRead _ _ page _ => wfPage page
  | .armWrite .. | .armVerify .. | .armErase .. | .armRearm .. | .armRaiseFloor .. | .armAbort .. => true
  | .armCopyDone | .loaderCheckDone | .armEraseDone | .scrubDue | .scrubSlotDone | .rearmChecksDone => true
  | .rearmHandoverIssue .. | .rearmQualTimeout .. | .rearmStartWindowTimeout | .plinthSwitch | .cmpGo .. | .latchLineStart .. => true
  | .latchMarker .. | .pipeLineStart .. | .fetchChunkArrival .. | .lineClose .. => true
  | .lineCutoff _ _ sent _ => wfBelow 8192 sent
  | .composeResume .. | .portFrameBoundary .. | .blenDelayExpiry .. | .hpdPlug .. | .hpdUnplug .. | .hpdIrq .. => true
  | .auxTransactionDone _ r => wfAux r
  | .discoveryRetry .. | .scnAccept .. | .scnRetrain .. | .scnPsrEn .. | .trainAttemptDone .. | .trainAttemptTimeout .. => true
  | .linkStatusReadDone .. | .ickGo .. | .ickRelease .. | .ickSinkNow .. | .ickLatchAck .. | .sinkCheckDue .. => true
  | .sinkCrcReadDone .. | .rcxDoorbell .. | .compositorLeave .. | .arbitration .. | .jobComplete .. => true
  | .rasterMemoryAccess .. => true
  | .fenceComplete .. | .preemptionPoint .. | .rcxPrioWrite .. | .rcxSuspend .. | .rcxResume .. => true
  | .rasterTierReport .. | .rasterT4Timeout .. | .heartbeatSend .. | .heartbeatReceive .. | .heartbeatTimeout .. | .resetNotice .. => true
  | .mirrorWrite rq addr bytes => wfIssuer rq.by_ && wfAddr addr && wfBlock bytes
  | .mirrorWriteApply .. | .twnMfence .. | .mfenceAcknowledge .. | .catchupGranuleDone .. | .twinLinkDown | .twinLinkUp => true
  | .twnMirSrcWrite .. | .mirrorSourceSwap .. | .digestCompare .. | .pairHandover .. | .pairRejoin .. | .pairCancel .. => true
  | .handoverTimeout .. | .autoReturn .. | .halfPark .. | .lockstepMismatch .. | .hpartWrite .. | .mworldWrite .. => true
  | .mModeTrap _ e | .trustedInterrupt _ e | .debugPreempt _ e => wfLines e.dirty
  | .mret _ e => wfLines e.dirty && e.openEn.all fun x => 1 ≤ x.1 && x.1 ≤ 8 && x.2 < 256
  | .aplicDelegateWrite _ source _ => wfBelow 1024 source
  | .msiWrite .. | .wldRestart .. | .trustedClearDone .. | .measureImageDone .. | .wldExtend .. => true
  | .watchdogKick .. | .watchdogExpiry .. | .wldDbgWrite .. | .debugHaltRequest .. | .fenceI .. => true
  | .instFreeze .. | .instThaw .. | .instSave .. | .instRestore .. | .instReset .. | .instFace .. => true
  | .compositorStart _ us => wfBelow 151 us
  | .thawTwinQuery .. | .insqDoorbell .. => true
  | .hubLayerSet _ _ _ l t c => wfBus l t c
  | .hubLayerOff _ _ _ r c => wfBus r.log2 r.cplTail c
  | .hubCommit _ _ _ b _ | .hubNop _ _ _ b => wfBus b.log2 b.cplTail b.cmd
  | .hubCommitCopy .. | .hubCommitComplete .. | .instanceTimeout .. => true
  | .hostGone .. | .twinEffect .. | .twinEffectAck .. => true
  | .spmAccess _ _ f e _ => wfSpm f && wfSpm e
  | .spmWakeMarch .. | .spmMarchD .. | .spmMarchP .. | .spmAbort .. => true
  | .marchRowDone _ _ _ row _ => wfBelow 512 row
  | .marchDone _ _ rows => rows.all fun r => wfBelow 512 r.2
  | .spmOffClearDone .. => true
  | .dramSlot _ _ arrivals _ => arrivals.all wfDram
  | .bankIdleClose .. | .dramTrainingDone .. | .periodicTraining .. | .refreshDue .. | .dramZeroFillDone .. | .slotTableSwitch .. => true
  | .dmcBeWrite .. | .cvuStart .. | .cvuStop .. | .cvuBlock .. | .cvuPassEnd .. => true
  | .stuckAccessTimeout _ _ page offset _ _ => wfPage page && wfBelow 0x10000 offset
  | .quPush .. | .quPop .. | .quOpen .. | .quClose .. | .quPointerSync .. | .quSpillTransfer .. => true
  | .touchFrameSlot .. => true
  | .touchFrameEnd _ raw => wfBelow 65537 raw.length
  | .tafMode .. | .tafTest .. | .tafRebase .. | .tceCaptureRef .. | .tceTest .. | .tceRebase .. => true
  | .captureRefDone => true
  | .electrodeTestDone _ lines => wfBelow 257 lines.length
  | .touchDiscoveryTimer .. | .contactStale .. | .hapPlay .. | .hapStop .. | .hapUnlock .. => true
  | .hapControlSample _ x _ => wfBelow 65536 x.current
  | .hapLoadCheck .. | .hapLoadCheckDone .. => true
  | .audioSample inputs => wfBelow 257 inputs.length
  | .audSwap .. | .audCopy .. | .audCopyDone | .audOverrideWrite .. | .headsetPlug .. | .headsetMeasureDone .. => true
  | .headsetUnplug .. | .headsetButton .. | .tdmFrameSlip .. => true
  | .peerAnnounce _ hdr _ digest _ _ => wfHdr 1 hdr && digest.length = 48
  | .peerLock _ hdr digest gm => wfHdr 2 hdr && digest.length = 48 && wfGm gm
  | .peerAlarm _ hdr payload => wfHdr 3 hdr && payload.length = 24
  | .peerMigrate _ hdr _ frag data => wfHdr 4 hdr && wfBelow 20 frag && data.length = 1024
  | .peerMigDone _ hdr _ status => wfHdr 5 hdr && wfBelow 256 status
  | .peerImageReq _ hdr digest off => wfHdr 6 hdr && digest.length = 48 && wfBelow 0x100000000 off
  | .peerImageData _ hdr off data _ => wfHdr 7 hdr && wfBelow 0x100000000 off && wfBlock data
  | .peerAck _ hdr origin _ => wfHdr 8 hdr && wfBelow 262144 origin
  | .announceTimer | .lockTimer => true
  | .peerRetry _ origin _ => wfBelow 262144 origin
  | .peerTimeout origin _ => wfBelow 262144 origin
  | .currentLockExpiry | .neighbourTimeout .. | .peerPortLink .. | .gptpSync .. | .holdoverExpiry .. | .pcsLockLoss .. => true
  | .plkEnable .. | .plkDisable .. | .plkSend .. | .plkRxDone .. | .plkClearq .. | .plkCancel .. => true
  | .plkNodeWrite .. | .modNight .. | .modWake .. | .modInspect .. | .modDormant .. | .nightWatchWake .. => true
  | .inspectionStep found => found.rows.all fun e => wfBelow 512 e.2.2
  | .lcsProvision .. | .lcsService .. | .lcsRetire .. | .lcsKeyUpdate .. => true
  | .powerOn mv => wfBelow 65536 mv
  | .porstNAssert | .strapSample .. | .startWindowExpiry | .failsClear | .halfResetRequest .. | .halfResetRelease .. => true
  | .halfApplyDone .. | .rstHalfReset .. | .rstPartReset .. => true
  | .rstFuncReset _ _ page => wfPage page
  | .ndmreset .. | .hartreset .. | .svcRead .. | .svcWrite .. | .svcVerify .. => true
  | .svcProvision record => wfBelow 0x2001 record.length
  | .svcStart .. => true
  | .serviceBulkOut data => wfBelow 1033 data.length
  | .serviceWriteStall | .pcieBootLength .. => true
  | .tierStepDown mv => wfBelow 65536 mv
  | .tierStepUp mv => wfBelow 65536 mv
  | .powerLimitStep .. | .powerLimitHoldEnd => true
  | .holdupEntry mv => wfBelow 65536 mv
  | .parkComplete | .vioOverload .. | .pwrReqWrite .. | .shdReqWrite .. | .domainPowerOnDone .. | .domainSwitchOff .. => true
  | .domainShutdownDone .. | .thermalSample .. | .keepAlivePowerUp .. | .dormantWake .. | .rtcAlarm | .tamperEvent => true
  | .kalInc .. | .kalRtcHiWrite .. | .patinaMramWrite .. | .patinaScanDone | .snapshotClose | .patHostEvent .. => true
  | .patSnap .. | .patLock .. | .patUnlock .. | .patSlotRead .. | .svcAlertClear .. | .alertClearDelayed => true
  | .serviceAttach .. | .serviceDetach .. => true
  | .pciPresenceChange _ e => wfPci e
  | .porstNRelease mv => wfBelow 65536 mv
  | .vkaLoss => true
  | .gptpAnnounce ann => wfGm ann.gm
  | .gptpPdelayReq .. | .pcsTransmitFault .. | .lcsOperationDone .. => true
  | .pcieBootDataWrite off data => wfBelow 0x1800000 off && !data.isEmpty
  | .hupBelow12v | .vioFaultClear .. => true

end Sys2Proof
end

