-- ==== Sys2Proof/Tests/Slice0.lean ====
section
/-! SUPPORT. Small checks of the model: ill-formed terms that WellFormed refuses, expected results from the spec's own tables and examples,
and for each statement of Obligations.lean states and operands that meet the hypotheses of its clauses. -/

open Sys2Proof Sys2Proof.Machine

namespace Sys2Proof.Tests

/-- The state after reset. -/
def z : State := State.reset
/-- Half A of the state in a stage. -/
def stageA (g : HalfStage) (s : State) : State := s.setHs .A { s.hs .A with stage := g }
/-- Hart 0 of Half A, Trusted after reset, and hart 3, which `opened` has put into Open Partition 3. -/
def rT : Requester := ⟨.A, .hart 0⟩
def rO : Requester := ⟨.A, .hart 3⟩
def opened : State := ((z.put (pgHart .A 3) F.MWORLD_WORLD 0).put (pgHart .A 3) F.HPART_PART 3).setHart .A 3 { mMode := false }
/-- The state after a command, where it goes on. -/
def after (c : Instr) (s : State) : State :=
  match exec c s with
  | .next t => t
  | .fault _ => s
  | .refused _ => s
/-- Both halves Ready with the image applied, mode Paired Service, port 0 owned by Half A. -/
def paired : State :=
  (((((z.put pgMod F.MOD_STATUS_MODE 5).put pgPair F.PAIR_STATUS_A_STATE 3).put pgPair F.PAIR_STATUS_B_STATE 3).setSource 0 0).setRole .A 0 roleOwner).setRole .B 0 roleStandby
/-- Every domain of Half A is On. -/
def on : State := [0x10, 0x14, 0x18, 0x1C].foldl (fun s o => s.setReg (pgPwr .A) o 0x22222222) z
/-- Slot 0 holds one section of a type, at offset 0x2000. -/
def withSection (typ : Nat) (bs : List Byte) (s : State) : State :=
  (((s.setMram 0x18 [1]).setMram 0x1000 [BitVec.ofNat 8 typ]).setMram 0x1004 [0, 0x20, 0, 0, 0, 1]).setMram 0x2000 bs
/-- A good header of domain 7, of a TYPE, from node 5 to node 5, with its HCRC computed by hand from R339. -/
def hdr7 (typ : Nat) : PeerHdr :=
  ⟨true, peerEtherType, 1, 0, typ, false, false, false, false, 0, 5, 5, 1, 3, 7, 0, BitVec.ofNat 32 ([0, 0x4537C454, 0xA77473B4, 0xF94AE114, 0x661F6A85, 0x3821F825,
    0xDA624FC5, 0x845CDD65, 0xE1252E16].getD typ 0)⟩

/-! ## Ill-formed terms -/

/-- A register write of 3 bytes, a page of 13 bits, an empty mirror write, an address beyond 48 bits, a sink of 3 lanes and a rate code of 5 bits. -/
theorem test_wf_hosts : (Instr.registerWrite rT 0 3 0).wf = false ∧ (Instr.registerWrite rT (2 ^ 48) 4 0).wf = false ∧ (Instr.drecStatusRead rT false 0x1000 0).wf = false ∧
    (Instr.mirrorWrite ⟨.A, .mirror⟩ 0 []).wf = false ∧
    (Instr.auxTransactionDone 0 (.dpcd ⟨[], 3, false, false⟩)).wf = false ∧ (Instr.auxTransactionDone 0 (.dpcd ⟨[16], 4, false, false⟩)).wf = false ∧
    (Instr.auxTransactionDone 0 (.identity ⟨0x1000000, 0, 0, [], ⟨0, 0, 0, 0, 0, 0, 0, false, 0, 0, false⟩, none⟩)).wf = false ∧ (Instr.rstFuncReset rT false 0x1000).wf = false ∧
    (Instr.lineCutoff .A 0 8192 false).wf = false := by decide

/-- Cache lines, scratchpad, DRAM and mailbox operands out of range. -/
theorem test_wf_memory : (Instr.mModeTrap .A ⟨0, [⟨32, List.replicate 64 0⟩]⟩).wf = false ∧ (Instr.mret .A ⟨⟨0, [⟨0, [1]⟩]⟩, false, []⟩).wf = false ∧ (Instr.mret .A ⟨⟨0, []⟩, false, [(9, 1)]⟩).wf = false ∧
    (Instr.spmAccess .A 0 (some ⟨.safety, false, 0, 65, none⟩) none []).wf = false ∧ (Instr.spmAccess .A 0 none (some ⟨.safety, false, 0x400000, 1, none⟩) []).wf = false ∧
    (Instr.spmAccess .A 0 (some ⟨.safety, false, 0, 2, some [1]⟩) none []).wf = false ∧ (Instr.dramSlot .A 0 [⟨.pcie 64, false, 0, none⟩] 0).wf = false ∧
    (Instr.dramSlot .A 0 [⟨.safety, false, 0x400000000, none⟩] 0).wf = false ∧ (Instr.marchRowDone .A 0 0 512 ⟨true, []⟩).wf = false ∧
    (Instr.marchDone .A 0 [(0, 512)]).wf = false ∧ (Instr.aplicDelegateWrite .A 1024 true).wf = false ∧ (Instr.hubLayerSet .A 0 0 16 0 (List.replicate 64 0)).wf = false ∧
    (Instr.hubNop .A 0 0 ⟨⟨4, 0⟩, []⟩).wf = false ∧
    (Instr.stuckAccessTimeout rT false 0x1000 0 false 0).wf = false ∧ (Instr.stuckAccessTimeout rT false 0 0x10000 false 0).wf = false := by decide

/-- Sample, frame and supply operands out of range. -/
theorem test_wf_plinth : (Instr.hapControlSample 0 ⟨none, 65536⟩ 0).wf = false ∧ (Instr.inspectionStep ⟨[(0, 0, 512)], 0, 0, true, 0, 0, 0, true⟩).wf = false ∧
    (Instr.peerAlarm 0 (hdr7 3) []).wf = false ∧ (Instr.peerAlarm 0 { hdr7 3 with origin := 262144 } (List.replicate 24 0)).wf = false ∧
    (Instr.peerAlarm 0 (hdr7 4) (List.replicate 24 0)).wf = false ∧
    (Instr.peerMigrate 0 (hdr7 4) 0 20 []).wf = false ∧ (Instr.peerMigDone 0 (hdr7 5) 0 256).wf = false ∧ (Instr.peerImageReq 0 (hdr7 6) [] 0).wf = false ∧
    (Instr.peerImageData 0 (hdr7 7) 0 [] true).wf = false ∧ (Instr.peerAck 0 (hdr7 8) 262144 0).wf = false ∧ (Instr.peerRetry 0 262144 0).wf = false ∧
    (Instr.peerTimeout 262144 0).wf = false ∧ (Instr.gptpAnnounce ⟨⟨0, true⟩, ⟨256, 0, 0, 0, 0, 0⟩⟩).wf = false ∧ (Instr.peerLock 0 (hdr7 2) [] ⟨0, 0, 0, 0, 0, 0⟩).wf = false ∧
    (Instr.peerAnnounce 0 (hdr7 1) 0 [] 0 0).wf = false ∧ (Instr.powerOn 65536).wf = false ∧ (Instr.tierStepDown 65536).wf = false ∧ (Instr.tierStepUp 65536).wf = false ∧
    (Instr.holdupEntry 65536).wf = false ∧ (Instr.porstNRelease 65536).wf = false ∧
    (Instr.pcieBootDataWrite 0 []).wf = false ∧ (Instr.pciPresenceChange .A (.trained 0 0 0 3 0 0)).wf = false := by decide

/-- Lists one longer than the command carries. -/
theorem test_wf_list_lengths (raw : List (BitVec 16)) (bs : List Byte) (xs : List Int) (ls : List LineTest) :
    (raw.length = 65537 → (Instr.touchFrameEnd 0 raw).wf = false) ∧ (bs.length = 0x2001 → (Instr.svcProvision bs).wf = false) ∧
    (bs.length = 1033 → (Instr.serviceBulkOut bs).wf = false ∧ (Instr.mirrorWrite rT 0 bs).wf = false) ∧ (xs.length = 257 → (Instr.audioSample xs).wf = false) ∧
    (ls.length = 257 → (Instr.electrodeTestDone 0 ls).wf = false) := by
  refine ⟨?_, ?_, ?_, ?_, ?_⟩ <;> intro h <;> simp [Instr.wf, wfBlock, wfBelow, h]

/-! ## Results that the spec works out -/

/-- R68, R71, R72: steps 1 to 7 of the worked example of chapter 03. -/
theorem test_blend_example : widen 5 0xA = 1321 ∧ widen 8 0xC8 = 3212 ∧ widen 8 0x80 = 2056 ∧ mulUnit 2056 4095 = 2056 ∧ blendChan 1 1321 3212 2056 = 2270 := by decide

/-- R73, R74: steps 8 to 11. -/
theorem test_table_and_reduction_example : colourTable (fun i => if i = 141 then 1900 else if i = 142 then 1915 else 0) 2270 = 1913 ∧ reduce10 0 1913 0 1 = 478 ∧
    reduce10 1 1913 0 1 = 478 ∧ reduce10 2 1913 0 1 = 479 := by decide

/-- R69: STEP_X 0x2000, output column 3: k = 1, p = 4. -/
theorem test_scale_example : scalePos 3 0x2000 100 = (1, 2, 4) := by decide

/-- R63, R65: the Delta tile of chapter 03: its length, and the residual codes of the first pixel after (0, 0). -/
theorem test_delta_example : tileLen 0x2000044400000040 = 387 ∧ tileMode 0x2000044400000040 = 2 ∧
    (let rd : Nat → Byte := fun i => [0x10, 0x80, 0xC0, 0xFF, 0xF1, 0x02, 0x80].getD i 0
     deltaPixel rd 4 [8, 8, 8, 8] [0, 4, 4, 4] [0xFF, 0xC0, 0x80, 0x10] 0 = [0xFF, 0xC1, 0x7F, 0x12] ∧
      deltaPixel rd 4 [8, 8, 8, 8] [0, 4, 4, 4] [0xFF, 0xC1, 0x7F, 0x12] 12 = [0xFF, 0xC1, 0x7F, 0x0A]) := by decide

/-- R262: the address of chapter 11's worked example. -/
theorem test_dram_map_example : dramChan 0x0123456780 = 3 ∧ dramBank 0x0123456780 = 4 ∧ dramRow 0x0123456780 = 0x48D1 ∧ dramSeg 0x0123456780 = 2 ∧
    dramChan 0x01234567C0 = 2 := by decide

/-- R448: the three addresses of chapter 21's worked example. -/
theorem test_address_example : regPage .B 0x00F20015004C = some (pgIck 5, pgIck 5) ∧ regPage .A 0x00F0040B0008 = some (pgInsq .A 5, pgInsq .A 5) ∧
    regPage .A 0x00F101020000 = some (pgRstH .A, pgRstH .A) := by decide

/-- R449: a byte store to the first of them is an access of the wrong width. -/
theorem test_byte_store : exec (.registerWrite rT 0x00F20015004C 1 0) z = .next (z.ack.unpredictable (pgIck 5) 0x4C) := by rfl

/-- R29, R30: chapter 01's worked example: DREC_STATUS reads 0x0200_0102, and after the W1C write of 0x100, 0x0200_0002. -/
theorem test_drec_example : (let s := (z.discSet (pgScn 3) 0 1).discSet (pgScn 3) 0 2
    s.reg (pgScn 3) 0xF000 = 0x02000102 ∧ (after (.registerWrite rT 0x00F20003F000 4 0x100) s).reg (pgScn 3) 0xF000 = 0x02000002) := by decide

/-- R285 to R288: OPEN, three entries and CLOSE leave the length word of chapter 12's worked example at the head, and a pop of it before the pop side sees it
answers 0. -/
theorem test_packet_example :
    (let s := after (.quOpen rT 0x10) z
     let s := after (.quPush rT 0x10 (.wide 1)) (after (.quPush rT 0x10 (.wide 2)) (after (.quPush rT 0x10 (.wide 3)) s))
     let s := after (.quClose rT 0x10) s
     (s.qu .A 0x10).entries.head? = some 0xC000000000000003 ∧ (s.qu .A 0x10).entries.length = 4 ∧ (after (.quPop rT 0x10 .wide) s).reply = .ok 0) := by decide

/-- R403: the thresholds of the tier table. -/
theorem test_vin_tiers : vinTier 8000 = 0 ∧ vinTier 7999 = 1 ∧ vinTier 6000 = 1 ∧ vinTier 4500 = 2 ∧ vinTier 3300 = 3 ∧ vinTier 3299 = 4 ∧ stepUpAt 1 = 8200 ∧ stepUpAt 4 = 3500 := by decide

/-- R316: effect 0x0B of chapter 14's worked example is at 175 Hz. -/
theorem test_haptic_effect_example : feltHz 0x0B = 175 ∧ feltHz 0xEF = 175 ∧ isAlert 0x0B = false ∧ isAlert 0xEF = true := by decide

/-- A write that the grant does not admit answers an access fault and changes nothing (R450). -/
theorem test_not_admitted : exec (.armErase rO 1) opened = .next { opened with reply := .accessFault } := by rfl

/-- A kick of 0x5A loads TIMEOUT in µs, any other value nothing (R226). -/
theorem test_kick : (let s := z.put (pgWld .A) F.WLD_WDCFG_TIMEOUT 10000
    (after (.watchdogKick rT 0x5A) s).get (pgWld .A) F.WLD_WDOG_REMAIN = 10000000 ∧
    (after (.watchdogKick rT 0xA5) s).get (pgWld .A) F.WLD_WDOG_REMAIN = s.get (pgWld .A) F.WLD_WDOG_REMAIN) := by decide

/-- A waiting command runs before an idle microsecond passes, and the queue gives them in order. -/
theorem test_queue_order : (match step { z with pending := [.cmpGo rT 0, .armCopyDone] } with | .next t => t.pending | _ => []) = [.armCopyDone] ∧
    (match step z with | .next t => t.time | _ => 9) = 1 := by decide

/-! ## Witnesses: states and operands that meet the hypotheses of each statement -/

theorem wit_IdleStepCountsTime : (let s := (stageA .running (z.put (pgWld .A) F.WLD_WDCFG_TIMEOUT 1)).put (pgWld .A) F.WLD_WDOG_REMAIN 1
    s.pending = [] ∧ (s.hs .A).stage = .running ∧ 0 < s.get (pgWld .A) F.WLD_WDCFG_TIMEOUT ∧ s.flag (pgWld .A) F.WLD_DBG_TRU_INV = false ∧
    0 < s.get (pgWld .A) F.WLD_WDOG_REMAIN ∧ s.arm = none ∧ s.noPower = false) ∧
    (let s := z.setHs .B { saf := { hold := true } }; s.pending = [] ∧ (s.hs .B).saf.hold = true) := by decide

theorem wit_HostWriteNotAdmitted : hostPage (.cmpGo rO 0) = some (rO, pgCmp .A 0) ∧ ¬Admitted rO (pgCmp .A 0) opened ∧ opened.windowAdmits rO (pgCmp .A 0) .write 0 = true ∧
    opened.windowAdmits rO pgShd .write 0 = false ∧
    ¬Admitted rT pgShd { z with copyFault := true } := by unfold Admitted; decide

theorem wit_StepKeepsCanonicalForm : z.Canon ∧ ∃ t, step z = .next t := ⟨by unfold State.Canon; decide, _, rfl⟩

theorem wit_LoaderCommands : Admitted rT (pgArmH .A) z ∧ Admitted rT (pgArmH .A) { z with copyFault := true } ∧
    (let s := { z with arm := some {} }; s.copyFault = false ∧ s.arm ≠ none ∧ s.rearm = none ∧ Admitted rT (pgArmH .A) s) ∧
    (z.copyFault = false ∧ z.arm = none ∧ z.rearm = none ∧ z.insp = none ∧ z.hoRun = none ∧ z.slotInForce 0 = true ∧ z.slotInForce 1 = false ∧
      z.flag pgArm F.ARM_ACTIVE_MIXED = false ∧ (z.put (pgArmH .A) F.ARM_LEN_BLOCKS 3).get (pgArmH .A) F.ARM_LEN_BLOCKS = 3 ∧
      (z.put (pgArmH .A) F.ARM_LEN_BLOCKS 6144).get (pgArmH .A) F.ARM_LEN_BLOCKS = 6144 ∧
      (z.put (pgArmH .A) F.ARM_LEN_BLOCKS 4).slotInForce 1 = false) ∧
    (let s := { z.put pgArm F.ARM_ACTIVE_MIXED 1 with insp := some {} };
      Admitted rT (pgArmH .A) s ∧ s.insp ≠ none ∧ s.flag pgArm F.ARM_ACTIVE_MIXED = true ∧ s.arm = none ∧ s.rearm = none) ∧
    (let s := { z with rearm := some { step := 3 } }; Admitted rT (pgArmH .A) s ∧ s.rearm = some { step := 3 }) ∧
    (let s := { z with rearm := some { step := 2 } }; Admitted rT (pgArmH .A) s ∧ s.hoRun = none ∧ ({ step := 2 } : Rearm).source = .A) := by
  unfold Admitted; decide

/-- A Valid slot 0 whose manifest does not match its stored check value exists: two images that differ in that value only cannot both match. -/
def scrubbing (m : List Host.Cell) : State := { z.put pgArm (F.ARM_SLOT_STATE.at 0) 1 with mram := m, scrub := { reading := some 0 } }

theorem wit_LoaderCourse_scrub : ∃ s : State, s.scrub.reading = some 0 ∧ s.armBusy = false ∧ s.slotState 0 = 1 ∧ s.manifestOk (.slot 0) = false := by
  have e : (scrubbing [(0x1D, 0x20)]).imgBytes (.slot 0) 0 0x2000 = (scrubbing [(0x1D, 0x20), (0x2000, 1)]).imgBytes (.slot 0) 0 0x2000 := by
    simp only [State.imgBytes, State.mramBytes, show slotBase 0 = 0 from rfl]
    refine memBytes_congr fun i h1 h2 => ?_
    have h2 : i < 0x2000 := by simpa using h2
    have g : (0x2000 = i) = False := by simp; omega
    simp only [scrubbing, memByte, tblGet, tblFind, g, if_false]
  by_cases h : (scrubbing [(0x1D, 0x20)]).manifestOk (.slot 0) = true
  · refine ⟨scrubbing [(0x1D, 0x20), (0x2000, 1)], by decide, by decide, by decide, ?_⟩
    simp only [State.manifestOk, decide_eq_true_eq, decide_eq_false_iff_not] at h ⊢
    rw [← e, h]; decide
  · exact ⟨scrubbing [(0x1D, 0x20)], by decide, by decide, by decide, by simpa using h⟩

theorem wit_LoaderCourse :
    (ArmOp.copies { op := 1, source := .half .A } = true ∧ ArmOp.copies { op := 1 } = false) ∧
    (∃ o : ArmOp, { z with arm := some o }.arm = some o ∧ o.op = 3 ∧ o.slot < 2 ∧ o.source = .half .A ∧ o.sent = 0 ∧ z.copyFault = false) ∧
    (∃ o : ArmOp, o.checking = true ∧ o.source = .half .B ∧ o.inPlace = false ∧ o.slot = 1) ∧
    (z.scrub.since = none ∧ z.scrub.reading = none ∧ isService paired.mode = true ∧ isService z.mode = false ∧
      { paired with scrub := { since := some 0 } }.scrub.since ≠ none ∧ z.slotState 0 ≠ 1) ∧
    ({ z with scrub := { reading := some 1 } }.armBusy = false ∧ { z with scrub := { reading := some 1 }, arm := some {} }.armBusy = true) ∧
    (let s := { paired with rearm := some { step := 2, first := .B } };
      s.rearmMay { step := 2, first := .B } 0 = false ∧ s.rearmMay { step := 2, first := .A } 0 = true ∧ s.hoRun = none ∧ s.group 0 = [0]) ∧
    (let s := ((paired.put pgPair (F.PAIR_PORT_QUAL.at 0) 1).put (pgTwn .A) F.TWN_STATUS_LINK 1).put (pgTwn .B) F.TWN_STATUS_LINK 1
     s.rearmMay { step := 2, first := .A } 0 = true ∧ s.hoRun = none ∧ ∀ q ∈ s.group 0, s.qualified (Rearm.target { step := 2, first := .A }) q = true) ∧
    (z.rearmMay {} 0 = false ∧ z.halfState .B ≠ 3 ∧ paired.halfState .B = 3) ∧
    z.rearmChecks 0 ≠ none ∧ { z with copyFault := true }.copyFault = true := by
  refine ⟨by decide, ⟨{ op := 3, source := .half .A }, by decide⟩, ⟨{ checking := true, source := .half .B, slot := 1 }, by decide⟩, ?_, ?_, ?_, ?_, ?_, ?_, ?_⟩ <;> decide

/-- Half A's pipe 0 runs at the port's line. -/
def lining : State :=
  (((paired.put (pgCmp .A 0) F.CMP_SCHED_ROLE 0).put (pgScn 0) F.SCN_VTIM0_V_ACTIVE 2).put (pgScn 0) F.SCN_VTIM0_V_TOTAL 6).put (pgScn 0) F.SCN_HTIM0_H_ACTIVE 2

theorem wit_PipeCommands : Admitted rT (pgCmp .A 0) on ∧ z.group 0 = [0] ∧ (z.port 0).marker .A = none ∧ z.pipeRuns .A 0 = false ∧
    (let s := z.setPort 0 { markA := some {} }; (s.port 0).marker .A = some {} ∧ s.inService .A = false) ∧
    (let s := lining.setPort 0 { markA := some { role := 0 } }; (s.port 0).marker .A = some { role := 0 } ∧ s.inService .A = true ∧ s.group 0 = [0]) ∧
    lining.pipeRuns .A 0 = true ∧ (z.pipe .A 0).granted = [] ∧
    (let s := lining.setPipe .A 0 { granted := [{}] }; (s.pipe .A 0).granted = {} :: [] ∧ (s.pipe .A 0).closed ≤ ({} : Chunk).line) ∧
    (let s := lining.setPipe .A 0 { composing := some 1, fetchNext := 2 }; s.pipeRuns .A 0 = true ∧ s.lineReady .A 0 1 = true ∧ s.lineReady .A 0 2 = false ∧
      (s.pipe .A 0).stalled = false) ∧
    (let s := lining.setPipe .A 0 { closed := 1, reported := true }; s.pipeRuns .A 0 = true ∧ 1 < s.vActive 0 ∧
      1 = (s.portLine 0 + 1) % (max 1 (s.vTotal 0)) ∧ (s.pipe .A 0).reported = true) ∧
    (let s := lining.setPipe .A 0 { closed := 2 }; s.vActive 0 ≤ 2 ∧ s.pipeRuns .A 0 = true) := by unfold Admitted; and_intros <;> decide

theorem wit_PortPlugAndTraining : (z.put pgMod F.MOD_STATUS_MODE 0).hpdSensed = false ∧ paired.hpdSensed = true ∧ paired.disc (pgScn 0) 0 = 0 ∧ (paired.discSet (pgScn 0) 0 2).disc (pgScn 0) 0 ≠ 0 ∧
    (z.port 0).hpd = false ∧ (let s := paired.setPort 0 { hpd := true }; (s.port 0).hpd = true ∧ s.hpdSensed = true) ∧ z.disc (pgScn 0) 0 ≠ 1 ∧
    Admitted rT (pgScn 0) z ∧ (z.port 0).linkRead = false ∧ (z.port 0).training = none ∧
    (let s := z.setPort 0 { linkRead := true, readFails := 6 }; (s.port 0).linkRead = true ∧ 6 ≤ (s.port 0).readFails) ∧
    (let s := z.setPort 0 { linkRead := true, readFails := 5 }; (s.port 0).linkRead = true ∧ (s.port 0).readFails < 6) ∧
    ((z.discSet (pgScn 0) 0 1).setPort 0 { auxWait := 1 }).disc (pgScn 0) 0 = 1 ∧
    (z.discSet (pgScn 0) 0 4).disc (pgScn 0) 0 ≠ 2 ∧
    (let s := (z.discSet (pgScn 0) 0 1).setPort 0 { auxFails := 6, auxWait := 1 }; s.disc (pgScn 0) 0 = 1 ∧ 6 ≤ (s.port 0).auxFails ∧ (s.port 0).auxWait = 1) ∧
    (let s := (z.discSet (pgScn 0) 0 1).setPort 0 { auxFails := 5, auxWait := 2 }; s.disc (pgScn 0) 0 = 1 ∧ (s.port 0).auxFails < 6 ∧ (s.port 0).auxWait = 2) ∧
    (let s := z.discSet (pgScn 0) 0 2; s.disc (pgScn 0) 0 = 2 ∧ (s.port 0).training = none) ∧
    (let s := z.discSet (pgScn 0) 0 3; s.disc (pgScn 0) 0 = 3 ∧ (s.port 0).ident = none) ∧
    (let i : SinkId := { manufacturer := 0, product := 0, serial := 0, timings := [], preferred := { z.timing 0 with khz := 1 }, range := none }
     let s := (z.discSet (pgScn 0) 0 3).setPort 0 { ident := some i }
     s.disc (pgScn 0) 0 = 3 ∧ (s.port 0).ident = some i ∧ s.identityOk 0 1 i (s.timing 0) = false) ∧
    (let s := (z.discSet (pgScn 0) 0 4).setPort 0 { hpd := true }; s.disc (pgScn 0) 0 = 4 ∧ (s.port 0).hpd = true) ∧
    (let r : Training := { cands := [(8, 4), (4, 4)], tries := 1 }; r.tries ≠ 0 ∧ 2 ≤ r.cands.length ∧ ((z.setPort 0 { training := some r }).port 0).training = some r) ∧
    (let r : Training := { cands := [(4, 4)], tries := 1 }; r.tries ≠ 0 ∧ r.cands.length ≤ 1) := by unfold Admitted; and_intros <;> decide

theorem disc_setPort (s : State) (p : Nat) (q : Port) (g : Pg) (n : Nat) : (s.setPort p q).disc g n = s.disc g n := rfl

/-- ACCEPT finds the sink that the image names, whatever the image names. -/
theorem sink_named (s : State) : ∃ i : SinkId, let t := s.setPort 0 { ident := some i, timing := some default }
    (t.port 0).ident = some i ∧ t.identityOk 0 1 i (t.timing 0) = true := by
  refine ⟨⟨(Config.imageSink (s.slotCells (s.plinthSlot (itemPort 0))) 0).1, (Config.imageSink (s.slotCells (s.plinthSlot (itemPort 0))) 0).2.1, 0, [], default, none⟩,
    by simp [State.port, State.setPort], ?_⟩
  simp only [State.identityOk, sinkIncludes, Bool.and_eq_true, Bool.or_eq_true, decide_eq_true_eq]
  exact ⟨⟨Or.inl (Or.inl (by simp [State.timing, State.port, State.setPort])), Or.inr ⟨rfl, rfl⟩⟩, Or.inl (by decide)⟩

theorem wit_PortPlugAndTraining_accept : ∃ (i : SinkId) (s : State), s.disc (pgScn 0) 0 = 3 ∧ (s.port 0).ident = some i ∧ s.identityOk 0 1 i (s.timing 0) = true := by
  obtain ⟨i, h⟩ := sink_named (z.discSet (pgScn 0) 0 3)
  exact ⟨i, _, (disc_setPort _ _ _ _ _).trans (by decide), h⟩

theorem wit_PortTiming : (∀ k ∈ (z.hs .A).link, k.port ≠ 0) ∧ (let k : Packet := { port := 0, line := 1 }
      (z.sendPacket .A k).hs .A |>.link.find? (fun k => k.port = 0)) = some { port := 0, line := 1 } ∧
    (z.port 0).run = false ∧ (z.timing 0).vTotal ≤ z.portLine 0 + 1 ∧ (z.port 0).blStart = none ∧ z.get pgPlk (F.PLK_LOCK_STATE.at 0) ≠ 3 ∧
    (let s := lining.setPort 0 { run := true, fresh := true }; (s.port 0).run = true ∧ s.group 0 = [0] ∧ 0 < (s.timing 0).vTotal) ∧
    (let s := (lining.put (pgScn 0) F.SCN_LINE_LINE 2).setPort 0 { run := true }; s.portLine 0 + 4 = (s.timing 0).vTotal ∧ (s.port 0).timing = none ∧ s.group 0 = [0]) ∧
    (let s := (lining.put (pgScn 0) F.SCN_LINE_LINE 5).setPort 0 { run := true }; s.portLine 0 + 1 = (s.timing 0).vTotal ∧ (s.port 0).fresh = false ∧ s.group 0 = [0]) ∧
    (z.setPort 0 { blStart := some 0 }).port 0 ≠ z.port 0 ∧ (z.put pgPlk (F.PLK_LOCK_STATE.at 0) 3).get pgPlk (F.PLK_LOCK_STATE.at 0) = 3 := by and_intros <;> decide

theorem wit_IntegrityCommands : Admitted rT (pgIck 0) z ∧ (z.put (pgIck 0) F.ICK_STATUS_DARK 1).flag (pgIck 0) F.ICK_STATUS_DARK = true ∧
    z.flag (pgIck 0) F.ICK_STATUS_DARK = false ∧ z.sinkAllowed 0 = false ∧
    (let s := (paired.put (pgScn 0) F.SCN_LINK_UP 1).put (pgScn 0) F.SCN_LINK_SINK_CRC 1; s.sinkAllowed 0 = true ∧
      s.get (pgIck 0) F.ICK_SINKCFG_SINK_DIV ≤ (s.port 0).sinkCount) ∧
    (z.port 0).ackA = false ∧ (z.port 0).sinkBusy = false ∧ z.ownerOf 0 = none ∧ paired.ownerOf 0 = some .A ∧ paired.ownerOf 0 = some (Half.other .B) ∧
    (let q : Port := { ackA := true, ickA := some [(0, 1)], sinkBusy := true, sinkHist := [(1, 2, 3)] };
      q.ackA = true ∧ q.sinkBusy = true ∧ (1, 2, 3) ∈ q.sinkHist ∧ (0, 2, 3) ∉ q.sinkHist) ∧
    ((z.port 0).sinkRun < max 1 (z.get (pgIck 0) F.ICK_SINKCFG_SINK_THRESH) ∧ max 1 (z.get (pgIck 0) F.ICK_SINKCFG_SINK_THRESH) ≤ (z.port 0).sinkRun + 1) := by
  unfold Admitted; and_intros <;> decide

/-! ## A raster context whose translation is the identity, where the second stage of its Partition is -/

/-- Context 5 of Half A, Waiting or Holding, with one Sv48 leaf for its first 512 GB at address 0, a ring of 16 entries at 0x1000 with one entry, and one
region entry that admits every access of the Trusted world to the DRAM; the shader groups are On. -/
def rw (b : Bool) (m : List Host.Cell) (c : RCtx) : State :=
  let s := (((z.setReg (pgPwr .A) 0x14 0x22222222).setReg (pgWld .A) 0x404 0x400000).setReg (pgWld .A) 0x408 0xFF).put (pgRcx .A 5) F.RCX_CFG_WORLD 1
  let s := ((s.put (pgRcx .A 5) F.RCX_RING_HI_LOG2 4).put (pgRcx .A 5) F.RCX_RING_LO_ADDR 1).put (pgRcx .A 5) F.RCX_TAIL_COUNT 1
  { ((s.put (pgRcx .A 5) F.RCX_CFG_TIERMASK 31).setRs .A 5 (if b then 2 else 1)).setCtx .A 5 c with dramA := (0, 0xCF) :: m }

/-- The second stage of every Partition is the identity. -/
def Stage2Id : Prop := ∀ p a, Config.stage2 p a = some a

theorem rw_mirror (w : Bool) (m : List Host.Cell) (c : RCtx) (b : Nat) : (rw w m c).mirrorOf .A b = none := by
  have e : ∀ n, (rw w m c).flag (pgTwn .A) (F.TWN_MREG_SZ_VALID.at (8 * n)) = (rw w [] {}).flag (pgTwn .A) (F.TWN_MREG_SZ_VALID.at (8 * n)) := fun _ => rfl
  have off : ∀ n, n < 16 → (rw w [] {}).flag (pgTwn .A) (F.TWN_MREG_SZ_VALID.at (8 * n)) = false := by cases w <;> decide
  simp only [State.mirrorOf, List.find?_eq_none, upTo, List.mem_range, State.inMirror, e]
  intro n hn
  simp [off n hn]

theorem rw_admits (w : Bool) (m : List Host.Cell) (c : RCtx) (k : AccKind) (b : Nat) (hb : b < dramSize) : (rw w m c).admitBlock .A ((rw w m c).rTag .A 5) k b = true := by
  have t : (rw w m c).rTag .A 5 = ⟨.trusted, 16, false, false⟩ := by
    show (rw w [] {}).rTag .A 5 = _; cases w <;> decide
  have mir := rw_mirror w m c b
  have r0 : (rw w m c).rgn .A 0 0 = 0 := by show (rw w [] {}).rgn .A 0 0 = 0; cases w <;> decide
  have r1 : (rw w m c).rgn .A 0 1 = 0x400000 := by show (rw w [] {}).rgn .A 0 1 = 0x400000; cases w <;> decide
  have r2 : (rw w m c).rgn .A 0 2 = 0xFF := by show (rw w [] {}).rgn .A 0 2 = 0xFF; cases w <;> decide
  have cov : (rw w m c).rgnCovers .A b 0 = true := by
    simp only [State.rgnCovers, r0, r1, r2]
    have : b < 4194304 * 4096 := hb
    simp; omega
  have adm : (rw w m c).rgnAdmits .A ⟨.trusted, 16, false, false⟩ k 0 = true := by
    simp only [State.rgnAdmits, r2]; cases k <;> decide
  have mem : 0 ∈ (List.range' 0 64).filter ((rw w m c).rgnCovers .A b) := by simp [List.mem_filter, cov, List.mem_range']
  rw [t]
  simp only [State.admitBlock, ctrlOf, if_pos hb, mir]
  have ne : ((List.range' 0 64).filter ((rw w m c).rgnCovers .A b)).isEmpty = false := by
    cases h : (List.range' 0 64).filter ((rw w m c).rgnCovers .A b) with
    | nil => rw [h] at mem; simp at mem
    | cons _ _ => rfl
  simp only [ne, Bool.false_eq_true, if_false]
  have : ((List.range' 0 64).filter ((rw w m c).rgnCovers .A b)).any ((rw w m c).rgnAdmits .A ⟨.trusted, 16, false, false⟩ k) = true :=
    List.any_eq_true.2 ⟨0, mem, adm⟩
  simp [this]

/-- A byte that the engine reads for the context. -/
theorem rw_byteAt (w : Bool) (m : List Host.Cell) (c : RCtx) (k : AccKind) (a : Nat) (ha : a < dramSize) :
    (rw w m c).byteAt .A ((rw w m c).rTag .A 5) k a = memByte ((0, 0xCF) :: m) a := by
  have hb : a / 64 * 64 < dramSize := by omega
  simp only [State.byteAt, rw_admits w m c k _ hb, Bool.not_true, Bool.false_eq_true, if_false, if_pos ha]
  rfl

/-- A byte as the context sees it, where it has stored nothing. -/
theorem rw_byte (w : Bool) (m : List Host.Cell) (c : RCtx) (k : AccKind) (a : Nat) (hc : ((rw w m c).ctx .A 5).stores = []) (ha : a < dramSize) :
    (rw w m c).rByte .A 5 k a = memByte ((0, 0xCF) :: m) a := by
  simp [State.rByte, hc, rw_byteAt w m c k a ha, State.rl2Find, show ((rw w m c).hs .A).rl2 = [] from rfl]

theorem rw_walk (hs : Stage2Id) (w : Bool) (m : List Host.Cell) (c : RCtx) (k : AccKind) (a : Nat) (ha : a < dramSize) (hm : ∀ i, 0 < i → i < 8 → memByte ((0, 0xCF) :: m) i = 0) :
    (rw w m c).rWalk .A 5 k a = .at a := by
  have ha' : a < 0x400000000 := ha
  have can : canonical a = true := by simp [canonical]; omega
  have pt : (rw w m c).get (pgRcx .A 5) F.RCX_PT_PAGE = 0 := by show (rw w [] {}).get (pgRcx .A 5) F.RCX_PT_PAGE = 0; cases w <;> decide
  have i0 : a % 2 ^ 48 / 2 ^ (12 + 9 * 3) % 512 = 0 := by omega
  have e : (rw w m c).natAt .A ((rw w m c).rTag .A 5) 0 8 = 0xCF := by
    have : (rw w m c).bytesAt .A ((rw w m c).rTag .A 5) .read 0 8 = (List.range 8).map fun i => memByte ((0, 0xCF) :: m) (0 + i) := by
      refine List.map_congr_left fun i hi => rw_byteAt w m c .read (0 + i) ?_
      have := List.mem_range.1 hi
      simp only [dramSize]; omega
    rw [State.natAt, this]
    rw [show List.range 8 = [0, 1, 2, 3, 4, 5, 6, 7] from rfl]
    simp only [List.map, leNat, Nat.zero_add, hm 1, hm 2, hm 3, hm 4, hm 5, hm 6, hm 7, Nat.one_pos, Nat.reduceLT,
      show memByte ((0, 0xCF) :: m) 0 = 0xCF from rfl]
    rfl
  have last : a % 2 ^ 48 % 2 ^ (12 + 9 * 3) = a := by omega
  have leaf : (0xCF : Nat).testBit (AccKind.pteBit k) = true := by cases k <;> decide
  have sv : (rw w m c).sv48 .A ((rw w m c).rTag .A 5) k (a % 2 ^ 48) 4 0 = .at a := by
    simp only [State.sv48, hs _ _, i0, Nat.mul_zero, Nat.add_zero, e, leaf, last, rw_admits w m c .read (0 / 64 * 64) (by decide)]
    simp [show pteReserved 0xCF 3 = false from by decide, show (0xCF : Nat).testBit 0 = true from rfl, show (0xCF : Nat).testBit 6 = true from rfl,
      show (0xCF : Nat).testBit 7 = true from rfl, show (0xCF : Nat).testBit 63 = false from by decide]
  simp only [State.rWalk, can, pt, Nat.zero_mul, sv, Bool.not_true, Bool.false_eq_true, if_false, State.rIpa, hs _ _]
  rw [rw_admits w m c k _ (by omega), if_pos rfl]

/-- The ring entry at 0x1000 with one descriptor: TYPE, ADDR 0x3000 and VALUE. -/
def ringOf (typ value : Byte) : List Host.Cell := [(0x1000, typ), (0x1009, 0x30), (0x1018, value)]

theorem rw_read (hs : Stage2Id) (w : Bool) (m : List Host.Cell) (c : RCtx) (va n : Nat) (hc : ((rw w m c).ctx .A 5).stores = []) (hn : va + n ≤ dramSize)
    (hm : ∀ i, 0 < i → i < 8 → memByte ((0, 0xCF) :: m) i = 0) :
    (rw w m c).rRead .A 5 va n = leNat ((List.range n).map fun i => memByte ((0, 0xCF) :: m) (va + i)) := by
  simp only [State.rRead, State.rBytesBy, upTo]
  congr 1
  refine List.map_congr_left fun i hi => ?_
  have := List.mem_range.1 hi
  rw [rw_walk hs w m c .read (va + i) (by omega) hm]
  exact rw_byte w m c .read (va + i) hc (by omega)

/-- Context 5 alone may take the next entry of its ring: a GRAPHICS, COMPUTE or FENCE job, or a WAIT whose word 0 at 0x3000 is below or at VALUE. -/
theorem wit_RasterCourse_ring (hs : Stage2Id) : ∀ p ∈ [((1 : Byte), (0 : Byte)), (2, 0), (3, 0), (4, 1), (4, 0)],
    let s := rw false (ringOf p.1 p.2) {}
    let va := s.ringVa .A 5 (s.rHead .A 5)
    let j := s.jobAt .A 5 va
    (∀ d : Fin 64, d ≠ 5 → s.rs .A d = 0 ∧ (s.ctx .A d).saving = none) ∧ (s.ctx .A 5).saving = none ∧ (s.ctx .A 5).suspend = false ∧
    s.takesJob .A 5 = true ∧ 4 ≤ s.ringLog .A 5 ∧ s.rWalk .A 5 .read va = .at 0x1000 ∧ s.jobBad .A 5 va = false ∧ j.typ = p.1.toNat ∧
    s.rWalk .A 5 .read j.addr = .at 0x3000 ∧ s.rRead .A 5 j.addr 8 = 0 ∧ j.value = p.2.toNat ∧
    s.isAsync .A 5 = false ∧ (s.hs .A).compositor ≠ 2 ∧ s.freeGroups .A ≠ [] := by
  intro p hp
  have hm : ∀ i, 0 < i → i < 8 → memByte ((0, 0xCF) :: ringOf p.1 p.2) i = 0 := by
    intro i h0 h8
    have n0 : (0 = i) = False := by simp; omega
    have n1 : (0x1000 = i) = False := by simp; omega
    have n2 : (0x1009 = i) = False := by simp; omega
    have n3 : (0x1018 = i) = False := by simp; omega
    simp only [memByte, tblGet, ringOf, tblFind, n0, n1, n2, n3, if_false]
    rfl
  have rd := fun va n h => rw_read hs false (ringOf p.1 p.2) {} va n rfl h hm
  have wk := fun a h => rw_walk hs false (ringOf p.1 p.2) {} .read a h hm
  have vae : (rw false (ringOf p.1 p.2) {}).ringVa .A 5 ((rw false (ringOf p.1 p.2) {}).rHead .A 5) = 0x1000 := by
    show (rw false [] {}).ringVa .A 5 ((rw false [] {}).rHead .A 5) = 0x1000; decide
  have je : (rw false (ringOf p.1 p.2) {}).jobAt .A 5 0x1000 = { typ := p.1.toNat, flags := 0, addr := 0x3000, len := 0, value := p.2.toNat } := by
    simp only [State.jobAt]
    rw [rd _ 1 (by decide), rd _ 1 (by decide), rd _ 8 (by decide), rd _ 4 (by decide), rd _ 8 (by decide)]
    clear hm rd wk vae; fin_cases hp <;> rfl
  have jb : (rw false (ringOf p.1 p.2) {}).jobBad .A 5 0x1000 = false := by
    simp only [State.jobBad, je]
    rw [rd _ 6 (by decide), rd _ 4 (by decide), rd _ 32 (by decide)]
    clear hm rd wk vae je; fin_cases hp <;> rfl
  refine ⟨?_, rfl, rfl, ?_, ?_, ?_, ?_, ?_, ?_, ?_, ?_, ?_, ?_, ?_⟩
  · show ∀ d : Fin 64, d ≠ 5 → (rw false [] {}).rs .A d = 0 ∧ ((rw false [] {}).ctx .A d).saving = none; decide
  · show (rw false [] {}).takesJob .A 5 = true; decide
  · show 4 ≤ (rw false [] {}).ringLog .A 5; decide
  · rw [vae]; exact wk _ (by decide)
  · rw [vae]; exact jb
  · rw [vae, je]
  · rw [vae, je]; exact wk 0x3000 (by decide)
  · rw [vae, je]; show (rw false (ringOf p.1 p.2) {}).rRead .A 5 0x3000 8 = 0; rw [rd 0x3000 8 (by decide)]; clear hm rd wk vae je jb; fin_cases hp <;> rfl
  · rw [vae, je]
  · show (rw false [] {}).isAsync .A 5 = false; decide
  · show ((rw false [] {}).hs .A).compositor ≠ 2; decide
  · show (rw false [] {}).freeGroups .A ≠ []; decide

theorem wit_RasterCommands : Admitted rT (pgRcx .A 5) z ∧ 4 ≤ z.ringLog .A 5 ∧ (z.put (pgRcx .A 5) F.RCX_RING_HI_LOG2 3).ringLog .A 5 < 4 ∧
    2 ^ z.ringLog .A 5 < (0x10001#32).toNat ∧ (BitVec.ofNat 32 (2 ^ z.ringLog .A 5)).toNat ≤ 2 ^ z.ringLog .A 5 ∧ z.rHead .A 5 = 0 ∧
    z.rs .A 5 = 0 ∧ (z.ctx .A 5).suspend = false ∧ (z.ctx .A 5).job = none ∧ (0x107#32).toNat / 8 % 32 = 0 ∧ (0x107#32).toNat < 512 ∧ (0x8#32).toNat / 8 % 32 ≠ 0 ∧
    (0x103#32).toNat % 8 ≠ 7 ∧ (z.setRs .A 5 4).rs .A 5 = 4 ∧ (z.setRs .A 5 2).rs .A 5 = 2 ∧ (z.setRs .A 5 1).rs .A 5 = 1 ∧ (z.setRs .A 5 6).rs .A 5 = 6 ∧
    (z.hs .A).gfeStop = false ∧ ((z.setHs .A { gfeStop := true }).hs .A).gfeStop = true := by unfold Admitted; and_intros <;> decide

/-- Context 5 of Half A executes a COMPUTE job on shader group 0; context 6 waits with another, at a higher priority. -/
def drawing (c : RCtx) : State :=
  let s := (((z.put (pgRcx .A 5) F.RCX_CFG_TIERMASK 1).setRs .A 5 2).setCtx .A 5 { c with job := some { typ := 2 } }).setShGroup .A 0 { holder := 6 }
  ((s.put (pgRcx .A 6) F.RCX_CFG_TIERMASK 1).setRs .A 6 1).setCtx .A 6 { job := some { typ := 2 } }

theorem wit_RasterCourse : (z.setRs .A 5 4).rs .A 5 = 4 ∧ ((z.setRs .A 5 4).ctx .A 5).saving = none ∧ (z.hs .A).compositor ≠ 1 ∧ z.executing .A 5 = false ∧
    (let s := (z.setRs .A 0 1).setCtx .A 0 { job := some { typ := 2 } }
     let s := s.setHs .A { s.hs .A with compositor := 1 }
     (s.hs .A).compositor = 1 ∧ s.rs .A 0 = 1 ∧ (s.ctx .A 0).job ≠ none ∧ ∀ c : Fin 64, (s.ctx .A c).saving = none ∧ (s.ctx .A c).stores = []) ∧
    (let s := z.setHs .A { compositor := 2 }; (s.hs .A).compositor = 2 ∧ s.rs .A 0 ≠ 2) ∧
    (drawing {}).executing .A 5 = true ∧ ((drawing {}).ctx .A 5).fault = none ∧ ((drawing { fault := some 2 }).ctx .A 5).fault = some 2 ∧
    (let s := drawing { suspend := true, tile := [1] }; s.executing .A 5 = true ∧ (s.ctx .A 5).suspend = true ∧ (s.ctx .A 5).tile ≠ []) ∧
    (let s := drawing { suspend := true }; s.executing .A 5 = true ∧ (s.ctx .A 5).suspend = true ∧ (s.ctx .A 5).tile = []) ∧
    (let s := (drawing {}).put (pgRcx .A 5) F.RCX_CFG_TIERMASK 2; s.executing .A 5 = true ∧ (s.ctx .A 5).suspend = false ∧ s.rAllowed .A 5 = false) ∧
    (let s := drawing {}; s.rAllowed .A 5 = true ∧ (s.setCtx .A 5 { s.ctx .A 5 with prioHeld := none }).mustYield .A 5 0 = false) ∧
    (let s := (drawing { tile := [1] }).put (pgRcx .A 6) F.RCX_PRIO_PRIO 3
     s.executing .A 5 = true ∧ s.rAllowed .A 5 = true ∧ (s.setCtx .A 5 { s.ctx .A 5 with prioHeld := none }).mustYield .A 5 0 = true) ∧
    (let s := (drawing {}).put (pgRcx .A 6) F.RCX_PRIO_PRIO 3
     (s.ctx .A 5).tile = [] ∧ (s.setCtx .A 5 { s.ctx .A 5 with prioHeld := none }).mustYield .A 5 0 = true) ∧
    (let s := (z.setRs .A 5 2).setCtx .A 5 { job := some { typ := 3 } }; s.rs .A 5 = 2 ∧ ((s.l1Out .A 5).l2Out .A 5).writesDone .A 5 = true) ∧
    (let s := (z.setRs .A 5 2).setCtx .A 5 { job := some { typ := 3 }, mfence := 1 }; ((s.l1Out .A 5).l2Out .A 5).writesDone .A 5 = false ∧ (s.ctx .A 5).results = []) := by
  and_intros <;> decide

theorem wit_RasterCourse_fence (hs : Stage2Id) : ∃ (c : RCtx) (j : Job) (pa : Nat), let s := rw true [] c
    (s.ctx .A 5).job = some j ∧ j.typ = 3 ∧ s.rs .A 5 = 2 ∧ (s.ctx .A 5).fault = none ∧ (s.ctx .A 5).stores = [] ∧ (s.hs .A).rl2 = [] ∧
    (s.ctx .A 5).mfence ≤ (s.hs .A).mirDone ∧ j.addr % 8 = 0 ∧ s.rWalk .A 5 .write j.addr = .at pa ∧ pa % 64 = j.addr % 64 ∧
    (s.boundPages .A).contains (pa / 4096) = false ∧ s.mirrorOf .A pa = none ∧ s.mirrorOf .A (pa / 64 * 64) = none ∧ pa + 8 ≤ dramSize := by
  have hm : ∀ i, 0 < i → i < 8 → memByte [(0, 0xCF)] i = 0 := fun i h _ => by
    have n0 : (0 = i) = False := by simp; omega
    simp only [memByte, tblGet, tblFind, n0, if_false]; rfl
  exact ⟨{ job := some { typ := 3, addr := 0x3000 } }, { typ := 3, addr := 0x3000 }, 0x3000, rfl, rfl, by decide, rfl, rfl, rfl, by decide, by decide,
    rw_walk hs true [] _ .write _ (by decide) hm, rfl, by decide, rw_mirror true [] _ _, rw_mirror true [] _ _, by decide⟩

theorem wit_RasterAccesses : z.executing .A 5 = false ∧ ((drawing {}).executing .A 5 = true ∧ (drawing {}).runsOn .A 5 0 = true ∧ (drawing {}).runsOn .A 5 1 = false) ∧
    (z.ctx .A 5).list = (z.ctx .B 6).list ∧ ([1] : List Byte) ≠ [] ∧ (2 ^ 47) % 64 + 1 ≤ 64 ∧ (z.hs .A).rl2 = [] ∧ (z.ctx .A 5).fault = none ∧
    z.rWalk .A 5 .write (2 ^ 47) = .fault 1 none ∧ z.rWalk .A 5 .read (2 ^ 47) = .fault 1 none ∧
    (let im : SparseImage := { number := 1, map := 0x1000, width := 512, height := 512, layers := 1, levels := 1, texelBits := 32, lbase := [0] }
     let s := z.setCtx .A 5 { mapCache := [(0x1014, 5)], misses := [(0, pageKey 1 0 1 1 0)] }
     let p := im.page 0 0 130 200
     p.index = 5 ∧ tblFind (im.map + 4 * p.index) (s.ctx .A 5).mapCache = some 5 ∧ (5 : Nat).testBit 31 = false ∧ s.get (pgRcx .A 5) F.RCX_MISS_PTR_LOG2 ≤ 8 ∧
       (s.ctx .A 5).misses.contains ((0 : Nat), pageKey im.number p.level p.px p.py 0) = true) := by and_intros <;> decide

theorem wit_RasterAccesses_walk (hs : Stage2Id) : let s := rw false [] {}; let t := rw false [] { progs := [3] }
    (∀ k, s.rWalk .A 5 k 0x3000 = .at 0x3000 ∧ t.rWalk .A 5 k 0x3000 = .at 0x3000) ∧ (s.boundPages .A).contains (0x3000 / 4096) = false ∧
    (t.boundPages .A).contains (0x3000 / 4096) = true ∧ (∀ a, 0x3000 ≤ a → a < 0x3000 + 16 → ∃ pa, s.rWalk .A 5 .read a = .at pa) := by
  have hm : ∀ i, 0 < i → i < 8 → memByte [(0, 0xCF)] i = 0 := fun i h _ => by
    have n0 : (0 = i) = False := by simp; omega
    simp only [memByte, tblGet, tblFind, n0, if_false]; rfl
  exact ⟨fun k => ⟨rw_walk hs false [] _ k _ (by decide) hm, rw_walk hs false [] _ k _ (by decide) hm⟩, by decide, by decide,
    fun a _ h => ⟨a, rw_walk hs false [] _ _ a (by simp only [dramSize]; omega) hm⟩⟩

theorem wit_HeartbeatsAndNotices : (let s := stageA .running z; (s.hs .A).stage = .running ∧ (s.hs .A).hbWithheld = false) ∧ (z.hs .A).stage ≠ .running ∧
    (let s := z.setHs .A { hbLink := [(3, 7)] }; (s.hs .A).hbLink[0]? = some (3, 7) ∧ (s.hs .A).hbAcc = none) ∧
    (let s := z.setHs .A { hbLink := [(3, 0), (3, 65535), (3, 32767)], hbAcc := some 65535 }
     (s.hs .A).hbLink[0]? = some (3, 0) ∧ 1 ≤ (0 + 65536 - 65535) % 65536 ∧ (0 + 65536 - 65535) % 65536 < 32768 ∧
      (s.hs .A).hbLink[1]? = some (3, 65535) ∧ (65535 + 65536 - 65535) % 65536 = 0 ∧
      (s.hs .A).hbLink[2]? = some (3, 32767) ∧ 32768 ≤ (32767 + 65536 - 65535) % 65536) ∧
    (z.hs .A).hbLink[0]? = none ∧ paired.inService .A = true ∧ z.inService .A = false ∧
    ((stageA .stopping paired).hs .A).stage = .stopping ∧ (stageA .stopping paired).inService .A = true ∧ (z.hs .A).stage ≠ .stopping := by
  and_intros <;> decide

theorem wit_LostHalf : (stageA .running z).inReset .A = false ∧ z.inReset .A = true ∧ (stageA .running z).Canon := by
  unfold State.Canon; decide

theorem wit_HalfResets : Admitted rT (pgRstH .A) z ∧ z.pw.rstBy = none ∧ (z.put (pgWld .A) F.WLD_DBG_TRU_INV 1).flag (pgWld .A) F.WLD_DBG_TRU_INV = true ∧
    (let s := stageA .reset z; (s.hs .A).stage = .reset ∧ (s.hs .A).hold = false) ∧ ((z.setHs .A { hold := true }).hs .A).hold = true ∧
    ((stageA .applying z).hs .A).stage = .applying ∧
    ((stageA .measuring z).hs .A).stage = .measuring ∧ (z.hs .A).stage ≠ .measuring ∧ (z.hs .A).restart ≠ 2 := by
  unfold Admitted; and_intros <;> decide

/-- Mirror region 0 holds the first 64 KB of DRAM with Half A as its source; one region entry of Half A admits the Trusted world to the DRAM. -/
def mirrored : State :=
  let s := [Half.A, Half.B].foldl (fun s h => ((s.put (pgTwn h) F.TWN_MREG_SZ_VALID 1).put (pgTwn h) F.TWN_MREG_SZ_SIZE 1).put (pgTwn h) F.TWN_STATUS_LINK 1) paired
  (((s.put (pgTwn .A) F.TWN_MIR_SRC_SRC 1).setReg (pgWld .A) 0x404 0x400000).setReg (pgWld .A) 0x408 0xFF).setHs .B { (s.hs .B) with dram := { trained := true, zeroDone := true } }

theorem wit_MirrorWrites : Admitted rT (pgTwn .A) on ∧
    (let s := mirrored; 0 < ([1] : List Byte).length ∧ 64 % 64 + ([1] : List Byte).length ≤ 64 ∧ 64 < dramSize ∧ s.mirrorOf .A 64 = some 0 ∧
      (s.hs .A).mirQ.length < 4096 ∧ s.admitBlock .A (s.rqTag rT) .write 64 = true ∧ s.mirrorSrc .A 0 = true ∧ s.mirrorLive .A = true) ∧
    (let s := (mirrored.setReg (pgWld .A) 0x408 0).setHart .A 3 { mMode := false }; s.admitBlock .A (s.rqTag ⟨.A, .hart 3⟩) .write 64 = false) ∧
    (let s := mirrored.setHs .A { mirQ := [⟨64, [1]⟩] }
     (s.hs .A).mirQ = ⟨64, [1]⟩ :: [] ∧ s.dramUp .B (dramChan 64) = true ∧
      s.grant .B (dramChan 64) 0 = .request { source := .mirror, requester := 13, addr := 64, write := some [1], mirror := true } ∧
      (∀ i : Fin 64, (s.inst .A i).saving = false) ∧ s.mirrorOf .B (64 / 64 * 64) ≠ none) ∧
    (let s := z.setHs .A { mirQ := [⟨64, [1]⟩] }; (s.hs .A).mirQ = ⟨64, [1]⟩ :: [] ∧ s.dramUp .B (dramChan 64) = false) ∧ (z.hs .A).mirQ = [] ∧
    (let s := z.setHs .A { mfence := [(7, 1), (8, 1), (9, 4)], mirDone := 1 }
     (s.hs .A).mfence = [(7, 1)] ++ (8, 1) :: [(9, 4)] ∧ (∀ e ∈ [((7 : Word), 1)], e.2 ≤ (s.hs .A).mirDone) ∧ 1 ≤ (s.hs .A).mirDone ∧ (s.hs .A).mirDone < 4) ∧
    (let s := z.setHs .A { mfence := [(7, 1)] }; (s.hs .A).mfence.head? = some (7, 1) ∧ (s.hs .A).mirDone < 1) ∧
    (let r : MirHand := ⟨2, 0, []⟩
     let s := paired.setHs .A { mirHand := [r] }
     (s.hs .A).mirHand.find? (fun x => x.region = 2) = some r ∧ (s.hs .B).mirHand.find? (fun x => x.region = 2) = none ∧ s.inService .B = true ∧
      s.handQueue .A r = [] ∧ r.granules = []) ∧ (0xFFFF#32).toNat < 65536 ∧ 65536 ≤ (0x10000#32).toNat := by unfold Admitted; and_intros <;> decide

/-- A mirror write waits while the twin-link queue holds 4,096 writes. -/
theorem full_at (a n : Nat) (s : State) (q : HalfSt) (hq : q.mirQ.length = 4096) (hl : s.mirrorLive .A = true)
    (hm : ((blocksOf a n).filter fun b => match s.mirrorOf .A b with | none => false | some m => s.mirrorSrc .A m).isEmpty = false) :
    (s.setHs .A q).mirFull .A a n = true := by
  have e : (s.setHs .A q).mirFull .A a n = (!(((blocksOf a n).filter fun b => match s.mirrorOf .A b with | none => false | some m => s.mirrorSrc .A m)).isEmpty &&
    s.mirrorLive .A && decide (mirQMax < q.mirQ.length + ((blocksOf a n).filter fun b => match s.mirrorOf .A b with | none => false | some m => s.mirrorSrc .A m).length)) := rfl
  have l := List.length_pos_iff.2 (List.isEmpty_eq_false_iff.1 hm)
  have : mirQMax < 4096 + ((blocksOf a n).filter fun b => match s.mirrorOf .A b with | none => false | some m => s.mirrorSrc .A m).length := by
    unfold mirQMax; omega
  rw [e, hm, hl, hq, decide_eq_true this]; rfl

theorem wit_MirrorWrites_full : ∃ s : State, s.mirFull .A 64 1 = true :=
  ⟨mirrored.setHs .A { mirQ := List.replicate 4096 ⟨0, []⟩ }, full_at 64 1 _ _ List.length_replicate (by decide) (by decide)⟩

/-- A FENCE whose VALUE stays in the L2 because the twin-link queue is full. -/
theorem wit_RasterCourse_stuck : ∃ s : State, (s.ctx .A 5).job = some { typ := 3 } ∧ s.rs .A 5 = 2 ∧ (s.ctx .A 5).results ≠ [] ∧
    let s2 := ((s.l1Out .A 5).l2Out .A 5).fenceWrite .A 5 { typ := 3 }
    (s2.ctx .A 5).fault = none ∧ s2.writesOut .A 5 = false := by
  obtain ⟨ms, hms⟩ : ∃ ms : List MirWrite, ms.length = 4096 := ⟨List.replicate 4096 ⟨0, []⟩, List.length_replicate⟩
  let c : RCtx := { job := some { typ := 3 }, results := [[]] }
  let q : HalfSt := { mirQ := ms, rl2 := [{ addr := 64, writers := [5], dirty := [(64, 1)] }], ctx := [(5, c)] }
  let s := (mirrored.setRs .A 5 2).setHs .A q
  have full : s.mirFull .A 64 1 = true := full_at 64 1 _ _ hms (by decide) (by decide)
  have l1 : ∀ b : State, (b.setHs .A q).l1Out .A 5 = b.setHs .A q := fun b => by
    have e : tblSet (fun _ => ({} : RCtx)) [(5, c)] 5 { c with stores := [] } = [(5, c)] := by decide
    have g : (b.setHs .A q).ctx .A 5 = c := rfl
    simp only [State.l1Out, g, State.setCtx, show c.stores = [] from rfl, State.each, List.foldl_nil, show ((b.setHs .A q).hs .A) = q from rfl, show q.ctx = [(5, c)] from rfl, e]
    rfl
  have l2 : s.l2Out .A 5 = s := by
    have : (s.hs .A).rl2 = [{ addr := 64, writers := [5], dirty := [(64, 1)] }] := rfl
    have st : s.rl2Stuck .A { addr := 64, writers := [5], dirty := [(64, 1)] } = true := by
      show (s.mirFull .A 64 1 || false) = true; rw [full]; rfl
    simp [State.l2Out, this, upTo, State.each, List.range_succ]
    intro h; exact absurd (h.symm.trans st) (by decide)
  refine ⟨s, rfl, rfl, List.cons_ne_nil _ _, ?_⟩
  rw [show s.l1Out .A 5 = s from l1 _, l2]
  exact ⟨rfl, rfl⟩

theorem wit_TwinLink : (z.hs .A).copying = none ∧ (let s := z.setHs .A { copying := some 3 }; (s.hs .A).copying = some 3 ∧ (s.hs .A).copyAgain = false) ∧ ({ copying := some 3, copyAgain := true } : HalfSt).copyAgain = true ∧
    Memory.wf [⟨5, 1⟩] = true ∧ 5 < 65536 := by decide

theorem wit_PairCommands : Admitted rT pgPair z ∧ (z.hoRun = none ∧ z.rearm = none ∧ z.insp = none ∧ z.shed = none) ∧
    (z.withPartners (portsOf 1)).filter (fun p => z.ownerOf p = some .A && !((z.port p).t4Stop)) = [] ∧
    (paired.withPartners (portsOf 1)).filter (fun p => paired.ownerOf p = some (Half.other .B) && !((paired.port p).t4Stop)) = [0] ∧
    paired.role .B 0 = roleStandby ∧ paired.qualified .B 0 = false ∧ (paired.setRole .B 0 7).role .B 0 ≠ roleStandby ∧
    (let s := (paired.put pgPair (F.PAIR_PORT_QUAL.at 0) 1).put (pgTwn .A) F.TWN_STATUS_LINK 1 |>.put (pgTwn .B) F.TWN_STATUS_LINK 1
     s.qualified .B 0 = true) ∧
    (let s := ((paired.put pgPair (F.PAIR_PORT_QUAL.at 0) 1).put (pgTwn .A) F.TWN_STATUS_LINK 1 |>.put (pgTwn .B) F.TWN_STATUS_LINK 1).put pgPair F.PAIR_CFG_AUTO_RETURN 1
     let s := s.put pgPair (F.PAIR_PORT_HOME.at 0) 1
     s.flag pgPair F.PAIR_CFG_AUTO_RETURN = true ∧ s.group 0 = [0] ∧ s.qualified (s.home 0) 0 = true ∧ (s.port 0).ho = none ∧ (s.port 0).t4Stop = false ∧
       s.hoRun = none ∧ s.rearm = none ∧ s.insp = none ∧ s.shed = none) ∧
    (let q : Port := { ho := some { phase := 1, digestA := some [], digestB := some [] } }; ((z.setPort 0 q).port 0).ho = q.ho) ∧
    { z with hoRun := some {} }.hoRun ≠ none ∧
    ({ z with shed := some { half := .B, issued := true } }.owned .B = []) := by unfold Admitted; and_intros <;> decide

/-- Where the image in force names a Trusted image, Half A measures it. -/
theorem wit_HalfResets_image (x : Nat × Nat × Nat × List Byte × Bool) (hi : (Config.imageTrusted (z.image .A))[0]? = some x) :
    let s := stageA .measuring z
    (s.hs .A).stage = .measuring ∧ (s.hs .A).measOut = 0 ∧ (s.trustedImages .A)[(s.hs .A).images]? = some x := ⟨rfl, rfl, hi⟩

/-- Half A runs with every domain on; hart 0 is Open. -/
def openHart (t : Hart) : State := ((stageA .running on).put (pgHart .A 0) F.MWORLD_WORLD 0).setHart .A 0 t

theorem wit_WorldTags : (let s := z; s.hartHeld .A 0 = true) ∧ ((openHart { trapHeld := true }).hart .A 0).trapHeld = true ∧
    (let s := openHart { halted := true }; (s.hart .A 0).halted = true ∧ s.invasive .A 0 = false) ∧
    (let s := openHart { mMode := false }; (s.hart .A 0).mMode = false ∧ (s.hart .A 0).halted = false ∧ s.hartHeld .A 0 = false ∧ (s.hart .A 0).trapHeld = false ∧
      s.trustedPart .A (15#32).toNat = s.flag (pgHart .A 0) F.MWORLD_WORLD) ∧
    (let s := stageA .running on; s.hartHeld .A 0 = false ∧ s.trustedPart .A (15#32).toNat ≠ s.flag (pgHart .A 0) F.MWORLD_WORLD ∧ (s.hart .A 0).mMode = true) ∧
    16 ≤ (16#32).toNat ∧ (15#32).toNat < 16 ∧ (0xF03#32).toNat < 4096 ∧ (0xF03#32).toNat / 4 % 64 = 0 := by and_intros <;> decide

theorem wit_WorldTags_harts :
    (let s := stageA .running on; s.hartHeld .A 0 = false ∧ (s.hart .A 0).halted = false ∧ (s.hart .A 0).trapHeld = false ∧ (s.hs .A).restart = 0 ∧
      s.flag (pgHart .A 0) F.MWORLD_WORLD = true ∧ (s.hart .A 0).mMode = true ∧ s.domain .A 0 ≠ 0) ∧
    (let s := openHart {}; s.hartHeld .A 0 = false ∧ (s.hs .A).restart = 0 ∧ s.flag (pgHart .A 0) F.MWORLD_WORLD = false ∧ (s.hart .A 0).pendM = [] ∧ (s.hart .A 0).halted = false) ∧
    (let s := (openHart {}).setHs .A { ((openHart {}).hs .A) with restart := 1 }; s.hartHeld .A 0 = false ∧ (s.hs .A).restart ≠ 0 ∧ s.flag (pgHart .A 0) F.MWORLD_WORLD = false) ∧
    (let s := openHart { pendM := [3] }; s.hartHeld .A 0 = false ∧ (s.hart .A 0).pendM ≠ [] ∧ s.flag (pgHart .A 0) F.MWORLD_WORLD = false ∧ (s.hs .A).restart = 0) ∧
    (let s := (openHart { pendM := [3] }).setHs .A { ((openHart { pendM := [3] }).hs .A) with restart := 1 }
     s.hartHeld .A 0 = false ∧ (s.hart .A 0).pendM ≠ [] ∧ s.flag (pgHart .A 0) F.MWORLD_WORLD = false ∧ (s.hs .A).restart ≠ 0) ∧
    (let s := openHart { pendM := [3], halted := true }; (s.hart .A 0).halted = true ∧ s.hartHeld .A 0 = false ∧ (s.hart .A 0).pendM ≠ [] ∧
      s.flag (pgHart .A 0) F.MWORLD_WORLD = false ∧ (s.hs .A).restart = 0) ∧
    (let s := (openHart { pendS := [4] }).put (pgHart .A 0) F.MWORLD_PWORLD 0
     s.flag (pgHart .A 0) F.MWORLD_PWORLD = false ∧ (s.hart .A 0).haltReq = false ∧ ∃ i ∈ (s.hart .A 0).pendS, (1, i) ∈ [(1, 4)]) ∧ z.domain .A 0 = 0 := by
  and_intros <;> decide

theorem wit_TrustedRestart : Admitted rT (pgWld .A) z ∧ (z.put (pgSaf .A) F.SAF_STATUS_RUN 1).flag (pgSaf .A) F.SAF_STATUS_RUN = true ∧
    (z.put (pgSaf .A) F.SAF_STATUS_RUN 0).flag (pgSaf .A) F.SAF_STATUS_RUN = false ∧
    (2 ≤ (({ z with time := 999999 }.setHs .A { lockTimes := [0, 5] }).hs .A |>.lockTimes.filter fun x => 999999 < x + 1000000).length) ∧
    (((z.hs .A).lockTimes.filter fun x => z.time < x + 1000000).length < 2) ∧
    (let s := openHart { openEn := [(1, 3)] }; s.flag (pgHart .A 0) F.MWORLD_WORLD = false ∧ (1, 3) ∈ (s.hart .A 0).openEn ∧ s.hartHeld .A 0 = false ∧
      (s.hart .A 0).halted = false ∧ (s.hart .A 0).trapHeld = false ∧ (s.hart .A 0).pendS = [] ∧ (3 : Fin 256).val ≠ 0) ∧ z.flag (pgHart .A 0) F.MWORLD_WORLD = true ∧
    (z.hs .A).restart = 0 ∧ ((z.setHs .A { restart := 1 }).hs .A).restart = 1 ∧ (z.hs .A).stage ≠ .running ∧ ((stageA .running z).hs .A).stage = .running ∧
    (16#32).toNat ≥ 16 ∧ (15#32).toNat < 16 ∧ z.Canon ∧ (z.setHs .A { restart := 1 }).Canon := by
  unfold Admitted State.Canon; and_intros <;> decide

/-- The state block of instance 9 lies in mirror region 0 while the twin-link queue is full. -/
theorem wit_InstanceControl_full : ∃ s : State, s.instState .A 9 = 3 ∧ s.mirFull .A (s.sblk .A 9) 0x5000 = true := by
  have st : ∀ (s : State) q, (s.setHs .A q).instState .A 9 = s.instState .A 9 := fun _ _ => rfl
  have e : ∀ (s : State) q, (s.setHs .A q).sblk .A 9 = s.sblk .A 9 := fun _ _ => rfl
  refine ⟨(mirrored.setInstState .A 9 3).setHs .A { mirQ := List.replicate 4096 ⟨0, []⟩ }, (st _ _).trans (by decide), ?_⟩
  rw [e, show (mirrored.setInstState .A 9 3).sblk .A 9 = 0 from by decide]
  exact full_at 0 0x5000 _ _ List.length_replicate (by decide) (by decide)

theorem wit_InstanceControl : Admitted rT (pgInst .A 9) on ∧ (on.inst .A 9).cur = none ∧ on.instState .A 9 = 0 ∧ (on.inst .A 9).restoring = none ∧ (on.inst .A 9).saving = false ∧ ((on.setInst .A 9 { saving := true }).inst .A 9).saving = true ∧
    (on.inst .A 9).asking = false ∧ on.mboxBus .A 9 = false ∧ ((z.setInst .A 9 { cur := some {} }).inst .A 9).cur ≠ none ∧
    (let s := on.setInstState .A 9 1; s.instState .A 9 = 1 ∧ (s.inst .A 9).cur = none) ∧
    (let s := (on.setInstState .A 9 1).setInst .A 9 { cur := some {} }; s.instState .A 9 = 1 ∧ (s.inst .A 9).cur ≠ none) ∧
    (let s := (on.setInstState .A 9 3).put (pgInst .A 9) F.INST_CFG_TWIN 0; s.instState .A 9 = 3 ∧ (s.inst .B 9).asking = false ∧ s.flag (pgInst .A 9) F.INST_CFG_TWIN = false ∧
      s.mirFull .A (s.sblk .A 9) 0x5000 = false) ∧
    (let s := ((paired.setInstState .A 9 3).put (pgInst .A 9) F.INST_CFG_TWIN 1).setInstState .B 9 1; s.instState .A 9 = 3 ∧ (s.inst .B 9).asking = false ∧ s.twinRuns .A 9 = true) ∧
    (let s := (paired.setInstState .A 9 3).setInst .B 9 { asking := true }; s.instState .A 9 = 3 ∧ (s.inst .B 9).asking = true ∧ s.twinGone .B = false ∧ ((s.setHalfState .B 4).twinGone .B = true)) ∧
    (let s := (on.setInstState .A 9 4).setHalfState .B 4; s.instState .A 9 = 4 ∧ s.twinGone .B = true) ∧
    (let s := (paired.setInstState .A 9 4).setInst .A 9 { asking := true }; s.instState .A 9 = 4 ∧ (s.inst .A 9).asking = true ∧ s.twinGone .B = false ∧
      s.flag (pgTwn .A) F.TWN_STATUS_LINK = false ∧ (s.setHalfState .B 4).twinGone .B = true) ∧
    (let s := ((paired.setInstState .A 9 4).put (pgTwn .A) F.TWN_STATUS_LINK 1).setInst .A 9 { asking := true }
     s.instState .A 9 = 4 ∧ s.twinGone .B = false ∧ s.flag (pgTwn .A) F.TWN_STATUS_LINK = true ∧ (s.inst .A 9).asking = true ∧
      (s.setInstState .B 9 3).instState .B 9 = 3 ∧ (s.setInstState .B 9 1).instState .B 9 = 1 ∧
      s.instState .B 9 = 0 ∧ (let t := (s.setInstState .B 9 4).setInst .B 9 { asking := true }; t.instState .B 9 = 4 ∧ (t.inst .B 9).asking = true)) := by
  unfold Admitted; and_intros <;> decide

/-- A command as it comes over PCIe: OPCODE, SEQ and LAYER. -/
def cmdOf (op seq layer : Byte) : BusRead := ⟨⟨⟨4, 0⟩, [op, 0, 0, 0, seq, 0, 0, 0, layer]⟩, 0⟩

/-- Instance 9 of Half A runs with a mailbox on the PCIe bus, map entry 0 valid, one command waiting and its read in flight. -/
def hub : State :=
  (((on.setInstState .A 9 1).put (pgInsq .A 9) F.INSQ_MBOX_HI_BUS 1).put (pgInst .A 9) F.INST_MAP_VALID 1).setInst .A 9 { tail := 1, busReq := some 0 }

theorem wit_MailboxCommands : on.pageOn (pgInsq .A 9) = true ∧ z.pageOn (pgInsq .A 9) = false ∧ on.hubMay .A 9 = false ∧ hub.hubMay .A 9 = true ∧
    hub.nextCommand .A 9 ⟨⟨⟨4, 0⟩, []⟩, 1⟩ = none ∧
    (∀ op ∈ [(0 : Byte), 1, 2, 3, 4, 5], ∃ cmd, hub.nextCommand .A 9 (cmdOf op 1 0) = some cmd ∧ cmdOp cmd = op.toNat ∧ cmdSeq cmd = 1 ∧ cmdLayer cmd = 0 ∧
      (hub.hubTake .A 9 (cmdOf op 1 0)).seqCheck .A 9 op.toNat 1 = none) ∧
    ((hub.hubTake .A 9 (cmdOf 1 1 0)).instLayer .A 9 0).isSome = true ∧ (hub.hubTake .A 9 (cmdOf 1 1 3)).instLayer .A 9 3 = none ∧
    (let s := hub.setInst .A 9 { hub.inst .A 9 with window := [{ seq := 0 }] }
     (s.hubTake .A 9 (cmdOf 4 0 0)).seqCheck .A 9 4 0 ≠ none ∧ (s.hubTake .A 9 (cmdOf 4 7 0)).seqCheck .A 9 4 7 ≠ none) := by
  refine ⟨by decide, by decide, by decide, by decide, by decide, ?_, by decide, by decide, by decide, by decide⟩
  intro op hop
  refine ⟨_, rfl, ?_⟩
  fin_cases hop <;> decide

theorem wit_InstanceEvents : (z.inst .A 9).cur = none ∧ (z.inst .A 9).busReq = none ∧ (hub.inst .A 9).busReq ≠ none ∧ hub.hubWaits .A 9 = false ∧ (z.inst .A 9).restoring ≠ some [] ∧
    (z.inst .A 9).fx = [] ∧ (z.inst .A 9).fxSent = 0 ∧
    (let c : HubCmd := { opcode := 3, copied := true }; c.opcode = 3 ∧ c.copied = true ∧ c.waitPipes = [] ∧ c.await = none ∧
      ((z.setInst .A 9 { cur := some c }).inst .A 9).cur = some c ∧ (z.setInst .A 9 { cur := some c }).hubWaits .A 9 = false) ∧
    (let c : HubCmd := { opcode := 3 }; c.copied = false ∧ c.await = none) ∧ ({ await := some {} } : HubCmd).await ≠ none ∧
    (let x : Inst := { fx := [.reset], fxSent := 2 }; x.fx = .reset :: [] ∧ 1 < x.fxSent) ∧
    (let x : Inst := { fxSent := 1, cur := some { await := some {} } }; x.fxSent = 1 ∧ x.fx = [] ∧ x.wholeSent = false ∧ x.cur = some { await := some {} }) ∧
    (∀ i, i < 64 → z.get (pgInst .A i) F.INST_CFG_VF = 0) ∧
    (let s := z.put (pgInst .A 9) F.INST_CFG_VF 1; s.get (pgInst .A 9) F.INST_CFG_VF ≠ 0 ∧ s.instState .A 9 ≠ 3) := by and_intros <;> decide

theorem wit_ScratchpadMarches : Admitted rT (pgSpm .A 1) on ∧ z.domain .A 27 ≠ 1 ∧ z.spmState .A 1 = 0 ∧ (z.spmU .A 1).march = none ∧
    (let s := z.setDomain .A 27 1; s.domain .A 27 = 1 ∧ s.spmState .A 1 = 0) ∧
    (on.put (pgSpm .A 1) F.SPM_STATUS_STATE 2).spmState .A 1 = 2 ∧ (on.put (pgSpm .A 1) F.SPM_STATUS_STATE 4).spmState .A 1 = 4 ∧
    (let s := on.setSpmU .A 1 { march := some { kind := 2 }, spent := [(0, 7)] }; (s.spmU .A 1).march = some { kind := 2 } ∧
      tblGet (fun _ => 0) (s.spmU .A 1).spent 0 < 8) ∧
    (let s := on.setSpmU .A 1 { march := some { kind := 2, abort := true }, spent := [(0, 8)] }
     (s.spmU .A 1).march = some { kind := 2, abort := true } ∧ 8 ≤ tblGet (fun _ => 0) (s.spmU .A 1).spent 0) ∧
    ((on.setSpmU .A 1 { march := some { kind := 3 } }).spmU .A 1).march = some { kind := 3 } := by
  unfold Admitted; and_intros <;> decide

/-- A port access of hart 0. -/
def portOf (off len : Nat) (w : Option (List Byte)) : SpmPort := ⟨.hart 0, false, off, len, w⟩

/-- SPM 0 of Half A is Ready, and one region entry admits the Trusted world to the scratchpads. -/
def spmOn : State :=
  (((z.put (pgSpm .A 0) F.SPM_STATUS_STATE 2).setReg (pgWld .A) 0x800 (BitVec.ofNat 32 (spmBase / 4096))).setReg (pgWld .A) 0x804 0x1000).setReg (pgWld .A) 0x808 0xFF

/-- A burst that the spill of QU 4 writes at port E. -/
def spillOf (off : Nat) (w : List Byte) : SpmPort := ⟨.engine 0x204, false, off, w.length, some w⟩

theorem wit_ScratchpadAccess : spOk false (portOf 0x400000 2 none) = false ∧ spOk false (portOf 0 0 none) = false ∧ spOk false (portOf 0 65 none) = false ∧
    spOk true (portOf 0 4 none) = false ∧ spOk false (spillOf 0 [9]) = false ∧ spOk false (portOf 0x3FFFC0 64 none) = true ∧
    (portOf 0x3FFFC0 64 none).offset + (portOf 0x3FFFC0 64 none).len ≤ 0x400000 ∧ spOk false { portOf 0 4 none with fetch := true } = true ∧
    spmOn.refusals .A (spmOn.tag .A (.hart 0)) (spKind (portOf 0 4 none)) (spAddr (portOf 0 4 none) 0) 4 = [] ∧
    spmOn.refusals .A (spmOn.tag .A (.hart 0)) .fetch (spAddr (portOf 0 4 none) 0) 4 = [] ∧
    (∀ w ∈ spWords (portOf 0 4 none), spmOn.spmBad .A 0 w = false) ∧ spOk false (portOf 4 2 (some [1, 2])) = true ∧
    spmOn.refusals .A (spmOn.tag .A (.hart 0)) .write (spAddr (portOf 4 2 (some [1, 2])) 0) 2 = [] ∧
    spmOn.refusals .A (spmOn.tag .A (spillOf 0 [9]).by_) .write (spAddr (spillOf 0 [9]) 0) 1 = [] ∧ spOk true (spillOf 0 [9]) = true ∧
    spOk false (portOf 0x3FFFFF 2 none) = true ∧ 0x400000 < (portOf 0x3FFFFF 2 none).offset + (portOf 0x3FFFFF 2 none).len ∧ Issuer.core (.hart 0) = true ∧
    (spWords (portOf 4 2 (some [1, 2]))).find? (fun w => (spWords (spillOf 0 [9])).contains w) = some 0 := by and_intros <;> decide

/-- Half A's DRAM serves, with one request of hart 0's tag in the queue. -/
def dramWith (r : DReq) : State :=
  (z.setHs .A { dram := { trained := true, zeroDone := true, queue := [r] } }).put (pgDmc .A 0) F.DMC_STATUS_SR 0

/-- Channel 0 of Half A stands in a maintenance slot, with a periodic training due that cannot correct the drift. -/
def slotOne : State :=
  (((withSection 4 (List.replicate 0x20 0 ++ [1]) z).setHs .A { dram := { trained := true, zeroDone := true, due := [136] } }).put (pgDmc .A 0) F.DMC_STATUS_SR 0)

theorem wit_DramCommands : Admitted rT (pgDmc .A 0) on ∧ (z.hs .A).dram.trained = false ∧ (z.hs .A).dram.slots = [] ∧ (z.hs .A).dram.zeroDone = false ∧
    (let s := (z.setHs .A { dram := { trained := true, unfilled := [(3, 2)] } }).put (pgDmc .A 0) F.DMC_STATUS_SR 0
     (s.hs .A).dram.trained = true ∧ s.flag (pgDmc .A 0) F.DMC_STATUS_SR = false ∧ (s.hs .A).dram.zeroDone = false ∧ (s.hs .A).dram.unfilled.head? = some (3, 2) ∧
      (s.hs .A).stage ≠ .training ∧ (s.hs .A).stage ≠ .filling ∧ s.grant .A 0 0 = .nothing) ∧
    (let r : DReq := { requester := 10, addr := 64 * 8, world := .trusted, m := true }
     let s := dramWith r; (s.hs .A).dram.trained = true ∧ s.grant .A 0 0 = .request r ∧ r.source = .queue ∧ r.pipe = none ∧ r.write = none ∧ r.hart = none ∧ r.fetch = false) ∧
    (let r : DReq := { requester := 10, addr := 64 * 8, write := some [7], world := .trusted, m := true }
     let s := dramWith r; s.grant .A 0 0 = .request r ∧ r.source = .queue ∧ r.pipe = none ∧ r.hart = none ∧ r.mirror = false ∧ r.addr + 1 ≤ dramSize ∧
      s.refusals .A ⟨r.world, r.part, r.m, r.mirror⟩ .write r.addr 1 = []) ∧
    (let s := stageA .training z; (s.hs .A).stage ≠ .held ∧ (s.hs .A).stage ≠ .reset ∧ (s.hs .A).stage ≠ .stopping ∧ (s.hs .A).dram.trained = false ∧ (s.hs .A).dram.zeroDone = false) ∧
    (let s := z.setHs .A { dram := { trained := true, retrain := true } }; (s.hs .A).dram.retrain = true ∧ (s.hs .A).dram.trained = true) ∧
    ((z.setHs .A { dram := { slots := [(0, 1)] } }).hs .A).dram.slots ≠ [] ∧ (z.hs .A).dram.retrain = false ∧
    ((dramWith {}).hs .A).dram.trained = true ∧ (slotOne.hs .A).dram.trained = true ∧ slotOne.grant .A 0 0 = .training 136 ∧
    (15#32).toNat < 16 ∧ (16#32).toNat ≥ 16 := by unfold Admitted; and_intros <;> decide

theorem wit_CheckValueUnits : Admitted rT (pgCvu .A 2) z ∧ (0xF9#32).toNat < 256 ∧ (0xF9#32).getLsbD 2 = false ∧ (4#32).getLsbD 2 = true ∧
    z.flag (pgCvu .A 2) F.CVU_STATUS_BUSY = false ∧ z.get (pgCvu .A 2) F.CVU_LEN_VALUE = 0 ∧
    (let s := (z.put (pgCvu .A 2) F.CVU_LEN_VALUE 2).put (pgCvu .A 2) F.CVU_STATUS_BUSY 1
     s.flag (pgCvu .A 2) F.CVU_STATUS_BUSY = true ∧ (s.scan .A 2).blk < s.get (pgCvu .A 2) F.CVU_LEN_VALUE ∧
      (s.setScan .A 2 { blk := 2 }).get (pgCvu .A 2) F.CVU_LEN_VALUE ≤ ((s.setScan .A 2 { blk := 2 }).scan .A 2).blk ∧
      (s.setScan .A 2 { stop := true }).flag (pgCvu .A 2) F.CVU_STATUS_BUSY = true) ∧
    (let s := (((((dramWith {}).setReg (pgWld .A) 0x404 0x400000).setReg (pgWld .A) 0x408 0xFF).setHs .A { dram := { trained := true, zeroDone := true } }).put (pgCvu .A 2) F.CVU_LEN_VALUE 2).put (pgCvu .A 2) F.CVU_STATUS_BUSY 1
     s.flag (pgCvu .A 2) F.CVU_STATUS_BUSY = true ∧ (s.scan .A 2).blk < s.get (pgCvu .A 2) F.CVU_LEN_VALUE ∧
      ∃ r, s.scanReq .A 2 = some r ∧ s.dramUp .A (dramChan r.addr) = true ∧ s.grant .A (dramChan r.addr) 0 = .request r) ∧
    (let s := (mirrored.put (pgCvu .A 2) F.CVU_LEN_VALUE 2).put (pgCvu .A 2) F.CVU_STATUS_BUSY 1
     (s.scan .A 2).blk < s.get (pgCvu .A 2) F.CVU_LEN_VALUE ∧ ∃ r, s.scanReq .A 2 = some r ∧ s.dramUp .A (dramChan r.addr) = false) := by unfold Admitted; and_intros <;> decide

theorem wit_QueuePush : Admitted rT (pgQu .A 4) z ∧ (z.qu .A 4).pkt = none ∧ (z.qu .A 4).tail.length < 16 ∧ (z.qu .A 4).mid = [] ∧
    (let s := z.setQu .A 4 { pkt := some { count := 65534 } }; (s.qu .A 4).pkt = some { count := 65534 }) ∧
    (let s := z.setQu .A 4 { pkt := some { count := 65535 } }; (s.qu .A 4).pkt = some { count := 65535 }) ∧
    (let s := z.setQu .A 4 { pkt := some { lost := true } }; (s.qu .A 4).pkt.isSome = true ∧ (s.qu .A 4).pkt = some { lost := true }) ∧ ({} : QPkt).lost = false ∧
    z.quRoom .A 4 = true ∧ (z.setQu .A 4 { late := 65536 }).quRoom .A 4 = false ∧
    (let s := z.setQu .A 4 { tail := List.replicate 16 1 }; (∀ n, (s.qu .A 4).midAt ≤ n → n < (s.qu .A 4).midAt + (s.qu .A 4).mid.length → s.quIntact .A 4 n = true)) := by
  refine ⟨by unfold Admitted; and_intros <;> decide, rfl, by decide, rfl, rfl, rfl, ⟨rfl, rfl⟩, rfl, by decide, by decide, fun n a b => ?_⟩
  exact absurd b (Nat.not_lt.2 a)

/-- The middle of QU 4 holds eight entries, all as the spill area of SPM 0 holds them: zeros. -/
def spilled (x : Queue) : State := (z.setQu .A 4 x).put (pgQu .A 4) F.QU_CFG_SPILL 1

theorem wit_QueuePop : z.admits rT (pgQu .A 4) = true ∧ z.pageOn (pgQu .A 4) = true ∧ (z.qu .A 4).seen = 0 ∧
    (let s := z.setQu .A 4 { head := [5], seen := 1 }; (s.qu .A 4).seen = 0 + 1 ∧ (s.quLoad .A 4).entries = 5 :: [] ∧
      (∀ n, (s.qu .A 4).midAt ≤ n → n < (s.qu .A 4).midAt + (s.qu .A 4).mid.length → s.quIntact .A 4 n = true)) ∧
    (let s := z.setQu .A 4 { tail := List.replicate 8 1 }; 8 ≤ (s.qu .A 4).tail.length) ∧
    (let s := spilled { tail := List.replicate 8 1 }; (s.qu .A 4).mid.length + 8 ≤ s.quSpill .A 4) ∧
    (let s := spilled { mid := List.replicate 8 0 }; 8 ≤ (s.qu .A 4).mid.length ∧ (s.qu .A 4).head.length ≤ 8 ∧
      (∀ n, (s.qu .A 4).midAt ≤ n → n < (s.qu .A 4).midAt + (s.qu .A 4).mid.length → s.quIntact .A 4 n = true)) := by
  refine ⟨by decide, by decide, rfl, ⟨rfl, by decide, fun n a b => absurd b (Nat.not_lt.2 a)⟩, by decide, by decide, by decide, by decide, fun n _ b => ?_⟩
  have : n < 8 := b
  interval_cases n <;> decide

/-- A plan whose record of sensor 0 has 1 line, FLAGS 2 (the extended mode is there) and threshold 0. -/
def touchImg : State := withSection 8 ((List.replicate 2 0) ++ [1, 0, 0, 1] ++ List.replicate 30 0 ++ [2]) z

theorem wit_TouchCommands : Admitted rT (pgTaf 0) z ∧ Admitted rT pgTce z ∧ z.planRec 0 0x24 1 / 2 % 2 = 0 ∧ touchImg.planRec 0 0x24 1 / 2 % 2 = 1 ∧
    z.flag pgTce F.TCE_STATUS_REF_BUSY = false ∧ (z.put pgTce F.TCE_STATUS_REF_BUSY 1).flag pgTce F.TCE_STATUS_REF_BUSY = true ∧
    (∀ src, src < 9 → (z.src src).contacts = []) ∧ ((z.setSrc 3 { contacts := [(1, {})] }).src 3).contacts ≠ [] ∧
    (let s := z.setSrc 0 { run := true }; (s.src 0).run = true ∧ 0 ∈ s.srcPositions 0 ∧ s.disc (pgSrc 0) 0 = 0) ∧ (z.src 0).run = false ∧
    tblFind 1 ((z.setSrc 3 { contacts := [(1, {})] }).src 3).contacts = some {} ∧ tblFind 1 (z.src 3).contacts = none ∧
    tblFind 1 ((z.setSrc 3 { contacts := [(1, { stale := true })] }).src 3).contacts = some { stale := true } := by unfold Admitted; and_intros <;> decide

/-- The touch banks are powered and sensor 0 runs. -/
def sensing (q : Source) : State := ((z.setReg pgShd 0x14 0x22222222).setReg pgShd 0x18 0x22222222).setSrc 0 { q with run := true }

theorem wit_TouchFrames : (z.src 0).run = false ∧ ((sensing {}).src 0).inFrame = false ∧ (sensing { testReq := true }).banksOn 0 = true ∧
    (sensing {}).touchScans 0 = false ∧ ((sensing {}).discSet (pgSrc 0) 0 1).touchScans 0 = true ∧ (sensing {}).srcGet 0 F.TAF_STATUS_FRUN ≠ 7 ∧
    ((sensing {}).srcPut 0 F.TAF_STATUS_FRUN 7).srcGet 0 F.TAF_STATUS_FRUN = 7 ∧ z.planRec 0 0x16 2 < 1 ∧
    (let s := sensing { inFrame := true }; (s.src 0).inFrame = true ∧ ([] : List (BitVec 16)).length = s.nodeCount 0 ∧ s.disc (pgSrc 0) 0 ≠ 1 ∧ s.disc (pgSrc 0) 0 ≠ 2 ∧
      (s.src 0).firstClean = true ∧ s.srcDims 0 = (0, 0)) ∧
    (let s := sensing { testing := true }; (s.src 0).testing = true ∧ ([] : List LineTest).length = (s.planLines 0).length) := by and_intros <;> decide

/-- Slot 0 holds a DOMAIN section of domain 7 whose one publisher is node 5; the module is node 5 and port 0 is Up. -/
def domained (memb : Nat) : State :=
  let s := withSection 0xC ([7, 0, 0, 0, 1] ++ List.replicate 13 0 ++ [1]) z
  let s := s.setMram (0x2000 + 0x500) [5]
  let s := (s.put pgPlk F.PLK_NODE_NODE 5).put pgPlk F.PLK_NODE_SET 1
  let s := (s.setReg pgShd 0x18 0x22222222).put pgPlk (F.PLK_PORT_STATE.at 0) 2
  s.put pgPlk F.PLK_STATUS_MEMB memb

theorem wit_PeerMembership : Admitted rT pgPlk z ∧ z.memb = 0 ∧ z.dom 4 1 ≠ 1 ∧ (domained 0).dom 4 1 = 1 ∧ (domained 0).flag pgPlk F.PLK_NODE_SET = true ∧
    ((domained 0).put pgPlk F.PLK_NODE_SET 0).flag pgPlk F.PLK_NODE_SET = false ∧ (domained 0).plkUp 0 = true ∧ (domained 0).plkUp 1 = false ∧ (domained 2).memb ≠ 0 ∧
    z.plkUp 0 = false ∧ z.plkUp 1 = false ∧ (0x40000#32).toNat / 2 ^ 18 % 2 ^ 13 ≠ 0 ∧ (0x3FFFF#32).toNat / 2 ^ 18 % 2 ^ 13 = 0 ∧
    z.flag pgPlk F.PLK_STATUS_AUTH = false ∧ (z.put pgPlk F.PLK_STATUS_AUTH 1).flag pgPlk F.PLK_STATUS_AUTH = true ∧ z.isGm = true ∧
    (domained 2).peerOurs (hdr7 2) = true ∧ (domained 2).isPublisher (hdr7 2).origin = true ∧ (hdr7 1).origin = (domained 2).plkNode ∧ (domained 2).forMe (hdr7 2) = true ∧
    (windowTake (tblFind (hdr7 2).origin (domained 2).peer.windows) (hdr7 2).seq.toNat).isSome = true ∧ (domained 2).peerOurs { hdr7 2 with domainId := 8 } = false ∧
    (z.discSet pgPlk 0 2).disc pgPlk 0 = 2 ∧ z.disc pgPlk 0 ≠ 3 := by unfold Admitted; and_intros <;> decide

set_option maxRecDepth 8000 in
/-- A good frame of each TYPE, and frames that fail their HCRC or carry another EtherType. -/
theorem wit_PeerMembership_frames : (∀ t ∈ [1, 2, 3, 4, 5, 6, 7, 8], frameIs t (hdr7 t) = true) ∧ hcrcHolds { hdr7 2 with hops := 1 } = false ∧
    (hdr7 2).fcsOk = true ∧ (hdr7 2).etherType = peerEtherType ∧ ({ hdr7 2 with etherType := 0x0800 }).etherType ≠ peerEtherType ∧ (hdr7 2).typ ≠ 1 := by
  and_intros <;> decide

theorem wit_PeerMembership_time : (∃ rx : GptpRx, rx.fcsOk = true ∧ (domained 2).plkUp rx.port = true ∧ (domained 2).plkTec rx.port ≠ 255 ∧
      (domained 2).plkTec rx.port < 128 ∧ (domained 2).plkRec rx.port < 128) ∧
    (∀ st ∈ [0, 1, 2, 3], ((domained 2).put pgPlk F.PLK_STATUS_TIME st).get pgPlk F.PLK_STATUS_TIME = st) ∧ (-500 : Int).natAbs ≤ 500 ∧ 50000 < (-50001 : Int).natAbs ∧
    (50000 : Int).natAbs ≤ 50000 ∧ 15 ≤ ({ z with peer := { z.peer with syncGood := 15 } }).peer.syncGood ∧
    (let l := (List.replicate 15 (1000 : Int) ++ [2000]).drop (15 - 15); 16 ≤ l.length ∧ ∀ a ∈ l, ∀ b ∈ l, a - b ≤ 1000) ∧
    (let l := (List.replicate 15 (1000 : Int) ++ [2001]).drop (15 - 15); ∃ a ∈ l, ∃ b ∈ l, 1000 < a - b) ∧
    (([] ++ [(0 : Int)]).drop (0 - 15)).length < 16 := by
  refine ⟨⟨⟨0, true⟩, by decide⟩, ?_⟩; and_intros <;> decide

theorem wit_PeerFrames : Admitted rT pgPlk (domained 2) ∧ ((domained 2).memb = 2 ∧ (domained 2).isPublisher (domained 2).plkNode = true) ∧
    (let s := (domained 2).put pgPlk F.PLK_TXDST_TYPE 3; s.get pgPlk F.PLK_TXDST_TYPE = 3 ∧ (s.get pgPlk F.PLK_ALQ_PEND).testBit 0 = false ∧
      s.flag pgPlk F.PLK_STATUS_BUSY = false ∧ (s.put pgPlk F.PLK_ALQ_PEND 255).get pgPlk F.PLK_ALQ_PEND = 255) ∧
    (let s := (domained 2).put pgPlk F.PLK_TXDST_TYPE 4; s.get pgPlk F.PLK_TXDST_TYPE = 4 ∧ s.flag pgPlk F.PLK_TXDST_ALL = false ∧ s.flag pgPlk F.PLK_STATUS_BUSY = false ∧
      (s.put pgPlk F.PLK_STATUS_BUSY 1).flag pgPlk F.PLK_STATUS_BUSY = true ∧ (s.put pgPlk F.PLK_TXDST_ALL 1).flag pgPlk F.PLK_TXDST_ALL = true) ∧
    (domained 2).forMe (hdr7 4) = true ∧ (domained 2).flag pgPlk F.PLK_STATUS_RX_FULL = false ∧ (domained 2).peer.rxRefused = [] ∧ (domained 2).plkTec 0 ≠ 255 ∧
    ((domained 2).put pgPlk F.PLK_STATUS_RX_FULL 1).flag pgPlk F.PLK_STATUS_RX_FULL = true ∧
    (let s := (domained 2).put pgPlk F.PLK_STATUS_BUSY 1
     s.flag pgPlk F.PLK_STATUS_BUSY = true ∧ (5 : Nat) = s.plkNode ∧ seqDiff (3#32).toNat s.peer.migSeq < 20 ∧ (0#32).toNat = s.peer.xfer ∧
      ¬seqDiff (20#32).toNat s.peer.migSeq < 20) ∧
    (domained 2).isPublisher ((domained 2).put pgPlk F.PLK_NODE_NODE 6).plkNode = false := by unfold Admitted; and_intros <;> decide

/-- A frame of this module waits for its acknowledgement on ports of it, before its timeout. -/
def waiting (held : Bool) (ports : List Nat) : State :=
  let s := domained 2
  { s with peer := { s.peer with waits := [{ frame := { origin := 5, seq := 1 }, ports := ports, slot := some 2, held := held, limit := 4 }] } }

theorem wit_PeerFrames_waits :
    (∃ w, (waiting false [0]).peer.waits.find? (fun w => w.wants 5 (1#32).toNat 0 && !(w.expired 3999)) = some w ∧ w.slot = some 2 ∧ ∀ y ∈ w.ports, y = 0 ∨ y ∈ w.acked) ∧
    (∃ w, (waiting false [0, 1]).peer.waits.find? (fun w => w.wants 5 (1#32).toNat 0 && !(w.expired 3999)) = some w ∧ ¬∀ y ∈ w.ports, y = 0 ∨ y ∈ w.acked) ∧
    (waiting false [0]).peer.waits.find? (fun w => w.wants 5 (1#32).toNat 0 && !(w.expired 4000)) = none ∧
    (waiting false [0]).peer.waits.find? (fun w => w.wants 5 (1#32).toNat 0 && !w.held && (waiting false [0]).plkUp 0) ≠ none ∧
    (waiting true [0]).peer.waits.find? (fun w => w.wants 5 (1#32).toNat 0 && !w.held && (waiting true [0]).plkUp 0) = none ∧ tblFind 0 (waiting false [0]).peer.cleared = none ∧
    (∃ w, (waiting true [0]).peer.waits.find? (waitIs 5 (1#32).toNat) = some w ∧ w.held = true) ∧
    (∃ w, (waiting false [0]).peer.waits.find? (waitIs 5 (1#32).toNat) = some w ∧ w.held = false) ∧ (waiting false [0]).flag pgPlk F.PLK_STATUS_BUSY = false ∧
    (∃ d, d = z.manifestHash (z.slotOf .P)) ∧ (∃ d, d ≠ z.manifestHash (z.slotOf .P)) ∧ 0x17FFC00 + 1024 ≤ slotSize ∧ slotSize < 0x17FFC01 + 1024 := by
  refine ⟨⟨_, rfl, by decide⟩, ⟨_, rfl, by decide⟩, by decide, by decide, by decide, by decide, ⟨_, rfl, by decide⟩, ⟨_, rfl, by decide⟩, by decide, ⟨_, rfl⟩,
    ⟨0 :: z.manifestHash (z.slotOf .P), by simp⟩, by decide, by decide⟩

theorem wit_PeerPorts : (z.put pgPlk (F.PLK_PORT_STATE.at 0) 4).plkState 0 = 4 ∧ (z.put pgPlk (F.PLK_PORT_STATE.at 0) 3).plkState 0 = 3 ∧ z.plkState 0 = 0 ∧ z.plkDark = true ∧ ((domained 1).put pgMod F.MOD_STATUS_MODE 5).plkDark = false ∧
    (domained 1).plkState 0 = 2 ∧ (domained 1).pdomain 21 = 2 ∧ ((domained 1).put pgPlk (F.PLK_PORT_TEC.at 0) 247).plkTec 0 = 247 ∧
    (let s := (z.put pgPlk (F.PLK_PORT_STATE.at 0) 1).put pgPlk (F.PLK_PORT_TEC.at 0) 120; s.plkState 0 = 1 ∧ s.plkTec 0 = 120 ∧ s.plkRec 0 ≠ 255) ∧
    (let s := (z.put pgPlk (F.PLK_PORT_STATE.at 0) 1).put pgPlk (F.PLK_PORT_TEC.at 0) 119; s.plkState 0 = 1 ∧ s.plkTec 0 < 120 ∧ s.plkRec 0 < 128 ∧ tblFind 0 s.peer.cleared ≠ some s.time) ∧
    (let s := paired.setReg pgShd 0x18 0x22222222; s.plkDark = false ∧ s.plkState 0 = 0 ∧ s.fetching 4 = false) ∧
    (let s := { paired with start := { stage := .fetching, boot := 4, cands := [0] } }.setReg pgShd 0x18 0x22222222
     s.plkDark = false ∧ s.plkState 0 = 0 ∧ s.plkTec 0 < 128 ∧ s.plkRec 0 < 128 ∧ s.fetching 4 = true ∧ s.start.cands = [(0 : Fin 2).val]) ∧
    Admitted rT pgPlk z := by unfold Admitted; and_intros <;> decide

/-- Channel 0 is Present in a state of its own. -/
def buzzing (st : Nat) : State := ((z.discSet pgHap 0 2).setReg pgShd 0x18 0x22222222).put pgHap (F.HAP_CH_STATE.at 0) st

theorem wit_HapticCommands : Admitted rT pgHap z ∧ z.disc pgHap 0 ≠ 2 ∧ (buzzing 1).disc pgHap 0 = 2 ∧ (buzzing 1).hapState 0 = 1 ∧ (buzzing 1).tier < 3 ∧ (buzzing 1).hapUsable 0 = true ∧ z.hapUsable 0 = false ∧
    (buzzing 2).hapState 0 = 2 ∧ (buzzing 3).hapState 0 = 3 ∧ (buzzing 4).hapState 0 = 4 ∧ (buzzing 5).hapState 0 = 5 ∧ isAlert 1 = false ∧ isAlert 0xFF = true ∧
    ((buzzing 2).chan 0).abortNext = none ∧ (((buzzing 2).setChan 0 { abortNext := some 1 }).chan 0).abortNext = some 1 := by unfold Admitted; and_intros <;> decide

theorem wit_HapticAndHeadsetDiscovery : (let s := paired.setReg pgShd 0x18 0x22222222
      s.applied = true ∧ s.pdomain 16 = 2 ∧ s.pdomain 17 = 2 ∧ s.pdomain 18 = 2 ∧ s.disc pgHap 0 = 0 ∧ s.disc pgAio 0 = 0) ∧ z.applied = false ∧ z.disc pgHap 0 = 0 ∧ (z.discSet pgHap 0 4).disc pgHap 0 = 4 ∧ (z.discSet pgHap 0 1).disc pgHap 0 = 1 ∧
    z.hapClosed 0 = false ∧ z.disc pgAio 0 = 0 ∧ (z.discSet pgAio 0 1).disc pgAio 0 = 1 ∧ z.flag pgAio (F.AIO_HS_BIAS.at 0) = false ∧
    (let s := z.put pgAio (F.AIO_HS_BIAS.at 0) 1; s.flag pgAio (F.AIO_HS_BIAS.at 0) = true ∧ buttonOf 70 ≠ s.get pgAio (F.AIO_HS_BTN.at 0)) := by and_intros <;> decide

theorem wit_AudioCommands : Admitted rT pgAud z ∧ z.flag pgAud F.AUD_STATUS_COPYING = false ∧ (z.put pgAud F.AUD_STATUS_COPYING 1).flag pgAud F.AUD_STATUS_COPYING = true ∧
    z.pdomain 19 ≠ 2 ∧ z.rearm = none ∧ (z.setReg pgShd 0x18 0x22222222).pdomain 19 = 2 ∧ z.tier < 4 ∧ (z.put pgMod F.MOD_STATUS_TIER 4).tier = 4 ∧
    (z.put pgAud F.AUD_STATUS_SWAP_PEND 1).flag pgAud F.AUD_STATUS_SWAP_PEND = true ∧ (z.put pgAud F.AUD_STATUS_PROG 0).get pgAud F.AUD_STATUS_PROG ≠ 2 := by unfold Admitted; and_intros <;> decide

theorem wit_NightWatch : Admitted rT (halfPg .A 0x2000) z ∧ isService z.mode = false ∧ z.mode ≠ 10 ∧ (isService paired.mode = true ∧
      (paired.put pgPair F.PAIR_STATUS_PAIRING 1).get pgPair F.PAIR_STATUS_PAIRING ≤ 1 ∧ 2 ≤ paired.get pgPair F.PAIR_STATUS_PAIRING ∧ paired.tier ≤ 3 ∧ paired.hoRun = none ∧ paired.rearm = none ∧ paired.insp = none ∧
      paired.flag pgMod F.MOD_STATUS_BUSY = false ∧ Admitted rT (halfPg .A 0x2000) paired) ∧
    (paired.put pgMod F.MOD_STATUS_BUSY 1).flag pgMod F.MOD_STATUS_BUSY = true ∧ { paired with hoRun := some {} }.hoRun ≠ none ∧ (paired.put pgMod F.MOD_STATUS_TIER 4).tier = 4 ∧
    (z.put pgMod F.MOD_STATUS_MODE 10).mode = 10 ∧ NightWake.wakeN ≠ NightWake.touch := by unfold Admitted; and_intros <;> decide

/-- A round of inspection that found nothing wrong. -/
def found : InspFound := ⟨[], 0, 0, true, 0, 0, 0xFF, true⟩

/-- An inspection of Half A in a step; port 0, which Half B owns, has its twin qualified in Half A. -/
def inspected (step : Nat) : State :=
  let s := ((((paired.setSource 0 1).setRole .A 0 roleStandby).setRole .B 0 roleOwner).put pgPair (F.PAIR_PORT_QUAL.at 0) 1).put pgPair F.PAIR_CFG_HO_TIMEOUT 120
  { (s.put (pgTwn .A) F.TWN_STATUS_LINK 1).put (pgTwn .B) F.TWN_STATUS_LINK 1 with insp := some { step := step, half := .A, owned := [0] } }

theorem wit_InspectionAndDormant : (paired.put pgMod F.MOD_STATUS_BUSY 1).flag pgMod F.MOD_STATUS_BUSY = true ∧ paired.flag pgMod F.MOD_STATUS_BUSY = false ∧
    (let s := ((paired.put pgPair F.PAIR_STATUS_PAIRING 0).put pgPair (F.PAIR_PORT_QUAL.at 0) 1).put (pgTwn .A) F.TWN_STATUS_LINK 1 |>.put (pgTwn .B) F.TWN_STATUS_LINK 1
     isService s.mode = true ∧ s.get pgPair F.PAIR_STATUS_PAIRING = 0 ∧ s.tier ≤ 1 ∧ s.rearm = none ∧ s.lcs = none ∧ s.qualified .B 0 = true ∧
      (∀ p, p < 8 → p ≠ 0 → s.ownerOf p = none)) ∧
    z.insp = none ∧ (let i : Insp := { half := .A, step := 2 }
     ({ (stageA .reset z).setHalfState .A 4 with insp := some i }.halfState .A = 4 ∧ { (stageA .reset z).setHalfState .A 4 with insp := some i }.inReset .A = true)) ∧
    z.owned .B = [] ∧ paired.owned .A = [0] ∧ z.halfState .A ≠ 3 ∧ paired.halfState .A = 3 ∧ { z with insp := some { step := 4 } }.hoRun = none ∧
    (let s := inspected 0x6; s.insp = some { step := 6, half := .A, owned := [0] } ∧ s.hoRun = none ∧ s.inspQualified .A = true ∧ s.halfState .A = 3 ∧ found.frames ≤ s.get pgPair F.PAIR_CFG_HO_TIMEOUT ∧
      (∃ p ∈ [0], ∀ q ∈ s.group p, s.qualified .A q = true)) ∧
    (let s := (inspected 0x6).put pgPair (F.PAIR_PORT_QUAL.at 0) 0; s.inspQualified .A = false ∧ found.frames < s.get pgPair F.PAIR_CFG_HO_TIMEOUT ∧ s.halfState .A = 3 ∧
      s.get pgPair F.PAIR_CFG_HO_TIMEOUT ≤ ({ found with frames := 200 } : InspFound).frames ∧ ∀ p ∈ [0], ∃ q ∈ s.group p, s.qualified .A q = false) ∧
    found.lostNs < 65536 ∧ 65536 ≤ ({ found with lostNs := 65536 } : InspFound).lostNs ∧ (inspected 0x4).insp.map (fun i => i.step) = some 4 ∧
    ({ step := 7, second := true } : Insp).second = true ∧ ({ step := 7 } : Insp).second = false ∧
    isService (z.put pgMod F.MOD_STATUS_MODE 10).mode = false ∧ (z.put pgMod F.MOD_STATUS_MODE 10).mode = 10 := by and_intros <;> decide

theorem wit_LifeCycle : Admitted rT pgLcs z ∧ z.lcs = none ∧ lcsAccepts z.lcState 1 = true ∧ lcsAccepts z.lcState 3 = false ∧
    (let s := (z.put pgMod F.MOD_STATUS_MODE 3).put pgSvc F.SVC_STATUS_ATTACHED 1; s.mode = 3 ∧ s.flag pgSvc F.SVC_STATUS_ATTACHED = true ∧ s.lcState ≠ 3) := by
  unfold Admitted; and_intros <;> decide

theorem wit_HoldUp : (z.put pgMod F.MOD_STATUS_MODE 9).mode = 9 ∧ z.park = none ∧ (∃ k, { z with park := some k }.park = some k) :=
  ⟨by decide, by decide, {}, rfl⟩

/-- The module is off, with VIN gone. -/
def off : State := z.put pgMod F.MOD_STATUS_MODE 0

theorem wit_PowerAndStart : (off.pw.vinGood = false ∧ off.pw.porstN = true ∧ off.mode = 0 ∧ off.start.stage = .off) ∧ ({ off with pw := { off.pw with porstN := false } }.pw.porstN = false) ∧
    (z.start.reached = false ∧ z.noPower = false ∧ off.noPower = true) ∧ ({ z with start := { stage := .checking } }.start.stage ≠ .off) ∧ z.start.since = none ∧
    ({ z with start := { since := some 0 } }.start.since ≠ none) ∧ (z.put pgKal F.KAL_WAKE_EN 0).get pgKal F.KAL_WAKE_EN = 0 ∧
    (let s := (z.put pgMod F.MOD_STATUS_MODE 1).put pgKal F.KAL_WAKE_EN 15; s.mode = 1 ∧ (s.get pgKal F.KAL_WAKE_EN).testBit (3 - 1) = true) ∧
    (z.put pgKal F.KAL_ALARM_SEC 0).rtc / 2 ^ 15 % 2 ^ 32 = (z.put pgKal F.KAL_ALARM_SEC 0).get pgKal F.KAL_ALARM_SEC ∧
    z.rtc / 2 ^ 15 % 2 ^ 32 ≠ z.get pgKal F.KAL_ALARM_SEC := by and_intros <;> decide

theorem wit_ParkAndPlinthSwitch : z.park = none ∧ (∃ k : Park, k.wake = none) ∧ (∃ k : Park, k.wake = some 1) ∧ z.rearm = none ∧
    (∃ a : Rearm, a.step = 8 ∧ a.slot < 2 ∧ a.taken = []) ∧ z.hoRun = none ∧ (∃ a : Rearm, a.step ≠ 8) ∧ { z with hoRun := some {} }.hoRun ≠ none :=
  ⟨rfl, ⟨{}, rfl⟩, ⟨{ wake := some 1 }, rfl⟩, rfl, ⟨{ step := 8, slot := 1 }, rfl, by decide, rfl⟩, rfl, ⟨{ step := 7 }, by decide⟩, by decide⟩

/-- Every port, every touch source and the sample program run. -/
def allRun : State :=
  (upTo 9).foldl (fun s n => s.setSrc n { run := true }) ((upTo 8).foldl (fun s p => s.setPort p { run := true }) (z.setReg pgShd 0x18 0x22222222))

theorem wit_ParkAndPlinthSwitch_items : allRun.plinthIdle = [] ∧ z.plinthIdle = plinthItems ∧
    (let a : Rearm := { step := 8, switching := true, taken := plinthItems }; ((plinthItems ++ z.plinthIdle).filter fun i => !(a.taken.contains i)).eraseDups = []) ∧
    (([1] ++ allRun.plinthIdle).filter fun i => !(([] : List Nat).contains i)).eraseDups = [1] ∧ ∃ i ∈ plinthItems, i ∉ [] ++ [1] := by
  refine ⟨by decide, by decide, by decide, by decide, 2, by decide, by decide⟩

/-- A start that fetches its image from the boot source of a code. -/
def fetchingFrom (boot : Nat) : State := { z with start := { stage := .fetching, boot := boot }, arm := some { op := 1 } }

/-- Maquette with a tool attached. -/
def serviced : State := (z.put pgMod F.MOD_STATUS_MODE 3).put pgSvc F.SVC_STATUS_ATTACHED 1

set_option maxRecDepth 8000 in
theorem wit_StartSources : z.start.stage ≠ .straps ∧ ({ z with start := { stage := .straps } }.start.stage = .straps) ∧ z.get pgRst F.RST_START_FAILS < 3 ∧
    (z.put pgRst F.RST_START_FAILS 3).get pgRst F.RST_START_FAILS = 3 ∧ z.lcState = 0 ∧ z.fetching 5 = false ∧ (fetchingFrom 5).fetching 5 = true ∧
    (fetchingFrom 5).arm = some { op := 1 } ∧ z.flag pgSvc F.SVC_STATUS_ATTACHED = false ∧ serviced.flag pgSvc F.SVC_STATUS_ATTACHED = true ∧ z.svcTakes = false ∧
    serviced.svcTakes = true ∧ serviced.lcs = none ∧ z.fetching 4 = false ∧ z.arm = none ∧ (fetchingFrom 5).start.target < 2 ∧
    (let s := { paired with start := { stage := .fetching, boot := 4 } }
     let t := (s.setReg pgShd 0x18 0x22222222).put pgPlk (F.PLK_PORT_STATE.at 0) 1
     t.plkUp 0 = true ∧ frameIs 7 (hdr7 7) = true ∧ (hdr7 7).major = 1 ∧ t.imageDomain = none ∧ t.fetching 4 = true ∧ t.start.cands = [] ∧ t.start.got = 0 ∧ t.start.target < 2) := by and_intros <;> decide

theorem wit_ServicePortAndPins : Admitted rT pgSvc z ∧ Admitted rT pgKal z ∧ z.flag pgSvc F.SVC_ALERT_CLEAR = false ∧
    (let s := { z.put pgSvc F.SVC_ALERT_CLEAR 1 with time := 99999 }; s.flag pgSvc F.SVC_ALERT_CLEAR = true ∧ s.time < s.pw.alertLast + 100000) ∧
    (let s := { z.put pgSvc F.SVC_ALERT_CLEAR 1 with time := 100000 }; s.flag pgSvc F.SVC_ALERT_CLEAR = true ∧ s.pw.alertLast + 100000 ≤ s.time) ∧
    (0xFFFF#32).toNat < 65536 ∧ (0x10000#32).toNat ≥ 65536 ∧ z.pciHeld .A = true ∧ (let s := stageA .running paired; s.pciHeld .A = false ∧ s.noPower = false ∧ s.disc (pgPci .A) 0 ≠ 2) ∧ z.noPower = false ∧
    z.disc (pgPci .A) 0 ≠ 2 ∧ z.disc (pgPci .A) 0 ≠ 3 ∧ (z.discSet (pgPci .A) 0 2).disc (pgPci .A) 0 = 2 := by unfold Admitted; and_intros <;> decide

theorem wit_ResetCommands : Admitted rT (pgRstH .A) z ∧ (z.ack.rstTurn .A).1 = false ∧ (on.ack.rstTurn .A).1 = false ∧ pageExists .A false 0x30 = false ∧ pageExists .A true 0x80 = false ∧ pageExists .A false 0x50 = true ∧
    z.halfFuncIdle .A 0x50 = some true ∧ z.halfFuncIdle .A 0x21 = none ∧ z.flag (pgCvu .A 0) F.CVU_STATUS_BUSY = false ∧
    (let s := on.put (pgCmp .A 0) F.CMP_SCHED_ROLE 0; s.halfFuncIdle .A 0 = some false ∧ s.funcOff .A false 0 = false) ∧
    z.Canon := by unfold Admitted State.Canon; and_intros <;> decide

theorem wit_TierChanges : z.noPower = false ∧ off.noPower = true ∧ z.tier = 0 ∧ (let s := z.put pgMod F.MOD_STATUS_TIER 4; s.tier ≠ 0 ∧ stepUpAt s.tier ≤ 3500 ∧
      3499 < stepUpAt s.tier ∧ s.pw.limitHold = false) ∧ (z.setTier 3 .tier).applied = false ∧ (paired.setTier 3 .tier).applied = true := by and_intros <;> decide

theorem wit_PowerDomains : Admitted rT (pgPwr .A) z ∧ Admitted rT pgShd z ∧ (0x7FFFFFFF#32).getLsbD 31 = false ∧ (0x80000000#32).getLsbD 31 = true ∧
    (0x3FFFFF#32).toNat < 2 ^ 22 ∧ (0x400000#32).toNat ≥ 2 ^ 22 ∧ (z.setDomain .A 16 1).domain .A 16 = 1 ∧ ((z.setHs .A { dram := { trained := true } }).setDomain .A 24 1).domain .A 24 = 1 ∧
    domNeeds 24 = none ∧ (z.setHs .A { dram := { trained := true } }).halfA.dram.trained = true ∧ (z.hs .A).dram.trained = false ∧ (z.setPdomain 21 4).pdomain 21 = 4 ∧ domNeeds 16 = none ∧ z.domain .A 16 ≠ 1 ∧
    (let s := on.put (pgPwr .A) F.PWR_REQ_REQ 0; s.domain .A 16 = 2 ∧ s.domWanted .A 16 = false ∧ pinned 16 = false ∧ s.domFree .A 16 = true ∧ s.domIdle .A 16 = true) ∧
    pinned 10 = true ∧ (z.setDomain .A 16 4).domain .A 16 = 4 ∧ (z.setPdomain 3 1).pdomain 3 = 1 ∧ (z.setPdomain 3 4).pdomain 3 = 4 := by
  unfold Admitted; and_intros <;> decide

theorem wit_VioAndTemperature : z.pw.vio18 = false ∧ ({ z with pw := { z.pw with vio18 := true } }.pw.vio18 = true) ∧ Admitted rT pgShd z ∧
    (z.put pgShd F.SHD_STATUS_VIO33_F 1).flag pgShd F.SHD_STATUS_VIO33_F = true ∧ z.flag pgShd F.SHD_STATUS_VIO33_F = false ∧ off.noPower = true ∧ z.noPower = false ∧
    z.thermPark .A = false ∧ (z.put pgMod F.MOD_STATUS_TIER 4).tier = 4 ∧ z.tier = 0 ∧ z.get (pgPwr .A) F.PWR_THERM_CAP = 0 ∧
    (z.put (pgPwr .A) F.PWR_THERM_CAP 1).get (pgPwr .A) F.PWR_THERM_CAP = 1 ∧ (z.put (pgPwr .A) F.PWR_THERM_CAP 2).get (pgPwr .A) F.PWR_THERM_CAP = 2 := by unfold Admitted; and_intros <;> decide

theorem wit_PatinaHostEvents : Admitted rT pgPat z ∧ z.snapValid 3 = false ∧ z.pat.closing = none ∧
    (∃ k : PatClosing, { z with pat := { closing := some k } }.pat.closing = some k ∧ k.pos = 3) := by
  refine ⟨by unfold Admitted; decide, by decide, rfl, { pos := 3 }, rfl, rfl⟩

theorem wit_PatinaReads : AdmittedRead rT pgPat z 0x1000 ∧ (z.put pgPat F.PAT_STATUS_SCAN 0).flag pgPat F.PAT_STATUS_SCAN = false ∧
    (z.put pgPat F.PAT_STATUS_SCAN 1).flag pgPat F.PAT_STATUS_SCAN = true ∧ (∃ k : PatClosing, { z with pat := { closing := some k } }.pat.closing = some k ∧ k.pos < 8) :=
  ⟨by unfold AdmittedRead; decide, by decide, by decide, {}, rfl, by decide⟩

/-- A CVU unit that scans. -/
def cvuBusy : State := z.put (pgCvu .A 0) F.CVU_STATUS_BUSY 1

theorem wit_RegisterWrite : notRegister 0 = true ∧ notRegister 0xF000400000 = false ∧ regPage .A 0xF000400000 = none ∧
    (notRegister 0xF000500008 = false ∧ regPage .A 0xF000500008 = some (pgCvu .A 0, pgCvu .A 0) ∧ (pgCvu .A 0).kind = some .cvu) ∧
    (¬Admitted rO (plinthPg 0) opened ∧ opened.windowAdmits rO (plinthPg 0) .write 0 = false) ∧
    (¬Admitted rO (pgCvu .A 0) opened ∧ opened.windowAdmits rO (pgCvu .A 0) .write 0 = true) ∧ Admitted rT (pgCvu .A 0) z := by
  unfold Admitted; and_intros <;> decide

theorem wit_RegisterWrite_words : 0xF000500008 % 0x10000 = 8 ∧ roWindow .cvu 8 = false ∧ (∃ r, regAt .cvu 8 = some r) ∧ z.writeIgnored .A (pgCvu .A 0) .cvu 8 = false ∧
    cvuBusy.writeIgnored .A (pgCvu .A 0) .cvu 8 = true ∧ regAt .cvu 0x4000 = none ∧ roWindow .cvu 0x4000 = false ∧ roWindow .pat 0x1000 = true ∧ isShadow 0x1000 = true ∧
    (∃ r, regAt .cmp 0x1000 = some r) ∧ z.writeIgnored .A (pgCmp .A 0) .cmp 0x1000 = false ∧ reservedOp .cvu 8 0 = false ∧ reservedOp .pair 0 4 = true ∧
    (∃ r, regAt .scn 0 = some r ∧ reservedSet r 0x80000000 ≠ 0 ∧ reservedSet r 0 = 0) := by
  and_intros <;> first | decide | exact ⟨_, rfl⟩

theorem wit_RegisterWrite_insq : (pgInsq .A 0).kind = some .insq ∧ ((pgInsq .A 0).code - 0x401) / 2 = 0 ∧ z.pageOn (pgInsq .A 0) = false ∧ on.pageOn (pgInsq .A 0) = true ∧
    on.insqAdmits ⟨.A, .pcie 3⟩ 0 = false ∧ on.insqAdmits rT 0 = true ∧ (∃ a via, notRegister a = false ∧ regPage .A a = some (pgInsq .A 0, via)) := by
  and_intros
  on_goal 7 => exact ⟨0xF004010000, pgInsq .A 0, by decide⟩
  all_goals decide

theorem wit_DiscoveryReadAndCopyFault : opened.windowAdmits rO (plinthPg 0) .read 0xF000 = false ∧ opened.windowAdmits rO (pgCvu .A 0) .read 0xF000 = true ∧
    opened.admits rO (pgCvu .A 0) = false ∧ AdmittedRead rT (plinthPg 0) z 0xF000 ∧ (plinthPg 0).kind = some .scn ∧ positions .scn = 1 ∧ z.copyFault = false ∧
    { z with copyFault := true }.copyFault = true ∧ roWindow .cvu 8 = false ∧ (∃ r, regAt .cvu 8 = some r) := by
  unfold AdmittedRead
  and_intros
  on_goal 12 => exact ⟨_, rfl⟩
  all_goals decide

theorem wit_ResetState : (pgCvu .A 0).kind = some .cvu ∧ regAt .cvu 8 ≠ none ∧ (pgCvu .A 0).code < 0x10000 ∧ 256 < 257 := by decide

/-- A result that the spec calls unpredictable is a next state. -/
theorem wit_EveryCommandCompletes : exec (.cvuStart rT 0 4) z = .next (z.ack.unpredictable (pgCvu .A 0) 0) := rfl

theorem wit_SlotInForce : Admitted rT (pgArmH .A) z ∧ z.get pgArm F.ARM_ACTIVE_A_SLOT = (0 : Fin 2) ∧ z.copyFault = false ∧ z.arm = none ∧ z.rearm = none := by
  unfold Admitted; decide

theorem wit_PixelContainer : (1023 < 1024) ∧ container 1023 0 1 = 0x3FF00001 := by decide

/-- The three blend modes of a layer are each some layer's. -/
theorem wit_LayerBlend : (layerOf (fun _ => 0) 0).blend = 0 ∧ (∃ w : Word, (layerOf (fun _ => w) 0).blend = 1) ∧ (∃ w : Word, (layerOf (fun _ => w) 0).blend = 2) := by
  refine ⟨by decide, ⟨BitVec.ofNat 32 (1 <<< F.LY_CTRL_BLEND.lsb), by decide⟩, ⟨BitVec.ofNat 32 (2 <<< F.LY_CTRL_BLEND.lsb), by decide⟩⟩

end Sys2Proof.Tests
end

section
/-! SUPPORT. Every command completes: each meaning is a nest of guards, lookups and host accesses whose leaves are all next states. -/

namespace Sys2Proof.Machine

/-- A meaning answers a next state, neither a fault nor a refusal. -/
def Completes (r : Res) : Prop := ∃ t, r = .next t

theorem goes_iff_completes (c : Instr) (s : State) : Goes c s ↔ Completes (exec c s) := Iff.rfl

theorem completes_next (t : State) : Completes (.next t) := ⟨t, rfl⟩

theorem completes_ite {c : Prop} [Decidable c] {a b : Res} (ha : Completes a) (hb : Completes b) : Completes (if c then a else b) := by
  split <;> assumption

/-- A guard that leaves the meaning early with a next state. -/
theorem completes_guard {c : Prop} [Decidable c] {t : State} {r : Res} (hr : Completes r) : Completes (if c then .next t else r) :=
  completes_ite (completes_next t) hr

theorem completes_hostWrite {rq : Requester} {pg : Pg} {s : State} {f : State → Res} {off : Nat} (hf : ∀ t, Completes (f t)) :
    Completes (hostWrite rq pg s f off) := completes_guard (completes_guard (completes_guard (hf _)))

theorem completes_hostRead {rq : Requester} {pg : Pg} {s : State} {f : State → Res} {off : Nat} (hf : ∀ t, Completes (f t)) :
    Completes (hostRead rq pg s f off) := completes_guard (completes_guard (hf _))

theorem completes_armCommand {rq : Requester} {op : Nat} {s : State} {f : State → Res} (hf : ∀ t, Completes (f t)) :
    Completes (armCommand rq op s f) := completes_hostWrite fun _ => completes_guard (completes_guard (hf _))

theorem completes_hubCommand {h : Half} {i op : Nat} {bus : BusRead} {s : State} {run : List Byte → Completion → State → Res}
    (hrun : ∀ cmd c t, Completes (run cmd c t)) : Completes (hubCommand h i op bus s run) := by
  unfold hubCommand
  refine completes_guard ?_
  split
  · exact completes_next _
  · refine completes_guard (completes_guard ?_)
    dsimp only
    split
    · exact completes_next _
    · exact hrun _ _ _

/-! ## The deepest nests -/

theorem execDigestCompare_completes (port : Fin 8) (s : State) : Completes (execDigestCompare port s) := by
  unfold execDigestCompare
  split
  · exact completes_next _
  · split
    · refine completes_guard ?_
      split <;> exact completes_next _
    · exact completes_next _

theorem execRearmChecksDone_completes (s : State) : Completes (execRearmChecksDone s) := by
  unfold execRearmChecksDone
  split
  · exact completes_next _
  · refine completes_guard ?_
    split
    · exact completes_next _
    · exact completes_guard (completes_guard (completes_next _))

theorem execInspectionStep_completes (found : InspFound) (s : State) : Completes (execInspectionStep found s) := by
  unfold execInspectionStep
  split
  · exact completes_next _
  · refine completes_guard (completes_ite (completes_guard (completes_next _)) (completes_ite (completes_guard (completes_next _)) ?_))
    exact completes_guard (completes_ite (completes_guard (completes_guard (completes_next _))) (completes_guard (completes_next _)))

/-- A store ends at a guard or at its register, behind an INSQ page's own admission or behind that of a host write. -/
theorem execRegisterWrite_completes (rq : Requester) (a w : Nat) (v : Word) (s : State) : Completes (execRegisterWrite rq a w v s) := by
  unfold execRegisterWrite
  refine completes_guard ?_
  split
  · exact completes_next _
  · dsimp only
    split
    · exact completes_next _
    · refine completes_ite (completes_guard (completes_guard ?_)) (completes_hostWrite fun _ => ?_)
      all_goals
        refine completes_guard (completes_guard (completes_guard (completes_guard ?_)))
        split <;> exact completes_next _

/-! ## Every command -/

/-- The commands are grouped by the shape of their meanings. -/
theorem exec_completes (c : Instr) (s : State) : Completes (exec c s) := by
  cases c with
  -- One next state whatever the state holds.
  | composeResume | hpdPlug | hpdUnplug | discoveryRetry | arbitration | rasterTierReport | resetNotice | mfenceAcknowledge | twinLinkDown
    | twinLinkUp | mirrorSourceSwap | autoReturn | aplicDelegateWrite | debugHaltRequest | fenceI | hostGone | bankIdleClose |
    periodicTraining | refreshDue | stuckAccessTimeout | quPointerSync | captureRefDone | hapLoadCheck | headsetPlug | peerAlarm |
    neighbourTimeout | holdoverExpiry | nightWatchWake | porstNAssert | ndmreset | hartreset | powerLimitHoldEnd | holdupEntry |
    keepAlivePowerUp | rtcAlarm | tamperEvent | patinaScanDone | snapshotClose | alertClearDelayed | serviceAttach | serviceDetach | vkaLoss |
    gptpPdelayReq =>
    dsimp only [exec, execComposeResume, execHpdPlug, execHpdUnplug, execDiscoveryRetry, execArbitration, execRasterTierReport,
      execResetNotice, execMfenceAcknowledge, execTwinLinkDown, execTwinLinkUp, execMirrorSourceSwap, execAutoReturn, execAplicDelegateWrite,
      execDebugHaltRequest, execFenceI, execHostGone, execBankIdleClose, execPeriodicTraining, execRefreshDue, execStuckAccessTimeout,
      execQuPointerSync, execCaptureRefDone, execHapLoadCheck, execHeadsetPlug, execPeerAlarm, execNeighbourTimeout, execHoldoverExpiry,
      execNightWatchWake, execPorstNAssert, execNdmreset, execHartreset, execPowerLimitHoldEnd, execHoldupEntry, execKeepAlivePowerUp,
      execRtcAlarm, execTamperEvent, execPatinaScanDone, execSnapshotClose, execAlertClearDelayed, execServiceAttach, execServiceDetach,
      execVkaLoss, execGptpPdelayReq]
    exact completes_next _
  -- Nests of guards.
  | plinthCopyDisagree | portLineBoundary | scrubDue | latchLineStart | pipeLineStart | portFrameBoundary | blenDelayExpiry | hpdIrq |
    sinkCheckDue | compositorStart | compositorLeave | rasterMemoryAccess | rasterT4Timeout | heartbeatSend | heartbeatTimeout | mirrorWrite |
    lockstepMismatch | mret | trustedInterrupt | trustedClearDone | watchdogExpiry | debugPreempt | spmWakeMarch | spmOffClearDone |
    slotTableSwitch | cvuPassEnd | electrodeTestDone | touchDiscoveryTimer | hapLoadCheckDone | audioSample | audCopyDone | headsetMeasureDone
    | headsetUnplug | tdmFrameSlip | peerMigrate | peerImageReq | peerImageData | announceTimer | lockTimer | currentLockExpiry | strapSample
    | startWindowExpiry | halfResetRequest | halfResetRelease | halfApplyDone | svcRead | svcWrite | svcVerify | svcProvision | svcStart |
    serviceWriteStall | pcieBootLength | tierStepDown | powerLimitStep | vioOverload | thermalSample | dormantWake | patinaMramWrite |
    gptpAnnounce | pcsTransmitFault | pcieBootDataWrite =>
    dsimp only [exec, execPlinthCopyDisagree, execPortLineBoundary, execScrubDue, execLatchLineStart, execPipeLineStart,
      execPortFrameBoundary, execBlenDelayExpiry, execHpdIrq, execSinkCheckDue, execCompositorStart, execCompositorLeave,
      execRasterMemoryAccess, execRasterT4Timeout, execHeartbeatSend, execHeartbeatTimeout, execMirrorWrite, execLockstepMismatch, execMret,
      execTrustedInterrupt, execTrustedClearDone, execWatchdogExpiry, execDebugPreempt, execSpmWakeMarch, execSpmOffClearDone,
      execSlotTableSwitch, execCvuPassEnd, execElectrodeTestDone, execTouchDiscoveryTimer, execHapLoadCheckDone, execAudioSample,
      execAudCopyDone, execHeadsetMeasureDone, execHeadsetUnplug, execTdmFrameSlip, execPeerMigrate, execPeerImageReq, execPeerImageData,
      execAnnounceTimer, execLockTimer, execCurrentLockExpiry, execStrapSample, execStartWindowExpiry, execHalfResetRequest,
      execHalfResetRelease, execHalfApplyDone, execSvcRead, execSvcWrite, execSvcVerify, execSvcProvision, execSvcStart, execServiceWriteStall,
      execPcieBootLength, execTierStepDown, execPowerLimitStep, execVioOverload, execThermalSample, execDormantWake, execPatinaMramWrite,
      execGptpAnnounce, execPcsTransmitFault, execPcieBootDataWrite]
    exact completes_guard (completes_next _)
  | latchMarker | lineCutoff | hpartWrite | mworldWrite | mModeTrap | dramTrainingDone | quSpillTransfer | touchFrameEnd | headsetButton |
    peerAnnounce | peerLock | peerMigDone | pcsLockLoss | porstNRelease =>
    dsimp only [exec, execLatchMarker, execLineCutoff, execHpartWrite, execMworldWrite, execMModeTrap, execDramTrainingDone,
      execQuSpillTransfer, execTouchFrameEnd, execHeadsetButton, execPeerAnnounce, execPeerLock, execPeerMigDone, execPcsLockLoss,
      execPorstNRelease]
    exact completes_guard (completes_guard (completes_next _))
  | msiWrite | insqDoorbell | spmAccess | peerPortLink | tierStepUp =>
    dsimp only [exec, execMsiWrite, execInsqDoorbell, execSpmAccess, execPeerPortLink, execTierStepUp]
    exact completes_guard (completes_guard (completes_guard (completes_next _)))
  | touchFrameSlot =>
    dsimp only [exec, execTouchFrameSlot]
    exact completes_guard (completes_guard (completes_guard (completes_guard (completes_next _))))
  | gptpSync | powerOn =>
    dsimp only [exec, execGptpSync, execPowerOn]
    exact completes_guard (completes_guard (completes_guard (completes_guard (completes_guard (completes_next _)))))
  | thawTwinQuery =>
    dsimp only [exec, execThawTwinQuery]
    exact completes_guard (completes_guard (completes_guard (completes_guard (completes_guard (completes_guard (completes_next _))))))
  -- Host writes.
  | cmpGo | scnRetrain | scnPsrEn | ickGo | ickRelease | ickSinkNow | rcxResume | twnMfence | pairRejoin | wldExtend | watchdogKick |
    wldDbgWrite | instReset | instFace | spmMarchD | spmMarchP | cvuStop | tafTest | tafRebase | tceTest | tceRebase | hapPlay | hapStop |
    hapUnlock | audSwap | audCopy | audOverrideWrite | plkDisable | plkRxDone | plkCancel | lcsProvision | lcsService | lcsRetire |
    lcsKeyUpdate | kalInc | patHostEvent | patSnap | patLock | patUnlock =>
    dsimp only [exec, execCmpGo, execScnRetrain, execScnPsrEn, execIckGo, execIckRelease, execIckSinkNow, execRcxResume, execTwnMfence,
      execPairRejoin, execWldExtend, execWatchdogKick, execWldDbgWrite, execInstReset, execInstFace, execSpmMarchD, execSpmMarchP, execCvuStop,
      execTafTest, execTafRebase, execTceTest, execTceRebase, execHapPlay, execHapStop, execHapUnlock, execAudSwap, execAudCopy,
      execAudOverrideWrite, execPlkDisable, execPlkRxDone, execPlkCancel, execLcsProvision, execLcsService, execLcsRetire, execLcsKeyUpdate,
      execKalInc, execPatHostEvent, execPatSnap, execPatLock, execPatUnlock]
    exact completes_hostWrite fun _ => completes_next _
  | rcxDoorbell | twnMirSrcWrite | wldRestart | instRestore | dmcBeWrite | tafMode | plkClearq | modNight | modWake | rstHalfReset |
    rstPartReset | pwrReqWrite | shdReqWrite | kalRtcHiWrite | vioFaultClear =>
    dsimp only [exec, execRcxDoorbell, execTwnMirSrcWrite, execWldRestart, execInstRestore, execDmcBeWrite, execTafMode, execPlkClearq,
      execModNight, execModWake, execRstHalfReset, execRstPartReset, execPwrReqWrite, execShdReqWrite, execKalRtcHiWrite, execVioFaultClear]
    exact completes_hostWrite fun _ => completes_guard (completes_next _)
  | rcxSuspend | instFreeze | instSave | tceCaptureRef | plkNodeWrite | modInspect | modDormant | svcAlertClear =>
    dsimp only [exec, execRcxSuspend, execInstFreeze, execInstSave, execTceCaptureRef, execPlkNodeWrite, execModInspect, execModDormant,
      execSvcAlertClear]
    exact completes_hostWrite fun _ => completes_guard (completes_guard (completes_next _))
  | rcxPrioWrite | cvuStart =>
    dsimp only [exec, execRcxPrioWrite, execCvuStart]
    exact completes_hostWrite fun _ => completes_guard (completes_guard (completes_guard (completes_next _)))
  | pairHandover | plkEnable =>
    dsimp only [exec, execPairHandover, execPlkEnable]
    exact completes_hostWrite fun _ => completes_guard (completes_guard (completes_guard (completes_guard (completes_next _))))
  | instThaw =>
    dsimp only [exec, execInstThaw]
    refine completes_hostWrite fun _ => completes_guard (completes_guard (completes_ite ?_ (completes_next _)))
    exact completes_guard (completes_guard (completes_next _))
  -- Host reads, loader commands and hub commands.
  | patSlotRead =>
    dsimp only [exec, execPatSlotRead]
    exact completes_hostRead fun _ => completes_next _
  | armVerify =>
    dsimp only [exec, execArmVerify]
    exact completes_armCommand fun _ => completes_next _
  | hubCommit | hubNop =>
    dsimp only [exec, execHubCommit, execHubNop]
    exact completes_hubCommand fun _ _ _ => completes_next _
  | drecStatusRead =>
    dsimp only [exec, execDrecStatusRead]
    exact completes_hostRead fun _ => completes_guard (completes_next _)
  | armErase | armRearm | armRaiseFloor =>
    dsimp only [exec, execArmErase, execArmRearm, execArmRaiseFloor]
    exact completes_armCommand fun _ => completes_guard (completes_next _)
  | hubLayerSet | hubLayerOff =>
    dsimp only [exec, execHubLayerSet, execHubLayerOff]
    exact completes_hubCommand fun _ _ _ => completes_guard (completes_next _)
  | armWrite =>
    dsimp only [exec, execArmWrite]
    exact completes_armCommand fun _ => completes_guard (completes_guard (completes_next _))
  -- A record is looked up first.
  | rearmHandoverIssue | rearmQualTimeout | rearmStartWindowTimeout | plinthSwitch | fetchChunkArrival | trainAttemptTimeout |
    heartbeatReceive | mirrorWriteApply | catchupGranuleDone | handoverTimeout | hubCommitCopy | twinEffect | contactStale | peerRetry |
    failsClear | parkComplete | lcsOperationDone | hupBelow12v =>
    dsimp only [exec, execRearmHandoverIssue, execRearmQualTimeout, execRearmStartWindowTimeout, execPlinthSwitch, execFetchChunkArrival,
      execTrainAttemptTimeout, execHeartbeatReceive, execMirrorWriteApply, execCatchupGranuleDone, execHandoverTimeout, execHubCommitCopy,
      execTwinEffect, execContactStale, execPeerRetry, execFailsClear, execParkComplete, execLcsOperationDone, execHupBelow12v]
    split <;> exact completes_next _
  | domainPowerOnDone | domainSwitchOff | domainShutdownDone =>
    dsimp only [exec, execDomainPowerOnDone, execDomainSwitchOff, execDomainShutdownDone]
    split <;> exact completes_guard (completes_next _)
  | linePacketArrival | scrubSlotDone | lineClose | trainAttemptDone | halfPark | hubCommitComplete | marchRowDone | marchDone =>
    dsimp only [exec, execLinePacketArrival, execScrubSlotDone, execLineClose, execTrainAttemptDone, execHalfPark, execHubCommitComplete,
      execMarchRowDone, execMarchDone]
    split
    · exact completes_next _
    · exact completes_guard (completes_next _)
  | armCopyDone | loaderCheckDone | armEraseDone =>
    dsimp only [exec, execArmCopyDone, execLoaderCheckDone, execArmEraseDone]
    split
    · exact completes_next _
    · exact completes_guard (completes_guard (completes_next _))
  | fenceComplete =>
    dsimp only [exec, execFenceComplete]
    split
    · exact completes_next _
    · refine completes_guard (completes_guard ?_)
      split <;> exact completes_next _
  | dramZeroFillDone =>
    dsimp only [exec, execDramZeroFillDone]
    split
    · exact completes_guard (completes_next _)
    · split
      · exact completes_next _
      · exact completes_guard (completes_next _)
  -- A record is looked up behind guards.
  | jobComplete | dramSlot | cvuBlock | peerAck | pciPresenceChange =>
    dsimp only [exec, execJobComplete, execDramSlot, execCvuBlock, execPeerAck, execPciPresenceChange]
    refine completes_guard ?_
    split <;> exact completes_next _
  | ickLatchAck | peerTimeout =>
    dsimp only [exec, execIckLatchAck, execPeerTimeout]
    refine completes_guard ?_
    split
    · exact completes_next _
    · exact completes_guard (completes_next _)
  | instanceTimeout =>
    dsimp only [exec, execInstanceTimeout]
    refine completes_guard ?_
    split
    · exact completes_guard (completes_next _)
    · split <;> exact completes_next _
  | twinEffectAck =>
    dsimp only [exec, execTwinEffectAck]
    refine completes_guard (completes_guard ?_)
    split
    · exact completes_next _
    · split <;> exact completes_next _
  | preemptionPoint =>
    dsimp only [exec, execPreemptionPoint]
    refine completes_guard ?_
    split
    · exact completes_next _
    · exact completes_guard (completes_guard (completes_next _))
  | sinkCrcReadDone | measureImageDone | serviceBulkOut =>
    dsimp only [exec, execSinkCrcReadDone, execMeasureImageDone, execServiceBulkOut]
    refine completes_guard ?_
    split
    · exact completes_next _
    · exact completes_guard (completes_guard (completes_guard (completes_next _)))
  | hapControlSample =>
    dsimp only [exec, execHapControlSample]
    refine completes_guard (completes_guard ?_)
    split
    · exact completes_next _
    · exact completes_guard (completes_guard (completes_next _))
  | linkStatusReadDone =>
    dsimp only [exec, execLinkStatusReadDone]
    refine completes_guard ?_
    split
    · exact completes_guard (completes_next _)
    · exact completes_next _
    · exact completes_next _
  | auxTransactionDone =>
    dsimp only [exec, execAuxTransactionDone]
    refine completes_guard ?_
    split
    · exact completes_next _
    · exact completes_guard (completes_next _)
    · exact completes_guard (completes_next _)
  -- Host accesses that look a record up.
  | pairCancel | spmAbort | quPush | quOpen | quClose =>
    dsimp only [exec, execPairCancel, execSpmAbort, execQuPush, execQuOpen, execQuClose]
    refine completes_hostWrite fun _ => ?_
    split <;> exact completes_next _
  | quPop =>
    dsimp only [exec, execQuPop]
    refine completes_hostRead fun _ => ?_
    split <;> split <;> exact completes_next _
  | scnAccept =>
    dsimp only [exec, execScnAccept]
    refine completes_hostWrite fun _ => completes_guard ?_
    split <;> exact completes_next _
  | rstFuncReset =>
    dsimp only [exec, execRstFuncReset]
    refine completes_hostWrite fun _ => completes_guard (completes_guard ?_)
    split <;> exact completes_next _
  | plkSend =>
    dsimp only [exec, execPlkSend]
    refine completes_hostWrite fun _ => completes_guard (completes_guard (completes_guard (completes_ite ?_ (completes_guard (completes_next _)))))
    split <;> exact completes_next _
  | armAbort =>
    dsimp only [exec, execArmAbort]
    refine completes_hostWrite fun _ => completes_guard ?_
    split
    · exact completes_next _
    · exact completes_guard (completes_next _)
  -- The four deepest nests.
  | digestCompare => exact execDigestCompare_completes ..
  | registerWrite => exact execRegisterWrite_completes ..
  | rearmChecksDone => exact execRearmChecksDone_completes ..
  | inspectionStep => exact execInspectionStep_completes ..

/-- A step carries out a command or lets a microsecond pass. -/
theorem step_completes (s : State) : Completes (step s) := by
  unfold step
  split
  · exact completes_next _
  · exact exec_completes _ _

/-- Settles O56: every leaf of every meaning is a next state, and an idle step is one. -/
theorem everyCommandCompletes : Obligations.EveryCommandCompletes :=
  ⟨exec_completes, step_completes⟩

end Sys2Proof.Machine
end

section
/-! SUPPORT. The end of the planned handovers and of a REARM keeps the SVC page and the condition of R15. -/

namespace Sys2Proof.Machine

/-- The condition of R15 and the registers of the SVC page are in `t` those of `s`. -/
def KeepsSvc (s t : State) : Prop := t.copyFault = s.copyFault ∧ KeepsRegs (fun p _ => p = pgSvc) s t

theorem keepsSvc_rfl (s : State) : KeepsSvc s s := ⟨rfl, keepsRegs_of rfl⟩

theorem KeepsSvc.trans {s t u : State} (h : KeepsSvc s t) (k : KeepsSvc t u) : KeepsSvc s u := ⟨k.1.trans h.1, h.2.trans k.2⟩

theorem KeepsSvc.flag {s t : State} (h : KeepsSvc s t) {f : Fld} (hf : f.off < 0x10000) : t.flag pgSvc f = s.flag pgSvc f := by
  unfold State.flag State.get
  rw [h.2 pgSvc f.off (by decide) hf rfl]

section
variable {r s : State}

/-- A change that reaches neither a register nor the condition of R15. -/
theorem KeepsSvc.of (h : KeepsSvc r s) {t : State} (hregs : t.regs = s.regs) (hfault : t.copyFault = s.copyFault) : KeepsSvc r t :=
  h.trans ⟨hfault, keepsRegs_of hregs⟩

theorem KeepsSvc.raise (h : KeepsSvc r s) (p : Pg) : KeepsSvc r (s.raise p) := h.of rfl rfl

theorem KeepsSvc.setHs (h : KeepsSvc r s) (k : Half) (v : HalfSt) : KeepsSvc r (s.setHs k v) := h.of (by simp) (by simp)

theorem KeepsSvc.setPort (h : KeepsSvc r s) (n : Nat) (v : Port) : KeepsSvc r (s.setPort n v) := h.of rfl rfl

theorem KeepsSvc.setCell (h : KeepsSvc r s) (bank n : Nat) (w : Word) : KeepsSvc r (s.setCell bank n w) := h.of rfl rfl

theorem KeepsSvc.start (h : KeepsSvc r s) (v : Start) : KeepsSvc r { s with start := v } := h.of rfl rfl

theorem KeepsSvc.startScrub (h : KeepsSvc r s) (v : Start) (w : Scrub) : KeepsSvc r { s with start := v, scrub := w } := h.of rfl rfl

theorem KeepsSvc.scrubBegin (h : KeepsSvc r s) : KeepsSvc r s.scrubBegin := h.of rfl rfl

theorem KeepsSvc.audio (h : KeepsSvc r s) (v : Audio) : KeepsSvc r { s with audio := v } := h.of rfl rfl

theorem KeepsSvc.arm (h : KeepsSvc r s) (v : Option ArmOp) : KeepsSvc r { s with arm := v } := h.of rfl rfl

theorem KeepsSvc.rearm (h : KeepsSvc r s) (v : Option Rearm) : KeepsSvc r { s with rearm := v } := h.of rfl rfl

theorem KeepsSvc.hoRun (h : KeepsSvc r s) (v : Option HoRun) : KeepsSvc r { s with hoRun := v } := h.of rfl rfl

theorem KeepsSvc.shed (h : KeepsSvc r s) (v : Option ShedRun) : KeepsSvc r { s with shed := v } := h.of rfl rfl

theorem KeepsSvc.setReg (h : KeepsSvc r s) {q : Pg} {o : Nat} (w : Word) (hq : q.code < 0x10000) (ho : o < 0x10000) (hne : q ≠ pgSvc) :
    KeepsSvc r (s.setReg q o w) := h.trans ⟨rfl, keepsRegs_setReg _ _ hq ho hne⟩

theorem KeepsSvc.put (h : KeepsSvc r s) {q : Pg} {f : Fld} (v : Nat) (hq : q.code < 0x10000) (ho : f.off < 0x10000) (hne : q ≠ pgSvc) :
    KeepsSvc r (s.put q f v) := h.setReg _ hq ho hne

theorem keepsSvc_ite {c : Prop} [Decidable c] {t u : State} (ht : KeepsSvc r t) (hu : KeepsSvc r u) :
    KeepsSvc r (if c then t else u) := by split <;> assumption

theorem KeepsSvc.whenB (h : KeepsSvc r s) {c : Bool} {f : State → State} (hf : KeepsSvc r (f s)) : KeepsSvc r (s.whenB c f) :=
  keepsSvc_ite hf h

theorem KeepsSvc.each (h : KeepsSvc r s) {α : Type} {xs : List α} {f : α → State → State}
    (hf : ∀ x ∈ xs, ∀ t, KeepsSvc r t → KeepsSvc r (f x t)) : KeepsSvc r (s.each xs f) := by
  unfold State.each
  induction xs generalizing s with
  | nil => exact h
  | cons x l ih =>
    exact ih (hf x List.mem_cons_self s h) fun y hy => hf y (List.mem_cons_of_mem _ hy)

theorem KeepsSvc.event (h : KeepsSvc r s) (src code : Nat) (data : List Byte) (trig host : Bool) :
    KeepsSvc r (s.event src code data trig host) := by
  obtain ⟨heq, hregs⟩ := event_only s src code data trig host
  exact h.trans ⟨by rw [heq], hregs.mono fun p _ hp => by rw [hp]; decide⟩

theorem KeepsSvc.raiseBoth (h : KeepsSvc r s) (code : Nat) : KeepsSvc r (s.raiseBoth code) :=
  have hA : KeepsSvc r (s.whenB (s.inService .A) fun s => s.raise (halfPg .A code)) := h.whenB (h.raise _)
  hA.whenB (hA.raise _)

/-! ### MODE and PAIRING -/

theorem KeepsSvc.setModeTier (h : KeepsSvc r s) (mode tier : Nat) (t : ModeTrigger) : KeepsSvc r (s.setModeTier mode tier t) := by
  have hput := (h.put (q := pgMod) (f := F.MOD_STATUS_MODE) mode (by decide) (by decide) (by decide)).put (q := pgMod)
    (f := F.MOD_STATUS_TIER) tier (by decide) (by decide) (by decide)
  have hev := (hput.event srcMode 0x0002 (b1 s.mode ++ b1 mode ++ b1 s.tier ++ b1 tier ++ [Config.triggerCode t]) false false).raiseBoth 0x2000
  unfold State.setModeTier
  refine keepsSvc_ite h (keepsSvc_ite ?_ (hev.start _))
  exact (hev.whenB hev.scrubBegin).startScrub _ _

theorem KeepsSvc.refreshMode (h : KeepsSvc r s) (t : ModeTrigger) : KeepsSvc r (s.refreshMode t) := by
  unfold State.refreshMode
  refine keepsSvc_ite ?_ h
  split
  · exact h
  · exact h.setModeTier _ _ _

theorem KeepsSvc.putPair (h : KeepsSvc r s) (f : Fld) (v : Nat) (hf : f.off < 0x10000) : KeepsSvc r (s.put pgPair f v) :=
  h.put v (by decide) hf (by decide)

theorem KeepsSvc.refreshPairing (h : KeepsSvc r s) (t : ModeTrigger) : KeepsSvc r (s.refreshPairing t) :=
  (h.putPair _ _ (by decide)).refreshMode t

/-! ### The Plinth sections and the end of a REARM -/

theorem keyPage_code_lt (key : Nat) : (keyPage key).code < 0x10000 := Nat.mod_lt _ (by decide)

theorem KeepsSvc.putClassA (h : KeepsSvc r s) {key : Nat} (w : Word) (hne : keyPage key ≠ pgSvc) : KeepsSvc r (s.putClassA key w) := by
  unfold State.putClassA
  dsimp only
  split
  · exact h
  · split
    · exact h
    · exact h.setReg _ (keyPage_code_lt key) (Nat.mod_lt _ (by decide)) hne

/-- The SVC page belongs to no item that switches on its own. -/
theorem itemPage_svc (item : Nat) : itemPage item pgSvc = false := by
  have hcode : pgSvc.code = 0x60 := rfl
  refine Bool.eq_false_iff.mpr fun h => ?_
  simp only [itemPage, Bool.and_eq_true] at h
  obtain ⟨-, h⟩ := h
  split at h
  · simp only [Bool.or_eq_true, decide_eq_true_eq] at h
    omega
  · split at h <;> simp only [decide_eq_true_eq] at h <;> omega

theorem KeepsSvc.applyPages (h : KeepsSvc r s) (d : Die) {sel : Pg → Bool} (image : List Host.Cell) (hsel : sel pgSvc = false) :
    KeepsSvc r (s.applyPages d sel image) := by
  refine h.each fun key hkey t ht => ht.putClassA _ fun he => ?_
  have := (List.mem_filter.mp hkey).2
  rw [he, hsel] at this
  cases this

/-- The page of a register's key. -/
theorem keyPage_key {p : Pg} {off : Nat} (hp : p.code < 0x10000) (ho : off < 0x10000) : keyPage (p.key off) = p := by
  obtain ⟨d, c⟩ := p
  simp only at hp
  have hc : (Die.num d * 0x10000 + c) * 0x10000 + off = Die.num d * 0x100000000 + (c * 0x10000 + off) := by omega
  have hdiv : (Die.num d * 0x100000000 + (c * 0x10000 + off)) / 0x100000000 = Die.num d := by omega
  have hcode : (Die.num d * 0x100000000 + (c * 0x10000 + off)) / 0x10000 % 0x10000 = c := by omega
  simp only [keyPage, Pg.key, hc, hdiv, hcode]
  cases d <;> rfl

theorem KeepsSvc.sinkCfgShow (h : KeepsSvc r s) {p : Nat} (hp : p < 8) (slot : Nat) : KeepsSvc r (s.sinkCfgShow p slot) := by
  refine h.putClassA _ ?_
  rw [keyPage_key (by simp only [pgIck, plinthPg]; omega) (by decide)]
  simp only [pgIck, pgSvc, plinthPg, ne_eq, Pg.mk.injEq, true_and]
  omega

theorem KeepsSvc.tafShow (h : KeepsSvc r s) (n slot : Nat) : KeepsSvc r (s.tafShow n slot) := by
  unfold State.tafShow
  by_cases hn : 8 ≤ n
  · rw [if_pos hn]
    exact h
  · rw [if_neg hn]
    have hput {t : State} (ht : KeepsSvc r t) (f : Fld) (v : Nat) (hf : f.off < 0x10000) : KeepsSvc r (t.put (pgTaf n) f v) := by
      refine ht.put v ?_ hf ?_
      · simp only [pgTaf, plinthPg]
        omega
      · simp only [pgTaf, pgSvc, plinthPg, ne_eq, Pg.mk.injEq, true_and]
        omega
    exact hput (hput (hput (hput (hput h _ _ (by decide)) _ _ (by decide)) _ _ (by decide)) _ _ (by decide)) _ _ (by decide)

theorem KeepsSvc.audioLoad (h : KeepsSvc r s) (slot : Nat) : KeepsSvc r (s.audioLoad slot) := by
  unfold State.audioLoad
  refine KeepsSvc.put ?_ 0 (by decide) (by decide) (by decide)
  have hcells := (h.audio { s.audio with banks := [] }).each (xs := (Config.imageCells (s.slotCells slot)).1)
    (f := fun e s => if e.1 < 4096 then (s.setCell 0 e.1 e.2).setCell 1 e.1 e.2 else s) fun e _ t ht =>
      keepsSvc_ite ((ht.setCell _ _ _).setCell _ _ _) ht
  refine hcells.each fun e _ t ht => ?_
  split
  · exact ht.setReg _ (by decide) (by omega) (by decide)
  · exact ht

theorem KeepsSvc.takeSections (h : KeepsSvc r s) (slot item : Nat) : KeepsSvc r (s.takeSections slot item) := by
  have happly := h.applyPages .P (s.slotCells slot) (itemPage_svc item)
  unfold State.takeSections
  dsimp only
  split
  · exact happly.sinkCfgShow ‹_› _
  · split
    · exact happly.tafShow _ _
    · exact happly.audioLoad _

theorem KeepsSvc.armEnd (h : KeepsSvc r s) (src : ArmSource) (result : Nat) : KeepsSvc r (s.armEnd src result) := by
  have hput {t : State} (ht : KeepsSvc r t) (k : Half) (f : Fld) (v : Nat) (hf : f.off < 0x10000) : KeepsSvc r (t.put (pgArmH k) f v) :=
    ht.put v (by cases k <;> decide) hf (by cases k <;> decide)
  have h0 : KeepsSvc r { s with arm := none, start := { s.start with cause := result } } := (h.arm none).start { s.start with cause := result }
  unfold State.armEnd
  cases src with
  | half k =>
    have hend := hput (hput (hput h0 k F.ARM_STATUS_BUSY 0 (by decide)) k F.ARM_STATUS_DONE 1 (by decide)) k F.ARM_STATUS_RESULT result (by decide)
    dsimp only
    exact keepsSvc_ite (hend.raise _) (hend.setHs _ _)
  | _ => exact h0

theorem KeepsSvc.rearmStop (h : KeepsSvc r s) (result : Nat) : KeepsSvc r (s.rearmStop result) := by
  unfold State.rearmStop
  split
  · exact h
  · exact ((h.each fun i _ t ht => ht.takeSections _ _).rearm none).armEnd _ _

/-! ### The end of the planned handovers -/

theorem KeepsSvc.hoStart (h : KeepsSvc r s) (source : HoSource) (target : Half) (ports : List Nat) :
    KeepsSvc r (s.hoStart source target ports) := by
  unfold State.hoStart
  exact (((h.each fun p _ t ht => ht.setPort _ _).hoRun _).putPair _ _ (by decide)).refreshPairing _

theorem KeepsSvc.shedIssue (h : KeepsSvc r s) : KeepsSvc r s.shedIssue := by
  unfold State.shedIssue
  split
  · exact h
  next r' _ =>
    have hissued := h.shed (some { r' with issued := true })
    exact keepsSvc_ite h (keepsSvc_ite hissued (hissued.hoStart _ _ _))

theorem KeepsSvc.pairDone (h : KeepsSvc r s) (result : Nat) : KeepsSvc r (s.pairDone result) :=
  ((h.putPair _ _ (by decide)).putPair _ _ (by decide)).raise _

theorem KeepsSvc.hoSettle (h : KeepsSvc r s) : KeepsSvc r s.hoSettle := by
  unfold State.hoSettle
  split
  · exact h
  next run _ =>
    have hput := ((h.hoRun none).putPair F.PAIR_STATUS_BUSY 0 (by decide)).putPair F.PAIR_STATUS_RESULT run.result (by decide)
    have hdone := hput.whenB (c := run.cancelled) (f := fun s => s.pairDone 7) (hput.pairDone 7)
    refine keepsSvc_ite h (KeepsSvc.shedIssue (KeepsSvc.refreshPairing ?_ _))
    split
    · exact hput.pairDone _
    · dsimp only
      split
      · exact hdone
      · split
        · exact hdone.rearmStop _
        · exact keepsSvc_ite hdone (hdone.rearmStop _)
    · exact hdone

theorem KeepsSvc.hoEnd (h : KeepsSvc r s) (p result : Nat) : KeepsSvc r (s.hoEnd p result) := by
  have hports {t : State} (ht : KeepsSvc r t) (ps : List Nat) : KeepsSvc r (t.each ps fun q s => s.setPort q { s.port q with ho := none }) :=
    ht.each fun q _ u hu => hu.setPort _ _
  unfold State.hoEnd
  refine keepsSvc_ite h (KeepsSvc.hoSettle ?_)
  split
  · exact hports h _
  · have hrun := (hports h (s.group p)).hoRun
    exact (hrun _).whenB (hports (hrun _) _)

theorem KeepsSvc.hoEndAll (h : KeepsSvc r s) (result : Nat) : KeepsSvc r (s.hoEndAll result) := h.each fun p _ _ ht => ht.hoEnd p result

end

/-! ### What the disagreement leaves -/

theorem armEnd_rearm (s : State) (src : ArmSource) (result : Nat) : (s.armEnd src result).rearm = s.rearm := by
  unfold State.armEnd
  cases src with
  | half k =>
    dsimp only
    split <;> simp
  | _ => rfl

/-- No REARM is left once one is stopped. -/
@[simp] theorem rearmStop_rearm (s : State) (result : Nat) : (s.rearmStop result).rearm = none := by
  unfold State.rearmStop
  split
  · assumption
  · exact armEnd_rearm _ _ _

/-- An assertion of ALERT_N shows in the latch. -/
theorem alert_flag (s : State) : s.alert.flag pgSvc F.SVC_ALERT_CLEAR = true := by
  have hget : s.alert.get pgSvc F.SVC_ALERT_CLEAR = 1 := by
    calc s.alert.get pgSvc F.SVC_ALERT_CLEAR
      _ = ((s.put pgSvc F.SVC_ALERT_CLEAR 1).put pgSvc F.SVC_STATUS_ALERT 1).get pgSvc F.SVC_ALERT_CLEAR :=
        get_put_field _ _ rfl (by decide) (by decide)
      _ = (s.put pgSvc F.SVC_ALERT_CLEAR 1).get pgSvc F.SVC_ALERT_CLEAR := get_put_reg _ _ (by decide)
      _ = 1 := get_put_same _ _ _ _ (by decide)
  simp [State.flag, hget]

/-- The first disagreement of the control copies (R15, log entry 27). -/
theorem execPlinthCopyDisagree_first {s : State} (h : s.copyFault = false) (group : Word) :
    ∃ t, execPlinthCopyDisagree group s = .next t ∧ t.copyFault = true ∧ t.rearm = none ∧ t.flag pgSvc F.SVC_ALERT_CLEAR = true := by
  let u := ({ s with copyFault := true } : State).event srcCopy 0x0073 (b4 group.toNat) (trig := true)
  have hu : KeepsSvc { s with copyFault := true } u := (keepsSvc_rfl _).event _ _ _ _ _
  have hend : KeepsSvc u.alert ((u.alert.hoEndAll 5).rearmStop 0x0E) := ((keepsSvc_rfl _).hoEndAll 5).rearmStop 0x0E
  refine ⟨(u.alert.hoEndAll 5).rearmStop 0x0E, ?_, hend.1.trans hu.1, rearmStop_rearm _ _, (hend.flag (by decide)).trans (alert_flag u)⟩
  simp only [execPlinthCopyDisagree, h, Bool.false_eq_true, if_false, u]

end Sys2Proof.Machine
end

section
/-! SUPPORT. The read of a register by its access codes (R5, R6) and the read of a discovery record (R30). -/

namespace Sys2Proof.Machine

/-! ## A register by its access codes -/

/-- A register that lies in no read window reads by its access codes. -/
theorem readReg_of_regAt {p : Pg} {k : PageKind} {off : Nat} {r : RegD} (s : State) (hk : p.kind = some k) (hr : regAt k off = some r)
    (hro : roWindow k off = false) (htx : ¬(k = .plk ∧ 0x1000 ≤ off ∧ off < 0x6000)) (haud : ¬(k = .aud ∧ 0x4000 ≤ off)) :
    s.readReg p off = s.reg p off &&& r.readable := by
  have hdrec : ¬(0xF000 ≤ off ∧ (off - 0xF000) / 16 < positions k ∧ off % 16 ≠ 0) := by
    rintro ⟨h1, h2, h3⟩
    simp [roWindow, h1, h2, h3] at hro
  simp [State.readReg, hk, hdrec, hro, htx, hr, haud]

/-! ## Host reads that are not admitted -/

theorem hostRead_refused {rq : Requester} {pg : Pg} {s : State} {off : Nat} (h : s.windowAdmits rq pg .read off = false) (f : State → Res) :
    hostRead rq pg s f off = .next (s.windowRefuse rq pg .read off) := by
  simp [hostRead, h]

theorem hostRead_dropped {rq : Requester} {pg : Pg} {s : State} {off : Nat} (hw : s.windowAdmits rq pg .read off = true)
    (h : s.admits rq pg = false ∨ s.pageOn pg = false) (f : State → Res) : hostRead rq pg s f off = .next (s.dropped rq) := by
  rcases h with h | h <;> simp [hostRead, hw, h]

/-! ## The read of a discovery record -/

/-- The holding registers with the identity and time words of the record at an offset of a page (R30). -/
def State.drecHeld (s : State) (p : Pg) (at_ : Nat) : List (Nat × Word) :=
  [4, 8, 0xC].foldl (fun l o => tblSet (fun _ => 0) l (p.key (at_ + o)) (s.reg p (at_ + o))) s.held

/-- The holding registers read as the words of the record. -/
theorem drecHeld_get (s : State) (p : Pg) (at_ : Nat) {o : Nat} (ho : o ∈ [4, 8, 0xC]) :
    tblGet (fun _ => (0 : Word)) (s.drecHeld p at_) (p.key (at_ + o)) = s.reg p (at_ + o) := by
  have hkey (x y : Nat) : p.key (at_ + x) = p.key (at_ + y) ↔ x = y := by
    simp only [Pg.key]
    omega
  simp only [List.mem_cons, List.not_mem_nil, or_false] at ho
  rcases ho with rfl | rfl | rfl <;> simp [State.drecHeld, tblGet_set, hkey]

/-- What an admitted read of the status word of a record at an offset of a page does: a position that the page does not have drops it. -/
def drecAnswer (rq : Requester) (p : Pg) (n at_ : Nat) (s : State) : Res :=
  if (match p.kind with | none => 0 | some k => positions k) ≤ n then .next (s.dropped rq)
  else .next { s with held := s.drecHeld p at_, reply := .ok (s.readReg p at_).toNat }

theorem execDrecStatusRead_eq (rq : Requester) (pl : Bool) (page : Nat) (n : Fin 256) (s : State) :
    let p := if pl then plinthPg page else halfPg rq.half page
    execDrecStatusRead rq pl page n s = hostRead rq p s (drecAnswer rq p n (0xF000 + 0x10 * n.val)) (0xF000 + 0x10 * n.val) := rfl

/-- Settles O54: the bits that a read returns, the holding registers of a discovery record, and the frames of what the disagreement stops. -/
theorem discoveryReadAndCopyFault : Obligations.DiscoveryReadAndCopyFault := by
  refine ⟨?_, ?_, ?_⟩
  · intro p k off i r s hk hr hi hro htx haud
    rw [readReg_of_regAt s hk hr hro htx haud, BitVec.getLsbD_and, RegD.readable, BitVec.getLsbD_ofNat, decide_eq_true hi, Bool.true_and]
  · intro rq pl page n s
    have hexec := execDrecStatusRead_eq rq pl page n s
    refine ⟨fun hw => hexec.trans (hostRead_refused hw _), fun hw h => hexec.trans (hostRead_dropped hw h _), fun k hadm hk => ?_⟩
    have hrun := hexec.trans (hostRead_admitted hadm _)
    simp only [drecAnswer, hk] at hrun
    refine ⟨fun hn => hrun.trans (if_pos hn), fun hn => ⟨_, hrun.trans (if_neg (by omega)), rfl, ?_, rfl, sameMem_of rfl rfl rfl rfl rfl⟩⟩
    exact fun o ho => drecHeld_get s _ _ ho
  · exact fun g s => ⟨fun h => if_pos h, fun h => execPlinthCopyDisagree_first h g⟩

end Sys2Proof.Machine
end

section
/-! SUPPORT. A host store to a register page (R5, R6, R447 to R450): its page, its admission, and what the page does with an admitted store. -/

namespace Sys2Proof.Machine

/-! ## The page of an address -/

theorem regPage_code_lt {h : Half} {a : Nat} {p via : Pg} (hp : regPage h a = some (p, via)) : p.code < 0x10000 := by
  simp only [regPage] at hp
  split_ifs at hp <;> cases hp
  all_goals
    simp only [halfPg, plinthPg, pgMod, pgPwr, pgRstH, pgRst, pgArm, pgArmH]
    omega

/-- A store that is not admitted is recorded as refused, dropped, or answered with the error status of R15. -/
theorem hostWrite_notAdmitted {rq : Requester} {pg : Pg} {s : State} {off : Nat} (h : ¬Admitted rq pg s off) (f : State → Res) :
    hostWrite rq pg s f off = .next (if s.windowAdmits rq pg .write off then (if s.admits rq pg && s.pageOn pg then s.accessFault else s.dropped rq)
      else s.windowRefuse rq pg .write off) := by
  cases hw : s.windowAdmits rq pg .write off
  · exact hostWrite_refused hw f
  cases ha : s.admits rq pg
  · exact hostWrite_dropped hw (.inl ha) f
  cases ho : s.pageOn pg
  · exact hostWrite_dropped hw (.inr ho) f
  obtain ⟨hp, hc⟩ : pg.die = .P ∧ s.copyFault = true := by
    by_contra hn
    exact h ⟨hw, ha, ho, fun hp => Bool.eq_false_iff.mpr fun hc => hn ⟨hp, hc⟩⟩
  exact hostWrite_copyFault hw ha ho hp hc f

/-! ## What a page does with a store -/

/-- An admitted store at an address of a page. -/
def pageStore (rq : Requester) (p : Pg) (k : PageKind) (a w : Nat) (v : Word) (s : State) : Res :=
  if s.writeIgnored rq.half p k (a % 0x10000 / 4 * 4) && (w ≠ 4 || a % 4 ≠ 0) then .next s
  else if w ≠ 4 ∨ a % 4 ≠ 0 then .next (s.unpredictable p (a % 0x10000))
  else if k = .plk ∧ 0x1000 ≤ a % 0x10000 ∧ a % 0x10000 < 0x6000 then
    .next { s with peer := { s.peer with txWin := memSetBytes s.peer.txWin (a % 0x10000 - 0x1000) (leBytes 4 v.toNat) } }
  else if roWindow k (a % 0x10000) then .next s
  else match regAt k (a % 0x10000) with
    | none => .next (s.dropped rq)
    | some r => .next (s.regWrite rq.half p k (a % 0x10000) r v)

section
variable {rq : Requester} {a w : Nat} {v : Word} {s : State} {p via : Pg} {k : PageKind}

theorem execRegisterWrite_notRegister (h : notRegister a = true) : execRegisterWrite rq a w v s = .next s := by
  simp [execRegisterWrite, h]

theorem execRegisterWrite_noPage (h : notRegister a = false) (hp : regPage rq.half a = none) :
    execRegisterWrite rq a w v s = .next (s.dropped rq) := by
  simp [execRegisterWrite, h, hp]

/-- A store to a page is the page's store behind the admission of a host write; an INSQ page admits by the face (R235). -/
theorem execRegisterWrite_page (h : notRegister a = false) (hp : regPage rq.half a = some (p, via)) (hk : p.kind = some k) :
    execRegisterWrite rq a w v s =
      if k = .insq then
        if !(s.pageOn p) then .next (s.dropped rq)
        else if !(s.insqAdmits rq ((p.code - 0x401) / 2)) then .next s.ack
        else pageStore rq p k a w v s.ack
      else hostWrite rq via s (pageStore rq p k a w v) (a % 0x10000) := by
  simp only [execRegisterWrite, h, hp, hk, Bool.false_eq_true, if_false] <;> rfl

theorem pageStore_unaligned (h : w ≠ 4 ∨ a % 4 ≠ 0) : pageStore rq p k a w v s =
    .next (if s.writeIgnored rq.half p k (a % 0x10000 / 4 * 4) then s else s.unpredictable p (a % 0x10000)) := by
  unfold pageStore
  cases s.writeIgnored rq.half p k (a % 0x10000 / 4 * 4) <;> simp [h]

theorem pageStore_txWindow (hw : w = 4) (ha : a % 4 = 0) (h : k = .plk ∧ 0x1000 ≤ a % 0x10000 ∧ a % 0x10000 < 0x6000) :
    pageStore rq p k a w v s =
      .next { s with peer := { s.peer with txWin := memSetBytes s.peer.txWin (a % 0x10000 - 0x1000) (leBytes 4 v.toNat) } } := by
  simp [pageStore, hw, ha, h]

section
variable (hw : w = 4) (ha : a % 4 = 0) (htx : ¬(k = .plk ∧ 0x1000 ≤ a % 0x10000 ∧ a % 0x10000 < 0x6000))
include hw ha htx

theorem pageStore_readOnly (hro : roWindow k (a % 0x10000) = true) : pageStore rq p k a w v s = .next s := by
  simp [pageStore, hw, ha, htx, hro]

theorem pageStore_noRegister (hro : roWindow k (a % 0x10000) = false) (hr : regAt k (a % 0x10000) = none) :
    pageStore rq p k a w v s = .next (s.dropped rq) := by
  simp [pageStore, hw, ha, htx, hro, hr]

theorem pageStore_register {r : RegD} (hro : roWindow k (a % 0x10000) = false) (hr : regAt k (a % 0x10000) = some r) :
    pageStore rq p k a w v s = .next (s.regWrite rq.half p k (a % 0x10000) r v) := by
  simp [pageStore, hw, ha, htx, hro, hr]

end

/-- A pipe's page holds no read-only window. -/
theorem roWindow_cmp (off : Nat) : roWindow .cmp off = false := by simp [roWindow, positions]

/-- A store to a page other than an INSQ page reaches it as a host write. -/
theorem execRegisterWrite_host (h : notRegister a = false) (hp : regPage rq.half a = some (p, via)) (hk : p.kind = some k) (hq : k ≠ .insq) :
    execRegisterWrite rq a w v s = hostWrite rq via s (pageStore rq p k a w v) (a % 0x10000) := by
  rw [execRegisterWrite_page h hp hk, if_neg hq]

end

/-! ## A write by access codes -/

/-- The bits of a register after a write (R5). -/
theorem written_getLsbD (r : RegD) (own : Nat) (held : Bool) (old v : Word) {i : Nat} (hi : i < 32) :
    (written r own held old v).getLsbD i =
      ((if (r.bits fun f => f.acc = .rw || (held && f.acc = .wo)).testBit i && !own.testBit i then v.getLsbD i else old.getLsbD i) &&
        !(v.getLsbD i && (r.bits fun f => f.acc = .w1c).testBit i && !own.testBit i) ||
        (v.getLsbD i && (r.bits fun f => f.acc = .w1s).testBit i && !own.testBit i)) := by
  simp only [written, BitVec.getLsbD_or, BitVec.getLsbD_and, BitVec.getLsbD_not, BitVec.getLsbD_ofNat, hi, decide_true, Bool.true_and]
  generalize (r.bits fun f => f.acc = .rw || (held && f.acc = .wo)).testBit i = rw
  generalize own.testBit i = skip
  cases rw <;> cases skip <;> simp

section
variable {h : Half} {p : Pg} {k : PageKind} {off : Nat} {r : RegD} {v : Word} {s : State}

theorem regWrite_shadow_ignored (hk : k = .cmp) (hs : isShadow off = true) (hi : s.writeIgnored h p k off = true) :
    s.regWrite h p k off r v = s := by
  simp only [State.regWrite, if_pos (And.intro hk hs), if_pos hi]

/-- A latched copy keeps the reserved bits of the value (R78). -/
theorem regWrite_shadow (hk : k = .cmp) (hs : isShadow off = true) (hi : s.writeIgnored h p k off = false) : s.regWrite h p k off r v =
    s.setReg p off ((written r (ownBits k off) (heldWord k off) (s.reg p off) v &&& BitVec.ofNat 32 (r.bits fun _ => true)) ||| reservedSet r v) := by
  simp [State.regWrite, hk ▸ hi, hk, hs]

/-- Where a mask of fields has no bit, a word that takes the reserved bits of a value reads as the value. -/
theorem reservedSet_getLsbD (r : RegD) (new v : Word) {i : Nat} (hi : i < 32) (hbit : (r.bits fun _ => true).testBit i = false) :
    ((new &&& BitVec.ofNat 32 (r.bits fun _ => true)) ||| reservedSet r v).getLsbD i = v.getLsbD i := by
  simp only [reservedSet, BitVec.getLsbD_or, BitVec.getLsbD_and, BitVec.getLsbD_not, BitVec.getLsbD_ofNat, hi, hbit, decide_true,
    Bool.and_false, Bool.false_or, Bool.not_false, Bool.and_true]

theorem regWrite_reserved (hs : ¬(k = .cmp ∧ isShadow off = true)) (hv : reservedSet r v ≠ 0 ∨ reservedOp k off v = true) :
    s.regWrite h p k off r v = s.reservedWrite h p k off := by
  simp only [State.regWrite, if_neg hs]
  exact if_pos (by simpa using hv)

theorem regWrite_ignored (hs : ¬(k = .cmp ∧ isShadow off = true)) (hv : reservedSet r v = 0) (ho : reservedOp k off v = false)
    (hi : s.writeIgnored h p k off = true) : s.regWrite h p k off r v = s := by
  simp [State.regWrite, hs, hv, ho, hi]

/-- Only the store's own word changes but at the registers whose rules name a second effect (R231, R258, R358, R386). -/
theorem writeAlso_eq_self (hspm : ¬(k = .spm ∧ off = 8)) (hwld : ¬(k = .wld ∧ off = 0x10)) (hrst : ¬(k = .rst ∧ 0x40 ≤ off))
    (hplk : ¬(k = .plk ∧ off = 0x14)) : s.writeAlso p k off v = s := by
  cases k <;> simp_all [State.writeAlso]

/-- A store that its chapter takes, at a register without a second effect, is a write by access codes. -/
theorem regWrite_stored (hs : ¬(k = .cmp ∧ isShadow off = true)) (hv : reservedSet r v = 0) (ho : reservedOp k off v = false)
    (hi : s.writeIgnored h p k off = false) (haud : ¬(k = .aud ∧ 0x4000 ≤ off)) (hkal : ¬(k = .kal ∧ off = 8))
    (hspm : ¬(k = .spm ∧ off = 8)) (hwld : ¬(k = .wld ∧ off = 0x10)) (hrst : ¬(k = .rst ∧ 0x40 ≤ off))
    (hplk : ¬(k = .plk ∧ off = 0x14)) : s.regWrite h p k off r v = s.setReg p off (written r (ownBits k off) (heldWord k off) (s.reg p off) v) := by
  simp [State.regWrite, hs, hv, ho, hi, haud, hkal, writeAlso_eq_self hspm hwld hrst hplk]

end

/-- A store of one register keeps every other one and the memories. -/
theorem setReg_frame {p : Pg} {off : Nat} (s : State) (w : Word) (hp : p.code < 0x10000) (ho : off < 0x10000) :
    KeepsRegs (fun q o => ¬(q = p ∧ o = off)) s (s.ack.setReg p off w) ∧ SameMem s (s.ack.setReg p off w) :=
  ⟨(keepsRegs_of (t := s.ack) rfl).trans (keepsRegs_setReg _ _ hp ho fun h => h ⟨rfl, rfl⟩), sameMem_of rfl rfl rfl rfl rfl⟩

/-- Settles O53: the address map, the admission of the page, and the write by access codes. -/
theorem registerWrite : Obligations.RegisterWrite := by
  refine ⟨fun rq a w v s h => execRegisterWrite_notRegister h, fun rq a w v s h hp => execRegisterWrite_noPage h hp, ?_, ?_⟩
  · intro rq a w v s p via k h hp hk hq
    dsimp only
    have hpage := execRegisterWrite_host (w := w) (v := v) (s := s) h hp hk hq
    have hcode := regPage_code_lt hp
    have hoff : a % 0x10000 < 0x10000 := Nat.mod_lt _ (by decide)
    refine ⟨fun hna => hpage.trans (hostWrite_notAdmitted hna _), fun hadm => ?_⟩
    have hrun := hpage.trans (hostWrite_admitted hadm _)
    refine ⟨fun hw => hrun.trans (pageStore_unaligned hw), fun hw ha hk' h1 h2 => ?_, fun hw ha htx => ?_⟩
    · exact ⟨_, hrun.trans (pageStore_txWindow hw ha ⟨hk', h1, h2⟩), memBytes_setBytes _ _ _, rfl, sameMem_of rfl rfl rfl rfl rfl⟩
    · have hreg {r : RegD} (hro : roWindow k (a % 0x10000) = false) (hr : regAt k (a % 0x10000) = some r) :=
        hrun.trans (pageStore_register hw ha htx hro hr)
      refine ⟨fun hro => hrun.trans (pageStore_readOnly hw ha htx hro), fun hro hr => hrun.trans (pageStore_noRegister hw ha htx hro hr),
        fun r hr hc hs hi => ?_, fun r hr hc hs hi => ?_, fun r hro hr hs => ⟨fun hv => ?_, fun hv ho hi => ?_, ?_⟩⟩
      · exact (hreg (hc ▸ roWindow_cmp _) hr).trans (congrArg _ (regWrite_shadow_ignored (s := s.ack) hc hs hi))
      · have hstore := (hreg (hc ▸ roWindow_cmp _) hr).trans (congrArg _ (regWrite_shadow (s := s.ack) hc hs hi))
        refine ⟨_, hstore, fun i hi32 hbit => ?_, setReg_frame s _ hcode hoff⟩
        rw [reg_setReg_same, reservedSet_getLsbD _ _ _ hi32 hbit]
      · exact (hreg hro hr).trans (congrArg _ (regWrite_reserved hs hv))
      · exact (hreg hro hr).trans (congrArg _ (regWrite_ignored (s := s.ack) hs hv ho hi))
      · intro hv ho hi haud hkal hspm hwld hrst hplk
        have hstore := (hreg hro hr).trans
          (congrArg _ (regWrite_stored (s := s.ack) hs hv ho hi haud hkal hspm hwld hrst hplk))
        refine ⟨_, hstore, fun i hi32 => ?_, (setReg_frame s _ hcode hoff).1, (setReg_frame s _ hcode hoff).2, rfl⟩
        rw [reg_setReg_same, written_getLsbD _ _ _ _ _ hi32, ack_reg]
  · intro rq a w v s p via h hp hk
    have hpage := execRegisterWrite_page (w := w) (v := v) (s := s) h hp hk
    rw [if_pos rfl] at hpage
    refine ⟨fun ho => hpage.trans (by simp [ho]), fun ho hi => hpage.trans (by simp [ho, hi]), fun ho hi hw => ?_⟩
    rw [ho, hi, pageStore_unaligned hw] at hpage
    exact hpage

end Sys2Proof.Machine
end

section
/-! SUPPORT. What keeps the line and frame counters of a port: a write to any other register or unit, the recorder, MODE and PAIRING, the
Plinth sections, and the end of a planned handover. -/

namespace Sys2Proof.Machine

/-- FRAME and LINE of port `n`, and the mark that the boundary of its line 0 is due, are in `t` those of `s`. -/
def KeepsCount (n : Fin 8) (s t : State) : Prop :=
  t.reg (pgScn n) 8 = s.reg (pgScn n) 8 ∧ t.reg (pgScn n) 0xC = s.reg (pgScn n) 0xC ∧ (t.port n).fresh = (s.port n).fresh

theorem keepsCount_rfl (n : Fin 8) (s : State) : KeepsCount n s s := ⟨rfl, rfl, rfl⟩

theorem KeepsCount.trans {n : Fin 8} {s t u : State} (h : KeepsCount n s t) (k : KeepsCount n t u) : KeepsCount n s u :=
  ⟨k.1.trans h.1, k.2.1.trans h.2.1, k.2.2.trans h.2.2⟩

theorem KeepsCount.line {n : Fin 8} {s t : State} (h : KeepsCount n s t) : t.portLine n = s.portLine n :=
  congrArg F.SCN_LINE_LINE.ofWord h.2.1

theorem KeepsCount.frame {n : Fin 8} {s t : State} (h : KeepsCount n s t) : t.get (pgScn n) F.SCN_FRAME_FRAME = s.get (pgScn n) F.SCN_FRAME_FRAME :=
  congrArg F.SCN_FRAME_FRAME.ofWord h.1

theorem KeepsCount.freshMark {n : Fin 8} {s t : State} (h : KeepsCount n s t) : (t.port n).fresh = (s.port n).fresh := h.2.2

section
variable {n : Fin 8} {r s : State}

/-! ### One write -/

theorem KeepsCount.of (h : KeepsCount n r s) {t : State} (hregs : t.regs = s.regs) (hports : t.ports = s.ports) : KeepsCount n r t :=
  h.trans ⟨by simp only [State.reg, hregs], by simp only [State.reg, hregs], by simp only [State.port, hports]⟩

theorem KeepsCount.setReg (h : KeepsCount n r s) {q : Pg} {o : Nat} (w : Word) (h8 : (pgScn n).key 8 ≠ q.key o)
    (hc : (pgScn n).key 0xC ≠ q.key o) : KeepsCount n r (s.setReg q o w) :=
  h.trans ⟨reg_setReg_ne _ _ h8, reg_setReg_ne _ _ hc, rfl⟩

/-- A register of a Plinth page beyond those of the ports. -/
theorem KeepsCount.beyondPorts (h : KeepsCount n r s) {c : Nat} (hc : 8 ≤ c) (o : Nat) (w : Word) : KeepsCount n r (s.setReg (plinthPg c) o w) := by
  refine h.setReg w ?_ ?_ <;>
  · simp only [Pg.key, pgScn, plinthPg]
    omega

theorem KeepsCount.plinthReg (h : KeepsCount n r s) {c : Nat} (o : Nat) (w : Word) : KeepsCount n r (s.setReg (plinthPg (c + 8)) o w) :=
  h.beyondPorts (Nat.le_add_left _ _) o w

theorem KeepsCount.plinth (h : KeepsCount n r s) {c : Nat} (f : Fld) (v : Nat) : KeepsCount n r (s.put (plinthPg (c + 8)) f v) :=
  h.plinthReg _ _

theorem KeepsCount.ick (h : KeepsCount n r s) (q : Nat) (f : Fld) (v : Nat) : KeepsCount n r (s.put (pgIck q) f v) :=
  h.beyondPorts (c := 0x10 + q) (by omega) _ _

theorem KeepsCount.taf (h : KeepsCount n r s) (q : Nat) (f : Fld) (v : Nat) : KeepsCount n r (s.put (pgTaf q) f v) :=
  h.beyondPorts (c := 0x20 + q) (by omega) _ _

/-- Another register of a port's page. -/
theorem KeepsCount.scn (h : KeepsCount n r s) (q : Nat) (f : Fld) (v : Nat) (hf : f.off < 0x10000 ∧ f.off ≠ 8 ∧ f.off ≠ 0xC) :
    KeepsCount n r (s.put (pgScn q) f v) := by
  obtain ⟨hlt, h8, hc⟩ := hf
  refine h.setReg _ ?_ ?_ <;>
  · simp only [Pg.key, pgScn, plinthPg]
    omega

theorem KeepsCount.halfReg (h : KeepsCount n r s) {k : Half} {c o : Nat} (w : Word) (hc : c < 0x10000) (ho : o < 0x10000) :
    KeepsCount n r (s.setReg (halfPg k c) o w) := by
  refine h.setReg w ?_ ?_ <;>
  · cases k <;>
    · simp only [Pg.key, pgScn, plinthPg, halfPg, Half.die, Die.num]
      omega

/-- A register of a page of a half. -/
theorem KeepsCount.half (h : KeepsCount n r s) {k : Half} {c : Nat} (f : Fld) (v : Nat) (hc : c < 0x10000)
    (hf : f.off < 0x10000) : KeepsCount n r (s.put (halfPg k c) f v) := h.halfReg _ hc hf

theorem KeepsCount.setPort (h : KeepsCount n r s) {q : Nat} {v : Port} (hv : v.fresh = (s.port q).fresh) :
    KeepsCount n r (s.setPort q v) := by
  refine h.trans ⟨rfl, rfl, ?_⟩
  by_cases hq : (n : Nat) = q
  · rw [hq, port_setPort_same, hv]
  · rw [port_setPort_ne _ _ hq]

theorem KeepsCount.setHs (h : KeepsCount n r s) (k : Half) (v : HalfSt) : KeepsCount n r (s.setHs k v) := h.of (by simp) (by simp)

theorem KeepsCount.raise (h : KeepsCount n r s) (p : Pg) : KeepsCount n r (s.raise p) := h.of rfl rfl

/-! ### Choices and repetitions -/

theorem keepsCount_ite {c : Prop} [Decidable c] {t u : State} (ht : KeepsCount n r t) (hu : KeepsCount n r u) :
    KeepsCount n r (if c then t else u) := by split <;> assumption

theorem KeepsCount.whenB (h : KeepsCount n r s) {c : Bool} {f : State → State} (hf : KeepsCount n r (f s)) : KeepsCount n r (s.whenB c f) :=
  keepsCount_ite hf h

theorem KeepsCount.each (h : KeepsCount n r s) {α : Type} {xs : List α} {f : α → State → State}
    (hf : ∀ x ∈ xs, ∀ t, KeepsCount n r t → KeepsCount n r (f x t)) : KeepsCount n r (s.each xs f) := by
  unfold State.each
  induction xs generalizing s with
  | nil => exact h
  | cons x l ih =>
    exact ih (hf x List.mem_cons_self s h) fun y hy => hf y (List.mem_cons_of_mem _ hy)

theorem pgScn_code_lt (n : Fin 8) : (pgScn n).code < 0x10000 := n.isLt.trans (by decide)

/-! ### The recorder -/

/-- What changes the recorder and its page only. -/
theorem KeepsCount.onlyPat (h : KeepsCount n r s) {t : State} (ht : OnlyPat s t) : KeepsCount n r t := by
  have hne : pgScn n ≠ pgPat := by
    simp only [pgScn, pgPat, plinthPg, ne_eq, Pg.mk.injEq, true_and]
    omega
  refine h.trans ⟨ht.reg (pgScn_code_lt n) (by decide) hne, ht.reg (pgScn_code_lt n) (by decide) hne, ?_⟩
  rw [ht.1]
  rfl

theorem KeepsCount.event (h : KeepsCount n r s) (src code : Nat) (data : List Byte) (trig host : Bool) :
    KeepsCount n r (s.event src code data trig host) := h.onlyPat (event_only _ _ _ _ _ _)

theorem KeepsCount.deliver (h : KeepsCount n r s) (e : PatEvent) : KeepsCount n r (s.deliver e) := h.onlyPat ((onlyPat_rfl s).deliver e)

theorem KeepsCount.alert (h : KeepsCount n r s) : KeepsCount n r s.alert :=
  (((h.plinth F.SVC_ALERT_CLEAR 1).plinth F.SVC_STATUS_ALERT 1).plinth F.SVC_ALERT_COUNT _).of rfl rfl

/-! ### MODE and PAIRING -/

theorem KeepsCount.raiseBoth (h : KeepsCount n r s) (code : Nat) : KeepsCount n r (s.raiseBoth code) :=
  have hA : KeepsCount n r (s.whenB (s.inService .A) fun s => s.raise (halfPg .A code)) := h.whenB (h.raise _)
  hA.whenB (hA.raise _)

theorem KeepsCount.setModeTier (h : KeepsCount n r s) (mode tier : Nat) (t : ModeTrigger) : KeepsCount n r (s.setModeTier mode tier t) := by
  have hput : KeepsCount n r ((s.put pgMod F.MOD_STATUS_MODE mode).put pgMod F.MOD_STATUS_TIER tier) := (h.plinth _ _).plinth _ _
  have hev := (hput.event srcMode 0x0002 (b1 s.mode ++ b1 mode ++ b1 s.tier ++ b1 tier ++ [Config.triggerCode t]) false false).raiseBoth 0x2000
  unfold State.setModeTier
  exact keepsCount_ite h (keepsCount_ite ((hev.whenB (hev.of rfl rfl)).of rfl rfl) (hev.of rfl rfl))

theorem KeepsCount.refreshMode (h : KeepsCount n r s) (t : ModeTrigger) : KeepsCount n r (s.refreshMode t) := by
  unfold State.refreshMode
  refine keepsCount_ite ?_ h
  split
  · exact h
  · exact h.setModeTier _ _ _

theorem KeepsCount.refreshPairing (h : KeepsCount n r s) (t : ModeTrigger) : KeepsCount n r (s.refreshPairing t) :=
  KeepsCount.refreshMode (h.plinth _ _) t

/-! ### The Plinth sections and the end of a REARM -/

/-- The bits of a register that an image holds. -/
def classAMask (d : RegD) : Nat := d.fields.foldl (fun a f => if f.cls = .A then a ||| (2 ^ f.width - 1) <<< f.lsb else a) 0

theorem classAMask_count {o : Nat} (ho : o = 8 ∨ o = 0xC) {d : RegD} (hd : regAt .scn o = some d) : classAMask d = 0 := by
  have hmask : (regAt .scn o).map classAMask = some 0 := by rcases ho with rfl | rfl <;> decide
  simpa [hd] using hmask

/-- A register has one page and one offset. -/
theorem key_inj {p q : Pg} {o o' : Nat} (hp : p.code < 0x10000) (hq : q.code < 0x10000) (ho : o < 0x10000) (ho' : o' < 0x10000)
    (h : p.key o = q.key o') : p = q ∧ o = o' := by
  have hpage : p = q := by
    by_contra hne
    exact key_ne_of_page hq hp ho' ho hne h
  subst hpage
  exact ⟨rfl, by_contra fun hne => key_ne_of_off hne h⟩

/-- A write from an image, which holds no bit of FRAME and LINE. -/
theorem putClassA_count (n : Fin 8) (s : State) (key : Nat) (w : Word) {o : Nat} (ho : o = 8 ∨ o = 0xC) :
    (s.putClassA key w).reg (pgScn n) o = s.reg (pgScn n) o := by
  have hkind : (pgScn n).kind = some .scn := by simp [Pg.kind, pgScn, plinthPg, plinthKind]
  unfold State.putClassA
  dsimp only
  split
  · rfl
  next k hk =>
  split
  · rfl
  next d hd =>
  rw [reg_setReg]
  split
  next heq =>
    obtain ⟨hpage, hoff⟩ := key_inj (pgScn_code_lt n) (keyPage_code_lt key) (by omega) (Nat.mod_lt _ (by decide)) heq
    rw [← hpage, hkind, Option.some.injEq] at hk
    subst hk
    rw [← hoff] at hd
    have hmask := classAMask_count ho hd
    unfold classAMask at hmask
    rw [hmask, ← hpage, ← hoff]
    exact (congrArg₂ (· ||| ·) BitVec.and_allOnes BitVec.and_zero).trans BitVec.or_zero
  · rfl

theorem KeepsCount.putClassA (h : KeepsCount n r s) (key : Nat) (w : Word) : KeepsCount n r (s.putClassA key w) := by
  refine h.trans ⟨putClassA_count n s key w (.inl rfl), putClassA_count n s key w (.inr rfl), ?_⟩
  unfold State.putClassA
  dsimp only
  repeat' split
  all_goals rfl

theorem KeepsCount.applyPages (h : KeepsCount n r s) (d : Die) (sel : Pg → Bool) (image : List Host.Cell) :
    KeepsCount n r (s.applyPages d sel image) := h.each fun _ _ _ ht => ht.putClassA _ _

theorem KeepsCount.tafShow (h : KeepsCount n r s) (k slot : Nat) : KeepsCount n r (s.tafShow k slot) := by
  unfold State.tafShow
  exact keepsCount_ite h (((((h.taf _ _ _).taf _ _ _).taf _ _ _).taf _ _ _).taf _ _ _)

theorem KeepsCount.audioLoad (h : KeepsCount n r s) (slot : Nat) : KeepsCount n r (s.audioLoad slot) := by
  have hcell (bank k : Nat) (w : Word) {t : State} (ht : KeepsCount n r t) : KeepsCount n r (t.setCell bank k w) := ht.of rfl rfl
  have hempty : KeepsCount n r { s with audio := { s.audio with banks := [] } } := h.of rfl rfl
  have hcells := hempty.each (xs := (Config.imageCells (s.slotCells slot)).1)
    (f := fun e s => if e.1 < 4096 then (s.setCell 0 e.1 e.2).setCell 1 e.1 e.2 else s) fun e _ t ht =>
      keepsCount_ite (hcell _ _ _ (hcell _ _ _ ht)) ht
  unfold State.audioLoad
  exact KeepsCount.plinth (hcells.each fun e _ t ht => keepsCount_ite (ht.plinthReg _ _) ht) _ _

theorem KeepsCount.takeSections (h : KeepsCount n r s) (slot item : Nat) : KeepsCount n r (s.takeSections slot item) := by
  have happly := h.applyPages .P (itemPage item) (s.slotCells slot)
  exact keepsCount_ite (happly.putClassA _ _) (keepsCount_ite (happly.tafShow _ _) (happly.audioLoad _))

theorem KeepsCount.armEnd (h : KeepsCount n r s) (src : ArmSource) (result : Nat) : KeepsCount n r (s.armEnd src result) := by
  have h0 : KeepsCount n r { s with arm := none, start := { s.start with cause := result } } := h.of rfl rfl
  cases src with
  | half k =>
    have harm (f : Fld) (v : Nat) (hf : f.off < 0x10000) {t : State} (ht : KeepsCount n r t) : KeepsCount n r (t.put (pgArmH k) f v) :=
      ht.half (c := 0x2003) f v (by decide) hf
    have hend := harm F.ARM_STATUS_RESULT result (by decide) (harm F.ARM_STATUS_DONE 1 (by decide) (harm F.ARM_STATUS_BUSY 0 (by decide) h0))
    exact keepsCount_ite (hend.raise _) (hend.setHs _ _)
  | _ => exact h0

theorem KeepsCount.rearmStop (h : KeepsCount n r s) (result : Nat) : KeepsCount n r (s.rearmStop result) := by
  unfold State.rearmStop
  split
  · exact h
  · refine KeepsCount.armEnd ?_ _ _
    exact KeepsCount.of (KeepsCount.each h fun i _ t ht => ht.takeSections _ _) rfl rfl

/-! ### Planned handovers -/

theorem KeepsCount.hoStart (h : KeepsCount n r s) (source : HoSource) (target : Half) (ports : List Nat) :
    KeepsCount n r (s.hoStart source target ports) := by
  unfold State.hoStart
  refine KeepsCount.refreshPairing (KeepsCount.plinth ?_ _ _) _
  exact KeepsCount.of (KeepsCount.each h fun p _ t ht => (ht.setPort (by rfl))) rfl rfl

theorem KeepsCount.shedIssue (h : KeepsCount n r s) : KeepsCount n r s.shedIssue := by
  unfold State.shedIssue
  split
  · exact h
  next run _ =>
    have hissued : KeepsCount n r { s with shed := some { run with issued := true } } := h.of rfl rfl
    exact keepsCount_ite h (keepsCount_ite hissued (hissued.hoStart _ _ _))

theorem KeepsCount.pairDone (h : KeepsCount n r s) (result : Nat) : KeepsCount n r (s.pairDone result) :=
  KeepsCount.raise ((h.plinth _ _).plinth _ _) _

theorem KeepsCount.hoSettle (h : KeepsCount n r s) : KeepsCount n r s.hoSettle := by
  unfold State.hoSettle
  split
  · exact h
  next run _ =>
    have hnone : KeepsCount n r { s with hoRun := none } := h.of rfl rfl
    have hput : KeepsCount n r ((({ s with hoRun := none } : State).put pgPair F.PAIR_STATUS_BUSY 0).put pgPair F.PAIR_STATUS_RESULT run.result) :=
      (hnone.plinth _ _).plinth _ _
    have hdone := hput.whenB (c := run.cancelled) (f := fun s => s.pairDone 7) (hput.pairDone 7)
    refine keepsCount_ite h (KeepsCount.shedIssue (KeepsCount.refreshPairing ?_ _))
    split
    · exact hput.pairDone _
    · dsimp only
      split
      · exact hdone
      · split
        · exact hdone.rearmStop _
        · exact keepsCount_ite hdone (hdone.rearmStop _)
    · exact hdone

theorem KeepsCount.hoEnd (h : KeepsCount n r s) (p result : Nat) : KeepsCount n r (s.hoEnd p result) := by
  have hports {t : State} (ht : KeepsCount n r t) (ps : List Nat) :
      KeepsCount n r (t.each ps fun q s => s.setPort q { s.port q with ho := none }) := ht.each fun q _ u hu => hu.setPort (by rfl)
  unfold State.hoEnd
  refine keepsCount_ite h (KeepsCount.hoSettle ?_)
  dsimp only
  split
  · exact hports h _
  next run _ =>
    have hrun := (hports h (s.group p)).of (t := { s.each (s.group p) fun q s => s.setPort q { s.port q with ho := none } with
      hoRun := some { run with firstFail := if run.firstFail.isNone && result ≠ 0 then some result else run.firstFail } }) rfl rfl
    exact hrun.whenB (hports hrun _)

end
end Sys2Proof.Machine
end

section
/-! SUPPORT. What keeps the line and frame counters of a port at a line boundary: the switch of a source, the rectangles of the check units, and
the line taken. -/

namespace Sys2Proof.Machine

section
variable {n : Fin 8} {r s : State}

/-! ### The switch of a source -/

theorem KeepsCount.laneRefresh (h : KeepsCount n r s) (p : Nat) : KeepsCount n r (s.laneRefresh p) := by
  have hput {a u : Nat} : KeepsCount n r ((s.put (pgIck p) F.ICK_STATUS_S_ACTIVE a).put (pgIck p) F.ICK_STATUS_U_ACTIVE u) :=
    (h.ick _ _ _).ick _ _ _
  exact hput.whenB (KeepsCount.ick (hput.setPort (by rfl)) _ _ _)

theorem KeepsCount.showAct (h : KeepsCount n r s) (p : Nat) : KeepsCount n r (s.showAct p) := h.each fun _ _ _ ht => ht.ick _ _ _

theorem KeepsCount.setSource (h : KeepsCount n r s) (p src : Nat) : KeepsCount n r (s.setSource p src) := by
  have hput : KeepsCount n r (s.put (pgScn p) F.SCN_STATUS_SRC src) := h.scn _ _ _ (by decide)
  exact keepsCount_ite h (KeepsCount.laneRefresh (KeepsCount.showAct
    (KeepsCount.each (hput.setPort (by rfl)) fun _ _ _ ht => (ht.ick _ _ _).ick _ _ _) _) _)

theorem KeepsCount.failoverOne (h : KeepsCount n r s) (p cause line : Nat) (owner : Half) :
    KeepsCount n r (s.failoverOne p cause line owner) := by
  have hraise : KeepsCount n r ((((s.setSource p (Half.num (Half.other owner))).incSat pgPair (F.PAIR_PORT_FAILOVERS.at (4 * p))).put
      pgPair (F.PAIR_PORT_CAUSE.at (4 * p)) cause).alert.raise pgPair) :=
    KeepsCount.raise (KeepsCount.alert (KeepsCount.plinth (KeepsCount.plinth (h.setSource _ _) _ _) _ _)) _
  exact (hraise.setPort (by cases owner <;> rfl)).event _ _ _ _ _

theorem KeepsCount.setMram (h : KeepsCount n r s) (a : Nat) (bs : List Byte) : KeepsCount n r (s.setMram a bs) := h.of rfl rfl

theorem KeepsCount.inspEnd (h : KeepsCount n r s) (result : Nat) : KeepsCount n r (s.inspEnd result) := by
  unfold State.inspEnd
  split
  · exact h
  next i _ =>
    extract_lets s1 hsA s2 hsB s3 s4 s5 s6
    have h3 : KeepsCount n r s3 := KeepsCount.setHs (KeepsCount.setHs (h.setMram _ _) _ _) _ _
    have h6 : KeepsCount n r s6 := KeepsCount.plinth (KeepsCount.plinth (h3.plinth _ _) _ _) _ _
    clear_value s6
    have hend : KeepsCount n r { s6 with insp := none } := h6.of rfl rfl
    exact (hend.raiseBoth _).refreshMode _

theorem KeepsCount.failover (h : KeepsCount n r s) (p cause line : Nat) : KeepsCount n r (s.failover p cause line) := by
  unfold State.failover
  split
  · exact h
  · refine keepsCount_ite (h.setPort (by rfl)) (KeepsCount.inspEnd ?_ _)
    have hone := (h.hoEnd p 5).each fun q (_ : q ∈ (s.hoEnd p 5).group p) t ht => ht.failoverOne q cause line ‹_›
    split
    · exact hone
    · exact hone.rearmStop _

theorem KeepsCount.shedMove (h : KeepsCount n r s) (p : Nat) : KeepsCount n r (s.shedMove p) := by
  unfold State.shedMove
  refine KeepsCount.each ?_ fun _ _ _ ht => ht.setPort (by rfl)
  split
  · exact h
  · exact keepsCount_ite (h.each fun _ _ _ ht => ht.setSource _ _) h

/-! ### Check units -/

theorem KeepsCount.setLane (h : KeepsCount n r s) (p : Nat) (u : Bool) (l : Lane) : KeepsCount n r (s.setLane p u l) :=
  h.setPort (by cases u <;> rfl)

theorem KeepsCount.rectMismatch (h : KeepsCount n r s) (p k : Nat) (l : Lane) (v : Nat) : KeepsCount n r (s.rectMismatch p k l v).2 := by
  unfold State.rectMismatch
  split
  · exact h
  · split
    · exact h
    · dsimp only
      split
      · exact h.of rfl rfl
      · exact h

theorem KeepsCount.darkSet (h : KeepsCount n r s) (p : Nat) : KeepsCount n r (s.darkSet p) := KeepsCount.setPort (h.ick _ _ _) (by rfl)

theorem KeepsCount.reactS (h : KeepsCount n r s) (p k : Nat) : KeepsCount n r (s.reactS p k) := by
  have halert := h.whenB (c := s.rectReact p k 0) h.alert
  unfold State.reactS
  dsimp only
  generalize s.whenB (s.rectReact p k 0) State.alert = s1 at halert
  generalize (s1.rectReact p k 1 && _ && _ && _ && _) = fail
  have htrig := halert.whenB (c := fail) (f := fun s => s.trigger p 5) (halert.setPort (by rfl))
  exact htrig.whenB (keepsCount_ite (htrig.setPort (by rfl)) (htrig.darkSet p))

theorem KeepsCount.rectDone (h : KeepsCount n r s) (p : Nat) (u : Bool) (k : Nat) : KeepsCount n r (s.rectDone p u k) := by
  unfold State.rectDone
  extract_lets pg l v
  have hmis := h.rectMismatch p k l v
  generalize s.rectMismatch p k l v = m at hmis ⊢
  obtain ⟨bad, s0⟩ := m
  change KeepsCount n r s0 at hmis
  split
  next bad s0 heq =>
  cases heq
  extract_lets l' s1 s2 s3 run new s4 s5 s6 s7
  have h3 : KeepsCount n r s3 := KeepsCount.ick (KeepsCount.ick (hmis.setLane _ _ _) _ _ _) _ _ _
  have h4 : KeepsCount n r s4 := h3.ick _ _ _
  have h5 : KeepsCount n r s5 := h4.whenB (h4.ick _ _ _)
  have h7 : KeepsCount n r s7 := KeepsCount.event (KeepsCount.raise (h5.ick _ _ _) _) _ _ _ _ _
  exact keepsCount_ite (h3.ick _ _ _) (keepsCount_ite (keepsCount_ite (h7.whenB h7.alert) (h7.reactS _ _)) h5)

theorem KeepsCount.rectsDone (h : KeepsCount n r s) (p line : Nat) : KeepsCount n r (s.rectsDone p line) := by
  have hlane (u : Bool) {t : State} (ht : KeepsCount n r t) : KeepsCount n r
      (if t.flag (pgIck p) (if u then F.ICK_STATUS_U_ACTIVE else F.ICK_STATUS_S_ACTIVE) && !((t.lane p u).wait) then
        t.each ((t.rects p u).filter fun k => t.rectEnd p k = line && 0 < line) fun k s => s.rectDone p u k
      else t) := keepsCount_ite (ht.each fun k _ _ hs => hs.rectDone p u k) ht
  exact hlane false (hlane true h)

theorem KeepsCount.frameDone (h : KeepsCount n r s) (p : Nat) : KeepsCount n r (s.frameDone p) := by
  unfold State.frameDone
  extract_lets sa ua s1 s2 q l s3
  have h1 : KeepsCount n r s1 := h.whenB (KeepsCount.ick (KeepsCount.setPort (h.setLane _ _ _) (by rfl)) _ _ _)
  have h2 : KeepsCount n r s2 := h1.whenB (h1.setLane _ _ _)
  exact keepsCount_ite (KeepsCount.setPort (h2.ick _ _ _) (by rfl)) h2

theorem KeepsCount.blenOff (h : KeepsCount n r s) (p : Nat) : KeepsCount n r (s.blenOff p) := h.each fun _ _ _ ht => ht.setPort (by rfl)

/-! ### The line taken -/

theorem KeepsCount.substEnd (h : KeepsCount n r s) (p : Nat) : KeepsCount n r (s.substEnd p) :=
  keepsCount_ite h (KeepsCount.setPort (h.event _ _ _ _ _) (by rfl))

theorem KeepsCount.substNote (h : KeepsCount n r s) (p line rule : Nat) : KeepsCount n r (s.substNote p line rule) :=
  keepsCount_ite h (KeepsCount.scn (h.setPort (by rfl)) _ _ _ (by decide))

theorem KeepsCount.laneLine (h : KeepsCount n r s) (p : Nat) (u : Bool) (line : Nat) (px : List Nat) (missing : Bool) :
    KeepsCount n r (s.laneLine p u line px missing) := h.setLane _ _ _

theorem KeepsCount.takeLine (h : KeepsCount n r s) (p line : Nat) : KeepsCount n r (s.takeLine p line) := by
  unfold State.takeLine
  extract_lets q
  split
  · exact keepsCount_ite (h.setPort (by rfl)) h
  next o _ =>
    split
    next rule px _ =>
    extract_lets s1 q1 s2 s3 q3 s4
    have h3 : KeepsCount n r s3 := KeepsCount.laneLine (KeepsCount.setPort (h.substNote _ _ _) (by rfl)) _ _ _ _ _
    have h4 : KeepsCount n r s4 := h3.setPort (by rfl)
    refine keepsCount_ite ?_ h4
    split
    · exact h4.laneLine _ _ _ _ _
    · exact h4.laneLine _ _ _ _ _

theorem KeepsCount.notePackets (h : KeepsCount n r s) (p line : Nat) : KeepsCount n r (s.notePackets p line) := h.setPort (by rfl)

theorem KeepsCount.sendLine (h : KeepsCount n r s) (p : Nat) : KeepsCount n r (s.sendLine p) := h.setPort (by rfl)

theorem KeepsCount.dropPackets (h : KeepsCount n r s) (p line : Nat) : KeepsCount n r (s.dropPackets p line) := h.setPort (by rfl)

/-! ### The half resets of a REARM -/

theorem KeepsCount.halfResetReq (h : KeepsCount n r s) (k : Half) (cause : Nat) : KeepsCount n r (s.halfResetReq k cause) := by
  unfold State.halfResetReq
  extract_lets s1 s2 s3
  have h2 : KeepsCount n r s2 := KeepsCount.half (c := 0x2002) (h.half (c := 0x2002) _ _ (by decide) (by decide)) _ _ (by decide) (by decide)
  exact keepsCount_ite h (KeepsCount.setHs (h2.event _ _ _ _ _) _ _)

theorem KeepsCount.rearmGo (h : KeepsCount n r s) : KeepsCount n r s.rearmGo := by
  unfold State.rearmGo
  split
  · exact h
  next a _ =>
  extract_lets own
  split
  · exact keepsCount_ite h (h.rearmStop _)
  · have hstep (k : Nat) : KeepsCount n r { s with rearm := some { a with step := k } } := h.of rfl rfl
    exact keepsCount_ite h (keepsCount_ite ((hstep 3).halfResetReq _ _)
      (keepsCount_ite ((hstep 6).halfResetReq _ _) (keepsCount_ite (hstep 8) h)))

/-! ### The line boundary -/

/-- Port `n` has passed the boundary of a line. -/
def AtLine (n : Fin 8) (line : Nat) (t : State) : Prop := t.portLine n = line ∧ (t.port n).fresh = false

theorem AtLine.keeps {line : Nat} {t u : State} (h : AtLine n line t) (k : KeepsCount n t u) : AtLine n line u :=
  ⟨k.line.trans h.1, k.freshMark.trans h.2⟩

/-- The events of one cycle enter the record after what it does. -/
theorem oneCycle_atLine {line : Nat} {f : State → State} (hf : ∀ t, AtLine n line (f t)) (s : State) : AtLine n line (s.oneCycle f) := by
  unfold State.oneCycle
  split
  · exact hf s
  · have hrun : AtLine n line (f { s with pat := { s.pat with arriving := some [] } }) := hf _
    refine hrun.keeps (KeepsCount.each ?_ fun e _ t ht => ht.deliver e)
    exact (keepsCount_rfl n _).of rfl rfl

/-- The boundary of one port counts LINE (R112), and every other part of it keeps LINE. -/
theorem lineBoundary_atLine (s : State) (n : Fin 8) {line : Nat} (hline : line < 4096) : AtLine n line (s.lineBoundary [n.val] line) := by
  unfold State.lineBoundary
  extract_lets s1 lead active old shed s2 two due s3 dark darkIf src s4 s5 s6 s7 s8 s9 s10 s11
  have hcount : AtLine n line s1 := by
    constructor
    · exact (get_put_same s (pgScn n) F.SCN_LINE_LINE line (by decide)).trans (Nat.mod_eq_of_lt hline)
    · exact congrArg Port.fresh (port_setPort_same _ _ _)
  have h2 : KeepsCount n s1 s2 := keepsCount_ite ((keepsCount_rfl _ _).each fun _ _ _ ht => ht.notePackets _ _) (keepsCount_rfl _ _)
  have h3 : KeepsCount n s1 s3 := by
    refine keepsCount_ite (h2.each fun p _ t ht => ?_) h2
    split
    · exact ht.substEnd p
    · exact keepsCount_ite ht (ht.substEnd p)
  have h4 : KeepsCount n s1 s4 := h3.each fun _ _ _ ht => ht.setPort (by rfl)
  have h5 : KeepsCount n s1 s5 := h4.each fun _ _ _ ht => ht.rectsDone _ _
  have h6 : KeepsCount n s1 s6 := keepsCount_ite (h5.blenOff _) h5
  have h7 : KeepsCount n s1 s7 := keepsCount_ite (h6.each fun _ _ _ ht => ht.frameDone _) h6
  have h8 : KeepsCount n s1 s8 := by
    clear_value old
    cases old with
    | some c => exact h7.failover _ _ _
    | none => exact keepsCount_ite (h7.failover _ _ _) (keepsCount_ite (h7.shedMove _) h7)
  have h9 : KeepsCount n s1 s9 := keepsCount_ite h8 (KeepsCount.blenOff (h8.each fun p _ _ ht => ((ht.darkSet p).setPort (by rfl))) _)
  have h10 : KeepsCount n s1 s10 := keepsCount_ite (h9.hoEnd _ _) h9
  have h11 : KeepsCount n s1 s11 :=
    keepsCount_ite (h10.each fun p _ _ ht => KeepsCount.dropPackets (KeepsCount.sendLine (ht.takeLine p line) p) p line) h10
  exact hcount.keeps (keepsCount_ite (h11.each fun _ _ _ ht => ht.substEnd _) h11)

end
end Sys2Proof.Machine
end

section
/-! SUPPORT. What keeps the line and frame counters of a port at the entry to Night Watch (R366): the scratchpad and the queue units, the touch
sources, the halves, the Plinth domains and the Peer Link. -/

namespace Sys2Proof.Machine

section
variable {n : Fin 8} {r s : State}

/-- What changes one page of a half and the raised interrupts only. -/
theorem KeepsCount.onlyHalfPage (h : KeepsCount n r s) {t : State} {k : Half} {c : Nat} (ht : OnlyPage (halfPg k c) s t) : KeepsCount n r t := by
  obtain ⟨⟨regs, irq, rfl⟩, hk⟩ := ht
  have hne : pgScn n ≠ halfPg k c := by
    cases k <;> simp [pgScn, plinthPg, halfPg, Half.die]
  exact h.trans ⟨hk _ _ (pgScn_code_lt n) (by decide) hne, hk _ _ (pgScn_code_lt n) (by decide) hne, rfl⟩

/-! ### Accesses of an engine to a half's memory -/

theorem KeepsCount.takeFree (h : KeepsCount n r s) : KeepsCount n r s.takeFree.2 := h.of rfl rfl

theorem KeepsCount.refuse (h : KeepsCount n r s) (k : Half) (t : Tag) (acc : AccKind) (b : Nat) : KeepsCount n r (s.refuse k t acc b) := by
  unfold State.refuse
  extract_lets p first s1
  have hwld {u : State} (hu : KeepsCount n r u) (f : Fld) (v : Nat) (hf : f.off < 0x10000) : KeepsCount n r (u.put p f v) :=
    hu.half (k := k) (c := 0xA0) f v (by decide) hf
  have h1 : KeepsCount n r s1 := hwld h _ _ (by decide)
  refine h1.whenB ?_
  extract_lets s2 s3 s4 s5 s6 s7
  have h4 : KeepsCount n r s4 := hwld (hwld (hwld h1 _ _ (by decide)) _ _ (by decide)) _ _ (by decide)
  have h5 : KeepsCount n r s5 := keepsCount_ite (hwld h4 _ _ (by decide)) (hwld h4.takeFree _ _ (by decide))
  have h7 : KeepsCount n r s7 := hwld (hwld h5 _ _ (by decide)) _ _ (by decide)
  exact h7.event _ _ _ _ _

theorem KeepsCount.markDirty (h : KeepsCount n r s) (k : Half) (a len : Nat) : KeepsCount n r (s.markDirty k a len) :=
  KeepsCount.half (c := 0x70) ((h.setHs _ _).setHs _ _) _ _ (by decide) (by decide)

theorem KeepsCount.mirrorOut (h : KeepsCount n r s) (k : Half) (a : Nat) (bs : List Byte) : KeepsCount n r (s.mirrorOut k a bs) := by
  unfold State.mirrorOut
  split
  · exact h
  · refine keepsCount_ite h (keepsCount_ite (KeepsCount.setHs ?_ _ _) (h.markDirty _ _ _))
    split
    · exact h.whenB (h.setHs _ _)
    · exact h

theorem KeepsCount.setDram (h : KeepsCount n r s) (k : Half) (m : List Host.Cell) : KeepsCount n r (s.setDram k m) :=
  h.of (by cases k <;> rfl) (by cases k <;> rfl)

theorem KeepsCount.setSpm (h : KeepsCount n r s) (k : Half) (m : List Host.Cell) : KeepsCount n r (s.setSpm k m) :=
  h.of (by cases k <;> rfl) (by cases k <;> rfl)

theorem KeepsCount.storeBlock (h : KeepsCount n r s) (k : Half) (a : Nat) (bs : List Byte) : KeepsCount n r (s.storeBlock k a bs) :=
  keepsCount_ite ((h.setDram _ _).mirrorOut _ _ _) ((h.setSpm _ _).setHs _ _)

theorem KeepsCount.writeAt (h : KeepsCount n r s) (k : Half) (t : Tag) (a : Nat) (bs : List Byte) : KeepsCount n r (s.writeAt k t a bs) :=
  h.each fun _ _ _ hu => keepsCount_ite (hu.storeBlock _ _ _) (hu.refuse _ _ _ _)

theorem KeepsCount.noteRefusals (h : KeepsCount n r s) (k : Half) (t : Tag) (acc : AccKind) (a len : Nat) :
    KeepsCount n r (s.noteRefusals k t acc a len) := h.each fun _ _ _ hu => hu.refuse _ _ _ _

theorem KeepsCount.spm (h : KeepsCount n r s) {m : Nat} (hm : m < 0x1000) (k : Half) (f : Fld) (v : Nat) (hf : f.off < 0x10000) :
    KeepsCount n r (s.put (pgSpm k m) f v) := h.half (k := k) (c := 0x68 + m) f v (by omega) hf

theorem KeepsCount.spmPort (h : KeepsCount n r s) {m : Nat} (hm : m < 0x1000) (k : Half) (port : Bool) (p : SpmPort) (errs : List SpmErr) :
    KeepsCount n r (s.spmPort k m port p errs) := by
  unfold State.spmPort
  extract_lets bad fixed data s1 uE s2 s3
  have h2 : KeepsCount n r s2 := KeepsCount.setHs (h.noteRefusals _ _ _ _ _) _ _
  have h3 : KeepsCount n r s3 := h2.each fun _ _ _ ht => ht.spm hm k F.SPM_STATUS_CE _ (by decide)
  exact keepsCount_ite h (h3.each fun _ _ _ ht => (ht.spm hm k F.SPM_STATUS_UE 1 (by decide)).event _ _ _ _ _)

theorem KeepsCount.spmStore (h : KeepsCount n r s) (k : Half) (m : Nat) (p : SpmPort) : KeepsCount n r (s.spmStore k m p) := by
  unfold State.spmStore
  split
  · exact h
  · exact h.writeAt _ _ _ _

/-- One access at port E of an SPM. -/
theorem KeepsCount.spmCycle_portE (h : KeepsCount n r s) {m : Nat} (hm : m < 0x1000) (k : Half) (p : SpmPort) (errs : List SpmErr) :
    KeepsCount n r (s.spmCycle k m none (some p) errs) :=
  ((h.spmPort hm k true p errs).spmStore k m p).of rfl rfl

theorem KeepsCount.spmEngine (h : KeepsCount n r s) (k : Half) (code : Nat) {a : Nat} (ha : (a - spmBase) / spmBank < 0x1000) (len : Nat)
    (write : Option (List Byte)) : KeepsCount n r (s.spmEngine k code a len write) := h.spmCycle_portE ha _ _ _

/-! ### Queue units -/

/-- The first address of a burst is that of one of its entries. -/
theorem burstRuns_address {l : List (Nat × List Byte)} {e : Nat × List Byte} (he : e ∈ burstRuns l) : ∃ x ∈ l, x.1 = e.1 := by
  induction l generalizing e with
  | nil => cases he
  | cons x l ih =>
    obtain ⟨a, bs⟩ := x
    have hrest {e : Nat × List Byte} (he : e ∈ burstRuns l) : ∃ x ∈ (a, bs) :: l, x.1 = e.1 := by
      obtain ⟨x, hx, hxe⟩ := ih he
      exact ⟨x, List.mem_cons_of_mem _ hx, hxe⟩
    unfold burstRuns at he
    split at he
    next b cs t heq =>
      rw [heq] at hrest
      split at he
      · rcases List.mem_cons.mp he with rfl | he
        · exact ⟨_, List.mem_cons_self, rfl⟩
        · exact hrest (List.mem_cons_of_mem _ he)
      · rcases List.mem_cons.mp he with rfl | he
        · exact ⟨_, List.mem_cons_self, rfl⟩
        · exact hrest he
    · rw [List.mem_singleton.mp he]
      exact ⟨_, List.mem_cons_self, rfl⟩

theorem get_lt (s : State) (p : Pg) (f : Fld) : s.get p f < 2 ^ f.width := Nat.mod_lt _ (Nat.two_pow_pos _)

/-- A spill area lies among the first SPMs of a half (QU_SPBASE, QU_CFG). -/
theorem quAddr_spm (s : State) (k : Half) (q i : Nat) : (s.quAddr k q i - spmBase) / spmBank < 0x1000 := by
  have hbase : s.get (pgQu k q) F.QU_SPBASE_BASE < 2 ^ 18 := get_lt _ _ _
  have hcfg : s.get (pgQu k q) F.QU_CFG_SPILL < 2 ^ 14 := get_lt _ _ _
  have hspill : s.quSpill k q < 2 ^ 17 := by
    unfold State.quSpill
    split <;> omega
  have hplace : i % max 1 (s.quSpill k q) < max 1 (s.quSpill k q) := Nat.mod_lt _ (by omega)
  simp only [State.quAddr, spmBank]
  omega

theorem quKind (k : Half) {q : Nat} (hq : q < 0x100) : (pgQu k q).kind = some .qu := by
  have hcode : halfKind (0x200 + q) = some .qu := by
    unfold halfKind
    iterate 11 rw [if_neg (by omega)]
    exact if_pos (by omega)
  cases k <;> exact hcode

theorem KeepsCount.wildReg (h : KeepsCount n r s) (w : State) (k : Half) {c o : Nat} (hc : c < 0x10000) (ho : o < 0x10000) :
    KeepsCount n r (s.wildReg w (halfPg k c) o) := by
  unfold State.wildReg
  extract_lets hub hubs
  split
  · exact h
  · split
    · exact h
    · exact keepsCount_ite h (h.halfReg _ hc ho)

/-- An unpredictable result confined to a queue unit (R11, R291). -/
theorem KeepsCount.unpredictable_qu (h : KeepsCount n r s) (k : Half) {q : Nat} (hq : q < 0x100) (off : Nat) :
    KeepsCount n r (s.unpredictable (pgQu k q) off) := by
  have hoffs : ∀ o ∈ pageOffs .qu, o < 0x10000 := by decide
  have hfree : KeepsCount n r { s with free := s.free + 1 } := h.of rfl rfl
  have hunit (w : State) {t : State} (ht : KeepsCount n r t) : KeepsCount n r (t.wildUnit w (pgQu k q)) := by
    have hkind := quKind k hq
    cases k <;>
    · simp only [Pg.kind, pgQu, halfPg, Half.die] at hkind
      simp only [State.wildUnit, pgQu, halfPg, Half.die, hkind]
      exact ht.setHs _ _
  unfold State.unpredictable
  rw [quKind k hq]
  extract_lets w s1 own s2 s3
  have h2 : KeepsCount n r s2 :=
    hunit w (hfree.each fun o ho t ht => ht.wildReg w k (c := 0x200 + q) (by omega) (hoffs o ho))
  have h3 : KeepsCount n r s3 := h2.whenB (h2.raise _)
  exact h3.whenB (h3.event _ _ _ _ _)

theorem KeepsCount.quShow (h : KeepsCount n r s) (k : Half) {q : Nat} (hq : q < 0x100) : KeepsCount n r (s.quShow k q) :=
  h.onlyHalfPage (quShow_only s k ⟨q, hq⟩)

theorem KeepsCount.quStore (h : KeepsCount n r s) (k : Half) {q : Nat} (hq : q < 0x100) (u v : Queue) :
    KeepsCount n r (s.quStore k q u v) := by
  have hrun {l : List (Nat × List Byte)} (hl : ∀ x ∈ l, ∃ i, x.1 = s.quAddr k q i) (write : Nat × List Byte → Option (List Byte))
      {t : State} (ht : KeepsCount n r t) : KeepsCount n r (t.each (burstRuns l) fun e t => t.spmEngine k (0x200 + q) e.1 e.2.length (write e)) := by
    refine ht.each fun e he u hu => hu.spmEngine k _ ?_ _ _
    obtain ⟨x, hx, hxe⟩ := burstRuns_address he
    obtain ⟨i, hi⟩ := hl x hx
    rw [← hxe, hi]
    exact quAddr_spm s k q i
  unfold State.quStore
  extract_lets code left hit reads puts s1 s2
  have h1 : KeepsCount n r s1 := by
    refine hrun (fun x hx => ?_) (fun _ => none) h
    obtain ⟨i, -, rfl⟩ := List.mem_map.mp hx
    exact ⟨i, rfl⟩
  have h2 : KeepsCount n r s2 := by
    refine KeepsCount.setHs (hrun (fun x hx => ?_) (fun e => some e.2) h1) _ _
    obtain ⟨i, -, hi⟩ := List.mem_filterMap.mp hx
    split at hi
    · cases hi
    · split_ifs at hi
      cases hi
      exact ⟨i, rfl⟩
  exact keepsCount_ite (h2.unpredictable_qu k hq 0) h2

theorem KeepsCount.quDrop (h : KeepsCount n r s) (k : Half) {q : Nat} (hq : q < 0x100) : KeepsCount n r (s.quDrop k q) :=
  KeepsCount.raise (KeepsCount.half (c := 0x200 + q) (h.half (c := 0x200 + q) _ _ (by omega) (by decide)) _ _ (by omega) (by decide)) _

theorem KeepsCount.quPush (h : KeepsCount n r s) (k : Half) {q : Nat} (hq : q < 0x100) (d : BitVec 64) :
    KeepsCount n r ((s.quPush k q d).getD s) := by
  unfold State.quPush
  extract_lets u v
  have hstored (v : Queue) : KeepsCount n r ((s.quStore k q u v).quShow k q) := (h.quStore k hq u v).quShow k hq
  split
  · exact h.quDrop k hq
  · split
    · exact hstored _
    · split
      · exact h
      · exact hstored _

theorem KeepsCount.quOpen (h : KeepsCount n r s) (k : Half) {q : Nat} (hq : q < 0x100) {t : State} (ht : s.quOpen k q = some t) :
    KeepsCount n r t := by
  unfold State.quOpen at ht
  extract_lets u v at ht
  split_ifs at ht <;> cases ht
  · exact h.quDrop k hq
  · exact (h.quStore k hq u _).quShow k hq

theorem KeepsCount.quClose (h : KeepsCount n r s) (k : Half) {q : Nat} (hq : q < 0x100) : KeepsCount n r ((s.quClose k q).getD s) := by
  unfold State.quClose
  extract_lets u
  split
  · exact h
  · exact (h.quStore k hq u _).quShow k hq

theorem KeepsCount.quPacket (h : KeepsCount n r s) (k : Half) {q : Nat} (hq : q < 0x100) (es : List (BitVec 64)) :
    KeepsCount n r (s.quPacket k q es) := by
  unfold State.quPacket
  split
  · exact h
  next s1 hopen =>
    have h1 := h.quOpen k hq hopen
    exact keepsCount_ite h1 (KeepsCount.quClose (KeepsCount.each h1 fun e _ t ht => ht.quPush k hq e) k hq)

/-! ### Touch sources -/

theorem memNat_one_lt (m : List Host.Cell) (a : Nat) : memNat m a 1 < 0x100 := by
  simp only [memNat, memBytes, leNat]
  have := (memByte m a).isLt
  omega

theorem planRec_one_lt (s : State) (src off : Nat) : s.planRec src off 1 < 0x100 := by
  unfold State.planRec State.plan State.secNat
  split
  · decide
  · exact memNat_one_lt _ _

theorem KeepsCount.srcPut (h : KeepsCount n r s) (src : Nat) (f : Fld) (v : Nat) : KeepsCount n r (s.srcPut src f v) := by
  unfold State.srcPut pgSrc
  split
  · exact h.plinth _ _
  · exact h.taf _ _ _

theorem KeepsCount.setSrc (h : KeepsCount n r s) (k : Nat) (v : Source) : KeepsCount n r (s.setSrc k v) := h.of rfl rfl

theorem KeepsCount.touchPush (h : KeepsCount n r s) (src : Nat) (k : Half) (es : List (BitVec 64)) : KeepsCount n r (s.touchPush src k es) := by
  unfold State.touchPush
  extract_lets q u lost sent s1
  have hq : q < 0x100 := planRec_one_lt _ _ _
  have h1 : KeepsCount n r s1 := keepsCount_ite (h.quPacket k hq _) (h.srcPut src F.TAF_STATUS_DROPS _)
  exact keepsCount_ite h (h1.setSrc _ _)

theorem KeepsCount.touchEndAll (h : KeepsCount n r s) (src : Nat) : KeepsCount n r (s.touchEndAll src) := by
  unfold State.touchEndAll
  extract_lets q es s1 q1 s2
  have h1 : KeepsCount n r s1 := h.whenB ((h.touchPush src .A es).touchPush src .B es)
  have h2 : KeepsCount n r s2 := h1.setSrc _ _
  exact keepsCount_ite (h2.each fun _ _ _ ht => ht.plinthReg _ _) h2

theorem KeepsCount.touchStop (h : KeepsCount n r s) (src : Nat) : KeepsCount n r (s.touchStop src) :=
  keepsCount_ite h (KeepsCount.srcPut (KeepsCount.srcPut ((h.touchEndAll src).setSrc _ _) _ _ _) _ _ _)

/-- The counts that CAPTURE_REF takes of one source after those of others. -/
def captureNext (a : List Nat × State) (src : Nat) : List Nat × State := (a.1 ++ (a.2.captureCounts src).1, (a.2.captureCounts src).2)

theorem KeepsCount.captureNext (l : List Nat) {a : List Nat × State} (h : KeepsCount n r a.2) : KeepsCount n r (l.foldl captureNext a).2 := by
  induction l generalizing a with
  | nil => exact h
  | cons src l ih => exact ih (h.of rfl rfl)

theorem KeepsCount.captureEnd (h : KeepsCount n r s) : KeepsCount n r s.captureEnd := by
  have hcounts := KeepsCount.captureNext (upTo 9) (a := ([], s)) h
  unfold State.captureEnd
  extract_lets slot gen
  refine keepsCount_ite h ?_
  split
  next counts s1 heq =>
  have h1 : KeepsCount n r s1 := (congrArg (KeepsCount n r) (congrArg Prod.snd heq)).mp hcounts
  exact KeepsCount.plinth (KeepsCount.plinth (KeepsCount.plinth (KeepsCount.plinth (h1.setMram _ _) _ _) _ _) _ _) _ _

theorem KeepsCount.touchT4 (h : KeepsCount n r s) : KeepsCount n r s.touchT4 :=
  h.captureEnd.each fun src _ _ ht => ht.touchStop src

/-! ### Halves -/

theorem KeepsCount.setDomain (h : KeepsCount n r s) (k : Half) {d : Nat} (hd : d < 32) (v : Nat) : KeepsCount n r (s.setDomain k d v) :=
  h.half (c := 0x2001) _ _ (by decide) (by
    show 0x10 + 4 * (d / 8) < 0x10000
    omega)

theorem KeepsCount.dramLose (h : KeepsCount n r s) (k : Half) : KeepsCount n r (s.dramLose k) :=
  KeepsCount.setHs (h.each fun _ _ _ ht => ht.setDram _ _) _ _

theorem KeepsCount.nightHalf (h : KeepsCount n r s) (k : Half) : KeepsCount n r (s.nightHalf k) := by
  have hdom : ∀ d ∈ nightHeld, d < 32 := by decide
  unfold State.nightHalf
  extract_lets s1 s2
  have h1 : KeepsCount n r s1 := h.each fun d hd _ ht => keepsCount_ite (ht.setDomain k (hdom d hd) _) ht
  have hdmc (f : Fld) (v : Nat) {t : State} (ht : KeepsCount n r t) (hf : f.off < 0x10000) : KeepsCount n r (t.putDmc k f v) :=
    KeepsCount.half (c := 0x61) (ht.half (k := k) (c := 0x60) f v (by decide) hf) f v (by decide) hf
  have h2 : KeepsCount n r s2 := KeepsCount.dramLose (hdmc _ _ (hdmc _ _ h1 (by decide)) (by decide)) _
  have hcode {i : Nat} (hi : i ∈ upTo 4) : 0x50 + i < 0x10000 := by
    have := List.mem_range.mp hi
    omega
  have hpci (f : Fld) (v : Nat) (hf : f.off < 0x10000) {t : State} (ht : KeepsCount n r t) : KeepsCount n r (t.put (pgPci k) f v) :=
    ht.half (c := 0x78) f v (by decide) hf
  have hcvu := h2.each (xs := upTo 4) (f := fun i t => t.cvuStop k i) fun i hi t ht =>
    keepsCount_ite (KeepsCount.setHs (ht.half (c := 0x50 + i) _ _ (hcode hi) (by decide)) _ _) ht
  exact hpci _ _ (by decide) (hpci _ _ (by decide) (hpci _ _ (by decide) (hpci _ _ (by decide) hcvu)))

/-! ### Plinth domains and the Peer Link -/

theorem KeepsCount.setHap (h : KeepsCount n r s) (ch v : Nat) : KeepsCount n r (s.setHap ch v) :=
  KeepsCount.plinth (KeepsCount.plinth (h.plinth _ _) _ _) _ _

theorem KeepsCount.pdomGone (h : KeepsCount n r s) (d : Nat) : KeepsCount n r (s.pdomGone d) := by
  unfold State.pdomGone
  extract_lets s1 s2
  have h1 : KeepsCount n r s1 := h.plinth _ _
  have h2 : KeepsCount n r s2 := h1.each fun ch _ t ht => keepsCount_ite (ht.setHap _ _)
    (KeepsCount.setHap (s := t.setChan ch {}) (ht.of rfl rfl) _ _)
  exact keepsCount_ite (h2.plinth _ _) h2

theorem KeepsCount.lockRefresh (h : KeepsCount n r s) (p : Nat) : KeepsCount n r (s.lockRefresh p) :=
  keepsCount_ite (h.plinth _ _) (keepsCount_ite (KeepsCount.setPort (h.plinth _ _) (by rfl)) h)

theorem KeepsCount.timeFree (h : KeepsCount n r s) : KeepsCount n r s.timeFree := by
  unfold State.timeFree
  extract_lets peer s1
  have h1 : KeepsCount n r s1 := h.of rfl rfl
  exact keepsCount_ite h (KeepsCount.each (h1.plinth _ _) fun p _ _ ht => ht.lockRefresh p)

theorem KeepsCount.gmGone (h : KeepsCount n r s) (p : Nat) : KeepsCount n r (s.gmGone p) :=
  keepsCount_ite h (KeepsCount.timeFree (h.of rfl rfl))

theorem KeepsCount.peerEmit (h : KeepsCount n r s) (p : Nat) (f : Frame) : KeepsCount n r (s.peerEmit p f) :=
  keepsCount_ite (keepsCount_ite (h.of rfl rfl) h) h

theorem KeepsCount.moveAlarms (h : KeepsCount n r s) (p : Nat) : KeepsCount n r (s.moveAlarms p) := by
  unfold State.moveAlarms
  extract_lets o hit ws moved peer s1 held s2
  have h1 : KeepsCount n r s1 := h.of rfl rfl
  have h2 : KeepsCount n r s2 := h.of rfl rfl
  exact keepsCount_ite h (keepsCount_ite (h1.each fun w _ _ ht => keepsCount_ite ht (ht.peerEmit _ _)) (h2.alert.event _ _ _ _ _))

theorem KeepsCount.discSet_plk (h : KeepsCount n r s) (p new : Nat) (cmd : Bool) : KeepsCount n r (s.discSet pgPlk p new cmd) := by
  unfold State.discSet
  extract_lets old s1 s2 s3 s4
  have h4 : KeepsCount n r s4 := KeepsCount.plinthReg (KeepsCount.plinth (KeepsCount.plinth (h.plinth _ _) _ _) _ _) _ _
  exact keepsCount_ite h (h4.event _ _ _ _ _)

theorem KeepsCount.plkLink (h : KeepsCount n r s) (p : Nat) (up : Bool) : KeepsCount n r (s.plkLink p up) := by
  unfold State.plkLink
  extract_lets rest
  exact KeepsCount.plinth (c := 0x38) (h.of rfl rfl) _ _

theorem KeepsCount.peerSettle (h : KeepsCount n r s) : KeepsCount n r s.peerSettle := by
  unfold State.peerSettle
  refine h.each fun p _ t ht => ?_
  refine keepsCount_ite ht (keepsCount_ite (keepsCount_ite ht ?_) (keepsCount_ite (ht.plinth _ _) ht))
  have hlink : KeepsCount n r ((t.plkLink p false).setPlkState p pkStopped) := KeepsCount.plinth (ht.plkLink p false) _ _
  have hgone : KeepsCount n r (((t.plkLink p false).setPlkState p pkStopped).neighbourGone p) :=
    keepsCount_ite hlink (hlink.discSet_plk _ _ _)
  exact (hgone.moveAlarms p).gmGone p

theorem KeepsCount.modDone (h : KeepsCount n r s) (result : Nat) : KeepsCount n r (s.modDone result) :=
  KeepsCount.raiseBoth (KeepsCount.plinth (KeepsCount.plinth (h.plinth _ _) _ _) _ _) _

/-- The entry to Night Watch once no generator runs (R366). -/
theorem KeepsCount.nightSettle (h : KeepsCount n r s) : KeepsCount n r s.nightSettle := by
  unfold State.nightSettle
  extract_lets s1 s2 s3 s4
  have h1 : KeepsCount n r s1 := h.whenB (h.nightHalf .A)
  have h2 : KeepsCount n r s2 := h1.whenB (h1.nightHalf .B)
  have h4 : KeepsCount n r s4 := h2.touchT4.each fun d _ _ ht => ht.pdomGone d
  clear_value s4
  have hentered : KeepsCount n r { s4 with nightEntered := some s4.time } := h4.of rfl rfl
  exact keepsCount_ite h (hentered.peerSettle.modDone 0)

end
end Sys2Proof.Machine
end

section
/-! SUPPORT. What a frame boundary does to the line and frame counters of a port (R110, R112): all but the entry to the new frame keeps them. -/

namespace Sys2Proof.Machine

section
variable {n : Fin 8} {r s : State}

/-! ### Before the new frame -/

theorem KeepsCount.blFrameEnd (h : KeepsCount n r s) (p : Nat) : KeepsCount n r (s.blFrameEnd p) := keepsCount_ite (h.setPort (by rfl)) h

theorem KeepsCount.psrFrame (h : KeepsCount n r s) (p : Nat) : KeepsCount n r (s.psrFrame p) := h.setPort (by rfl)

theorem KeepsCount.qualFrame (h : KeepsCount n r s) (p : Nat) : KeepsCount n r (s.qualFrame p) := by
  unfold State.qualFrame
  split
  · exact h.plinth _ _
  · exact KeepsCount.plinth (h.setPort (by rfl)) _ _

theorem KeepsCount.frameSource (h : KeepsCount n r s) (ps : List Nat) : KeepsCount n r (s.frameSource ps) := by
  have hall (src : Nat) : KeepsCount n r (s.each ps fun p s => s.setSource p src) := h.each fun _ _ _ ht => ht.setSource _ _
  unfold State.frameSource
  extract_lets lead
  split
  · refine keepsCount_ite (KeepsCount.hoEnd (h.each fun p _ t ht => ?_) _ _) (h.each fun p _ t ht => ?_)
    · exact KeepsCount.setPort (KeepsCount.plinth (ht.setSource _ _) _ _) (by rfl)
    · split
      · exact ht
      · exact ht.setPort (by rfl)
  · split
    · exact keepsCount_ite (hall 2) h
    · exact keepsCount_ite h (keepsCount_ite (hall 0) (keepsCount_ite (hall 1) h))

theorem KeepsCount.psrStep (h : KeepsCount n r s) (ps : List Nat) : KeepsCount n r (s.psrStep ps) := by
  have hall (v : Nat) : KeepsCount n r (s.each ps fun p s => s.put (pgScn p) F.SCN_STATUS_PSR v) := h.each fun _ _ _ ht => ht.scn _ _ _ (by decide)
  unfold State.psrStep
  extract_lets inPsr leave enter s1
  have h1 : KeepsCount n r s1 := keepsCount_ite (keepsCount_ite (hall 0) h) (keepsCount_ite (hall 1) h)
  exact h1.each fun _ _ _ ht => ht.setPort (by rfl)

theorem KeepsCount.setSlot (h : KeepsCount n r s) (d : Die) (slot : Nat) : KeepsCount n r (s.setSlot d slot) :=
  KeepsCount.plinth (h.plinth _ _) _ _

theorem KeepsCount.plinthTake (h : KeepsCount n r s) (items : List Nat) : KeepsCount n r (s.plinthTake items) := by
  unfold State.plinthTake
  split
  · exact h
  next a _ =>
    extract_lets new taken s1 s2 s3 rest s4
    have h1 : KeepsCount n r s1 := h.each fun i _ _ ht => ht.takeSections _ i
    have h2 : KeepsCount n r s2 := h1.of rfl rfl
    have h3 : KeepsCount n r s3 := h2.each fun i _ _ ht => keepsCount_ite (ht.laneRefresh i) ht
    have h4 : KeepsCount n r s4 := KeepsCount.applyPages (h3.setSlot _ _) _ _ _
    clear_value s4
    have hend : KeepsCount n r { s4 with rearm := none } := h4.of rfl rfl
    exact keepsCount_ite h (keepsCount_ite h3 (hend.armEnd _ _))

/-! ### The new frame -/

/-- Port `n` is at line 0 of the frame after that of `s`. -/
def EntersFrame (n : Fin 8) (s t : State) : Prop :=
  t.portLine n = 0 ∧ t.get (pgScn n) F.SCN_FRAME_FRAME = (s.get (pgScn n) F.SCN_FRAME_FRAME + 1) % 2 ^ 32

theorem EntersFrame.keeps {t u : State} (h : EntersFrame n s t) (k : KeepsCount n t u) : EntersFrame n s u :=
  ⟨k.line.trans h.1, k.frame.trans h.2⟩

theorem KeepsCount.enters {t u : State} (h : KeepsCount n s t) (k : EntersFrame n t u) : EntersFrame n s u :=
  ⟨k.1, by rw [k.2, h.frame]⟩

theorem frameEnter_enters (s : State) (n : Fin 8) : EntersFrame n s (s.frameEnter n) := by
  unfold State.frameEnter
  extract_lets q s1 s2 s3 s4
  have hkey : (pgScn n).key F.SCN_LINE_LINE.off ≠ (pgScn n).key F.SCN_FRAME_FRAME.off := key_ne_of_off (by decide)
  have h3 : EntersFrame n s s3 := by
    constructor
    · calc s3.get (pgScn n) F.SCN_LINE_LINE
        _ = s2.get (pgScn n) F.SCN_LINE_LINE := get_put_reg _ _ hkey
        _ = 0 := get_put_same _ _ _ _ (by decide)
    · calc s3.get (pgScn n) F.SCN_FRAME_FRAME
        _ = (s2.get (pgScn n) F.SCN_FRAME_FRAME + 1) % 2 ^ 32 := get_put_same _ _ _ _ (by decide)
        _ = (s1.get (pgScn n) F.SCN_FRAME_FRAME + 1) % 2 ^ 32 := by rw [show s2.get _ _ = _ from get_put_reg _ _ hkey.symm]
        _ = (s.get (pgScn n) F.SCN_FRAME_FRAME + 1) % 2 ^ 32 := rfl
  have h4 : KeepsCount n s3 s4 := (keepsCount_rfl _ _).laneRefresh _
  exact h3.keeps (keepsCount_ite (KeepsCount.setPort (h4.scn _ _ _ (by decide)) (by rfl)) h4)

/-! ### After the entry -/

theorem KeepsCount.darkRelease (h : KeepsCount n r s) (p : Nat) : KeepsCount n r (s.darkRelease p) := by
  unfold State.darkRelease
  exact keepsCount_ite h (KeepsCount.each (h.setPort (by rfl)) fun _ _ _ ht => keepsCount_ite ht (ht.setPort (by rfl)))

theorem KeepsCount.frameLock (h : KeepsCount n r s) (p : Nat) (x : Int) : KeepsCount n r (s.frameLock p x) := by
  have htrim (v : Nat) {t : State} (ht : KeepsCount n r t) :
      KeepsCount n r (t.each (t.group p) fun q s => s.put (pgScn q) F.SCN_TRIM_TRIM v) := ht.each fun _ _ _ hu => hu.scn _ _ _ (by decide)
  unfold State.frameLock
  extract_lets f st setTrim s1 g num den phase base grid k0 pick err trim clamped small q good bad
  have h1 : KeepsCount n r s1 := h.lockRefresh p
  refine keepsCount_ite (keepsCount_ite (htrim _ h1) (htrim _ h1)) ?_
  split
  exact htrim _ (KeepsCount.plinth (KeepsCount.plinth (h.setPort (by rfl)) _ _) _ _)

theorem KeepsCount.fillShow (h : KeepsCount n r s) (k : Half) {p : Nat} (hp : p < 8) : KeepsCount n r (s.fillShow k p) := by
  unfold State.fillShow
  extract_lets pg fill s1 owed
  have h1 : KeepsCount n r s1 := h.half (c := p) _ _ (by omega) (by decide)
  exact keepsCount_ite (h1.half (c := p) _ _ (by omega) (by decide)) (keepsCount_ite (h1.half (c := p) _ _ (by omega) (by decide)) h1)

theorem KeepsCount.takeMarker (h : KeepsCount n r s) (k : Half) {p : Nat} (hp : p < 8) (m : Marker) : KeepsCount n r (s.takeMarker k p m) := by
  have hcmp {t : State} (ht : KeepsCount n r t) (f : Fld) (v : Nat) (hf : f.off < 0x10000) : KeepsCount n r (t.put (pgCmp k p) f v) :=
    ht.half (k := k) (c := p) f v (by omega) hf
  unfold State.takeMarker
  extract_lets pg hs dram s1 q s2 s3 s4 v q' s5 s6 s7 s8
  have h4 : KeepsCount n r s4 := hcmp (hcmp (KeepsCount.setHs (h.setHs _ _) _ _) _ _ (by decide)) _ _ (by decide)
  have h6 : KeepsCount n r s6 := hcmp (h4.setHs _ _) _ _ (by decide)
  have h7 : KeepsCount n r s7 := h6.halfReg (k := k) (c := p) _ (by omega) (by decide)
  exact keepsCount_ite (h4.fillShow k hp) (hcmp (hcmp h7 _ _ (by decide)) _ _ (by decide))

theorem KeepsCount.setRole (h : KeepsCount n r s) (k : Half) (p v : Nat) : KeepsCount n r (s.setRole k p v) := by
  cases k
  · exact h.plinth _ _
  · exact h.plinth _ _

theorem KeepsCount.pipesIdle (h : KeepsCount n r s) {p : Nat} (hp : p < 8) : KeepsCount n r (s.pipesIdle p) := by
  unfold State.pipesIdle
  extract_lets idle s1 s2 q s3
  have h1 : KeepsCount n r s1 := (h.setRole .A p 7).setRole .B p 7
  have h2 : KeepsCount n r s2 := h1.plinth _ _
  have h3 : KeepsCount n r s3 := h2.setPort (by rfl)
  clear_value s3 idle
  have hA : KeepsCount n r (s3.whenB (s3.inService .A) fun s => s.takeMarker .A p idle) := h3.whenB (h3.takeMarker .A hp idle)
  exact hA.whenB (hA.takeMarker .B hp idle)

theorem KeepsCount.genStop (h : KeepsCount n r s) {p : Nat} (hp : p < 8) (keepPanel : Bool) : KeepsCount n r (s.genStop p keepPanel) := by
  unfold State.genStop
  extract_lets s1 keep want s2 q s3
  have h1 : KeepsCount n r s1 := h.whenB (h.shedMove p)
  have h2 : KeepsCount n r s2 := KeepsCount.setPort (h1.scn _ _ _ (by decide)) (by rfl)
  have h3 : KeepsCount n r s3 := h2.setPort (by rfl)
  exact keepsCount_ite h (KeepsCount.lockRefresh (KeepsCount.laneRefresh (h3.pipesIdle hp) p) p)

theorem KeepsCount.frameStops (h : KeepsCount n r s) {p : Nat} (hp : p < 8) : KeepsCount n r (s.frameStops p) := by
  have hoff {t : State} (ht : KeepsCount n r t) : KeepsCount n r (t.put pgPlk (F.PLK_LOCK_STATE.at (4 * p)) 0) := ht.plinth _ _
  have hpsr (v : Nat) : KeepsCount n r (s.put (pgScn p) F.SCN_STATUS_PSR v) := h.scn _ _ _ (by decide)
  exact keepsCount_ite h (keepsCount_ite (hoff (h.genStop hp false)) (keepsCount_ite ((hpsr 0).setPort (by rfl))
    (keepsCount_ite (hoff (KeepsCount.genStop ((hpsr 1).setPort (by rfl)) hp true))
      (keepsCount_ite (hoff (KeepsCount.genStop (h.setPort (by rfl)) hp false)) h))))

end

/-- The frame boundary of a port alone: what comes before the entry and after it keeps the counters. -/
theorem execPortFrameBoundary_enters {n : Fin 8} {s : State} (hrun : (s.port n).run = true) (hgroup : s.group n = [n.val])
    (hfresh : (s.port n).fresh = false) (hline : s.portLine n + 1 = (s.timing n).vTotal) (x : Int) :
    ∃ t, execPortFrameBoundary n x s = .next t ∧ EntersFrame n s t := by
  unfold execPortFrameBoundary
  rw [hgroup]
  extract_lets q ps s1 s2 s3 s4 s5 s6
  have h1 : KeepsCount n s s1 := (keepsCount_rfl n s).each fun p _ _ ht =>
    KeepsCount.qualFrame (KeepsCount.psrFrame (KeepsCount.blFrameEnd (ht.setPort (by rfl)) p) p) p
  have h4 : KeepsCount n s s4 := KeepsCount.plinthTake (KeepsCount.psrStep (h1.frameSource _) _) _
  have h5 : EntersFrame n s s5 := (h4.enters (frameEnter_enters s4 n)).keeps ((keepsCount_rfl n _).darkRelease n)
  have h6 : EntersFrame n s s6 := h5.keeps ((keepsCount_rfl n _).frameLock n x)
  clear_value s6
  refine ⟨_, if_neg (by simp [q, ps, hrun, hfresh, hline]), h6.keeps (KeepsCount.rearmGo (KeepsCount.nightSettle ?_))⟩
  exact (keepsCount_rfl n s6).frameStops n.isLt

end Sys2Proof.Machine
end

section
/-! SUPPORT. The commands of a port's timing: line packets, line boundaries, latch lines and frame boundaries (R18, R19, R95, R110, R112). -/

namespace Sys2Proof.Machine

/-! ### Line packets -/

@[simp] theorem Port.arr_setArr (q : Port) (h : Half) (l : List Packet) : (q.setArr h l).arr h = l := by cases h <;> rfl

theorem setHs_timing (s : State) (h : Half) (v : HalfSt) (p : Nat) : (s.setHs h v).timing p = s.timing p := by cases h <;> rfl

theorem setHs_portLine (s : State) (h : Half) (v : HalfSt) (p : Nat) : (s.setHs h v).portLine p = s.portLine p := by cases h <;> rfl

theorem sameMem_setHs (s : State) (h : Half) (v : HalfSt) : SameMem s (s.setHs h v) :=
  sameMem_of (by simp) (by simp) (by simp) (by simp) (by simp)

theorem execLinePacketArrival_none {h : Half} {p : Fin 8} {s : State} (hnone : ∀ k ∈ (s.hs h).link, k.port ≠ p.val) (ok : Bool) :
    execLinePacketArrival h p ok s = .next s := by
  have hfind : (s.hs h).link.find? (fun k => k.port = p.val) = none := by simpa using hnone
  simp [execLinePacketArrival, hfind]

/-- The packet that arrives leaves the link; what is kept is the condition of R19. -/
theorem execLinePacketArrival_some {h : Half} {p : Fin 8} {s : State} {k : Packet}
    (hfind : (s.hs h).link.find? (fun k => k.port = p.val) = some k) (ok : Bool) :
    let u := s.setHs h { s.hs h with link := (s.hs h).link.erase k }
    let vt := max 1 (s.timing p).vTotal
    let ahead := (k.line + vt - s.portLine p) % vt
    execLinePacketArrival h p ok s = .next
      (if ok = true ∧ (s.port p).run = true ∧ ((1 ≤ ahead ∧ ahead ≤ 3) ∨ (ahead = 0 ∧ (s.port p).fresh = true))
        then u.setPort p ((s.port p).setArr h ((s.port p).arr h ++ [k])) else u) := by
  intro u vt ahead
  unfold execLinePacketArrival
  simp only [hfind, setHs_timing, setHs_portLine, setHs_r_port]
  refine Eq.trans (if_congr ?_ rfl rfl) (apply_ite Host.Outcome.next _ _ _).symm
  simp [ahead, vt, and_assoc]

theorem linePacketArrival_some {h : Half} {p : Fin 8} {s : State} {k : Packet}
    (hfind : (s.hs h).link.find? (fun k => k.port = p.val) = some k) (ok : Bool) :
    Does (.linePacketArrival h p ok) s fun t =>
      (t.hs h).link = (s.hs h).link.erase k ∧ t.regs = s.regs ∧ SameMem s t ∧
      let vt := max 1 (s.timing p).vTotal
      let ahead := (k.line + vt - s.portLine p) % vt
      (t.port p).arr h = if ok = true ∧ (s.port p).run = true ∧ ((1 ≤ ahead ∧ ahead ≤ 3) ∨ (ahead = 0 ∧ (s.port p).fresh = true))
        then (s.port p).arr h ++ [k] else (s.port p).arr h := by
  refine ⟨_, execLinePacketArrival_some hfind ok, ?_⟩
  have hmem := sameMem_setHs s h { s.hs h with link := (s.hs h).link.erase k }
  split_ifs with hkept
  · exact ⟨by simp, by simp, hmem, by simp [hkept]⟩
  · exact ⟨by simp, by simp, hmem, by simp [hkept]⟩

/-! ### Line boundaries -/

section
variable {p : Fin 8} {s : State}

/-- A port that does not run, and the odd port of a locked pair (log entry 67). -/
theorem execPortLineBoundary_off (h : (s.port p).run = false ∨ (s.group p).headD p.val ≠ p.val) : execPortLineBoundary p s = .next s :=
  if_pos (by rcases h with h | h <;> simp_all)

theorem execLatchLineStart_off (h : (s.port p).run = false ∨ (s.group p).headD p.val ≠ p.val) : execLatchLineStart p s = .next s :=
  if_pos (by rcases h with h | h <;> simp_all)

theorem execPortFrameBoundary_off (h : (s.port p).run = false ∨ (s.group p).headD p.val ≠ p.val) (x : Int) :
    execPortFrameBoundary p x s = .next s := if_pos (by rcases h with h | h <;> simp_all)

theorem execPortLineBoundary_beyond (h : (s.timing p).vTotal ≤ if (s.port p).fresh then 0 else s.portLine p + 1) :
    execPortLineBoundary p s = .next s := if_pos (by simp [h])

/-- The line boundary of a port alone counts LINE. -/
theorem execPortLineBoundary_atLine (hrun : (s.port p).run = true) (hgroup : s.group p = [p.val]) {line : Nat}
    (hline : line = if (s.port p).fresh then 0 else s.portLine p + 1) (hlt : line < (s.timing p).vTotal) (hfits : line < 4096) :
    ∃ t, execPortLineBoundary p s = .next t ∧ AtLine p line t := by
  have hrun : execPortLineBoundary p s = .next ((s.oneCycle fun s => s.lineBoundary [p.val] line).rearmGo) := by
    unfold execPortLineBoundary
    rw [hgroup]
    extract_lets q ps n
    have hn : n = line := hline.symm
    rw [hn]
    exact if_neg (by simp [q, ps, hrun, hlt])
  exact ⟨_, hrun, (oneCycle_atLine (fun t => lineBoundary_atLine t p hfits) s).keeps (keepsCount_rfl _ _).rearmGo⟩

theorem execLatchLineStart_notDue (h : s.portLine p + 4 ≠ (s.timing p).vTotal ∨ (s.port p).timing ≠ none) : execLatchLineStart p s = .next s :=
  if_pos (by rcases h with h | h <;> simp_all [Option.isSome_iff_ne_none])

theorem execPortFrameBoundary_notDue (h : (s.port p).fresh = true ∨ s.portLine p + 1 ≠ (s.timing p).vTotal) (x : Int) :
    execPortFrameBoundary p x s = .next s := if_pos (by rcases h with h | h <;> simp [h])

end

/-! ### Latch lines -/

/-- A latch line changes the PAIR page and the ports only. -/
def OnlyPair (s t : State) : Prop := KeepsRegs (fun q _ => q ≠ pgPair) s t ∧ SameMem s t

section
variable {r s : State}

theorem onlyPair_rfl (s : State) : OnlyPair s s := ⟨keepsRegs_of rfl, sameMem_rfl s⟩

theorem OnlyPair.setPort (h : OnlyPair r s) (q : Nat) (v : Port) : OnlyPair r (s.setPort q v) :=
  ⟨h.1.trans (keepsRegs_of rfl), h.2.trans (sameMem_of rfl rfl rfl rfl rfl)⟩

theorem OnlyPair.putPair (h : OnlyPair r s) (f : Fld) (v : Nat) (hf : f.off < 0x10000) : OnlyPair r (s.put pgPair f v) :=
  ⟨h.1.trans (keepsRegs_put _ _ (by decide) hf (by simp)), h.2.trans (sameMem_of rfl rfl rfl rfl rfl)⟩

theorem OnlyPair.setRole (h : OnlyPair r s) (k : Half) (p : Fin 8) (v : Nat) : OnlyPair r (s.setRole k p v) := by
  cases k
  · exact h.putPair (F.PAIR_PORT_ROLE_A.at (4 * p)) v (by simp only [Fld.at, F.PAIR_PORT_ROLE_A]; omega)
  · exact h.putPair (F.PAIR_PORT_ROLE_B.at (4 * p)) v (by simp only [Fld.at, F.PAIR_PORT_ROLE_B]; omega)

theorem OnlyPair.each (h : OnlyPair r s) {α : Type} (xs : List α) {f : α → State → State}
    (hf : ∀ x t, OnlyPair r t → OnlyPair r (f x t)) : OnlyPair r (s.each xs f) := by
  unfold State.each
  induction xs generalizing s with
  | nil => exact h
  | cons x l ih => exact ih (hf x s h)

theorem OnlyPair.hoLatch (h : OnlyPair r s) (p : Nat) : OnlyPair r (s.hoLatch p) := by
  unfold State.hoLatch
  extract_lets ok
  refine h.each _ fun q t ht => ?_
  split
  · exact ht
  · split_ifs
    · exact ht.setPort _ _
    · exact ht.setPort _ _
    · exact ht

theorem OnlyPair.tier (h : OnlyPair r s) : s.tier = r.tier :=
  congrArg F.MOD_STATUS_TIER.ofWord (h.1 pgMod _ (by decide) (by decide) (by decide))

theorem OnlyPair.frame (h : OnlyPair r s) (p : Fin 8) : s.get (pgScn p) F.SCN_FRAME_FRAME = r.get (pgScn p) F.SCN_FRAME_FRAME := by
  refine congrArg F.SCN_FRAME_FRAME.ofWord (h.1 (pgScn p) _ (pgScn_code_lt p) (by decide) ?_)
  simp only [pgScn, pgPair, plinthPg, ne_eq, Pg.mk.injEq, true_and]
  omega

end

theorem each_singleton {α : Type} (s : State) (x : α) (f : α → State → State) : s.each [x] f = f x s := rfl

/-- The markers of a port alone (R85, R95). -/
theorem latchLineStart_marks {p : Fin 8} {s : State} (hrun : (s.port p).run = true) (hgroup : s.group p = [p.val])
    (hline : s.portLine p + 4 = (s.timing p).vTotal) (htiming : (s.port p).timing = none) : Does (.latchLineStart p) s fun t =>
      let frame := (s.get (pgScn p) F.SCN_FRAME_FRAME + 1) % 65536
      (∃ m, (t.port p).markA = some m ∧ m.tier = s.tier ∧ m.role = t.role .A p ∧ m.frame = frame) ∧
      (∃ m, (t.port p).markB = some m ∧ m.tier = s.tier ∧ m.role = t.role .B p ∧ m.frame = frame) ∧ SameMem s t := by
  have hexec : exec (.latchLineStart p) s = execLatchLineStart p s := rfl
  unfold execLatchLineStart at hexec
  rw [hgroup] at hexec
  extract_lets ps begins s1 at hexec
  rw [if_neg (by simp [ps, hrun, hline, htiming]), each_singleton] at hexec
  extract_lets a b s2 q s3 at hexec
  have h1 : OnlyPair s s1 := (onlyPair_rfl s).hoLatch p
  have h2 : OnlyPair s s2 := (h1.setRole .A p a).setRole .B p b
  have h3 : OnlyPair s s3 := by
    unfold s3
    split
    · exact h2
    · exact (h2.putPair (F.PAIR_PORT_QUAL.at (4 * p)) 0 (by simp only [Fld.at, F.PAIR_PORT_QUAL]; omega)).setPort _ _
  clear_value s3
  have hmark (k : Half) : (s3.markerFor k p begins).tier = s.tier ∧ (s3.markerFor k p begins).role = s3.role k p ∧
      (s3.markerFor k p begins).frame = (s.get (pgScn p) F.SCN_FRAME_FRAME + 1) % 65536 := by
    refine ⟨h3.tier, rfl, ?_⟩
    simp only [State.markerFor, h3.frame]
  refine ⟨_, hexec, ⟨_, by rw [port_setPort_same], hmark .A⟩, ⟨_, by rw [port_setPort_same], hmark .B⟩, (h3.setPort _ _).2⟩

/-! ### BLEN and Holdover -/

theorem execBlenDelayExpiry_pending {p : Fin 8} {s : State} (h : (s.port p).blStart ≠ none) :
    execBlenDelayExpiry p s = .next (s.setPort p { s.port p with blStart := none, blWant := true, blen := !(s.darkHeld p) }) :=
  if_neg (by simpa using h)

/-- Settles O9: a port that is off or not at its line changes nothing; a line boundary and a frame boundary count, and every other part of
them keeps the counters. -/
theorem portTiming : Obligations.PortTiming := by
  refine ⟨fun h p ok s => ⟨fun hnone => execLinePacketArrival_none hnone ok, fun k hfind => linePacketArrival_some hfind ok⟩, ?_, ?_⟩
  · intro p s line
    refine ⟨fun hoff => ⟨execPortLineBoundary_off hoff, execLatchLineStart_off hoff, execPortFrameBoundary_off hoff⟩,
      execPortLineBoundary_beyond, fun hrun hgroup => execPortLineBoundary_atLine hrun hgroup rfl, execLatchLineStart_notDue,
      latchLineStart_marks, fun x hnot => execPortFrameBoundary_notDue hnot x,
      fun x hrun hgroup hfresh hline => execPortFrameBoundary_enters hrun hgroup hfresh hline x⟩
  · exact fun p s => ⟨fun hnone => if_pos (by simp [hnone]), execBlenDelayExpiry_pending,
      fun hheld => congrArg _ (if_pos hheld), fun hnot => congrArg _ (if_neg hnot)⟩

end Sys2Proof.Machine
end

section
/-! SUPPORT. The commands of the ARM page (R51 to R53, R55, R59): what the frame of a command does, and what an answer leaves unchanged. -/

namespace Sys2Proof.Machine

/-! ## The meanings -/

theorem exec_armWrite (rq : Requester) (slot : Fin 2) (s : State) : exec (.armWrite rq slot) s = execArmWrite rq slot s := rfl
theorem exec_armVerify (rq : Requester) (slot : Fin 2) (s : State) : exec (.armVerify rq slot) s = execArmVerify rq slot s := rfl
theorem exec_armErase (rq : Requester) (slot : Fin 2) (s : State) : exec (.armErase rq slot) s = execArmErase rq slot s := rfl
theorem exec_armRearm (rq : Requester) (slot : Fin 2) (s : State) : exec (.armRearm rq slot) s = execArmRearm rq slot s := rfl
theorem exec_armRaiseFloor (rq : Requester) (s : State) : exec (.armRaiseFloor rq) s = execArmRaiseFloor rq s := rfl
theorem exec_armAbort (rq : Requester) (s : State) : exec (.armAbort rq) s = execArmAbort rq s := rfl

/-! ## Registers of the ARM pages -/

theorem get_put_page (s : State) {p q : Pg} {f g : Fld} (v : Nat) (hp : p.code < 0x10000) (hq : q.code < 0x10000) (hf : f.off < 0x10000)
    (hg : g.off < 0x10000) (hne : q ≠ p) : (s.put p f v).get q g = s.get q g :=
  get_put_reg s v (key_ne_of_page hp hq hf hg hne)

theorem pgArmH_code_lt (h : Half) : (pgArmH h).code < 0x10000 := by cases h <;> decide

theorem pgArmH_ne_pgArm (h : Half) : pgArmH h ≠ pgArm := by cases h <;> decide

/-- A register of the shared ARM page under a write of a half's ARM page. -/
theorem get_put_pgArmH (s : State) (h : Half) {f g : Fld} (v : Nat) (hf : f.off < 0x10000) (hg : g.off < 0x10000) :
    (s.put (pgArmH h) f v).get pgArm g = s.get pgArm g :=
  get_put_page s v (pgArmH_code_lt h) (by decide) hf hg (pgArmH_ne_pgArm h).symm

/-- A register of a half's ARM page under a write of another register of that page. -/
theorem get_put_pgArmH_off (s : State) (h : Half) {f g : Fld} (v : Nat) (ho : g.off ≠ f.off) :
    (s.put (pgArmH h) f v).get (pgArmH h) g = s.get (pgArmH h) g :=
  get_put_reg s v (key_ne_of_off ho)

theorem slotOf_put_pgArmH (s : State) (h : Half) {f : Fld} (v : Nat) (hf : f.off < 0x10000) (d : Die) :
    (s.put (pgArmH h) f v).slotOf d = s.slotOf d := by
  cases d <;> exact get_put_pgArmH s h v hf (by decide)

theorem slotInForce_put_pgArmH (s : State) (h : Half) {f : Fld} (v : Nat) (hf : f.off < 0x10000) (k : Nat) :
    (s.put (pgArmH h) f v).slotInForce k = s.slotInForce k := by
  simp only [State.slotInForce, slotOf_put_pgArmH s h v hf]

@[simp] theorem ack_slotOf (s : State) (d : Die) : s.ack.slotOf d = s.slotOf d := by cases d <;> exact ack_get _ _ _

@[simp] theorem ack_slotInForce (s : State) (k : Nat) : s.ack.slotInForce k = s.slotInForce k := by
  simp only [State.slotInForce, ack_slotOf]

@[simp] theorem ack_rearm (s : State) : s.ack.rearm = s.rearm := rfl

theorem slotInForce_iff (s : State) (k : Nat) : s.slotInForce k = true ↔ s.slotOf .A = k ∨ s.slotOf .B = k ∨ s.slotOf .P = k := by
  simp only [State.slotInForce, Bool.or_eq_true, decide_eq_true_eq, or_assoc]

/-! ## The frame of a command (R52) -/

theorem armBusy_iff (s : State) : s.armBusy = true ↔ s.arm ≠ none ∨ s.rearm ≠ none := by
  simp [State.armBusy, Option.isSome_iff_ne_none]

theorem armBusy_eq_false_iff (s : State) : s.armBusy = false ↔ s.arm = none ∧ s.rearm = none := by
  rw [← Bool.not_eq_true, armBusy_iff]
  simp

section
variable {rq : Requester} {op : Nat} {s : State} {f : State → Res}

/-- An admitted command shows its OP; it is carried out where the control copies agree and no operation runs. -/
theorem armCommand_admitted (h : Admitted rq (pgArmH rq.half) s) :
    armCommand rq op s f =
      if s.copyFault then .next ((s.ack.put (pgArmH rq.half) F.ARM_STATUS_OP op).armAnswer rq.half 3)
      else if s.armBusy then .next ((s.ack.put (pgArmH rq.half) F.ARM_STATUS_OP op).armAnswer rq.half 1)
      else f (s.ack.put (pgArmH rq.half) F.ARM_STATUS_OP op) := hostWrite_admitted h _

theorem armCommand_copyFault (h : Admitted rq (pgArmH rq.half) s) (hc : s.copyFault = true) :
    armCommand rq op s f = .next ((s.ack.put (pgArmH rq.half) F.ARM_STATUS_OP op).armAnswer rq.half 3) := by
  rw [armCommand_admitted h, if_pos hc]

theorem armCommand_busy (h : Admitted rq (pgArmH rq.half) s) (hc : s.copyFault = false) (hb : s.armBusy = true) :
    armCommand rq op s f = .next ((s.ack.put (pgArmH rq.half) F.ARM_STATUS_OP op).armAnswer rq.half 1) := by
  rw [armCommand_admitted h, if_neg (by simp [hc]), if_pos hb]

theorem armCommand_free (h : Admitted rq (pgArmH rq.half) s) (hc : s.copyFault = false) (hb : s.armBusy = false) :
    armCommand rq op s f = f (s.ack.put (pgArmH rq.half) F.ARM_STATUS_OP op) := by
  rw [armCommand_admitted h, if_neg (by simp [hc]), if_neg (by simp [hb])]

end

/-! ## An answer -/

theorem armAnswer_sameMem (s : State) (h : Half) (r : Nat) : SameMem s (s.armAnswer h r) := sameMem_of rfl rfl rfl rfl rfl

/-- An answer writes one half's ARM page only. -/
theorem armAnswer_keepsRegs (s : State) (h : Half) (r : Nat) : KeepsRegs (fun p _ => p ≠ pgArmH h) s (s.armAnswer h r) :=
  (keepsRegs_put { s with start := { s.start with cause := r } } 1 (pgArmH_code_lt h) (by decide) (by simp)).trans
    (keepsRegs_put _ r (pgArmH_code_lt h) (by decide) (by simp))

/-- What an answer shows: DONE and RESULT are written. -/
theorem armAnswer_get (s : State) (h : Half) (r : Nat) (q : Pg) (g : Fld) : (s.armAnswer h r).get q g =
    ((s.put (pgArmH h) F.ARM_STATUS_DONE 1).put (pgArmH h) F.ARM_STATUS_RESULT r).get q g := rfl

theorem armAnswer_result (s : State) (h : Half) {r : Nat} (hr : r < 256) : (s.armAnswer h r).get (pgArmH h) F.ARM_STATUS_RESULT = r := by
  rw [armAnswer_get, get_put_same _ _ _ _ (by decide)]
  exact Nat.mod_eq_of_lt hr

theorem armAnswer_done (s : State) (h : Half) (r : Nat) : (s.armAnswer h r).flag (pgArmH h) F.ARM_STATUS_DONE = true := by
  rw [State.flag, armAnswer_get, get_put_field _ _ (by rfl) (by decide) (by decide), get_put_same _ _ _ _ (by decide)]
  rfl

theorem armAnswer_busy (s : State) (h : Half) (r : Nat) :
    (s.armAnswer h r).get (pgArmH h) F.ARM_STATUS_BUSY = s.get (pgArmH h) F.ARM_STATUS_BUSY := by
  rw [armAnswer_get, get_put_field _ _ (by rfl) (by decide) (by decide), get_put_field _ _ (by rfl) (by decide) (by decide)]

/-! ## A slot in force (R51) -/

/-- A WRITE or ERASE of a slot in force is answered at once, with SLOT_IN_FORCE where neither R15 nor R52 gives its own RESULT. -/
theorem exec_slotInForce {rq : Requester} {slot : Fin 2} {s : State} {c : Instr} (hc : c = .armWrite rq slot ∨ c = .armErase rq slot)
    (hadm : Admitted rq (pgArmH rq.half) s) (hforce : s.slotInForce slot = true) :
    ∃ op r, exec c s = .next ((s.ack.put (pgArmH rq.half) F.ARM_STATUS_OP op).armAnswer rq.half r) ∧
      (s.copyFault = false → s.armBusy = false → r = 2) := by
  have hcmd : ∃ op f, exec c s = armCommand rq op s f ∧
      ∀ t : State, t.slotInForce slot = true → f t = .next (t.armAnswer rq.half 2) := by
    rcases hc with rfl | rfl
    · rw [exec_armWrite]
      exact ⟨1, _, rfl, fun _ ht => if_pos ht⟩
    · rw [exec_armErase]
      exact ⟨3, _, rfl, fun _ ht => if_pos ht⟩
  obtain ⟨op, f, hexec, hf⟩ := hcmd
  cases hfault : s.copyFault with
  | true => exact ⟨op, 3, hexec.trans (armCommand_copyFault hadm hfault), by simp⟩
  | false =>
    cases hbusy : s.armBusy with
    | true => exact ⟨op, 1, hexec.trans (armCommand_busy hadm hfault hbusy), by simp⟩
    | false =>
      refine ⟨op, 2, hexec.trans ((armCommand_free hadm hfault hbusy).trans (hf _ ?_)), fun _ _ => rfl⟩
      rw [slotInForce_put_pgArmH _ _ _ (by decide), ack_slotInForce, hforce]

theorem ack_sameMem (s : State) : SameMem s s.ack := sameMem_of rfl rfl rfl rfl rfl

theorem put_sameMem (s : State) (p : Pg) (f : Fld) (v : Nat) : SameMem s (s.put p f v) := sameMem_of rfl rfl rfl rfl rfl

/-- A command that is answered at once changes the reply and the ARM page of its half only. -/
theorem ack_put_armAnswer_frame (s : State) (h : Half) (op r : Nat) :
    let t := (s.ack.put (pgArmH h) F.ARM_STATUS_OP op).armAnswer h r
    KeepsRegs (fun p _ => p ≠ pgArmH h) s t ∧ SameMem s t ∧ t.arm = s.arm ∧ t.rearm = s.rearm := by
  have hput : KeepsRegs (fun p _ => p ≠ pgArmH h) s.ack (s.ack.put (pgArmH h) F.ARM_STATUS_OP op) :=
    keepsRegs_put _ _ (pgArmH_code_lt h) (by decide) (by simp)
  have hmem := (ack_sameMem s).trans (put_sameMem s.ack (pgArmH h) F.ARM_STATUS_OP op)
  exact ⟨hput.trans (armAnswer_keepsRegs _ _ _), hmem.trans (armAnswer_sameMem _ _ _), rfl, rfl⟩

/-- Settles O57: the command is answered at once, and an answer changes the ARM page of its half only. -/
theorem slotInForce : Obligations.SlotInForce := by
  intro rq slot s c hc hadm hactive
  obtain ⟨op, r, hexec, hr⟩ := exec_slotInForce hc hadm ((slotInForce_iff s slot).2 hactive)
  obtain ⟨hregs, hmem, harm, hrearm⟩ := ack_put_armAnswer_frame s rq.half op r
  have hoff : (F.ARM_SLOT_STATE.at (4 * slot)).off < 0x10000 := by
    simp only [Fld.at, F.ARM_SLOT_STATE]
    omega
  refine ⟨_, hexec, hregs pgArm _ (by decide) hoff (pgArmH_ne_pgArm _).symm, hmem, harm, hrearm, fun hfault h1 h2 => ?_⟩
  obtain rfl := hr hfault ((armBusy_eq_false_iff s).2 ⟨h1, h2⟩)
  refine ⟨armAnswer_result _ _ (by decide), armAnswer_done _ _ _, (armAnswer_busy _ _ _).trans ?_⟩
  exact (get_put_field _ _ (by rfl) (by decide) (by decide)).trans (ack_get _ _ _)

end Sys2Proof.Machine
end

section
/-! SUPPORT. Each command of the ARM page where the control copies agree (R51 to R55, R59). -/

namespace Sys2Proof.Machine

section
variable {rq : Requester} {slot : Fin 2} {s : State}

/-- Every command other than ABORT has the frame of R52. -/
theorem exec_armCommand : ∀ c ∈ [(1, .armWrite rq slot), (2, .armVerify rq slot), (3, .armErase rq slot), (4, .armRearm rq slot),
    (5, Instr.armRaiseFloor rq)], ∃ f, exec c.2 s = armCommand rq c.1 s f := by
  simp only [List.mem_cons, List.not_mem_nil, or_false]
  rintro c (rfl | rfl | rfl | rfl | rfl)
  · exact ⟨_, exec_armWrite rq slot s⟩
  · exact ⟨_, exec_armVerify rq slot s⟩
  · exact ⟨_, exec_armErase rq slot s⟩
  · exact ⟨_, exec_armRearm rq slot s⟩
  · exact ⟨_, exec_armRaiseFloor rq s⟩

/-- A stop of a REARM while no handover runs takes effect at once. -/
theorem rearmFail_of_noHandover {a : Rearm} (ha : s.rearm = some a) (hho : s.hoRun = none) (result : Nat) :
    s.rearmFail result = State.rearmGo { s with rearm := some { a with stop := some (a.stop.getD result) } } := by
  simp [State.rearmFail, ha, hho, State.whenB]

section
variable (hadm : Admitted rq (pgArmH rq.half) s) (hfault : s.copyFault = false) (hbusy : s.armBusy = false)
include hadm hfault hbusy

theorem execArmWrite_range (hforce : s.slotInForce slot = false) {n : Nat} (hn : s.get (pgArmH rq.half) F.ARM_LEN_BLOCKS = n)
    (hrange : n < 4 ∨ 6144 < n) :
    execArmWrite rq slot s = .next ((s.ack.put (pgArmH rq.half) F.ARM_STATUS_OP 1).armWild rq.half slot) := by
  have hlen : (s.ack.put (pgArmH rq.half) F.ARM_STATUS_OP 1).get (pgArmH rq.half) F.ARM_LEN_BLOCKS = n :=
    (get_put_pgArmH_off _ _ _ (by decide)).trans hn
  refine (armCommand_free hadm hfault hbusy).trans ?_
  dsimp only
  rw [if_neg (by rw [slotInForce_put_pgArmH _ _ _ (by decide)]; simpa using hforce), hlen, if_pos (by simpa using hrange)]

theorem execArmWrite_start (hforce : s.slotInForce slot = false) {n : Nat} (hn : s.get (pgArmH rq.half) F.ARM_LEN_BLOCKS = n)
    (h4 : 4 ≤ n) (hmax : n ≤ 6144) :
    execArmWrite rq slot s = .next (((s.ack.put (pgArmH rq.half) F.ARM_STATUS_OP 1).armStart rq.half
      { source := .half rq.half, op := 1, slot := slot, pageBase := s.get (pgArmH rq.half) F.ARM_SRC_PAGE, blocks := n }).setSlotState slot 3) := by
  have hlen : (s.ack.put (pgArmH rq.half) F.ARM_STATUS_OP 1).get (pgArmH rq.half) F.ARM_LEN_BLOCKS = n :=
    (get_put_pgArmH_off _ _ _ (by decide)).trans hn
  have hsrc : (s.ack.put (pgArmH rq.half) F.ARM_STATUS_OP 1).get (pgArmH rq.half) F.ARM_SRC_PAGE = s.get (pgArmH rq.half) F.ARM_SRC_PAGE :=
    get_put_pgArmH_off _ _ _ (by decide)
  refine (armCommand_free hadm hfault hbusy).trans ?_
  dsimp only
  rw [if_neg (by rw [slotInForce_put_pgArmH _ _ _ (by decide)]; simpa using hforce), hlen, hsrc, if_neg (by simp; omega)]
  rfl

theorem execArmErase_start (hforce : s.slotInForce slot = false) :
    execArmErase rq slot s = .next (((s.ack.put (pgArmH rq.half) F.ARM_STATUS_OP 3).armStart rq.half
      { source := .half rq.half, op := 3, slot := slot }).setSlotState slot 3) := by
  refine (armCommand_free hadm hfault hbusy).trans (if_neg ?_)
  rw [slotInForce_put_pgArmH _ _ _ (by decide)]
  simpa using hforce

theorem execArmWriteErase_inForce (hforce : s.slotInForce slot = true) :
    execArmWrite rq slot s = .next ((s.ack.put (pgArmH rq.half) F.ARM_STATUS_OP 1).armAnswer rq.half 2) ∧
      execArmErase rq slot s = .next ((s.ack.put (pgArmH rq.half) F.ARM_STATUS_OP 3).armAnswer rq.half 2) := by
  constructor <;>
    exact (armCommand_free hadm hfault hbusy).trans (if_pos ((slotInForce_put_pgArmH _ _ _ (by decide) _).trans hforce))

theorem execArmRearm_inspection (h : s.insp ≠ none) :
    execArmRearm rq slot s = .next ((s.ack.put (pgArmH rq.half) F.ARM_STATUS_OP 4).armAnswer rq.half 1) :=
  (armCommand_free hadm hfault hbusy).trans (if_pos (Option.isSome_iff_ne_none.2 h))

theorem execArmRearm_start (h : s.insp = none) :
    execArmRearm rq slot s = .next (State.put { s.ack.put (pgArmH rq.half) F.ARM_STATUS_OP 4 with
      rearm := some { source := rq.half, slot := slot } } (pgArmH rq.half) F.ARM_STATUS_BUSY 1) :=
  (armCommand_free hadm hfault hbusy).trans (if_neg (by simp [State.ack, State.put, h]))

end

/-! ## RAISE_FLOOR -/

theorem flag_put_pgArmH (s : State) (h : Half) {f g : Fld} (v : Nat) (hf : f.off < 0x10000) (hg : g.off < 0x10000) :
    (s.put (pgArmH h) f v).flag pgArm g = s.flag pgArm g := by
  rw [State.flag, State.flag, get_put_pgArmH s h v hf hg]

theorem genInForce_put_pgArmH (s : State) (h : Half) {f : Fld} (v : Nat) (hf : f.off < 0x10000) (d : Die) :
    (s.put (pgArmH h) f v).genInForce d = s.genInForce d :=
  congrArg (fun k => s.imgGen (.slot k)) (slotOf_put_pgArmH s h v hf d)

theorem ack_genInForce (s : State) (d : Die) : s.ack.genInForce d = s.genInForce d :=
  congrArg (fun k => s.imgGen (.slot k)) (ack_slotOf s d)

theorem leNat_lt (bs : List Byte) : leNat bs < 256 ^ bs.length := by
  induction bs with
  | nil => decide
  | cons b r ih =>
    have hb : b.toNat < 256 := b.isLt
    simp only [leNat, List.length_cons, Nat.pow_succ]
    omega

/-- GEN has 16 bits. -/
theorem imgGen_lt (s : State) (k : Nat) : s.imgGen (.slot k) < 0x10000 :=
  (leNat_lt _).trans_eq (congrArg (256 ^ ·) (memBytes_length _ _ 2))

theorem armAnswer_get_pgArm (s : State) (h : Half) (r : Nat) {g : Fld} (hg : g.off < 0x10000) :
    (s.armAnswer h r).get pgArm g = s.get pgArm g :=
  congrArg g.ofWord (armAnswer_keepsRegs s h r pgArm g.off (by decide) hg (pgArmH_ne_pgArm h).symm)

@[simp] theorem setMram_get (s : State) (a : Nat) (bs : List Byte) (p : Pg) (f : Fld) : (s.setMram a bs).get p f = s.get p f := rfl

/-- The floor that RAISE_FLOOR stores. -/
def State.raisedFloor (s : State) : Nat := max (s.get pgArm F.ARM_FLOOR_FLOOR) (s.genInForce .P)

theorem raisedFloor_lt (s : State) : s.raisedFloor < 0x10000 := max_lt (get_lt s pgArm F.ARM_FLOOR_FLOOR) (imgGen_lt _ _)

/-- The state after a RAISE_FLOOR that is carried out. -/
def State.floorRaised (s : State) (h : Half) (v : Nat) : State :=
  ((s.put pgArm F.ARM_FLOOR_FLOOR v).setMram (storeBase + 0x30) (b2 v)).armAnswer h 0

theorem floorRaised_floor (s : State) (h : Half) {v : Nat} (hv : v < 0x10000) : (s.floorRaised h v).get pgArm F.ARM_FLOOR_FLOOR = v := by
  rw [State.floorRaised, armAnswer_get_pgArm _ _ _ (by decide), setMram_get, get_put_same _ _ _ _ (by decide)]
  exact Nat.mod_eq_of_lt hv

theorem floorRaised_mram (s : State) (h : Half) (v : Nat) : (s.floorRaised h v).mram = memSetBytes s.mram (storeBase + 0x30) (b2 v) := rfl

theorem b2_length (v : Nat) : (b2 v).length = 2 := leBytes_length 2 v

theorem execArmRaiseFloor_mixed (hadm : Admitted rq (pgArmH rq.half) s) (hfault : s.copyFault = false) (hbusy : s.armBusy = false)
    (h : s.flag pgArm F.ARM_ACTIVE_MIXED = true) :
    execArmRaiseFloor rq s = .next ((s.ack.put (pgArmH rq.half) F.ARM_STATUS_OP 5).armAnswer rq.half 1) :=
  (armCommand_free hadm hfault hbusy).trans (if_pos ((flag_put_pgArmH _ _ _ (by decide) (by decide)).trans h))

theorem execArmRaiseFloor_raise (hadm : Admitted rq (pgArmH rq.half) s) (hfault : s.copyFault = false) (hbusy : s.armBusy = false)
    (h : s.flag pgArm F.ARM_ACTIVE_MIXED = false) :
    execArmRaiseFloor rq s = .next ((s.ack.put (pgArmH rq.half) F.ARM_STATUS_OP 5).floorRaised rq.half s.raisedFloor) := by
  have hfloor : max ((s.ack.put (pgArmH rq.half) F.ARM_STATUS_OP 5).get pgArm F.ARM_FLOOR_FLOOR)
      ((s.ack.put (pgArmH rq.half) F.ARM_STATUS_OP 5).genInForce .P) = s.raisedFloor := by
    rw [get_put_pgArmH _ _ _ (by decide) (by decide), genInForce_put_pgArmH _ _ _ (by decide), ack_get, ack_genInForce, State.raisedFloor]
  refine (armCommand_free hadm hfault hbusy).trans ?_
  dsimp only
  rw [if_neg (by rw [flag_put_pgArmH _ _ _ (by decide) (by decide), ack_flag, h]; decide), hfloor]
  rfl

/-! ## ABORT (R52, R59) -/

section
variable (hadm : Admitted rq (pgArmH rq.half) s)
include hadm

theorem execArmAbort_copyFault (h : s.copyFault = true) :
    execArmAbort rq s = .next ((s.ack.put (pgArmH rq.half) F.ARM_STATUS_OP 6).armAnswer rq.half 3) := by
  simp only [execArmAbort, hostWrite_admitted hadm, put_copyFault, ack_copyFault, h, if_true]

variable (hfault : s.copyFault = false)
include hfault

theorem execArmAbort_noRearm (h : s.rearm = none) : execArmAbort rq s =
    .next ((s.ack.put (pgArmH rq.half) F.ARM_STATUS_OP 6).armAnswer rq.half (if s.arm.isSome then 1 else 0)) := by
  simp only [execArmAbort, hostWrite_admitted hadm, put_copyFault, ack_copyFault, put_rearm, ack_rearm, hfault, h, Bool.false_eq_true,
    if_false]
  rfl

theorem execArmAbort_late {a : Rearm} (ha : s.rearm = some a) (h : 3 ≤ a.step) :
    execArmAbort rq s = .next ((s.ack.put (pgArmH rq.half) F.ARM_STATUS_OP 6).armAnswer rq.half 1) := by
  simp only [execArmAbort, hostWrite_admitted hadm, put_copyFault, ack_copyFault, put_rearm, ack_rearm, hfault, ha, h, Bool.false_eq_true,
    if_false, if_true]

/-- The half whose REARM it is aborts it before step 3, while no handover runs. -/
theorem execArmAbort_early {a : Rearm} (ha : s.rearm = some a) (h : a.step < 3) (hown : a.source = rq.half) (hho : s.hoRun = none) :
    execArmAbort rq s = .next (State.rearmGo { s.ack.put (pgArmH rq.half) F.ARM_STATUS_OP 6 with
      rearm := some { a with stop := some (a.stop.getD 0xF) } }) := by
  have hstep : ¬3 ≤ a.step := by omega
  have hfail := rearmFail_of_noHandover (s := s.ack.put (pgArmH rq.half) F.ARM_STATUS_OP 6) ha hho 0xF
  simp only [execArmAbort, hostWrite_admitted hadm, put_copyFault, ack_copyFault, put_rearm, ack_rearm, hfault, ha, hstep, hown, hfail,
    State.whenB, ne_eq, not_true_eq_false, decide_false, Bool.false_eq_true, if_false]

end

end

/-- Settles O5: each command by its frame and, where it is carried out, by its own lemma. -/
theorem loaderCommands : Obligations.LoaderCommands := by
  intro rq slot s hadm
  refine ⟨fun hfault => ⟨?_, (exec_armAbort rq s).trans (execArmAbort_copyFault hadm hfault)⟩, fun hfault hbusy => ?_, fun hfault hfree => ?_,
    fun hfault => ⟨?_, ?_, ?_, ?_⟩⟩
  · intro c hc
    obtain ⟨f, hexec⟩ := exec_armCommand c hc
    exact hexec.trans (armCommand_copyFault hadm hfault)
  · intro c hc
    obtain ⟨f, hexec⟩ := exec_armCommand c hc
    exact hexec.trans (armCommand_busy hadm hfault ((armBusy_iff s).2 hbusy))
  · have hidle : s.armBusy = false := Bool.eq_false_iff.2 fun h => hfree ((armBusy_iff s).1 h)
    simp only [exec_armWrite, exec_armVerify, exec_armErase, exec_armRearm, exec_armRaiseFloor]
    refine ⟨execArmWriteErase_inForce hadm hfault hidle,
      fun hforce => ⟨execArmWrite_range hadm hfault hidle hforce rfl, execArmWrite_start hadm hfault hidle hforce rfl,
        execArmErase_start hadm hfault hidle hforce⟩,
      armCommand_free hadm hfault hidle, execArmRearm_inspection hadm hfault hidle, execArmRearm_start hadm hfault hidle,
      execArmRaiseFloor_mixed hadm hfault hidle, fun hmixed => ?_⟩
    refine ⟨_, (exec_armRaiseFloor rq s).trans (execArmRaiseFloor_raise hadm hfault hidle hmixed),
      floorRaised_floor _ _ (raisedFloor_lt s), ?_, armAnswer_result _ _ (by decide), armAnswer_done _ _ _, fun a ha => ?_⟩
    · rw [floorRaised_mram, ← b2_length s.raisedFloor]
      exact memBytes_setBytes _ _ _
    · rw [floorRaised_mram, memByte_setBytes, b2_length, if_neg (by omega)]
      rfl
  · intro hrearm harm
    rw [exec_armAbort, execArmAbort_noRearm hadm hfault hrearm, harm]
    rfl
  · intro hrearm harm
    rw [exec_armAbort, execArmAbort_noRearm hadm hfault hrearm, if_pos (Option.isSome_iff_ne_none.2 harm)]
  · exact fun a ha hstep => (exec_armAbort rq s).trans (execArmAbort_late hadm hfault ha hstep)
  · exact fun a ha hstep hown hho => (exec_armAbort rq s).trans (execArmAbort_early hadm hfault ha hstep hown hho)

end Sys2Proof.Machine
end

section
/-! SUPPORT. The reads of the loader (R53): what noting a refused or faulty read leaves unchanged, and on what a read depends. -/

namespace Sys2Proof.Machine

/-- The region entries of a half and the states of its scratchpads, by which a read is admitted, are in `t` those of `s`. -/
def KeepsAdmission (h : Half) (s t : State) : Prop :=
  (∀ i w, i < 96 → w < 4 → t.rgn h i w = s.rgn h i w) ∧
    ∀ n, n < 4 → t.get (pgSpm h n) F.SPM_STATUS_STATE = s.get (pgSpm h n) F.SPM_STATUS_STATE

theorem keepsAdmission_of {h : Half} {s t : State} (hregs : t.regs = s.regs) : KeepsAdmission h s t := by
  constructor <;> intros <;> simp only [State.rgn, State.get, State.reg, hregs]

theorem KeepsAdmission.trans {h : Half} {s t u : State} (hst : KeepsAdmission h s t) (htu : KeepsAdmission h t u) : KeepsAdmission h s u :=
  ⟨fun i w hi hw => (htu.1 i w hi hw).trans (hst.1 i w hi hw), fun n hn => (htu.2 n hn).trans (hst.2 n hn)⟩

/-- `t` is `s` but for registers that do not admit reads, the free values and the recorder. -/
def Notes (h : Half) (s t : State) : Prop := t = { s with regs := t.regs, free := t.free, pat := t.pat } ∧ KeepsAdmission h s t

theorem notes_rfl (h : Half) (s : State) : Notes h s s := ⟨rfl, keepsAdmission_of rfl⟩

theorem Notes.trans {h : Half} {s t u : State} (hst : Notes h s t) (htu : Notes h t u) : Notes h s u := by
  obtain ⟨heq, hadm⟩ := hst
  obtain ⟨heq', hadm'⟩ := htu
  rw [heq] at heq'
  exact ⟨heq', hadm.trans hadm'⟩

section
variable {h : Half} {r s : State}

theorem pgWld_code_lt (h : Half) : (pgWld h).code < 0x10000 := by cases h <;> decide

theorem pgSpm_code_lt (h : Half) {n : Nat} (hn : n < 4) : (pgSpm h n).code < 0x10000 := by
  simp only [pgSpm, halfPg]
  omega

/-- The registers that record a refusal lie below the region entries. -/
theorem Notes.putWld (hr : Notes h r s) (f : Fld) (v : Nat) (hf : f.off < 0x400) : Notes h r (s.put (pgWld h) f v) := by
  refine hr.trans ⟨rfl, fun i w hi hw => reg_setReg_ne _ _ (key_ne_of_off (by omega)), fun n hn => ?_⟩
  refine get_put_page s v (pgWld_code_lt h) (pgSpm_code_lt h hn) (by omega) (by decide) ?_
  simp only [pgSpm, pgWld, halfPg, ne_eq, Pg.mk.injEq, true_and]
  omega

theorem Notes.takeFree (hr : Notes h r s) : Notes h r s.takeFree.2 := hr.trans ⟨rfl, keepsAdmission_of rfl⟩

theorem Notes.event (hr : Notes h r s) (src code : Nat) (data : List Byte) (trig host : Bool) : Notes h r (s.event src code data trig host) := by
  obtain ⟨heq, hregs⟩ := event_only s src code data trig host
  have hne (c : Nat) : halfPg h c ≠ pgPat := by cases h <;> simp [halfPg, Half.die, pgPat, plinthPg]
  have hfree : (s.event src code data trig host).free = s.free := by rw [heq]
  refine hr.trans ⟨by rw [hfree]; exact heq, fun i w hi hw => hregs _ _ (pgWld_code_lt h) (by omega) (hne _), fun n hn => ?_⟩
  exact congrArg F.SPM_STATUS_STATE.ofWord (hregs _ _ (pgSpm_code_lt h hn) (by decide) (hne _))

theorem notes_ite {c : Prop} [Decidable c] {t u : State} (ht : Notes h r t) (hu : Notes h r u) : Notes h r (if c then t else u) := by
  split <;> assumption

theorem Notes.whenB (hr : Notes h r s) {c : Bool} {f : State → State} (hf : Notes h r (f s)) : Notes h r (s.whenB c f) := notes_ite hf hr

theorem Notes.each (hr : Notes h r s) {α : Type} {xs : List α} {f : α → State → State} (hf : ∀ x t, Notes h r t → Notes h r (f x t)) :
    Notes h r (s.each xs f) := by
  unfold State.each
  induction xs generalizing s with
  | nil => exact hr
  | cons x l ih => exact ih (hf x s hr)

theorem Notes.refuse (hr : Notes h r s) (t : Tag) (k : AccKind) (b : Nat) : Notes h r (s.refuse h t k b) := by
  unfold State.refuse
  extract_lets p first s1
  have h1 : Notes h r s1 := hr.putWld _ _ (by decide)
  refine h1.whenB ?_
  extract_lets s2 s3 s4 s5 s6 s7
  have h4 : Notes h r s4 := ((h1.putWld _ _ (by decide)).putWld _ _ (by decide)).putWld _ _ (by decide)
  have h5 : Notes h r s5 := notes_ite (h4.putWld _ _ (by decide)) (h4.takeFree.putWld _ _ (by decide))
  have h7 : Notes h r s7 := (h5.putWld _ _ (by decide)).putWld _ _ (by decide)
  exact h7.event _ _ _ _ _

/-- UE shares its register with STATE, and no register of another place is written. -/
theorem Notes.spmUeNote (hr : Notes h r s) (n : Nat) (port : Bool) (w : Nat) : Notes h r (s.spmUeNote h n port w) := by
  have hput : Notes h r (s.put (pgSpm h n) F.SPM_STATUS_UE 1) := by
    refine hr.trans ⟨rfl, fun i w hi hw => reg_setReg_ne _ _ ?_, fun m hm => get_put s _ _ _ _ _ (by decide) ?_⟩
    · simp only [Pg.key, F.SPM_STATUS_UE]
      omega
    · by_cases hmn : m = n
      · exact .inr ⟨by rw [hmn], rfl, by decide⟩
      · refine .inl ?_
        simp only [Pg.key, pgSpm, halfPg, F.SPM_STATUS_UE, F.SPM_STATUS_STATE]
        omega
  exact hput.event _ _ _ _ _

/-- What a read leaves beside its data does not change what a later read gives. -/
theorem noteRead_notes (h : Half) (s : State) (t : Tag) (k : AccKind) (a n : Nat) : Notes h s (s.noteRead h t k a n) :=
  ((notes_rfl h s).each fun _ _ hu => hu.refuse _ _ _).each fun _ _ hu => hu.spmUeNote _ _ _

end

/-! ## On what a read depends -/

/-- A read of a half by the loader finds in `t` what it finds in `s`. -/
structure ReadsAlike (h : Half) (s t : State) : Prop where
  admission : KeepsAdmission h s t
  units : t.hs h = s.hs h
  dram : t.dram h = s.dram h
  spm : t.spm h = s.spm h

theorem ReadsAlike.trans {h : Half} {s t u : State} (hst : ReadsAlike h s t) (htu : ReadsAlike h t u) : ReadsAlike h s u :=
  ⟨hst.admission.trans htu.admission, htu.units.trans hst.units, htu.dram.trans hst.dram, htu.spm.trans hst.spm⟩

theorem Notes.readsAlike {h : Half} {s t : State} (hn : Notes h s t) : ReadsAlike h s t := by
  obtain ⟨heq, hadm⟩ := hn
  refine ⟨hadm, ?_, ?_, ?_⟩ <;> rw [heq] <;> cases h <;> rfl

theorem readsAlike_setMram (h : Half) (s : State) (a : Nat) (bs : List Byte) : ReadsAlike h s (s.setMram a bs) :=
  ⟨keepsAdmission_of rfl, by cases h <;> rfl, by cases h <;> rfl, by cases h <;> rfl⟩

theorem readsAlike_arm (h : Half) (s : State) (v : Option ArmOp) : ReadsAlike h s { s with arm := v } :=
  ⟨keepsAdmission_of rfl, by cases h <;> rfl, by cases h <;> rfl, by cases h <;> rfl⟩

theorem any_congr_of_mem {α : Type} {l : List α} {p q : α → Bool} (h : ∀ x ∈ l, p x = q x) : l.any p = l.any q := by
  rw [Bool.eq_iff_iff, List.any_eq_true, List.any_eq_true]
  exact exists_congr fun x => and_congr_right fun hx => by rw [h x hx]

/-- The entries of a controller are among the 96, and the scratchpad's addresses fall into four units. -/
theorem ctrlOf_bounds {b c lo n : Nat} (hb : ctrlOf b = some (c, lo, n)) : lo + n ≤ 96 ∧ (c = 1 → (b - spmBase) / 0x400000 < 4) := by
  unfold ctrlOf at hb
  split at hb
  · cases hb
    exact ⟨by decide, fun h => by omega⟩
  · split at hb
    · rename_i hspm
      cases hb
      have hsize := hspm.2
      simp only [spmSize] at hsize
      exact ⟨by decide, fun _ => by omega⟩
    · split at hb
      · cases hb
        exact ⟨by decide, fun h => by omega⟩
      · cases hb

section
variable {h : Half} {s t : State} (ha : ReadsAlike h s t)
include ha

theorem rgnCovers_congr (b : Nat) {i : Nat} (hi : i < 96) : t.rgnCovers h b i = s.rgnCovers h b i := by
  simp only [State.rgnCovers, ha.admission.1 i _ hi (show 0 < 4 by decide), ha.admission.1 i _ hi (show 1 < 4 by decide),
    ha.admission.1 i _ hi (show 2 < 4 by decide)]

theorem rgnAdmits_congr (tag : Tag) (k : AccKind) {i : Nat} (hi : i < 96) : t.rgnAdmits h tag k i = s.rgnAdmits h tag k i := by
  simp only [State.rgnAdmits, ha.admission.1 i _ hi (show 2 < 4 by decide)]

theorem admitBlock_congr (b : Nat) : t.admitBlock h tagTrusted .read b = s.admitBlock h tagTrusted .read b := by
  cases hb : ctrlOf b with
  | none => simp only [State.admitBlock, hb]
  | some e =>
    obtain ⟨c, lo, n⟩ := e
    obtain ⟨hlo, hspm⟩ := ctrlOf_bounds hb
    have hentry : ∀ i ∈ List.range' lo n, i < 96 := fun i hi => by
      have := List.mem_range'_1.1 hi
      omega
    have hcover : (List.range' lo n).filter (t.rgnCovers h b) = (List.range' lo n).filter (s.rgnCovers h b) :=
      List.filter_congr fun i hi => rgnCovers_congr ha b (hentry i hi)
    have hany : ((List.range' lo n).filter (s.rgnCovers h b)).any (t.rgnAdmits h tagTrusted .read) =
        ((List.range' lo n).filter (s.rgnCovers h b)).any (s.rgnAdmits h tagTrusted .read) :=
      any_congr_of_mem fun i hi => rgnAdmits_congr ha _ _ (hentry i (List.mem_filter.1 hi).1)
    have hmirror : tagTrusted.mirror = false := rfl
    simp only [State.admitBlock, hb, hmirror, hcover, hany, Bool.false_eq_true, if_false, ne_eq, reduceCtorEq, not_false_eq_true,
      decide_true, Bool.or_true, Bool.true_or, Bool.and_true]
    by_cases hc : c = 1
    · rw [ha.admission.2 _ (hspm hc)]
    · simp only [hc, not_false_eq_true, decide_true, Bool.true_or]

theorem spmUe_congr (a : Nat) : t.spmUe h a = s.spmUe h a := by
  simp only [State.spmUe, State.spmBad, State.spmU, ha.units]

theorem bytesAt_congr (a n : Nat) : t.bytesAt h tagTrusted .read a n = s.bytesAt h tagTrusted .read a n := by
  simp only [State.bytesAt, State.byteAt, admitBlock_congr ha, spmUe_congr ha, ha.dram, ha.spm]

end

end Sys2Proof.Machine
end

section
/-! SUPPORT. The copies of the loader (R53, R459). -/

namespace Sys2Proof.Machine

/-- `t` is `s` with blocks copied for `o`: MRAM and what reads note have changed, and the source of `o` reads as before. -/
def Copied (o : ArmOp) (s t : State) : Prop :=
  t = { s with regs := t.regs, free := t.free, pat := t.pat, mram := t.mram } ∧ ∀ h, o.source = .half h → ReadsAlike h s t

theorem copied_rfl (o : ArmOp) (s : State) : Copied o s s := ⟨rfl, fun h _ => (notes_rfl h s).readsAlike⟩

theorem Copied.trans {o : ArmOp} {s t u : State} (hst : Copied o s t) (htu : Copied o t u) : Copied o s u := by
  obtain ⟨heq, hsrc⟩ := hst
  obtain ⟨heq', hsrc'⟩ := htu
  rw [heq] at heq'
  exact ⟨heq', fun h ho => (hsrc h ho).trans (hsrc' h ho)⟩

theorem armBlock_congr {o : ArmOp} {s t : State} (h : ∀ k, o.source = .half k → ReadsAlike k s t) (k : Nat) : t.armBlock o k = s.armBlock o k := by
  unfold State.armBlock
  split
  next hsrc => exact bytesAt_congr (h _ hsrc) _ _
  · rfl

theorem armBlock_length (s : State) (o : ArmOp) (k : Nat) : (s.armBlock o k).length = 4096 := by
  unfold State.armBlock
  split
  · simp [State.bytesAt]
  · simp

/-- A block goes from the source to its place in the slot. -/
theorem armCopy_spec (s : State) (o : ArmOp) (k : Nat) :
    Copied o s (s.armCopy o k) ∧ (s.armCopy o k).mram = memSetBytes s.mram (slotBase o.slot + 4096 * k) (s.armBlock o k) := by
  have hwrite {u : State} (hu : u = { s with regs := u.regs, free := u.free, pat := u.pat })
      (hsrc : ∀ h, o.source = .half h → ReadsAlike h s u) :
      Copied o s (u.setMram (slotBase o.slot + 4096 * k) (s.armBlock o k)) ∧
        (u.setMram (slotBase o.slot + 4096 * k) (s.armBlock o k)).mram = memSetBytes s.mram (slotBase o.slot + 4096 * k) (s.armBlock o k) := by
    refine ⟨⟨?_, fun h ho => (hsrc h ho).trans (readsAlike_setMram h _ _ _)⟩, ?_⟩
    · rw [hu]
      rfl
    · rw [State.setMram, congrArg State.mram hu]
  unfold State.armCopy
  cases hsource : o.source with
  | half h =>
    have hnote := noteRead_notes h s tagTrusted .read (o.pageBase * 4096 + 4096 * k) 4096
    refine hwrite hnote.1 fun h' hh' => ?_
    cases hsource.symm.trans hh'
    exact hnote.readsAlike
  | start => exact hwrite rfl fun h hh => by simp [hsource] at hh
  | service => exact hwrite rfl fun h hh => by simp [hsource] at hh

/-- Blocks `a` to `a + n - 1` copied in order: each holds what the source gives, and MRAM beside them stays. -/
theorem armCopies_spec (o : ArmOp) (n : Nat) (a : Nat) (s : State) :
    let t := s.each (List.range' a n) fun k s => s.armCopy o k
    Copied o s t ∧ (∀ k, a ≤ k → k < a + n → memBytes t.mram (slotBase o.slot + 4096 * k) 4096 = s.armBlock o k) ∧
      ∀ i, i < slotBase o.slot + 4096 * a ∨ slotBase o.slot + 4096 * (a + n) ≤ i → memByte t.mram i = memByte s.mram i := by
  induction n generalizing a s with
  | zero => exact ⟨copied_rfl o s, fun k h1 h2 => by omega, fun _ _ => rfl⟩
  | succ n ih =>
    obtain ⟨hfirst, hmram⟩ := armCopy_spec s o a
    obtain ⟨hrest, hblocks, hbeside⟩ := ih (a + 1) (s.armCopy o a)
    have hlen := armBlock_length s o a
    refine ⟨hfirst.trans hrest, fun k h1 h2 => ?_, fun i hi => ?_⟩
    · by_cases hk : k = a
      · subst hk
        calc memBytes _ (slotBase o.slot + 4096 * k) 4096
          _ = memBytes (s.armCopy o k).mram (slotBase o.slot + 4096 * k) 4096 := memBytes_congr fun i _ _ => hbeside i (by omega)
          _ = memBytes (memSetBytes s.mram (slotBase o.slot + 4096 * k) (s.armBlock o k)) (slotBase o.slot + 4096 * k)
                (s.armBlock o k).length := by rw [hmram, hlen]
          _ = s.armBlock o k := memBytes_setBytes _ _ _
      · exact (hblocks k (by omega) (by omega)).trans (armBlock_congr hfirst.2 k)
    · refine (hbeside i (by omega)).trans ?_
      rw [hmram, memByte_setBytes, hlen, if_neg (by omega)]

end Sys2Proof.Machine
end

section
/-! SUPPORT. The ends of the loader's operations (R41, R43, R51 to R53) and the scrub (R44). -/

namespace Sys2Proof.Machine

/-! ## The slot registers -/

@[simp] theorem Fld.at_lsb (f : Fld) (d : Nat) : (f.at d).lsb = f.lsb := rfl
@[simp] theorem Fld.at_width (f : Fld) (d : Nat) : (f.at d).width = f.width := rfl

theorem slotReg_off {f : Fld} {k : Nat} (hf : f.off < 0x100) (hk : k < 2) : (f.at (4 * k)).off < 0x10000 := by
  simp only [Fld.at]
  omega

theorem get_of_keepsArm {s t : State} (h : KeepsRegs (fun p _ => p = pgArm) s t) (g : Fld) (hg : g.off < 0x10000) :
    t.get pgArm g = s.get pgArm g :=
  congrArg g.ofWord (h pgArm g.off (by decide) hg rfl)

/-- What leaves the registers of the shared ARM page shows the slots as before. -/
theorem slotState_of_keepsArm {s t : State} {k : Nat} (h : KeepsRegs (fun p _ => p = pgArm) s t) (hk : k < 2) : t.slotState k = s.slotState k :=
  get_of_keepsArm h (F.ARM_SLOT_STATE.at (4 * k)) (slotReg_off (by decide) hk)

theorem slotGen_of_keepsArm {s t : State} {k : Nat} (h : KeepsRegs (fun p _ => p = pgArm) s t) (hk : k < 2) : t.slotGen k = s.slotGen k :=
  get_of_keepsArm h (F.ARM_SLOT_GEN.at (4 * k)) (slotReg_off (by decide) hk)

theorem slotState_setSlotState (s : State) (k : Nat) {v : Nat} (hv : v < 8) : (s.setSlotState k v).slotState k = v := by
  rw [State.slotState, State.setSlotState, get_put_same _ _ _ _ (by simp only [Fld.at_lsb, Fld.at_width]; decide), Fld.at_width]
  exact Nat.mod_eq_of_lt hv

theorem slotGen_setSlotState (s : State) (k v : Nat) : (s.setSlotState k v).slotGen k = s.slotGen k :=
  get_put_field s v (by rfl) (by simp only [Fld.at_lsb, Fld.at_width]; decide) (by simp only [Fld.at_lsb, Fld.at_width]; decide)

theorem slotGen_setSlotGen (s : State) (k : Nat) {v : Nat} (hv : v < 0x10000) : (s.setSlotGen k v).slotGen k = v := by
  rw [State.slotGen, State.setSlotGen, get_put_same _ _ _ _ (by simp only [Fld.at_lsb, Fld.at_width]; decide), Fld.at_width]
  exact Nat.mod_eq_of_lt hv

theorem slotState_setSlotGen (s : State) (k v : Nat) : (s.setSlotGen k v).slotState k = s.slotState k :=
  get_put_field s v (by rfl) (by simp only [Fld.at_lsb, Fld.at_width]; decide) (by simp only [Fld.at_lsb, Fld.at_width]; decide)

theorem loaderEvent_keepsArm (s : State) (slot result step block typ diff : Nat) :
    KeepsRegs (fun p _ => p = pgArm) s (s.loaderEvent slot result step block typ diff) :=
  (event_only s _ _ _ _ _).2.mono fun p _ hp => by rw [hp]; decide

/-! ## The end of an operation -/

@[simp] theorem armEnd_arm (s : State) (src : ArmSource) (result : Nat) : (s.armEnd src result).arm = none := by
  unfold State.armEnd
  cases src with
  | half h =>
    dsimp only
    split <;> simp
  | _ => rfl

@[simp] theorem armEnd_mram (s : State) (src : ArmSource) (result : Nat) : (s.armEnd src result).mram = s.mram := by
  unfold State.armEnd
  cases src with
  | half h =>
    dsimp only
    split <;> simp
  | _ => rfl

/-- The registers after a write are a function of those before it. -/
theorem put_regs_congr {s t : State} (h : s.regs = t.regs) (p : Pg) (f : Fld) (v : Nat) : (s.put p f v).regs = (t.put p f v).regs := by
  simp only [State.put, State.setReg, State.reg, h]

theorem reg_congr {s t : State} (h : s.regs = t.regs) (p : Pg) (o : Nat) : s.reg p o = t.reg p o := by
  simp only [State.reg, h]

/-- What the end of a half's operation shows in ARM_STATUS. -/
theorem armEnd_reg (s : State) (h : Half) (result : Nat) (q : Pg) (o : Nat) : (s.armEnd (.half h) result).reg q o =
    (((s.put (pgArmH h) F.ARM_STATUS_BUSY 0).put (pgArmH h) F.ARM_STATUS_DONE 1).put (pgArmH h) F.ARM_STATUS_RESULT result).reg q o := by
  have hregs {u : State} (hu : u.regs = s.regs) := put_regs_congr (put_regs_congr (put_regs_congr hu (pgArmH h) F.ARM_STATUS_BUSY 0)
    (pgArmH h) F.ARM_STATUS_DONE 1) (pgArmH h) F.ARM_STATUS_RESULT result
  unfold State.armEnd
  dsimp only
  split
  · rw [raise_r_reg]
    exact reg_congr (hregs rfl) q o
  · rw [setHs_r_reg]
    exact reg_congr (hregs rfl) q o

theorem armEnd_get (s : State) (h : Half) (result : Nat) (q : Pg) (g : Fld) : (s.armEnd (.half h) result).get q g =
    (((s.put (pgArmH h) F.ARM_STATUS_BUSY 0).put (pgArmH h) F.ARM_STATUS_DONE 1).put (pgArmH h) F.ARM_STATUS_RESULT result).get q g :=
  congrArg g.ofWord (armEnd_reg s h result q g.off)

theorem armEnd_keepsArm (s : State) (src : ArmSource) (result : Nat) : KeepsRegs (fun p _ => p = pgArm) s (s.armEnd src result) := by
  cases src with
  | half h =>
    have hput (u : State) (f : Fld) (v : Nat) (hf : f.off < 0x10000) : KeepsRegs (fun p _ => p = pgArm) u (u.put (pgArmH h) f v) :=
      keepsRegs_put u v (pgArmH_code_lt h) hf (pgArmH_ne_pgArm h)
    intro p o hp ho hk
    rw [armEnd_reg]
    exact (((hput s _ 0 (by decide)).trans (hput _ _ 1 (by decide))).trans (hput _ _ result (by decide))) p o hp ho hk
  | start => exact keepsRegs_of rfl
  | service => exact keepsRegs_of rfl

theorem armEnd_result (s : State) (h : Half) {result : Nat} (hr : result < 256) :
    (s.armEnd (.half h) result).get (pgArmH h) F.ARM_STATUS_RESULT = result := by
  rw [armEnd_get, get_put_same _ _ _ _ (by decide)]
  exact Nat.mod_eq_of_lt hr

theorem armEnd_done (s : State) (h : Half) (result : Nat) : (s.armEnd (.half h) result).flag (pgArmH h) F.ARM_STATUS_DONE = true := by
  rw [State.flag, armEnd_get, get_put_field _ _ (by rfl) (by decide) (by decide), get_put_same _ _ _ _ (by decide)]
  rfl

theorem armEnd_busy (s : State) (h : Half) (result : Nat) : (s.armEnd (.half h) result).flag (pgArmH h) F.ARM_STATUS_BUSY = false := by
  rw [State.flag, armEnd_get, get_put_field _ _ (by rfl) (by decide) (by decide), get_put_field _ _ (by rfl) (by decide) (by decide),
    get_put_same _ _ _ _ (by decide)]
  rfl

theorem armBroken_mram (s : State) (o : ArmOp) : (s.armBroken o).mram = s.mram := armEnd_mram _ _ _

/-! ## The end of a check (R41, R43) -/

/-- A RESULT fits its field. -/
def FitsResult (r : Nat × Nat) : Prop := r.1 < 256

theorem fitsResult_of {n : Nat} (h : n < 256) (b : Nat) : FitsResult (n, b) := h

theorem fitsResult_ite {c : Prop} [Decidable c] {x y : Nat × Nat} (hx : FitsResult x) (hy : FitsResult y) : FitsResult (if c then x else y) := by
  split <;> assumption

theorem streamCheck_fits (s : State) (i : ImgAt) : FitsResult (s.streamCheck i) := by
  rw [State.streamCheck]
  split
  · exact fitsResult_of (by decide) _
  · exact fitsResult_of (by decide) _
  · exact fitsResult_of (by decide) _
  · exact fitsResult_ite (fitsResult_of (by decide) _) (fitsResult_of (by decide) _)

theorem imgCheck_fits (s : State) (i : ImgAt) : FitsResult (s.imgCheck i) := by
  rw [State.imgCheck]
  exact fitsResult_ite (fitsResult_of (by decide) _) <| fitsResult_ite (fitsResult_of (by decide) _) <|
    fitsResult_ite (fitsResult_of (by decide) _) <| fitsResult_ite (fitsResult_of (by decide) _) <|
    fitsResult_ite (fitsResult_of (by decide) _) <| fitsResult_ite (fitsResult_of (by decide) _) <|
    fitsResult_ite (fitsResult_of (by decide) _) (streamCheck_fits s i)

theorem slotChecked_slotState (s : State) {k : Nat} (hk : k < 2) (r : Nat × Nat) :
    (s.slotChecked k r).slotState k = if r.1 = 0 then 1 else 2 := by
  unfold State.slotChecked
  dsimp only
  split
  · exact slotState_setSlotState _ _ (by decide)
  · exact (slotState_of_keepsArm (loaderEvent_keepsArm _ _ _ _ _ _ _) hk).trans (slotState_setSlotState _ _ (by decide))

theorem slotChecked_slotGen (s : State) {k : Nat} (hk : k < 2) (r : Nat × Nat) :
    (s.slotChecked k r).slotGen k = s.imgGen (.slot k) := by
  have hgen (v : Nat) : ((s.setSlotGen k (s.imgGen (.slot k))).setSlotState k v).slotGen k = s.imgGen (.slot k) :=
    (slotGen_setSlotState _ _ _).trans (slotGen_setSlotGen _ _ (imgGen_lt s k))
  unfold State.slotChecked
  dsimp only
  split
  · exact hgen _
  · exact (slotGen_of_keepsArm (loaderEvent_keepsArm _ _ _ _ _ _ _) hk).trans (hgen _)

section
variable {s : State} {o : ArmOp} (harm : s.arm = some o)
include harm

theorem execLoaderCheckDone_idle (h : o.checking = false) : execLoaderCheckDone s = .next s := by
  simp only [execLoaderCheckDone, harm, h, Bool.not_false, if_true]

/-- The check that a command of a half began ends. -/
theorem execLoaderCheckDone_half {h : Half} (hcheck : o.checking = true) (hsrc : o.source = .half h) (hplace : o.inPlace = false) :
    execLoaderCheckDone s = .next (State.armEnd { s.slotChecked o.slot (s.imgCheck (.slot o.slot)) with
      start := { (s.slotChecked o.slot (s.imgCheck (.slot o.slot))).start with cause := (s.imgCheck (.slot o.slot)).1 } }
      (.half h) (s.imgCheck (.slot o.slot)).1) := by
  simp only [execLoaderCheckDone, harm, hcheck, hplace, hsrc, Bool.not_true, Bool.false_eq_true, if_false, Bool.false_and]

/-! ## Copies and erasures -/

theorem execArmCopyDone_other (h : o.op ≠ 1 ∨ o.checking = true ∨ o.copies = false) : execArmCopyDone s = .next s := by
  have hguard : (decide (o.op ≠ 1) || o.checking || !o.copies) = true := by simpa [or_assoc] using h
  simp only [execArmCopyDone, harm, hguard, if_true]

theorem execArmCopyDone_copy (hop : o.op = 1) (hcheck : o.checking = false) (hcopies : o.copies = true) : execArmCopyDone s =
    .next (if s.copyFault then s.armBroken o
      else { s.armCopyTo o (o.blocks * 4096) with arm := some { o with sent := o.blocks * 4096, checking := true } }) := by
  have hguard : (decide (o.op ≠ 1) || o.checking || !o.copies) = false := by simp [hop, hcheck, hcopies]
  simp only [execArmCopyDone, harm, hguard, Bool.false_eq_true, if_false]
  split <;> rfl

theorem execArmEraseDone_other (h : o.op ≠ 3) : execArmEraseDone s = .next s := by
  simp only [execArmEraseDone, harm, h, ne_eq, not_false_eq_true, if_true]

theorem execArmEraseDone_erase (hop : o.op = 3) : execArmEraseDone s =
    .next (if s.copyFault then s.armBroken o
      else ((State.setSlotState { s with mram := memClear s.mram (slotBase o.slot) slotSize } o.slot 4).setSlotGen o.slot 0).armEnd o.source 0) := by
  simp only [execArmEraseDone, harm, hop, ne_eq, not_true_eq_false, if_false]
  split <;> rfl

end

/-- A byte of a cleared memory. -/
theorem memByte_memClear (m : List Host.Cell) (a n i : Nat) : memByte (memClear m a n) i = if a ≤ i ∧ i < a + n then 0 else memByte m i := by
  rw [memByte, tblGet, memClear, tblFind_keep]
  by_cases h : a ≤ i ∧ i < a + n
  · simp [h, byteZero]
  · have h' : i < a ∨ a + n ≤ i := by omega
    simp [h, h', memByte, tblGet]

theorem Copied.halves {o : ArmOp} {s t : State} (h : Copied o s t) :
    t.dramA = s.dramA ∧ t.dramB = s.dramB ∧ t.spmA = s.spmA ∧ t.spmB = s.spmB := by
  obtain ⟨heq, -⟩ := h
  refine ⟨?_, ?_, ?_, ?_⟩ <;> rw [heq]

/-- What is left of a copy is its blocks from the first that is not wholly in the slot on. -/
theorem armCopyTo_eq (s : State) (o : ArmOp) (n : Nat) : s.armCopyTo o (n * 4096) =
    State.each { s with arm := some { o with sent := n * 4096 } } (List.range' (o.sent / 4096) (n - o.sent / 4096))
      fun k s => s.armCopy o k := by
  rw [State.armCopyTo, Nat.mul_div_cancel n (by decide)]

/-- A finished copy: the blocks of the source lie in the slot, and nothing else of MRAM or of the halves' memories has changed. -/
theorem armCopyTo_spec (s : State) (o : ArmOp) :
    let t := s.armCopyTo o (o.blocks * 4096)
    (o.sent = 0 → ∀ k, k < o.blocks → memBytes t.mram (slotBase o.slot + 4096 * k) 4096 = s.armBlock o k) ∧
      (∀ a, a < slotBase o.slot ∨ slotBase o.slot + o.blocks * 4096 ≤ a → memByte t.mram a = memByte s.mram a) ∧
      t.dramA = s.dramA ∧ t.dramB = s.dramB ∧ t.spmA = s.spmA ∧ t.spmB = s.spmB := by
  rw [armCopyTo_eq]
  obtain ⟨hcopied, hblocks, hbeside⟩ := armCopies_spec o (o.blocks - o.sent / 4096) (o.sent / 4096)
    { s with arm := some { o with sent := o.blocks * 4096 } }
  refine ⟨fun hsent k hk => (hblocks k (by omega) (by omega)).trans ?_, fun a ha => hbeside a (by omega),
    hcopied.halves⟩
  exact armBlock_congr (fun h _ => readsAlike_arm h s _) k

/-! ## The scrub -/

/-- The block that a scrub finds bad in a slot. -/
def State.scrubFound (s : State) (k : Nat) : Option Nat :=
  if s.slotState k ≠ ssValid then none else if !(s.manifestOk (.slot k)) then some 0 else s.badBlock (.slot k)

/-- A slot with a bad block is Invalid, and the block is recorded. -/
def State.scrubMarked (s : State) (k : Nat) : Option Nat → State
  | none => s
  | some b => (s.setSlotState k ssInvalid).loaderEvent k 7 0 b 0 0

theorem scrubFound_eq_none_iff (s : State) (k : Nat) : s.scrubFound k = none ↔
    s.slotState k ≠ 1 ∨ s.manifestOk (.slot k) = true ∧ s.badBlock (.slot k) = none := by
  have hvalid : ssValid = 1 := rfl
  unfold State.scrubFound
  rw [hvalid]
  by_cases h : s.slotState k = 1 <;> by_cases hok : s.manifestOk (.slot k) = true <;> simp [h, hok]

theorem scrubMarked_slotState (s : State) {k : Nat} (hk : k < 2) (b : Nat) : (s.scrubMarked k (some b)).slotState k = 2 :=
  (slotState_of_keepsArm (loaderEvent_keepsArm _ _ _ _ _ _ _) hk).trans (slotState_setSlotState _ _ (by decide))

section
variable {s : State} {k : Nat} (hread : s.scrub.reading = some k)
include hread

theorem execScrubSlotDone_paused (h : s.armBusy = true) : execScrubSlotDone s = .next s := by
  simp only [execScrubSlotDone, hread, h, if_true]

theorem execScrubSlotDone_reading (h : s.armBusy = false) : execScrubSlotDone s =
    (let t := s.scrubMarked k (s.scrubFound k)
     .next { t with scrub := { t.scrub with reading := t.scrubNext (k + 1) } }) := by
  unfold execScrubSlotDone
  rw [hread]
  dsimp only
  rw [h]
  rfl

end

end Sys2Proof.Machine
end

section
/-! SUPPORT. The course of a REARM (R55, R57, R59): what goes on with it keeps its slot and source, and never begins its checks again. -/

namespace Sys2Proof.Machine

/-! ## What leaves the REARM as it is -/

theorem each_rearm {α : Type} {xs : List α} {f : α → State → State} (hf : ∀ x t, (f x t).rearm = t.rearm) (s : State) :
    (s.each xs f).rearm = s.rearm := by
  unfold State.each
  induction xs generalizing s with
  | nil => rfl
  | cons x l ih => exact (ih (f x s)).trans (hf x s)

theorem rearm_ite {c : Prop} [Decidable c] {t u : State} {r : Option Rearm} (ht : t.rearm = r) (hu : u.rearm = r) :
    (if c then t else u).rearm = r := by split <;> assumption

theorem whenB_rearm {c : Bool} {f : State → State} {s : State} (hf : (f s).rearm = s.rearm) : (s.whenB c f).rearm = s.rearm :=
  rearm_ite hf rfl

@[simp] theorem event_rearm (s : State) (src code : Nat) (data : List Byte) (trig host : Bool) :
    (s.event src code data trig host).rearm = s.rearm := by
  rw [(event_only s src code data trig host).1]

@[simp] theorem raiseBoth_rearm (s : State) (code : Nat) : (s.raiseBoth code).rearm = s.rearm :=
  (whenB_rearm (raise_rearm _ _)).trans (whenB_rearm (raise_rearm _ _))

theorem setModeTier_rearm (s : State) (mode tier : Nat) (t : ModeTrigger) : (s.setModeTier mode tier t).rearm = s.rearm := by
  have hshown (data : List Byte) : ((((s.put pgMod F.MOD_STATUS_MODE mode).put pgMod F.MOD_STATUS_TIER tier).event srcMode 0x0002
      data).raiseBoth 0x2000).rearm = s.rearm := by
    rw [raiseBoth_rearm, event_rearm, put_rearm, put_rearm]
  unfold State.setModeTier
  refine rearm_ite rfl (rearm_ite ?_ (hshown _))
  exact (whenB_rearm (by rfl)).trans (hshown _)

theorem refreshMode_rearm (s : State) (t : ModeTrigger) : (s.refreshMode t).rearm = s.rearm := by
  unfold State.refreshMode
  split
  · split
    · rfl
    · exact setModeTier_rearm _ _ _ _
  · rfl

@[simp] theorem refreshPairing_rearm (s : State) (t : ModeTrigger) : (s.refreshPairing t).rearm = s.rearm :=
  (refreshMode_rearm _ t).trans (put_rearm _ _ _ _)

@[simp] theorem hoStart_rearm (s : State) (source : HoSource) (target : Half) (ports : List Nat) :
    (s.hoStart source target ports).rearm = s.rearm := by
  unfold State.hoStart
  dsimp only
  rw [refreshPairing_rearm, put_rearm]
  exact each_rearm (fun _ _ => setPort_rearm _ _ _) s

theorem shedIssue_rearm (s : State) : s.shedIssue.rearm = s.rearm := by
  unfold State.shedIssue
  split
  · rfl
  · split
    · rfl
    · dsimp only
      split
      · rfl
      · exact hoStart_rearm _ _ _ _

@[simp] theorem pairDone_rearm (s : State) (result : Nat) : (s.pairDone result).rearm = s.rearm := rfl

@[simp] theorem halfResetReq_rearm (s : State) (h : Half) (cause : Nat) : (s.halfResetReq h cause).rearm = s.rearm := by
  unfold State.halfResetReq
  split
  · rfl
  · dsimp only
    rw [setHs_rearm, event_rearm]
    rfl

/-! ## What stops it at most -/

/-- The REARM of `s` goes on in `t`, or none does. -/
def KeepsOrStops (s t : State) : Prop := t.rearm = s.rearm ∨ t.rearm = none

theorem KeepsOrStops.trans {s t u : State} (h : KeepsOrStops s t) (k : KeepsOrStops t u) : KeepsOrStops s u := by
  rcases k with k | k
  · rcases h with h | h
    · exact .inl (k.trans h)
    · exact .inr (k.trans h)
  · exact .inr k

theorem KeepsOrStops.each {r s : State} (h : KeepsOrStops r s) {α : Type} {xs : List α} {f : α → State → State}
    (hf : ∀ x t, KeepsOrStops t (f x t)) : KeepsOrStops r (s.each xs f) := by
  unfold State.each
  induction xs generalizing s with
  | nil => exact h
  | cons x l ih => exact ih (h.trans (hf x s))

theorem keepsOrStops_whenB {s : State} {c : Bool} {f : State → State} (hf : KeepsOrStops s (f s)) : KeepsOrStops s (s.whenB c f) := by
  unfold State.whenB
  split
  · exact hf
  · exact .inl rfl

/-- The end of a request of handovers stops a REARM whose handovers they were where one of them failed or a stop is noted. -/
theorem hoSettle_keepsOrStops (s : State) : KeepsOrStops s s.hoSettle := by
  unfold State.hoSettle
  split
  · exact .inl rfl
  · split
    · exact .inl rfl
    · dsimp only
      unfold KeepsOrStops
      rw [shedIssue_rearm, refreshPairing_rearm]
      have hdone (c : Bool) (u : State) : (u.whenB c fun s => s.pairDone 7).rearm = u.rearm := whenB_rearm (pairDone_rearm _ _)
      split
      · exact .inl rfl
      · split
        · exact .inl (hdone _ _)
        · split
          · exact .inr (rearmStop_rearm _ _)
          · split
            · exact .inl (hdone _ _)
            · exact .inr (rearmStop_rearm _ _)
      · exact .inl (hdone _ _)

theorem hoEnd_keepsOrStops (s : State) (p result : Nat) : KeepsOrStops s (s.hoEnd p result) := by
  have hports (u : State) (ps : List Nat) : (u.each ps fun q s => s.setPort q { s.port q with ho := none }).rearm = u.rearm :=
    each_rearm (fun _ _ => setPort_rearm _ _ _) u
  unfold State.hoEnd
  split
  · exact .inl rfl
  · refine KeepsOrStops.trans (.inl ?_) (hoSettle_keepsOrStops _)
    split
    · exact hports s _
    · exact (whenB_rearm (hports _ _)).trans (hports s _)

theorem hoEndAll_keepsOrStops (s : State) (result : Nat) : KeepsOrStops s (s.hoEndAll result) :=
  KeepsOrStops.each (.inl rfl) fun p t => hoEnd_keepsOrStops t p result

/-! ## The REARM that goes on -/

/-- `b` is `a` gone on: the same slot and source, and not before its checks again. -/
def Rearm.GoneOn (a b : Rearm) : Prop := b.slot = a.slot ∧ b.source = a.source ∧ (a.step ≠ 1 → b.step ≠ 1)

theorem Rearm.GoneOn.rfl {a : Rearm} : a.GoneOn a := ⟨Eq.refl _, Eq.refl _, id⟩

/-- What REARM remains in `t`, if one does, is `a` gone on. -/
def GoesOn (a : Rearm) (t : State) : Prop := ∀ b, t.rearm = some b → a.GoneOn b

theorem goesOn_of_eq {a b : Rearm} {t : State} (ht : t.rearm = some b) (hab : a.GoneOn b) : GoesOn a t := fun c hc => by
  cases ht.symm.trans hc
  exact hab

theorem goesOn_of_none {a : Rearm} {t : State} (ht : t.rearm = none) : GoesOn a t := fun c hc => by
  cases ht.symm.trans hc

theorem goesOn_ite {a : Rearm} {c : Prop} [Decidable c] {t u : State} (ht : GoesOn a t) (hu : GoesOn a u) :
    GoesOn a (if c then t else u) := by split <;> assumption

theorem goesOn_rearmGo {s : State} {a : Rearm} (h : s.rearm = some a) : GoesOn a s.rearmGo := by
  have hsame : GoesOn a s := goesOn_of_eq h .rfl
  have hreset (k : Half) {b : Rearm} (hb : a.GoneOn b) : GoesOn a (State.halfResetReq { s with rearm := some b } k 8) :=
    goesOn_of_eq (halfResetReq_rearm _ _ _) hb
  have hswitch {b : Rearm} (hb : a.GoneOn b) : GoesOn a { s with rearm := some b } := goesOn_of_eq rfl hb
  unfold State.rearmGo
  rw [h]
  dsimp only
  cases a.stop with
  | some code => exact goesOn_ite hsame (goesOn_of_none (rearmStop_rearm _ _))
  | none =>
    refine goesOn_ite hsame <| goesOn_ite (hreset _ ?_) <| goesOn_ite (hreset _ ?_) <| goesOn_ite (hswitch ?_) hsame
    · exact ⟨rfl, rfl, fun _ => show 3 ≠ 1 by decide⟩
    · exact ⟨rfl, rfl, fun _ => show 6 ≠ 1 by decide⟩
    · exact ⟨rfl, rfl, fun _ => show 8 ≠ 1 by decide⟩

theorem goesOn_rearmGo_of_keepsOrStops {r s : State} {a : Rearm} (h : r.rearm = some a) (hk : KeepsOrStops r s) : GoesOn a s.rearmGo := by
  rcases hk with hk | hk
  · exact goesOn_rearmGo (hk.trans h)
  · refine goesOn_of_none ?_
    rw [State.rearmGo, hk]
    exact hk

theorem GoesOn.of_stop {a : Rearm} {stop : Option Nat} {t : State} (h : GoesOn { a with stop := stop } t) : GoesOn a t := h

theorem goesOn_rearmFail {s : State} {a : Rearm} (h : s.rearm = some a) (result : Nat) : GoesOn a (s.rearmFail result) := by
  have hnoted : State.rearm { s with rearm := some { a with stop := some (a.stop.getD result) } } =
      some { a with stop := some (a.stop.getD result) } := rfl
  unfold State.rearmFail
  rw [h]
  dsimp only
  refine GoesOn.of_stop (goesOn_rearmGo_of_keepsOrStops hnoted (keepsOrStops_whenB ?_))
  exact hoEndAll_keepsOrStops _ _

theorem rearmPlan_step (s : State) (slot : Nat) : (s.rearmPlan slot).2 ≠ 1 := by
  unfold State.rearmPlan
  dsimp only
  repeat' split
  all_goals decide

/-! ## The end of its checks (R55, R57) -/

section
variable {s : State} {a : Rearm} (ha : s.rearm = some a)
include ha

theorem execRearmChecksDone_other (h : a.step ≠ 1) : execRearmChecksDone s = .next s := by
  simp only [execRearmChecksDone, ha, h, ne_eq, not_false_eq_true, if_true]

theorem execRearmChecksDone_fail (h : a.step = 1) {r : Nat × Nat × Nat} (hr : s.rearmChecks a.slot = some r) :
    execRearmChecksDone s = .next (((if r.1 = 4 then s.put (pgArmH a.source) F.ARM_DIFF_OFFSET r.2.2 else s).loaderEvent a.slot 0xB r.1 0
      r.2.1 r.2.2).rearmStop 0xB) := by
  obtain ⟨step, typ, off⟩ := r
  simp only [execRearmChecksDone, ha, h, hr, ne_eq, not_true_eq_false, if_false, State.whenB, decide_eq_true_eq]

/-- Checks that pass lead to a later step or to the end of the REARM. -/
theorem execRearmChecksDone_pass (h : a.step = 1) (hr : s.rearmChecks a.slot = none) :
    ∃ t, execRearmChecksDone s = .next t ∧ ∀ b, t.rearm = some b → b.slot = a.slot ∧ b.source = a.source ∧ b.step ≠ 1 := by
  let a' : Rearm := { a with first := (s.rearmPlan a.slot).1, step := (s.rearmPlan a.slot).2 }
  have hgoes {t : State} (ht : GoesOn a' t) : ∀ b, t.rearm = some b → b.slot = a.slot ∧ b.source = a.source ∧ b.step ≠ 1 := fun b hb => by
    obtain ⟨hslot, hsource, hstep⟩ := ht b hb
    exact ⟨hslot, hsource, hstep (rearmPlan_step s a.slot)⟩
  have hrearm : State.rearm { s with rearm := some a' } = some a' := rfl
  simp only [execRearmChecksDone, ha, h, hr, ne_eq, not_true_eq_false, if_false]
  split
  · exact ⟨_, rfl, hgoes (goesOn_rearmGo hrearm)⟩
  · split
    · exact ⟨_, rfl, hgoes (goesOn_of_eq (hoStart_rearm _ _ _ _) .rfl)⟩
    · exact ⟨_, rfl, hgoes (goesOn_rearmFail hrearm _)⟩

/-! ## Its handovers and start windows (R59) -/

theorem execRearmHandoverIssue_not {p : Fin 8} (h : s.rearmMay a p = false) : execRearmHandoverIssue p s = .next s := by
  simp only [execRearmHandoverIssue, ha, h, Bool.and_false, Bool.false_and, Bool.false_eq_true, if_false]

theorem execRearmHandoverIssue_issue {p : Fin 8} (h : s.rearmMay a p = true) (hho : s.hoRun = none)
    (hq : ∀ q ∈ s.group p, s.qualified (Rearm.target a) q = true) :
    execRearmHandoverIssue p s = .next (s.hoStart .rearm (Rearm.target a) (s.group p)) := by
  have hall : ((s.group p).all fun q => s.qualified (Rearm.target a) q) = true := List.all_eq_true.2 hq
  simp only [execRearmHandoverIssue, ha, h, hho, hall, Bool.and_self, if_true]

theorem execRearmQualTimeout_eq (p : Fin 8) : execRearmQualTimeout p s = .next (if s.rearmMay a p then s.rearmFail 0x10 else s) := by
  simp only [execRearmQualTimeout, ha]

theorem execRearmStartWindowTimeout_none
    (hw : (if a.step = 3 ∨ a.step = 4 then some a.first else if a.step = 6 ∨ a.step = 7 then some (Half.other a.first) else none) = none) :
    execRearmStartWindowTimeout s = .next s := by
  simp only [execRearmStartWindowTimeout, ha, Bool.or_eq_true, decide_eq_true_eq, hw]

theorem execRearmStartWindowTimeout_some {h : Half}
    (hw : (if a.step = 3 ∨ a.step = 4 then some a.first else if a.step = 6 ∨ a.step = 7 then some (Half.other a.first) else none) = some h) :
    execRearmStartWindowTimeout s = .next (if s.halfState h = 3 then s else s.rearmFail 0x10) := by
  simp only [execRearmStartWindowTimeout, ha, Bool.or_eq_true, decide_eq_true_eq, hw]
  rfl

end

end Sys2Proof.Machine
end

section
/-! SUPPORT. The events of the loader's course (R41 to R44, R50 to R59), each by the meaning it has. -/

namespace Sys2Proof.Machine

theorem exec_armCopyDone (s : State) : exec .armCopyDone s = execArmCopyDone s := rfl
theorem exec_armEraseDone (s : State) : exec .armEraseDone s = execArmEraseDone s := rfl
theorem exec_loaderCheckDone (s : State) : exec .loaderCheckDone s = execLoaderCheckDone s := rfl
theorem exec_scrubDue (s : State) : exec .scrubDue s = execScrubDue s := rfl
theorem exec_scrubSlotDone (s : State) : exec .scrubSlotDone s = execScrubSlotDone s := rfl
theorem exec_rearmChecksDone (s : State) : exec .rearmChecksDone s = execRearmChecksDone s := rfl
theorem exec_rearmStartWindowTimeout (s : State) : exec .rearmStartWindowTimeout s = execRearmStartWindowTimeout s := rfl
theorem exec_rearmHandoverIssue (p : Fin 8) (s : State) : exec (.rearmHandoverIssue p) s = execRearmHandoverIssue p s := rfl
theorem exec_rearmQualTimeout (p : Fin 8) (s : State) : exec (.rearmQualTimeout p) s = execRearmQualTimeout p s := rfl

/-! ## No operation, no REARM -/

theorem exec_loader_none {s : State} (h : s.arm = none) : ∀ c ∈ [Instr.armCopyDone, .armEraseDone, .loaderCheckDone], exec c s = .next s := by
  simp only [List.mem_cons, List.not_mem_nil, or_false]
  rintro c (rfl | rfl | rfl)
  · simp only [exec_armCopyDone, execArmCopyDone, h]
  · simp only [exec_armEraseDone, execArmEraseDone, h]
  · simp only [exec_loaderCheckDone, execLoaderCheckDone, h]

theorem exec_rearm_none {s : State} (h : s.rearm = none) : ∀ c ∈ [Instr.rearmChecksDone, .rearmStartWindowTimeout], exec c s = .next s := by
  simp only [List.mem_cons, List.not_mem_nil, or_false]
  rintro c (rfl | rfl)
  · simp only [exec_rearmChecksDone, execRearmChecksDone, h]
  · simp only [exec_rearmStartWindowTimeout, execRearmStartWindowTimeout, h]

theorem exec_rearmPort_none {s : State} (h : s.rearm = none) (p : Fin 8) :
    exec (.rearmHandoverIssue p) s = .next s ∧ exec (.rearmQualTimeout p) s = .next s := by
  constructor
  · simp only [exec_rearmHandoverIssue, execRearmHandoverIssue, h]
  · simp only [exec_rearmQualTimeout, execRearmQualTimeout, h]

/-! ## An operation -/

section
variable {s : State} {o : ArmOp} (harm : s.arm = some o)
include harm

theorem armCopyDone_copies (hop : o.op = 1) (hcheck : o.checking = false) (hcopies : o.copies = true) (hfault : s.copyFault = false) :
    Does .armCopyDone s fun t =>
      (o.sent = 0 → ∀ k, k < o.blocks → memBytes t.mram (slotBase o.slot + 4096 * k) 4096 = s.armBlock o k) ∧
      (∀ a, a < slotBase o.slot ∨ slotBase o.slot + o.blocks * 4096 ≤ a → memByte t.mram a = memByte s.mram a) ∧
      t.arm = some { o with sent := o.blocks * 4096, checking := true } ∧ t.dramA = s.dramA ∧ t.dramB = s.dramB ∧ t.spmA = s.spmA ∧
      t.spmB = s.spmB := by
  obtain ⟨hblocks, hbeside, hmem⟩ := armCopyTo_spec s o
  have hexec := execArmCopyDone_copy harm hop hcheck hcopies
  rw [hfault, if_neg (by decide)] at hexec
  exact ⟨_, (exec_armCopyDone s).trans hexec, hblocks, hbeside, rfl, hmem⟩

theorem loader_copyFault (hfault : s.copyFault = true) :
    (o.op = 1 → o.checking = false → o.copies = true → exec .armCopyDone s = .next (s.armBroken o)) ∧
      (o.op = 3 → exec .armEraseDone s = .next (s.armBroken o)) ∧ (s.armBroken o).mram = s.mram := by
  refine ⟨fun hop hcheck hcopies => ?_, fun hop => ?_, armBroken_mram s o⟩
  · rw [exec_armCopyDone, execArmCopyDone_copy harm hop hcheck hcopies, if_pos hfault]
  · rw [exec_armEraseDone, execArmEraseDone_erase harm hop, if_pos hfault]

theorem armEraseDone_erases (hop : o.op = 3) (hslot : o.slot < 2) (hfault : s.copyFault = false) : Does .armEraseDone s fun t =>
    (∀ i, i < slotSize → memByte t.mram (slotBase o.slot + i) = 0) ∧
    (∀ a, a < slotBase o.slot ∨ slotBase o.slot + slotSize ≤ a → memByte t.mram a = memByte s.mram a) ∧
    t.slotState o.slot = 4 ∧ t.slotGen o.slot = 0 ∧ t.arm = none := by
  let u : State := { s with mram := memClear s.mram (slotBase o.slot) slotSize }
  let t := ((u.setSlotState o.slot 4).setSlotGen o.slot 0).armEnd o.source 0
  have hexec : exec .armEraseDone s = .next t := by
    rw [exec_armEraseDone, execArmEraseDone_erase harm hop, if_neg (by simp [hfault])]
  have hmram : t.mram = memClear s.mram (slotBase o.slot) slotSize := armEnd_mram _ _ _
  have hkeeps := armEnd_keepsArm ((u.setSlotState o.slot 4).setSlotGen o.slot 0) o.source 0
  refine ⟨t, hexec, fun i hi => ?_, fun a ha => ?_, ?_, ?_, armEnd_arm _ _ _⟩
  · rw [hmram, memByte_memClear, if_pos (by omega)]
  · rw [hmram, memByte_memClear, if_neg (by omega)]
  · rw [slotState_of_keepsArm hkeeps hslot, slotState_setSlotGen, slotState_setSlotState _ _ (by decide)]
  · rw [slotGen_of_keepsArm hkeeps hslot, slotGen_setSlotGen _ _ (by decide)]

theorem loaderCheckDone_shows {h : Half} (hcheck : o.checking = true) (hsrc : o.source = .half h) (hplace : o.inPlace = false)
    (hslot : o.slot < 2) : Does .loaderCheckDone s fun t =>
    let r := s.imgCheck (.slot o.slot)
    t.slotState o.slot = (if r.1 = 0 then 1 else 2) ∧ t.slotGen o.slot = s.imgGen (.slot o.slot) ∧ t.arm = none ∧
    t.get (pgArmH h) F.ARM_STATUS_RESULT = r.1 ∧ t.flag (pgArmH h) F.ARM_STATUS_DONE = true ∧ t.flag (pgArmH h) F.ARM_STATUS_BUSY = false := by
  have hexec := (exec_loaderCheckDone s).trans (execLoaderCheckDone_half harm hcheck hsrc hplace)
  have hfits : (s.imgCheck (.slot o.slot)).1 < 256 := imgCheck_fits s (.slot o.slot)
  have hstate := slotChecked_slotState s hslot (s.imgCheck (.slot o.slot))
  have hgen := slotChecked_slotGen s hslot (s.imgCheck (.slot o.slot))
  generalize s.imgCheck (.slot o.slot) = r at *
  have hkeeps := armEnd_keepsArm { s.slotChecked o.slot r with start := { (s.slotChecked o.slot r).start with cause := r.1 } } (.half h) r.1
  exact ⟨_, hexec, (slotState_of_keepsArm hkeeps hslot).trans hstate, (slotGen_of_keepsArm hkeeps hslot).trans hgen,
    armEnd_arm _ _ _, armEnd_result _ _ hfits, armEnd_done _ _ _, armEnd_busy _ _ _⟩

end

/-! ## The scrub (R44) -/

theorem execScrubDue_off {s : State} (h : s.scrub.since = none) : execScrubDue s = .next s := by
  simp only [execScrubDue, h, Option.isNone_none, if_true]

theorem execScrubDue_due {s : State} (h : s.scrub.since ≠ none) : execScrubDue s =
    .next (if isService s.mode then s.scrubBegin else { s with scrub := { s.scrub with due := true } }) :=
  if_neg (by simpa using h)

theorem scrubSlotDone_reads {s : State} {k : Nat} (hread : s.scrub.reading = some k) (hidle : s.armBusy = false) : Does .scrubSlotDone s fun t =>
    (s.slotState k ≠ 1 ∨ s.manifestOk (.slot k) = true ∧ s.badBlock (.slot k) = none →
      t = { s with scrub := { s.scrub with reading := s.scrubNext (k + 1) } }) ∧
    (k < 2 → s.slotState k = 1 → s.manifestOk (.slot k) = false ∨ s.badBlock (.slot k) ≠ none → t.slotState k = 2) := by
  refine ⟨_, (exec_scrubSlotDone s).trans (execScrubSlotDone_reading hread hidle), fun hclean => ?_, fun hk hvalid hbad => ?_⟩
  · rw [(scrubFound_eq_none_iff s k).2 hclean]
    rfl
  · have hfound : s.scrubFound k ≠ none := by
      rw [ne_eq, scrubFound_eq_none_iff]
      rintro (h | ⟨hok, hblock⟩)
      · exact h hvalid
      · rcases hbad with hbad | hbad
        · rw [hok] at hbad
          cases hbad
        · exact hbad hblock
    obtain ⟨b, hb⟩ := Option.ne_none_iff_exists'.1 hfound
    rw [hb]
    exact scrubMarked_slotState s hk b

/-! ## The start window of a REARM (R59) -/

theorem rearmWindow_none {a : Rearm} (h : a.step < 3 ∨ a.step = 5 ∨ 8 ≤ a.step) :
    (if a.step = 3 ∨ a.step = 4 then some a.first else if a.step = 6 ∨ a.step = 7 then some (Half.other a.first) else none) = none := by
  rw [if_neg (by omega), if_neg (by omega)]

/-- Settles O6: each event by the meaning it has in the state of its operation, of the scrub and of the REARM. -/
theorem loaderCourse : Obligations.LoaderCourse := by
  refine ⟨fun s h => exec_loader_none h, fun o s harm => ?_, fun s => ?_, fun s h => exec_rearm_none h,
    fun p s h => exec_rearmPort_none h p, fun a s ha => ?_⟩
  · exact ⟨fun h => (exec_armCopyDone s).trans (execArmCopyDone_other harm h), armCopyDone_copies harm, loader_copyFault harm,
      fun h => (exec_armEraseDone s).trans (execArmEraseDone_other harm h),
      fun hop hslot hfault _ => armEraseDone_erases harm hop hslot hfault,
      fun h => (exec_loaderCheckDone s).trans (execLoaderCheckDone_idle harm h), fun h => loaderCheckDone_shows harm⟩
  · refine ⟨fun h => (exec_scrubDue s).trans (execScrubDue_off h), fun h hservice => ?_, fun h hservice => ?_, fun h => ?_,
      fun k hread hbusy => (exec_scrubSlotDone s).trans (execScrubSlotDone_paused hread hbusy), fun k => scrubSlotDone_reads⟩
    · rw [exec_scrubDue, execScrubDue_due h, if_pos hservice]
    · rw [exec_scrubDue, execScrubDue_due h, if_neg (by simp [hservice])]
    · simp only [exec_scrubSlotDone, execScrubSlotDone, h]
  · refine ⟨fun h => (exec_rearmChecksDone s).trans (execRearmChecksDone_other ha h),
      fun r h hr => (exec_rearmChecksDone s).trans (execRearmChecksDone_fail ha h hr), fun h => ?_, fun p hmay => ?_, fun p hmay => ?_,
      fun h hw => ?_, fun hstep => (exec_rearmStartWindowTimeout s).trans (execRearmStartWindowTimeout_none ha (rearmWindow_none hstep))⟩
    · cases hr : s.rearmChecks a.slot with
      | some r => exact ⟨_, (exec_rearmChecksDone s).trans (execRearmChecksDone_fail ha h hr), fun hnone => by cases hnone⟩
      | none =>
        obtain ⟨t, hexec, ht⟩ := execRearmChecksDone_pass ha h hr
        exact ⟨t, (exec_rearmChecksDone s).trans hexec, fun _ => ht⟩
    · rw [exec_rearmHandoverIssue, exec_rearmQualTimeout, execRearmQualTimeout_eq ha, if_neg (by simp [hmay])]
      exact ⟨execRearmHandoverIssue_not ha hmay, rfl⟩
    · rw [exec_rearmQualTimeout, execRearmQualTimeout_eq ha, if_pos hmay]
      exact ⟨rfl, fun hho hq => (exec_rearmHandoverIssue p s).trans (execRearmHandoverIssue_issue ha hmay hho hq)⟩
    · rw [exec_rearmStartWindowTimeout, execRearmStartWindowTimeout_some ha hw]
      exact ⟨fun hready => by rw [if_pos hready], fun hnot => by rw [if_neg hnot]⟩

end Sys2Proof.Machine
end

section
/-! SUPPORT. The bits of a payload stream, the arithmetic of a layer's blending and the container of a pixel (R64, R71, R72, R75). -/

namespace Sys2Proof.Machine

/-! ## The payload bitstream (R64) -/

theorem bitsAt_succ (rd : Nat → Byte) (base k n : Nat) : bitsAt rd base k (n + 1) =
    bitsAt rd base k n + if (rd (base + (k + n) / 8)).getLsbD ((k + n) % 8) then 2 ^ n else 0 := by
  simp only [bitsAt, List.range_succ, List.foldl_append, List.foldl_cons, List.foldl_nil]

theorem bitsAt_lt (rd : Nat → Byte) (base k n : Nat) : bitsAt rd base k n < 2 ^ n := by
  induction n with
  | zero => exact Nat.one_pos
  | succ n ih =>
    rw [bitsAt_succ, Nat.pow_succ]
    split <;> omega

/-- The bit at place n of a field and the n bits below it do not overlap. -/
theorem bitsAt_succ_or (rd : Nat → Byte) (base k n : Nat) : bitsAt rd base k (n + 1) =
    2 ^ n * ((rd (base + (k + n) / 8)).getLsbD ((k + n) % 8)).toNat ||| bitsAt rd base k n := by
  rw [← Nat.two_pow_add_eq_or_of_lt (bitsAt_lt rd base k n), bitsAt_succ, Nat.add_comm]
  cases (rd (base + (k + n) / 8)).getLsbD ((k + n) % 8) <;> simp

/-- Settles O58, by induction on the width of the field: each further bit stands above those taken before it. -/
theorem payloadBitstream : Obligations.PayloadBitstream := by
  intro rd base k w i
  induction w with
  | zero => simp [bitsAt]
  | succ n ih =>
    rw [bitsAt_succ_or, Nat.testBit_or, Nat.testBit_two_pow_mul, Nat.testBit_bool_toNat, ih]
    rcases Nat.lt_trichotomy i n with hlt | rfl | hgt
    · simp [hlt, Nat.lt_succ_of_lt hlt, Nat.not_le.2 hlt]
    · simp
    · simp [hgt.not_gt, Nat.sub_ne_zero_of_lt hgt, show ¬i < n + 1 by omega]

/-! ## Global alpha and blending (R68, R71, R72) -/

/-- Rounding half up to a multiple of 4095 keeps a product within half of it. -/
theorem mulUnit_rounds (x y : Nat) : 2 * 4095 * mulUnit x y ≤ 2 * x * y + 4095 ∧ 2 * x * y + 4095 < 2 * 4095 * (mulUnit x y + 1) := by
  unfold mulUnit
  generalize 2 * x * y = z
  omega

theorem mulUnit_full (x : Nat) : mulUnit x 4095 = x := by
  unfold mulUnit
  omega

/-- Replication puts the high half of a byte below it. -/
theorem widen_eight {v : Nat} (h : v < 256) : widen 8 v = v * 16 + v / 16 := by
  have hor := Nat.shiftLeft_add_eq_or_of_lt (show v >>> 4 < 2 ^ 4 by rw [Nat.shiftRight_eq_div_pow]; omega) v
  rw [Nat.shiftLeft_eq, Nat.shiftRight_eq_div_pow] at hor
  simpa [widen, Nat.shiftLeft_eq, Nat.shiftRight_eq_div_pow] using hor.symm

theorem over_opaque {l : Layer} (h : l.blend = 0) (d s : Px) : l.over d s = ⟨0, s.r, s.g, s.b⟩ := by
  simp [Layer.over, blendChan, h]

theorem over_straight {l : Layer} (h : l.blend = 1) (d s : Px) :
    let blend (d s a : Nat) := (2 * (s * a + d * (4095 - a)) + 4095) / 8190
    let a := mulUnit s.a (widen 8 l.ga)
    l.over d s = ⟨0, blend d.r s.r a, blend d.g s.g a, blend d.b s.b a⟩ := by
  simp [Layer.over, blendChan, h]

theorem over_premultiplied {l : Layer} (h : l.blend = 2) (d s : Px) :
    let g := widen 8 l.ga
    let blend (d s a : Nat) := min 4095 (mulUnit s g + mulUnit d (4095 - a))
    let a := mulUnit s.a g
    l.over d s = ⟨0, blend d.r s.r a, blend d.g s.g a, blend d.b s.b a⟩ := by
  simp [Layer.over, blendChan, h]

/-- Settles O59: the rounding of M, the widening of GA and the blend of each mode. -/
theorem layerBlend : Obligations.LayerBlend :=
  ⟨fun x y => ⟨rfl, mulUnit_rounds x y⟩, mulUnit_full, fun _ => widen_eight,
    fun _ d s => ⟨fun h => over_opaque h d s, fun h => over_straight h d s, fun h => over_premultiplied h d s⟩⟩

/-! ## The container (R75) -/

theorem container_fields {r g b : Nat} (hr : r < 1024) (hg : g < 1024) (hb : b < 1024) :
    container r g b / 2 ^ 20 = r ∧ container r g b / 2 ^ 10 % 1024 = g ∧ container r g b % 1024 = b ∧ container r g b < 2 ^ 30 := by
  unfold container
  omega

/-- A container holds the ten low bits of each channel. -/
theorem container_mod (r g b : Nat) : container (r % 1024) (g % 1024) (b % 1024) = container r g b := by
  simp only [container, Nat.mod_mod]

theorem composePixel_container {rd : Nat → Word} {layers : List (Layer × (Nat → Nat → Byte))} {dmode px py v : Nat}
    (h : composePixel rd layers dmode px py = some v) : ∃ r g b, v = container r g b := by
  obtain ⟨o, -, rfl⟩ := Option.map_eq_some_iff.1 h
  exact ⟨_, _, _, rfl⟩

/-- Settles O60: the fields of a container do not overlap, and a composed pixel is one. -/
theorem pixelContainer : Obligations.PixelContainer := by
  refine ⟨fun _ _ _ => container_fields, fun rd layers dmode px py v h => ?_⟩
  obtain ⟨r, g, b, rfl⟩ := composePixel_container h
  have hlt (x : Nat) : x % 1024 < 1024 := Nat.mod_lt _ (by decide)
  exact ⟨r % 1024, g % 1024, b % 1024, hlt r, hlt g, hlt b, (container_mod r g b).symm⟩

end Sys2Proof.Machine
end

section
/-! SUPPORT. What the fetch and compose of a pipe leave unchanged (R84, R91, R99): memory, the link, the marker, the fields of its page but
CMP_FILL and the band, and the parts of the pipe that are neither. -/

namespace Sys2Proof.Machine

/-! ## Registers and pipes -/

/-- A write of a field leaves the other registers of its page. -/
theorem get_put_off (s : State) (p : Pg) {f g : Fld} (v : Nat) (ho : g.off ≠ f.off) : (s.put p f v).get p g = s.get p g :=
  get_put_reg s v (key_ne_of_off ho)

/-- A counter that saturates at the largest value of its field. -/
theorem get_incSat_same (s : State) (p : Pg) (f : Fld) (h : f.lsb + f.width ≤ 32) :
    (s.incSat p f).get p f = min (2 ^ f.width - 1) (s.get p f + 1) := by
  have hpos := Nat.two_pow_pos f.width
  exact (get_put_same s p f _ h).trans (Nat.mod_eq_of_lt (by omega))

theorem get_setReg_off (s : State) (p : Pg) {o : Nat} {g : Fld} (w : Word) (ho : g.off ≠ o) : (s.setReg p o w).get p g = s.get p g :=
  congrArg g.ofWord (reg_setReg_ne s w (key_ne_of_off ho))

@[simp] theorem setPipe_get (s : State) (h : Half) (n : Nat) (v : Pipe) (q : Pg) (f : Fld) : (s.setPipe h n v).get q f = s.get q f :=
  setHs_r_get _ _ _ _ _
@[simp] theorem setPipe_port (s : State) (h : Half) (n : Nat) (v : Pipe) (k : Nat) : (s.setPipe h n v).port k = s.port k :=
  setHs_r_port _ _ _ _
@[simp] theorem setPipe_link (s : State) (h : Half) (n : Nat) (v : Pipe) : ((s.setPipe h n v).hs h).link = (s.hs h).link := by
  simp [State.setPipe]
@[simp] theorem put_pipe (s : State) (q : Pg) (f : Fld) (v : Nat) (h : Half) (n : Nat) : (s.put q f v).pipe h n = s.pipe h n := by
  simp [State.pipe]
@[simp] theorem setReg_pipe (s : State) (q : Pg) (o : Nat) (w : Word) (h : Half) (n : Nat) : (s.setReg q o w).pipe h n = s.pipe h n := by
  simp [State.pipe]

/-- Every memory of `t` is that of `s`. -/
def MemEq (s t : State) : Prop :=
  t.mram = s.mram ∧ t.dramA = s.dramA ∧ t.dramB = s.dramB ∧ t.spmA = s.spmA ∧ t.spmB = s.spmB

theorem memEq_rfl (s : State) : MemEq s s := ⟨rfl, rfl, rfl, rfl, rfl⟩

theorem MemEq.trans {s t u : State} (hst : MemEq s t) (htu : MemEq t u) : MemEq s u := by
  obtain ⟨h1, h2, h3, h4, h5⟩ := hst
  obtain ⟨k1, k2, k3, k4, k5⟩ := htu
  exact ⟨k1.trans h1, k2.trans h2, k3.trans h3, k4.trans h4, k5.trans h5⟩

theorem MemEq.sameMem {s t : State} (h : MemEq s t) : SameMem s t := by
  obtain ⟨h1, h2, h3, h4, h5⟩ := h
  exact sameMem_of h1 h2 h3 h4 h5

theorem memEq_setHs (s : State) (h : Half) (v : HalfSt) : MemEq s (s.setHs h v) := by cases h <;> exact memEq_rfl s

theorem memEq_setPipe (s : State) (h : Half) (n : Nat) (v : Pipe) : MemEq s (s.setPipe h n v) := memEq_setHs s h _

theorem memEq_put (s : State) (q : Pg) (f : Fld) (v : Nat) : MemEq s (s.put q f v) := memEq_rfl s

/-! ## The schedule in force -/

theorem pgCmp_code_lt (h : Half) (p : Fin 8) : (pgCmp h p).code < 0x10000 := p.isLt.trans (by decide)

theorem halfPg_ne_plinthPg (h : Half) (c d : Nat) : halfPg h c ≠ plinthPg d := by cases h <;> simp [halfPg, plinthPg, Half.die]

/-- What the schedule of a pipe, the timing of its port and its reduction are read from is the same. -/
structure KeepsSched (h : Half) (p : Fin 8) (s t : State) : Prop where
  mram : t.mram = s.mram
  arm : ∀ f, f.off < 0x10000 → t.get pgArm f = s.get pgArm f
  scn : ∀ f, f.off < 0x10000 → t.get (pgScn p) f = s.get (pgScn p) f
  variant : t.get (pgCmp h p) F.CMP_SCHED_VARIANT = s.get (pgCmp h p) F.CMP_SCHED_VARIANT
  mode : t.get (pgCmp h p) F.CMP_OUT_DMODE = s.get (pgCmp h p) F.CMP_OUT_DMODE

section
variable {h : Half} {p : Fin 8} {s t : State}

theorem KeepsSched.trans {u : State} (hst : KeepsSched h p s t) (htu : KeepsSched h p t u) : KeepsSched h p s u :=
  ⟨htu.mram.trans hst.mram, fun f hf => (htu.arm f hf).trans (hst.arm f hf), fun f hf => (htu.scn f hf).trans (hst.scn f hf),
    htu.variant.trans hst.variant, htu.mode.trans hst.mode⟩

theorem keepsSched_of (hmram : t.mram = s.mram) (hget : ∀ q f, t.get q f = s.get q f) : KeepsSched h p s t :=
  ⟨hmram, fun _ _ => hget _ _, fun _ _ => hget _ _, hget _ _, hget _ _⟩

theorem setPipe_sched (h : Half) (p : Fin 8) (s : State) (v : Pipe) : KeepsSched h p s (s.setPipe h p v) :=
  keepsSched_of (memEq_setPipe s h p v).1 (setPipe_get s h p v)

/-- A write of the pipe's page beside CMP_SCHED and CMP_OUT. -/
theorem keepsSched_put (h : Half) (p : Fin 8) (s : State) {f : Fld} (v : Nat) (hf : f.off < 0x10000) (hsched : f.off ≠ 0x14) (hout : f.off ≠ 0xC) :
    KeepsSched h p s (s.put (pgCmp h p) f v) :=
  ⟨rfl, fun _ hg => get_put_page s v (pgCmp_code_lt h p) (by decide) hf hg (halfPg_ne_plinthPg _ _ _).symm,
    fun _ hg => get_put_page s v (pgCmp_code_lt h p) (pgScn_code_lt p) hf hg (halfPg_ne_plinthPg _ _ _).symm,
    get_put_off s _ v hsched.symm, get_put_off s _ v hout.symm⟩

theorem KeepsSched.put {r : State} (k : KeepsSched h p r s) {f : Fld} (v : Nat) (hf : f.off < 0x10000) (hsched : f.off ≠ 0x14)
    (hout : f.off ≠ 0xC) : KeepsSched h p r (s.put (pgCmp h p) f v) := k.trans (keepsSched_put h p s v hf hsched hout)

theorem KeepsSched.raise {r : State} (k : KeepsSched h p r s) (q : Pg) : KeepsSched h p r (s.raise q) :=
  k.trans (keepsSched_of rfl fun _ _ => rfl)

/-- A value of the schedule in force (R86, R87). -/
theorem KeepsSched.sched (k : KeepsSched h p s t) (off n : Nat) : t.sched h p off n = s.sched h p off n := by
  have hslot : t.slotOf (Half.die h) = s.slotOf (Half.die h) := by
    cases h <;> exact k.arm _ (by decide)
  have hdam (off n : Nat) : t.dam h off n = s.dam h off n := by
    unfold State.dam State.secNat State.section? State.mramNat
    rw [hslot, k.mram]
  simp only [State.sched, State.schedAt, State.variant, hdam, k.variant]

theorem KeepsSched.faultLines (k : KeepsSched h p s t) : t.faultLines h p = s.faultLines h p :=
  congrArg (inImage 1 255 5) (k.sched 7 1)

/-- Whether the stream is unpredictable (R81) follows from the schedule and the active copies. -/
theorem KeepsSched.streamWild (k : KeepsSched h p s t) (hact : (t.pipe h p).act = (s.pipe h p).act)
    (hwild : (t.pipe h p).wild = (s.pipe h p).wild) : t.streamWild h p = s.streamWild h p := by
  have hmask (l : Nat) : t.inMask h p l = s.inMask h p l := by simp only [State.inMask, k.sched]
  have hlayer (l : Nat) : t.actLayer h p l = s.actLayer h p l := by
    unfold State.actLayer
    congr 1
    funext off
    simp only [State.actWord, hact]
  have hcols : t.hActive p = s.hActive p := k.scn F.SCN_HTIM0_H_ACTIVE (by decide)
  have hlines : t.vActive p = s.vActive p := k.scn F.SCN_VTIM0_V_ACTIVE (by decide)
  simp only [State.streamWild, State.pipeWild, hwild, k.mode, hmask, hlayer, hcols, hlines]

end

/-! ## The frame of fetch and compose -/

/-- The parts of a pipe that are neither its fetch nor the line under composition. -/
def Pipe.core (q : Pipe) : Pipe :=
  { q with fetchNext := 0, fetching := none, granted := [], held := [], heldWhole := [], haves := [], composing := none }

/-- A field that a pipe's fetch, compose and latch do not write beside their own results: outside the recorder, the record of refusals (R215),
the check unit of its port, CMP_FILL and the band shown. -/
def PipeFld (h : Half) (p : Fin 8) (q : Pg) (f : Fld) : Prop :=
  q ≠ pgPat ∧ q ≠ pgWld h ∧ q ≠ pgIck p ∧ (q = pgCmp h p → f.off ≠ 0x18 ∧ (f.off = 0x14 → f.lsb + f.width ≤ 16))

theorem pgCmp_ne_pgWld (h : Half) (p : Fin 8) : pgCmp h p ≠ pgWld h := by
  simp only [pgCmp, pgWld, halfPg, ne_eq, Pg.mk.injEq, true_and]
  omega

theorem pipeFld_cmp {h : Half} {p : Fin 8} {f : Fld} (hfill : f.off ≠ 0x18) (hband : f.off = 0x14 → f.lsb + f.width ≤ 16) :
    PipeFld h p (pgCmp h p) f :=
  ⟨halfPg_ne_plinthPg _ _ _, pgCmp_ne_pgWld h p, halfPg_ne_plinthPg _ _ _, fun _ => ⟨hfill, hband⟩⟩

theorem pipeFld_scn (h : Half) (p : Fin 8) (f : Fld) : PipeFld h p (pgScn p) f := by
  refine ⟨?_, (halfPg_ne_plinthPg _ _ _).symm, ?_, fun heq => absurd heq (halfPg_ne_plinthPg _ _ _).symm⟩ <;>
  · simp only [pgScn, pgPat, pgIck, plinthPg, ne_eq, Pg.mk.injEq, true_and]
    omega

theorem pipeFld_arm (h : Half) (p : Fin 8) (f : Fld) : PipeFld h p pgArm f := by
  refine ⟨by decide, (halfPg_ne_plinthPg _ _ _).symm, ?_, fun heq => absurd heq (halfPg_ne_plinthPg _ _ _).symm⟩
  simp only [pgArm, pgIck, plinthPg, ne_eq, Pg.mk.injEq, true_and]
  omega

/-- What the fetch and compose of a pipe keep; chunks that are granted at once join those granted before. -/
structure KeepsPipe (h : Half) (p : Fin 8) (s t : State) : Prop where
  mem : MemEq s t
  flds : ∀ q f, q.code < 0x10000 → f.off < 0x10000 → PipeFld h p q f → t.get q f = s.get q f
  marker : (t.port p).marker h = (s.port p).marker h
  link : (t.hs h).link = (s.hs h).link
  core : (t.pipe h p).core = (s.pipe h p).core
  granted : (s.pipe h p).granted <+: (t.pipe h p).granted

section
variable {h : Half} {p : Fin 8} {r s t : State}

theorem keepsPipe_rfl (h : Half) (p : Fin 8) (s : State) : KeepsPipe h p s s :=
  ⟨memEq_rfl s, fun _ _ _ _ _ => rfl, rfl, rfl, rfl, List.prefix_rfl⟩

theorem KeepsPipe.trans {u : State} (hst : KeepsPipe h p s t) (htu : KeepsPipe h p t u) : KeepsPipe h p s u :=
  ⟨hst.mem.trans htu.mem, fun q f hq hf hk => (htu.flds q f hq hf hk).trans (hst.flds q f hq hf hk), htu.marker.trans hst.marker,
    htu.link.trans hst.link, htu.core.trans hst.core, hst.granted.trans htu.granted⟩

/-! ### What it says of a pipe -/

theorem KeepsPipe.act (k : KeepsPipe h p s t) : (t.pipe h p).act = (s.pipe h p).act := (congrArg Pipe.act k.core :)
theorem KeepsPipe.frame (k : KeepsPipe h p s t) : (t.pipe h p).frame = (s.pipe h p).frame := (congrArg Pipe.frame k.core :)
theorem KeepsPipe.fetchUpTo (k : KeepsPipe h p s t) : (t.pipe h p).fetchUpTo = (s.pipe h p).fetchUpTo := (congrArg Pipe.fetchUpTo k.core :)
theorem KeepsPipe.buf (k : KeepsPipe h p s t) : (t.pipe h p).buf = (s.pipe h p).buf := (congrArg Pipe.buf k.core :)
theorem KeepsPipe.waiting (k : KeepsPipe h p s t) : (t.pipe h p).waiting = (s.pipe h p).waiting := (congrArg Pipe.waiting k.core :)
theorem KeepsPipe.stalled (k : KeepsPipe h p s t) : (t.pipe h p).stalled = (s.pipe h p).stalled := (congrArg Pipe.stalled k.core :)
theorem KeepsPipe.closed (k : KeepsPipe h p s t) : (t.pipe h p).closed = (s.pipe h p).closed := (congrArg Pipe.closed k.core :)
theorem KeepsPipe.run (k : KeepsPipe h p s t) : (t.pipe h p).run = (s.pipe h p).run := (congrArg Pipe.run k.core :)
theorem KeepsPipe.reported (k : KeepsPipe h p s t) : (t.pipe h p).reported = (s.pipe h p).reported := (congrArg Pipe.reported k.core :)
theorem KeepsPipe.wild (k : KeepsPipe h p s t) : (t.pipe h p).wild = (s.pipe h p).wild := (congrArg Pipe.wild k.core :)

theorem KeepsPipe.cmp (k : KeepsPipe h p s t) (f : Fld) (hoff : f.off < 0x10000) (hfill : f.off ≠ 0x18)
    (hband : f.off = 0x14 → f.lsb + f.width ≤ 16) : t.get (pgCmp h p) f = s.get (pgCmp h p) f :=
  k.flds _ _ (pgCmp_code_lt h p) hoff (pipeFld_cmp hfill hband)

/-- The schedule of the pipe and the timing of its port are the same. -/
theorem KeepsPipe.keepsSched (k : KeepsPipe h p s t) : KeepsSched h p s t :=
  ⟨k.mem.1, fun f hf => k.flds _ f (by decide) hf (pipeFld_arm h p f), fun f hf => k.flds _ f (pgScn_code_lt p) hf (pipeFld_scn h p f),
    k.cmp _ (by decide) (by decide) (by decide), k.cmp _ (by decide) (by decide) (by decide)⟩

/-! ### Updates that keep it -/

/-- What changes registers, the free values and the recorder only. -/
theorem keepsPipe_regs (heq : t = { s with regs := t.regs, free := t.free, pat := t.pat })
    (hflds : ∀ q f, q.code < 0x10000 → f.off < 0x10000 → PipeFld h p q f → t.get q f = s.get q f) : KeepsPipe h p s t := by
  have hhs : t.hs h = s.hs h := by rw [heq]; cases h <;> rfl
  have hpipe : t.pipe h p = s.pipe h p := by simp only [State.pipe, hhs]
  have hport : t.port p = s.port p := by rw [heq]; rfl
  refine ⟨?_, hflds, by rw [hport], by rw [hhs], by rw [hpipe], by rw [hpipe]⟩
  rw [heq]
  exact memEq_rfl s

theorem KeepsPipe.put (k : KeepsPipe h p r s) {q : Pg} {f : Fld} (v : Nat) (hq : q.code < 0x10000) (hf : f.off < 0x10000)
    (hbits : f.lsb + f.width ≤ 32) (hfree : ∀ g, PipeFld h p q g → g.off = f.off → g.lsb + g.width ≤ f.lsb) :
    KeepsPipe h p r (s.put q f v) := by
  refine k.trans (keepsPipe_regs rfl fun q' g hq' hg hk => ?_)
  by_cases hpage : q' = q
  · subst hpage
    by_cases hoff : g.off = f.off
    · exact get_put_field s v hoff hbits (.inl (hfree g hk hoff))
    · exact get_put_off s q' v hoff
  · exact get_put_page s v hq hq' hf hg hpage

theorem KeepsPipe.putWld (k : KeepsPipe h p r s) (f : Fld) (v : Nat) (hf : f.off < 0x10000) (hbits : f.lsb + f.width ≤ 32) :
    KeepsPipe h p r (s.put (pgWld h) f v) :=
  k.put v (pgWld_code_lt h) hf hbits fun _ hg => absurd rfl hg.2.1

theorem KeepsPipe.putIck (k : KeepsPipe h p r s) (f : Fld) (v : Nat) (hf : f.off < 0x10000) (hbits : f.lsb + f.width ≤ 32) :
    KeepsPipe h p r (s.put (pgIck p) f v) :=
  k.put v (by simp only [pgIck, plinthPg]; omega) hf hbits fun _ hg => absurd rfl hg.2.2.1

theorem KeepsPipe.putFill (k : KeepsPipe h p r s) {f : Fld} (v : Nat) (hf : f.off = 0x18) (hbits : f.lsb + f.width ≤ 32) :
    KeepsPipe h p r (s.put (pgCmp h p) f v) :=
  k.put v (pgCmp_code_lt h p) (by omega) hbits fun _ hg hoff => absurd (hoff.trans hf) (hg.2.2.2 rfl).1

theorem KeepsPipe.putBand (k : KeepsPipe h p r s) (v : Nat) : KeepsPipe h p r (s.put (pgCmp h p) F.CMP_SCHED_BAND v) :=
  k.put v (pgCmp_code_lt h p) (by decide) (by decide) fun _ hg hoff => (hg.2.2.2 rfl).2 hoff

theorem KeepsPipe.event (k : KeepsPipe h p r s) (src code : Nat) (data : List Byte) (trig host : Bool) :
    KeepsPipe h p r (s.event src code data trig host) := by
  have hpat := event_only s src code data trig host
  refine k.trans (keepsPipe_regs ?_ fun q f hq hf hk => hpat.get hq hf hk.1)
  have hfree : (s.event src code data trig host).free = s.free := by rw [hpat.1]
  rw [hfree]
  exact hpat.1

theorem KeepsPipe.takeFree (k : KeepsPipe h p r s) : KeepsPipe h p r s.takeFree.2 := k.trans (keepsPipe_regs rfl fun _ _ _ _ _ => rfl)

theorem KeepsPipe.setHs (k : KeepsPipe h p r s) {v : HalfSt} (hlink : v.link = (s.hs h).link) (hpipes : v.pipes = (s.hs h).pipes) :
    KeepsPipe h p r (s.setHs h v) := by
  have hpipe : (s.setHs h v).pipe h p = s.pipe h p := by simp only [State.pipe, hs_setHs_same, hpipes]
  refine k.trans ⟨memEq_setHs s h v, fun _ _ _ _ _ => setHs_r_get _ _ _ _ _, by simp, by simp [hlink], by rw [hpipe], by rw [hpipe]⟩

theorem KeepsPipe.setPipe (k : KeepsPipe h p r s) {v : Pipe} (hcore : v.core = (s.pipe h p).core)
    (hgranted : (s.pipe h p).granted <+: v.granted) : KeepsPipe h p r (s.setPipe h p v) :=
  k.trans ⟨memEq_setPipe s h p v, fun _ _ _ _ _ => setPipe_get _ _ _ _ _ _, by simp, by simp, by simp [hcore], by simpa using hgranted⟩

theorem KeepsPipe.setPort (k : KeepsPipe h p r s) {v : Port} (hmarker : v.marker h = (s.port p).marker h) :
    KeepsPipe h p r (s.setPort p v) :=
  k.trans ⟨memEq_rfl s, fun _ _ _ _ _ => rfl, by simp [hmarker], by simp, by simp [State.pipe], by simp [State.pipe]⟩

theorem keepsPipe_ite {c : Prop} [Decidable c] {t u : State} (ht : KeepsPipe h p r t) (hu : KeepsPipe h p r u) :
    KeepsPipe h p r (if c then t else u) := by split <;> assumption

theorem KeepsPipe.whenB (k : KeepsPipe h p r s) {c : Bool} {f : State → State} (hf : KeepsPipe h p r (f s)) : KeepsPipe h p r (s.whenB c f) :=
  keepsPipe_ite hf k

theorem KeepsPipe.each (k : KeepsPipe h p r s) {α : Type} {xs : List α} {f : α → State → State}
    (hf : ∀ x t, KeepsPipe h p r t → KeepsPipe h p r (f x t)) : KeepsPipe h p r (s.each xs f) := by
  unfold State.each
  induction xs generalizing s with
  | nil => exact k
  | cons x l ih => exact ih (hf x s k)

/-! ### Fetch -/

theorem KeepsPipe.refuse (k : KeepsPipe h p r s) (t : Tag) (acc : AccKind) (b : Nat) : KeepsPipe h p r (s.refuse h t acc b) := by
  unfold State.refuse
  extract_lets pg first s1
  have h1 : KeepsPipe h p r s1 := k.putWld _ _ (by decide) (by decide)
  refine h1.whenB ?_
  extract_lets s2 s3 s4 s5 s6 s7
  have h4 : KeepsPipe h p r s4 :=
    ((h1.putWld _ _ (by decide) (by decide)).putWld _ _ (by decide) (by decide)).putWld _ _ (by decide) (by decide)
  have h5 : KeepsPipe h p r s5 := keepsPipe_ite (h4.putWld _ _ (by decide) (by decide)) (h4.takeFree.putWld _ _ (by decide) (by decide))
  have h7 : KeepsPipe h p r s7 := (h5.putWld _ _ (by decide) (by decide)).putWld _ _ (by decide) (by decide)
  exact h7.event _ _ _ _ _

theorem KeepsPipe.issueChunk (k : KeepsPipe h p r s) (t : Tag) (c : Chunk) : KeepsPipe h p r (s.issueChunk h p t c) := by
  unfold State.issueChunk
  split
  · exact k.setHs rfl rfl
  · have hread : KeepsPipe h p r (if s.admitBlock h t .read c.addr then s else s.refuse h t .read c.addr) :=
      keepsPipe_ite k (k.refuse _ _ _)
    exact hread.setPipe rfl (List.prefix_append _ _)

theorem KeepsPipe.issueSlot (k : KeepsPipe h p r s) {f g : LineFetch} (hissue : s.issueSlot h p f = some (t, g)) : KeepsPipe h p r t := by
  unfold State.issueSlot at hissue
  split at hissue
  · cases hissue
  next slot kind mx _ _ =>
    extract_lets b l key room before owed now tag issued left rows at hissue
    have hissued : KeepsPipe h p r issued := k.each fun e _ hu => hu.issueChunk _ _
    clear_value issued
    split_ifs at hissue <;> cases hissue <;> exact hissued

/-- Fetch, however far it goes. -/
theorem KeepsPipe.fetchGo (fuel : Nat) (k : KeepsPipe h p r s) : KeepsPipe h p r (s.fetchGo h p fuel) := by
  induction fuel generalizing s with
  | zero => exact k
  | succ fuel ih =>
    have hcore {v : Pipe} (hv : v.core = (s.pipe h p).core) (hg : v.granted = (s.pipe h p).granted) :
        KeepsPipe h p r ((s.setPipe h p v).fetchGo h p fuel) := ih (k.setPipe hv (by rw [hg]))
    unfold State.fetchGo
    extract_lets q
    split
    · refine keepsPipe_ite ?_ k
      split <;> exact hcore rfl rfl
    next f _ =>
      refine keepsPipe_ite (hcore rfl rfl) ?_
      split
      · exact k
      next hissue => exact ih ((k.issueSlot hissue).setPipe rfl List.prefix_rfl)

theorem KeepsPipe.fillShow (k : KeepsPipe h p r s) : KeepsPipe h p r (s.fillShow h p) := by
  unfold State.fillShow
  extract_lets pg fill s1 owed
  have h1 : KeepsPipe h p r s1 := k.putFill _ rfl (by decide)
  exact keepsPipe_ite (h1.putFill _ rfl (by decide)) (keepsPipe_ite (h1.putFill _ rfl (by decide)) h1)

theorem KeepsPipe.fetchStep (k : KeepsPipe h p r s) : KeepsPipe h p r (s.fetchStep h p) := (k.fillShow.fetchGo fetchFuel).fillShow

/-! ### Compose -/

theorem KeepsPipe.composeStart (k : KeepsPipe h p r s) : KeepsPipe h p r (s.composeStart h p) := by
  unfold State.composeStart
  extract_lets q
  split
  · exact keepsPipe_ite (KeepsPipe.putBand (k.setPipe (v := { q with composing := some q.closed }) rfl List.prefix_rfl) _) k
  · exact k

/-- A closed line changes what the pipe holds and its count of lines; then compose and fetch go on. -/
theorem lineClosed_keeps (h : Half) (p : Fin 8) (s : State) (line : Nat) : ∃ v : Pipe,
    (v.closed = line + 1 ∧ v.run = (s.pipe h p).run ∧ v.reported = (s.pipe h p).reported ∧ v.stalled = (s.pipe h p).stalled) ∧
      KeepsPipe h p (s.setPipe h p v) (s.lineClosed h p line) := by
  unfold State.lineClosed
  extract_lets q haves whole
  split
  extract_lets keep s1
  exact ⟨_, by exact ⟨rfl, rfl, rfl, rfl⟩, (keepsPipe_rfl h p s1).composeStart.fetchStep⟩

end
end Sys2Proof.Machine
end

section
/-! SUPPORT. The lines of a composition pipe: a line start, an arriving chunk, a line closed in time and one cut off (R84, R106 to R109, R460). -/

namespace Sys2Proof.Machine

theorem exec_pipeLineStart (h : Half) (p : Fin 8) (s : State) : exec (.pipeLineStart h p) s = execPipeLineStart h p s := rfl
theorem exec_fetchChunkArrival (h : Half) (p : Fin 8) (s : State) : exec (.fetchChunkArrival h p) s = execFetchChunkArrival h p s := rfl
theorem exec_lineClose (h : Half) (p : Fin 8) (s : State) : exec (.lineClose h p) s = execLineClose h p s := rfl
theorem exec_lineCutoff (h : Half) (p : Fin 8) (n : Nat) (b : Bool) (s : State) : exec (.lineCutoff h p n b) s = execLineCutoff h p n b s := rfl
theorem exec_composeResume (h : Half) (p : Fin 8) (s : State) : exec (.composeResume h p) s = execComposeResume h p s := rfl

/-! ## What a line sent leaves -/

/-- What the free value of an unpredictable line (R81), an event and an interrupt keep: all of the pipe but that mark, and its page but
CMP_STATUS. -/
structure KeepsLine (h : Half) (p : Fin 8) (s t : State) : Prop where
  mem : MemEq s t
  sched : KeepsSched h p s t
  cmp : ∀ f, f.off < 0x10000 → f.off ≠ 4 → t.get (pgCmp h p) f = s.get (pgCmp h p) f
  link : (t.hs h).link = (s.hs h).link
  pipe : ∃ w, t.pipe h p = { s.pipe h p with wild := w }

section
variable {h : Half} {p : Fin 8} {r s : State}

theorem keepsLine_rfl (h : Half) (p : Fin 8) (s : State) : KeepsLine h p s s :=
  ⟨memEq_rfl s, keepsSched_of rfl fun _ _ => rfl, fun _ _ _ => rfl, rfl, _, rfl⟩

theorem keepsLine_ite {c : Prop} [Decidable c] {t u : State} (ht : KeepsLine h p r t) (hu : KeepsLine h p r u) :
    KeepsLine h p r (if c then t else u) := by split <;> assumption

theorem KeepsLine.run {t : State} (k : KeepsLine h p s t) : (t.pipe h p).run = (s.pipe h p).run := by
  obtain ⟨w, hw⟩ := k.pipe
  rw [hw]

theorem KeepsLine.reported {t : State} (k : KeepsLine h p s t) : (t.pipe h p).reported = (s.pipe h p).reported := by
  obtain ⟨w, hw⟩ := k.pipe
  rw [hw]

theorem KeepsLine.trans {t u : State} (hst : KeepsLine h p s t) (htu : KeepsLine h p t u) : KeepsLine h p s u := by
  obtain ⟨v, hv⟩ := hst.pipe
  obtain ⟨w, hw⟩ := htu.pipe
  rw [hv] at hw
  exact ⟨hst.mem.trans htu.mem, hst.sched.trans htu.sched, fun f hf hoff => (htu.cmp f hf hoff).trans (hst.cmp f hf hoff),
    htu.link.trans hst.link, w, hw⟩

theorem KeepsLine.setWild (k : KeepsLine h p r s) (w : Bool) : KeepsLine h p r (s.setPipe h p { s.pipe h p with wild := w }) :=
  k.trans ⟨memEq_setPipe _ _ _ _, setPipe_sched _ _ _ _, fun _ _ _ => setPipe_get _ _ _ _ _ _, setPipe_link _ _ _ _, w,
    pipe_setPipe_same _ _ _ _⟩

theorem KeepsLine.free (k : KeepsLine h p r s) (n : Nat) : KeepsLine h p r { s with free := n } :=
  k.trans ⟨memEq_rfl s, keepsSched_of rfl fun _ _ => rfl, fun _ _ _ => rfl, by cases h <;> rfl, (s.pipe h p).wild, by cases h <;> rfl⟩

theorem KeepsLine.putStatus (k : KeepsLine h p r s) {f : Fld} (v : Nat) (hf : f.off = 4) : KeepsLine h p r (s.put (pgCmp h p) f v) :=
  k.trans ⟨memEq_rfl s, keepsSched_put h p s v (by omega) (by omega) (by omega), fun _ _ hoff => get_put_off s _ v (hf ▸ hoff),
    by simp, (s.pipe h p).wild, by simp⟩

theorem lineFree_keeps (h : Half) (p : Fin 8) (s : State) (line : Nat) : KeepsLine h p s (s.lineFree h p line) :=
  keepsLine_ite (keepsLine_rfl h p s) ((((keepsLine_rfl h p s).setWild _).free _).free _ |>.putStatus _ rfl)

theorem event_keepsLine (h : Half) (p : Fin 8) (s : State) (src code : Nat) (data : List Byte) (trig host : Bool) :
    KeepsLine h p s (s.event src code data trig host) := by
  have hev := (keepsPipe_rfl h p s).event src code data trig host
  have hpat := event_only s src code data trig host
  refine ⟨hev.mem, hev.keepsSched, fun f hf _ => hpat.get (pgCmp_code_lt h p) hf (halfPg_ne_plinthPg _ _ _), hev.link, (s.pipe h p).wild, ?_⟩
  rw [hpat.1]
  cases h <;> rfl

end

/-! ## A packet on the link -/

section
variable (s : State) (h : Half) (k : Packet)

theorem memEq_sendPacket : MemEq s (s.sendPacket h k) := memEq_setHs s h _

@[simp] theorem sendPacket_link : ((s.sendPacket h k).hs h).link = (s.hs h).link ++ [k] := by simp [State.sendPacket]

@[simp] theorem sendPacket_pipe (n : Nat) : (s.sendPacket h k).pipe h n = s.pipe h n := by simp [State.pipe, State.sendPacket]

@[simp] theorem sendPacket_get (q : Pg) (f : Fld) : (s.sendPacket h k).get q f = s.get q f := setHs_r_get _ _ _ _ _

end

/-! ## A line closed in time (R84, R108) -/

/-- Line n of a pipe is sent, and the run of underruns ends. -/
def State.lineDone (s : State) (h : Half) (p n : Nat) : State :=
  let q := s.pipe h p
  let s := (s.sendPacket h { port := p, line := n, pixels := s.composeLine h p n }).lineFree h p n
  let pg := pgCmp h p
  let s := if q.run = 0 then s else s.event (srcOf pg) 0x0040 (b1 p ++ b1 1 ++ b2 0 ++ b2 n ++ b2 q.run ++ b2 q.frame)
  let s := s.put pg F.CMP_UNDER_RUN 0
  s.setPipe h p { s.pipe h p with run := 0, reported := false }

section
variable {h : Half} {p : Fin 8} {s : State}

theorem lineDone_eq (h : Half) (p : Fin 8) (s : State) (n : Nat) : ∃ u,
    KeepsLine h p (s.sendPacket h { port := p, line := n, pixels := s.composeLine h p n }) u ∧
      s.lineDone h p n = (u.put (pgCmp h p) F.CMP_UNDER_RUN 0).setPipe h p { u.pipe h p with run := 0, reported := false } := by
  unfold State.lineDone
  extract_lets q s1 pg s2 s3
  have h2 : KeepsLine h p _ s2 := keepsLine_ite (lineFree_keeps h p _ n) ((lineFree_keeps h p _ n).trans (event_keepsLine h p _ _ _ _ _ _))
  exact ⟨s2, h2, rfl⟩

theorem execLineClose_idle (hidle : (s.pipe h p).composing = none ∨ (s.pipe h p).stalled = true) : execLineClose h p s = .next s := by
  unfold execLineClose
  cases hcomp : (s.pipe h p).composing with
  | none => simp only [hcomp]
  | some n =>
    have hst : (s.pipe h p).stalled = true := hidle.resolve_left (by simp [hcomp])
    simp [hcomp, hst]

theorem execLineClose_some {n : Nat} (hcomp : (s.pipe h p).composing = some n) : execLineClose h p s =
    if !(s.pipeRuns h p) || (s.pipe h p).stalled || !(s.lineReady h p n) then .next s else .next ((s.lineDone h p n).lineClosed h p n) := by
  unfold execLineClose
  simp only [hcomp]
  rfl

theorem execLineClose_stopped (hruns : s.pipeRuns h p = false) : execLineClose h p s = .next s := by
  cases hcomp : (s.pipe h p).composing with
  | none => exact execLineClose_idle (.inl hcomp)
  | some n => rw [execLineClose_some hcomp, if_pos (by simp [hruns])]

theorem lineClose_sends {n : Nat} (hcomp : (s.pipe h p).composing = some n) (hruns : s.pipeRuns h p = true)
    (hstalled : (s.pipe h p).stalled = false) (hready : s.lineReady h p n = true) : Does (.lineClose h p) s fun t =>
      (t.hs h).link = (s.hs h).link ++ [{ port := p, line := n, pixels := s.composeLine h p n }] ∧ (t.pipe h p).closed = n + 1 ∧
      (t.pipe h p).run = 0 ∧ t.get (pgCmp h p) F.CMP_UNDER_RUN = 0 ∧ SameMem s t := by
  have hexec : exec (.lineClose h p) s = .next ((s.lineDone h p n).lineClosed h p n) := by
    rw [exec_lineClose, execLineClose_some hcomp, if_neg (by simp [hruns, hstalled, hready])]
  obtain ⟨v, ⟨hclosed, hrun, -, -⟩, hkeeps⟩ := lineClosed_keeps h p (s.lineDone h p n) n
  obtain ⟨u, hline, hdone⟩ := lineDone_eq h p s n
  rw [hdone] at hkeeps hrun
  refine ⟨_, hexec, ?_, ?_, ?_, ?_, ?_⟩
  · rw [hdone, hkeeps.link, setPipe_link, setPipe_link, put_r_hs, hline.link, sendPacket_link]
  · rw [hdone, hkeeps.closed, pipe_setPipe_same, hclosed]
  · rw [hdone, hkeeps.run, pipe_setPipe_same, hrun, pipe_setPipe_same]
  · rw [hdone, hkeeps.cmp _ (by decide) (by decide) (by decide), setPipe_get, setPipe_get]
    exact get_put_same _ _ _ _ (by decide)
  · have hsent := ((memEq_sendPacket s h _).trans hline.mem).trans (memEq_put u (pgCmp h p) F.CMP_UNDER_RUN 0)
    rw [hdone]
    exact (((hsent.trans (memEq_setPipe _ _ _ _)).trans (memEq_setPipe _ _ _ _)).trans hkeeps.mem).sameMem

end

/-! ## A line cut off (R106, R107, R109) -/

/-- CMP_UNDER and CMP_UNDER_AT note a line that was not closed at its cut-off, and the pipe's interrupt rises. -/
def State.underNote (s : State) (h : Half) (p frame line : Nat) : State :=
  let pg := pgCmp h p
  let s := (s.put pg F.CMP_UNDER_UNDER 1).incSat pg F.CMP_UNDER_COUNT
  let s := s.incSat pg F.CMP_UNDER_RUN
  ((s.put pg F.CMP_UNDER_AT_FRAME frame).put pg F.CMP_UNDER_AT_LINE line).raise pg

/-- The pixels of the line cut off: those that were sent, then the fallback colour. -/
def State.cutPixels (s : State) (h : Half) (p sent : Nat) : List Nat :=
  let q := s.pipe h p
  let n := if q.composing = some q.closed then min sent (s.hActive p) else 0
  (s.composeLine h p q.closed).take n ++ List.replicate (s.hActive p - n) ((s.reg (pgCmp h p) 0x24).toNat % 0x40000000)

/-- The line that a pipe composes is cut off: sent, noted, and closed. -/
def State.lineCut (s : State) (h : Half) (p sent : Nat) (stalled : Bool) : State :=
  let q := s.pipe h p
  let pg := pgCmp h p
  let n := if q.composing = some q.closed then min sent (s.hActive p) else 0
  let s := s.sendPacket h { port := p, line := q.closed, pixels := s.cutPixels h p sent }
  let s := (if n = 0 then s else s.lineFree h p q.closed).underNote h p q.frame q.closed
  let s := if q.run = 0 then s.event (srcOf pg) 0x0040 (b1 p ++ b1 0 ++ b2 0 ++ b2 q.closed ++ b2 0 ++ b2 q.frame) else s
  (s.setPipe h p { s.pipe h p with run := q.run + 1, stalled := stalled }).lineClosed h p q.closed

theorem execLineCutoff_eq (h : Half) (p : Fin 8) (sent : Nat) (stalled : Bool) (s : State) : execLineCutoff h p sent stalled s =
    let line := (s.pipe h p).closed
    let t := s.lineCut h p sent stalled
    if !(s.pipeRuns h p) || s.vActive p ≤ line || line ≠ (s.portLine p + 1) % (max 1 (s.vTotal p)) then .next s
    else if !((t.pipe h p).reported) && t.faultLines h p ≤ t.get (pgCmp h p) F.CMP_UNDER_RUN then
      .next (((t.setPipe h p { t.pipe h p with reported := true }).put (pgCmp h p) F.CMP_UNDER_FAULT 1).pipeFault h p)
    else .next t := rfl

section
variable (h : Half) (p : Fin 8) (s : State)

theorem underNote_sched (frame line : Nat) : KeepsSched h p s (s.underNote h p frame line) := by
  unfold State.underNote State.incSat
  have hself : KeepsSched h p s s := keepsSched_of rfl fun _ _ => rfl
  exact (((((hself.put _ (by decide) (by decide) (by decide)).put _ (by decide) (by decide) (by decide)).put _ (by decide) (by decide)
    (by decide)).put _ (by decide) (by decide) (by decide)).put _ (by decide) (by decide) (by decide)).raise _

@[simp] theorem raise_get (q q' : Pg) (f : Fld) : (s.raise q).get q' f = s.get q' f := rfl

theorem underNote_under (frame line : Nat) : (s.underNote h p frame line).flag (pgCmp h p) F.CMP_UNDER_UNDER = true := by
  have hget : (s.underNote h p frame line).get (pgCmp h p) F.CMP_UNDER_UNDER = 1 := by
    simp only [State.underNote, State.incSat]
    rw [raise_get, get_put_off _ _ _ (by decide), get_put_off _ _ _ (by decide), get_put_field _ _ (by decide) (by decide) (by decide),
      get_put_field _ _ (by decide) (by decide) (by decide)]
    exact get_put_same _ _ _ _ (by decide)
  simp [State.flag, hget]

theorem underNote_count (frame line : Nat) :
    (s.underNote h p frame line).get (pgCmp h p) F.CMP_UNDER_COUNT = min 65535 (s.get (pgCmp h p) F.CMP_UNDER_COUNT + 1) := by
  simp only [State.underNote]
  rw [raise_get, get_put_off _ _ _ (by decide), get_put_off _ _ _ (by decide), State.incSat, get_put_field _ _ (by decide) (by decide) (by decide),
    get_incSat_same _ _ _ (by decide), get_put_field _ _ (by decide) (by decide) (by decide)]
  rfl

theorem underNote_run (frame line : Nat) :
    (s.underNote h p frame line).get (pgCmp h p) F.CMP_UNDER_RUN = min 255 (s.get (pgCmp h p) F.CMP_UNDER_RUN + 1) := by
  simp only [State.underNote]
  rw [raise_get, get_put_off _ _ _ (by decide), get_put_off _ _ _ (by decide), get_incSat_same _ _ _ (by decide), State.incSat,
    get_put_field _ _ (by decide) (by decide) (by decide), get_put_field _ _ (by decide) (by decide) (by decide)]
  rfl

theorem underNote_line (frame line : Nat) : (s.underNote h p frame line).get (pgCmp h p) F.CMP_UNDER_AT_LINE = line % 4096 := by
  simp only [State.underNote]
  rw [raise_get]
  exact get_put_same _ _ _ _ (by decide)

theorem underNote_pipe (frame line : Nat) : (s.underNote h p frame line).pipe h p = s.pipe h p := by cases h <;> rfl

theorem underNote_link (frame line : Nat) : ((s.underNote h p frame line).hs h).link = (s.hs h).link := by cases h <;> rfl

theorem memEq_underNote (frame line : Nat) : MemEq s (s.underNote h p frame line) := memEq_rfl s

variable (sent : Nat) (stalled : Bool)

/-- Beside the record of the underrun, only the mark of an unpredictable stream and an event come between the line sent and its closing. -/
theorem lineCut_eq : ∃ u v,
    KeepsLine h p (s.sendPacket h { port := p, line := (s.pipe h p).closed, pixels := s.cutPixels h p sent }) u ∧
      KeepsLine h p (u.underNote h p (s.pipe h p).frame (s.pipe h p).closed) v ∧
      s.lineCut h p sent stalled =
        (v.setPipe h p { v.pipe h p with run := (s.pipe h p).run + 1, stalled := stalled }).lineClosed h p (s.pipe h p).closed := by
  unfold State.lineCut
  extract_lets q pg n s1 s2 s3
  exact ⟨_, s3, keepsLine_ite (keepsLine_rfl h p s1) (lineFree_keeps h p s1 _),
    keepsLine_ite (event_keepsLine h p s2 _ _ _ _ _) (keepsLine_rfl h p s2), rfl⟩

/-- What a line cut off shows, and by what the run of underruns is reported as a fault (R106, R109). -/
theorem lineCut_spec :
    let line := (s.pipe h p).closed
    let t := s.lineCut h p sent stalled
    ((t.hs h).link = (s.hs h).link ++ [{ port := p, line := line, pixels := s.cutPixels h p sent }] ∧
      t.flag (pgCmp h p) F.CMP_UNDER_UNDER = true ∧ t.get (pgCmp h p) F.CMP_UNDER_COUNT = min 65535 (s.get (pgCmp h p) F.CMP_UNDER_COUNT + 1) ∧
      t.get (pgCmp h p) F.CMP_UNDER_AT_LINE = line % 4096 ∧ (t.pipe h p).closed = line + 1 ∧ (t.pipe h p).run = (s.pipe h p).run + 1 ∧
      (t.pipe h p).stalled = stalled ∧ SameMem s t) ∧
    (t.pipe h p).reported = (s.pipe h p).reported ∧ t.faultLines h p = s.faultLines h p ∧
    t.get (pgCmp h p) F.CMP_UNDER_RUN = min 255 (s.get (pgCmp h p) F.CMP_UNDER_RUN + 1) := by
  intro line t
  obtain ⟨u, v, hu, hv, ht⟩ := lineCut_eq h p s sent stalled
  obtain ⟨w, ⟨hclosed, hrun, hreported, hstalled⟩, hkeeps⟩ :=
    lineClosed_keeps h p (v.setPipe h p { v.pipe h p with run := (s.pipe h p).run + 1, stalled := stalled }) line
  rw [pipe_setPipe_same] at hrun hreported hstalled
  change t = _ at ht
  rw [← ht] at hkeeps
  have hcmp (f : Fld) (hoff : f.off < 0x10000) (h4 : f.off ≠ 4) (hfill : f.off ≠ 0x18) (hband : f.off ≠ 0x14) :
      t.get (pgCmp h p) f = (u.underNote h p (s.pipe h p).frame line).get (pgCmp h p) f := by
    rw [hkeeps.cmp f hoff hfill fun h => absurd h hband, setPipe_get, setPipe_get, hv.cmp f hoff h4]
  have hstart (f : Fld) (hoff : f.off < 0x10000) (h4 : f.off ≠ 4) : u.get (pgCmp h p) f = s.get (pgCmp h p) f := by
    rw [hu.cmp f hoff h4, sendPacket_get]
  refine ⟨⟨?_, ?_, ?_, ?_, ?_, ?_, ?_, ?_⟩, ?_, ?_, ?_⟩
  · rw [hkeeps.link, setPipe_link, setPipe_link, hv.link, underNote_link, hu.link, sendPacket_link]
  · rw [State.flag, hcmp _ (by decide) (by decide) (by decide) (by decide)]
    exact underNote_under h p u _ _
  · rw [hcmp _ (by decide) (by decide) (by decide) (by decide), underNote_count, hstart _ (by decide) (by decide)]
  · rw [hcmp _ (by decide) (by decide) (by decide) (by decide), underNote_line]
  · rw [hkeeps.closed, pipe_setPipe_same, hclosed]
  · rw [hkeeps.run, pipe_setPipe_same, hrun]
  · rw [hkeeps.stalled, pipe_setPipe_same, hstalled]
  · have hsent := (memEq_sendPacket s h _).trans hu.mem
    have hnoted := (hsent.trans (memEq_underNote h p u _ _)).trans hv.mem
    exact (((hnoted.trans (memEq_setPipe _ _ _ _)).trans (memEq_setPipe _ _ _ _)).trans hkeeps.mem).sameMem
  · rw [hkeeps.reported, pipe_setPipe_same, hreported, hv.reported, underNote_pipe, hu.reported, sendPacket_pipe]
  · have hsent : KeepsSched h p s u := (keepsSched_of (memEq_sendPacket s h _).1 (sendPacket_get s h _)).trans hu.sched
    have hnoted := (hsent.trans (underNote_sched h p u _ _)).trans hv.sched
    exact (((hnoted.trans (setPipe_sched _ _ _ _)).trans (setPipe_sched _ _ _ _)).trans hkeeps.keepsSched).faultLines
  · rw [hcmp _ (by decide) (by decide) (by decide) (by decide), underNote_run, hstart _ (by decide) (by decide)]

end

section
variable {h : Half} {p : Fin 8} {s : State}

theorem execLineCutoff_idle (sent : Nat) (stalled : Bool) (hidle : s.pipeRuns h p = false ∨ s.vActive p ≤ (s.pipe h p).closed ∨
    (s.pipe h p).closed ≠ (s.portLine p + 1) % (max 1 (s.vTotal p))) : execLineCutoff h p sent stalled s = .next s := by
  rw [execLineCutoff_eq, if_pos]
  simpa [or_assoc] using hidle

theorem lineCutoff_sends (sent : Nat) (stalled : Bool) (hruns : s.pipeRuns h p = true) (hactive : (s.pipe h p).closed < s.vActive p)
    (hline : (s.pipe h p).closed = (s.portLine p + 1) % (max 1 (s.vTotal p)))
    (hquiet : (s.pipe h p).reported = true ∨ min 255 (s.get (pgCmp h p) F.CMP_UNDER_RUN + 1) < s.faultLines h p) :
    exec (.lineCutoff h p sent stalled) s = .next (s.lineCut h p sent stalled) := by
  obtain ⟨-, hreported, hfault, hrun⟩ := lineCut_spec h p s sent stalled
  rw [exec_lineCutoff, execLineCutoff_eq, if_neg (by simp [hruns, hactive, ← hline])]
  refine if_neg ?_
  rw [hreported, hfault, hrun]
  rcases hquiet with h | h
  · simp [h]
  · simp [Nat.not_le.2 h]

end

/-! ## Line starts, chunks and the resumed engine (R84, R107, R460) -/

/-- Fetch may take line f, if it is an active one. -/
def State.allowFetch (s : State) (h : Half) (p f : Nat) : State :=
  if f < s.vActive p then s.setPipe h p { s.pipe h p with fetchUpTo := max (s.pipe h p).fetchUpTo (f + 1) } else s

/-- Compose may begin line c, if it is an active one. -/
def State.allowCompose (s : State) (h : Half) (p c : Nat) : State :=
  if c < s.vActive p then s.setPipe h p { s.pipe h p with waiting := some c } else s

/-- A granted chunk enters the fetch buffer; one of a closed line joins the rows held, or goes. -/
def Pipe.arrive (q : Pipe) (c : Chunk) (rest : List Chunk) : Pipe :=
  let q := { q with granted := rest }
  if c.line < q.closed then
    (if q.fetchesLine c.line || (q.heldWhole ++ q.haves.flatMap fun e => e.2).contains (c.lslot, c.kind, c.row) then { q with held := q.held ++ [c] }
     else q)
  else { q with buf := q.buf ++ [c] }

theorem arrive_granted (q : Pipe) (c : Chunk) (rest : List Chunk) : (q.arrive c rest).granted = rest := by
  unfold Pipe.arrive
  dsimp only
  repeat' split
  all_goals rfl

theorem arrive_open {q : Pipe} {c : Chunk} {rest : List Chunk} (h : q.closed ≤ c.line) : (q.arrive c rest).buf = q.buf ++ [c] :=
  congrArg Pipe.buf (if_neg (Nat.not_lt.2 h))

section
variable {h : Half} {p : Fin 8} {s : State}

theorem execPipeLineStart_stopped (hruns : s.pipeRuns h p = false) : execPipeLineStart h p s = .next s := if_pos (by simp [hruns])

theorem allowFetch_spec (h : Half) (p : Fin 8) (s : State) (f : Nat) :
    (f < s.vActive p → f + 1 ≤ ((s.allowFetch h p f).pipe h p).fetchUpTo) ∧
      ((s.allowFetch h p f).pipe h p).closed = (s.pipe h p).closed ∧ MemEq s (s.allowFetch h p f) := by
  unfold State.allowFetch
  split
  · simp [memEq_setPipe]
  next hf => simp [hf, memEq_rfl]

theorem allowCompose_spec (h : Half) (p : Fin 8) (s : State) (c : Nat) :
    (c < s.vActive p → ((s.allowCompose h p c).pipe h p).waiting = some c) ∧
      ((s.allowCompose h p c).pipe h p).fetchUpTo = (s.pipe h p).fetchUpTo ∧
      ((s.allowCompose h p c).pipe h p).closed = (s.pipe h p).closed ∧ MemEq s (s.allowCompose h p c) := by
  unfold State.allowCompose
  split
  · simp [memEq_setPipe]
  next hc => simp [hc, memEq_rfl]

theorem allowFetch_vActive (h : Half) (p : Fin 8) (s : State) (f : Nat) : (s.allowFetch h p f).vActive p = s.vActive p := by
  unfold State.allowFetch
  split
  · exact setPipe_get _ _ _ _ _ _
  · rfl

theorem pipeLineStart_allows (hruns : s.pipeRuns h p = true) : Does (.pipeLineStart h p) s fun t =>
    let f := (s.portLine p + 4) % (max 1 (s.vTotal p))
    let c := (s.portLine p + 2) % (max 1 (s.vTotal p))
    (f < s.vActive p → f + 1 ≤ (t.pipe h p).fetchUpTo) ∧ (c < s.vActive p → (t.pipe h p).waiting = some c) ∧
      (t.pipe h p).closed = (s.pipe h p).closed ∧ SameMem s t := by
  let f := (s.portLine p + 4) % (max 1 (s.vTotal p))
  let c := (s.portLine p + 2) % (max 1 (s.vTotal p))
  have hexec : exec (.pipeLineStart h p) s = .next ((((s.allowFetch h p f).allowCompose h p c).composeStart h p).fetchStep h p) :=
    (exec_pipeLineStart h p s).trans (if_neg (by simp [hruns]))
  obtain ⟨hfetch, hclosed, hmem⟩ := allowFetch_spec h p s f
  obtain ⟨hwaiting, hfetch', hclosed', hmem'⟩ := allowCompose_spec h p (s.allowFetch h p f) c
  rw [allowFetch_vActive] at hwaiting
  have hkeeps := (keepsPipe_rfl h p ((s.allowFetch h p f).allowCompose h p c)).composeStart.fetchStep
  exact ⟨_, hexec, fun hf => (hfetch hf).trans (hkeeps.fetchUpTo.trans hfetch').ge, fun hc => hkeeps.waiting.trans (hwaiting hc),
    hkeeps.closed.trans (hclosed'.trans hclosed), ((hmem.trans hmem').trans hkeeps.mem).sameMem⟩

theorem fetchChunkArrival_none (hgranted : (s.pipe h p).granted = []) : exec (.fetchChunkArrival h p) s = .next s := by
  simp only [exec_fetchChunkArrival, execFetchChunkArrival, hgranted]

theorem fetchChunkArrival_takes {c : Chunk} {rest : List Chunk} (hgranted : (s.pipe h p).granted = c :: rest) :
    Does (.fetchChunkArrival h p) s fun t => rest <+: (t.pipe h p).granted ∧
      ((s.pipe h p).closed ≤ c.line → (t.pipe h p).buf = (s.pipe h p).buf ++ [c]) ∧ SameMem s t := by
  have hexec : exec (.fetchChunkArrival h p) s = .next ((s.setPipe h p ((s.pipe h p).arrive c rest)).fetchStep h p) := by
    simp only [exec_fetchChunkArrival, execFetchChunkArrival, hgranted]
    rfl
  have hkeeps := (keepsPipe_rfl h p (s.setPipe h p ((s.pipe h p).arrive c rest))).fetchStep
  refine ⟨_, hexec, ?_, fun hopen => ?_, ((memEq_setPipe _ _ _ _).trans hkeeps.mem).sameMem⟩
  · simpa only [pipe_setPipe_same, arrive_granted] using hkeeps.granted
  · rw [hkeeps.buf, pipe_setPipe_same, arrive_open hopen]

theorem composeResume_goes (h : Half) (p : Fin 8) (s : State) : Does (.composeResume h p) s fun t =>
    (t.pipe h p).stalled = false ∧ (t.pipe h p).closed = (s.pipe h p).closed ∧ SameMem s t := by
  have hkeeps := (keepsPipe_rfl h p (s.setPipe h p { s.pipe h p with stalled := false })).composeStart
  refine ⟨_, exec_composeResume h p s, ?_, ?_, ((memEq_setPipe _ _ _ _).trans hkeeps.mem).sameMem⟩
  · rw [hkeeps.stalled, pipe_setPipe_same]
  · rw [hkeeps.closed, pipe_setPipe_same]

end
end Sys2Proof.Machine
end

section
/-! SUPPORT. The latch of a composition pipe (R79, R80, R98): what a marker shows, what the latch copies, and what follows it in the same line. -/

namespace Sys2Proof.Machine

theorem exec_cmpGo (rq : Requester) (p : Fin 8) (s : State) : exec (.cmpGo rq p) s = execCmpGo rq p s := rfl
theorem exec_latchMarker (h : Half) (p : Fin 8) (s : State) : exec (.latchMarker h p) s = execLatchMarker h p s := rfl

/-! ## The shadows -/

theorem tblKeep_insert {α : Type} {keep : Nat → Bool} {k : Nat} (hk : keep k = false) (v : α) (m : List (Nat × α)) :
    tblKeep keep (tblInsert k v m) = tblKeep keep m := by
  induction m with
  | nil => simp [tblInsert, tblKeep, hk]
  | cons e r ih =>
    obtain ⟨j, w⟩ := e
    simp only [tblKeep] at ih
    by_cases hlt : k < j
    · simp [tblInsert, tblKeep, hlt, hk]
    · by_cases heq : j = k
      · simp [tblInsert, tblKeep, heq, hk]
      · simp [tblInsert, tblKeep, hlt, heq, List.filter_cons, ih]

theorem tblKeep_erase {α : Type} {keep : Nat → Bool} {k : Nat} (hk : keep k = false) (m : List (Nat × α)) :
    tblKeep keep (tblErase k m) = tblKeep keep m := by
  induction m with
  | nil => rfl
  | cons e r ih =>
    obtain ⟨j, w⟩ := e
    simp only [tblKeep] at ih
    by_cases heq : j = k
    · simp [tblErase, tblKeep, heq, hk, ih]
    · simp [tblErase, tblKeep, heq, List.filter_cons, ih]

/-- A write of an entry that is not looked at. -/
theorem tblKeep_set {α : Type} [DecidableEq α] {keep : Nat → Bool} {k : Nat} (hk : keep k = false) (d : Nat → α) (m : List (Nat × α)) (v : α) :
    tblKeep keep (tblSet d m k v) = tblKeep keep m := by
  rw [tblSet_eq]
  split
  · exact tblKeep_erase hk m
  · exact tblKeep_insert hk v m

/-- The keys of the shadow registers of a pipe. -/
def shadowKey (h : Half) (p key : Nat) : Bool :=
  isShadow (key - (pgCmp h p).key 0) && ((pgCmp h p).key 0 ≤ key && key < (pgCmp h p).key 0 + 0x10000)

theorem shadows_eq (s : State) (h : Half) (p : Nat) :
    s.shadows h p = (tblKeep (shadowKey h p) s.regs).map fun e => (e.1 - (pgCmp h p).key 0, e.2) := by
  simp only [State.shadows, tblWindow, List.filter_map, List.filter_filter, tblKeep, shadowKey]
  rfl

/-- A write of a register that is no shadow. -/
theorem shadows_setReg (s : State) (h : Half) (p : Nat) {off : Nat} (w : Word) (hoff : isShadow off = false) :
    (s.setReg (pgCmp h p) off w).shadows h p = s.shadows h p := by
  have hkey : shadowKey h p ((pgCmp h p).key off) = false := by
    have hsub : (pgCmp h p).key off - (pgCmp h p).key 0 = off := by
      simp only [Pg.key]
      omega
    simp [shadowKey, hsub, hoff]
  rw [shadows_eq, shadows_eq]
  exact congrArg _ (tblKeep_set hkey _ _ _)

/-! ## What the marker shows (R91, R94, R98) -/

/-- The pipe has taken a marker: its tier, role and frame show, and CMP_STATUS, the active copies and the shadows are as before. -/
structure TakesMarker (h : Half) (p : Fin 8) (m : Marker) (s t : State) : Prop where
  mem : MemEq s t
  marker : (t.port p).marker h = (s.port p).marker h
  tier : t.get (pgCmp h p) F.CMP_SCHED_TIER = m.tier % 8
  role : t.get (pgCmp h p) F.CMP_SCHED_ROLE = m.role % 8
  status : ∀ f, f.off = 4 → t.get (pgCmp h p) f = s.get (pgCmp h p) f
  frame : (t.pipe h p).frame = m.frame
  act : (t.pipe h p).act = (s.pipe h p).act
  shadows : t.shadows h p = s.shadows h p

section
variable {h : Half} {p : Fin 8} {m : Marker} {r s : State}

theorem TakesMarker.setReg (k : TakesMarker h p m r s) {o : Nat} (w : Word) (hstatus : o ≠ 4) (hsched : o ≠ 0x14)
    (hshadow : isShadow o = false) : TakesMarker h p m r (s.setReg (pgCmp h p) o w) := by
  refine ⟨k.mem, k.marker, ?_, ?_, fun f hf => ?_, by simpa using k.frame, by simpa using k.act, ?_⟩
  · rw [get_setReg_off _ _ _ hsched.symm, k.tier]
  · rw [get_setReg_off _ _ _ hsched.symm, k.role]
  · rw [get_setReg_off _ _ _ (by omega), k.status f hf]
  · rw [shadows_setReg _ _ _ _ hshadow, k.shadows]

theorem TakesMarker.put (k : TakesMarker h p m r s) {f : Fld} (v : Nat) (hstatus : f.off ≠ 4) (hsched : f.off ≠ 0x14)
    (hshadow : isShadow f.off = false) : TakesMarker h p m r (s.put (pgCmp h p) f v) := k.setReg _ hstatus hsched hshadow

theorem TakesMarker.putVariant (k : TakesMarker h p m r s) (v : Nat) : TakesMarker h p m r (s.put (pgCmp h p) F.CMP_SCHED_VARIANT v) := by
  refine ⟨k.mem, k.marker, ?_, ?_, fun f hf => ?_, by simpa using k.frame, by simpa using k.act, ?_⟩
  · rw [get_put_field _ _ (by decide) (by decide) (by decide), k.tier]
  · rw [get_put_field _ _ (by decide) (by decide) (by decide), k.role]
  · rw [get_put_off _ _ _ (by rw [hf]; decide), k.status f hf]
  · rw [State.put, shadows_setReg _ _ _ _ (by decide), k.shadows]

theorem TakesMarker.setPipe (k : TakesMarker h p m r s) {v : Pipe} (hframe : v.frame = (s.pipe h p).frame) (hact : v.act = (s.pipe h p).act) :
    TakesMarker h p m r (s.setPipe h p v) := by
  refine ⟨k.mem.trans (memEq_setPipe _ _ _ _), ?_, ?_, ?_, fun f hf => ?_, ?_, ?_, ?_⟩
  · rw [setPipe_port, k.marker]
  · rw [setPipe_get, k.tier]
  · rw [setPipe_get, k.role]
  · rw [setPipe_get, k.status f hf]
  · rw [pipe_setPipe_same, hframe, k.frame]
  · rw [pipe_setPipe_same, hact, k.act]
  · rw [← k.shadows, State.shadows, State.shadows, State.setPipe, setHs_regs]

theorem takesMarker_ite {c : Prop} [Decidable c] {t u : State} (ht : TakesMarker h p m r t) (hu : TakesMarker h p m r u) :
    TakesMarker h p m r (if c then t else u) := by split <;> assumption

theorem TakesMarker.fillShow (k : TakesMarker h p m r s) : TakesMarker h p m r (s.fillShow h p) := by
  have hput (f : Fld) (hf : f.off = 0x18) (v : Nat) {t : State} (ht : TakesMarker h p m r t) : TakesMarker h p m r (t.put (pgCmp h p) f v) :=
    ht.put v (by omega) (by omega) (by rw [hf]; decide)
  unfold State.fillShow
  extract_lets pg fill s1 owed
  have h1 : TakesMarker h p m r s1 := hput _ rfl _ k
  exact takesMarker_ite (hput _ rfl _ h1) (takesMarker_ite (hput _ rfl _ h1) h1)

/-- The requests and the chunks of the frame before go, and the pipe stands at the start of the new one. -/
def State.markerStart (s : State) (h : Half) (p : Nat) (m : Marker) : State :=
  let hs := s.hs h
  let s := s.setHs h { hs with dram := { hs.dram with queue := hs.dram.queue.filter fun r => r.pipe ≠ some p } }
  let q := s.pipe h p
  s.setPipe h p { q with
    frame := m.frame, fetchNext := 0, fetchUpTo := 0, fetching := none, granted := [], buf := [], held := [], heldWhole := [],
    haves := [], composing := none, waiting := none, closed := 0 }

theorem markerStart_shows (h : Half) (p : Fin 8) (m : Marker) (s : State) : TakesMarker h p m s
    (((s.markerStart h p m).put (pgCmp h p) F.CMP_SCHED_TIER m.tier).put (pgCmp h p) F.CMP_SCHED_ROLE m.role) := by
  have hget (f : Fld) : (s.markerStart h p m).get (pgCmp h p) f = s.get (pgCmp h p) f := by
    rw [State.markerStart, setPipe_get, setHs_r_get]
  refine ⟨(memEq_setHs _ _ _).trans (memEq_setPipe _ _ _ _), ?_, ?_, ?_, fun f hf => ?_, ?_, ?_, ?_⟩
  · simp [State.markerStart]
  · rw [get_put_field _ _ (by decide) (by decide) (by decide), get_put_same _ _ _ _ (by decide)]
    rfl
  · exact get_put_same _ _ _ _ (by decide)
  · rw [get_put_off _ _ _ (by rw [hf]; decide), get_put_off _ _ _ (by rw [hf]; decide), hget]
  · simp [State.markerStart]
  · rw [put_pipe, put_pipe, State.markerStart, pipe_setPipe_same]
    simp only [State.pipe, hs_setHs_same]
  · rw [State.put, shadows_setReg _ _ _ _ (by decide), State.put, shadows_setReg _ _ _ _ (by decide)]
    simp only [State.shadows, State.markerStart, State.setPipe, setHs_regs]

theorem takeMarker_takes (h : Half) (p : Fin 8) (m : Marker) (s : State) : TakesMarker h p m s (s.takeMarker h p m) := by
  unfold State.takeMarker
  extract_lets pg hs d s1 q s2 s3 s4 v q' s5 s6 s7 s8
  have h4 : TakesMarker h p m s s4 := markerStart_shows h p m s
  have h5 : TakesMarker h p m s s5 := h4.setPipe rfl rfl
  have h6 : TakesMarker h p m s s6 := h5.putVariant v
  have h7 : TakesMarker h p m s s7 := h6.setReg _ (by decide) (by decide) (by decide)
  exact takesMarker_ite h4.fillShow ((h7.put _ (by decide) (by decide) (by decide)).put _ (by decide) (by decide) (by decide))

/-! ## The latch (R79) -/

theorem KeepsPipe.ickTake (k : KeepsPipe h p r s) : KeepsPipe h p r (s.ickTake h p) := by
  have hput {t : State} (ht : KeepsPipe h p r t) (v : Nat) : KeepsPipe h p r
      (t.put (pgIck p) (if s.ownerOf p = some h then F.ICK_STATUS_PENDING_S else F.ICK_STATUS_PENDING_U) v) := by
    split
    · exact ht.putIck _ _ (by decide) (by decide)
    · exact ht.putIck _ _ (by decide) (by decide)
  exact (hput k 0).setPort (by cases h <;> rfl)

theorem KeepsPipe.setInst (k : KeepsPipe h p r s) (i : Nat) (v : Inst) : KeepsPipe h p r (s.setInst h i v) := k.setHs rfl rfl

theorem KeepsPipe.digestCapture (k : KeepsPipe h p r s) : KeepsPipe h p r (s.digestCapture h p) := by
  unfold State.digestCapture
  extract_lets q
  split
  · exact k
  · exact k.setPort (by cases h <;> rfl)

/-- What a marker showed stays. -/
structure KeepsShown (h : Half) (p : Fin 8) (s t : State) : Prop where
  mem : MemEq s t
  marker : (t.port p).marker h = (s.port p).marker h
  frame : (t.pipe h p).frame = (s.pipe h p).frame
  tier : t.get (pgCmp h p) F.CMP_SCHED_TIER = s.get (pgCmp h p) F.CMP_SCHED_TIER
  role : t.get (pgCmp h p) F.CMP_SCHED_ROLE = s.get (pgCmp h p) F.CMP_SCHED_ROLE

/-- CMP_STATUS and the active copies stay too, and with them whether the stream is unpredictable. -/
structure KeepsLatched (h : Half) (p : Fin 8) (s t : State) : Prop extends KeepsShown h p s t where
  status : ∀ f, f.off = 4 → t.get (pgCmp h p) f = s.get (pgCmp h p) f
  act : (t.pipe h p).act = (s.pipe h p).act
  wild : t.streamWild h p = s.streamWild h p

/-- The shadows of a pipe are latched: all at once, and counted unless the stream is unpredictable. -/
structure Latches (h : Half) (p : Fin 8) (s t : State) : Prop extends KeepsShown h p s t where
  pending : t.flag (pgCmp h p) F.CMP_STATUS_PENDING = false
  latched : t.flag (pgCmp h p) F.CMP_STATUS_LATCHED = true
  act : (t.pipe h p).act = s.shadows h p
  frames : t.streamWild h p = false → t.get (pgCmp h p) F.CMP_STATUS_FRAMES = (s.get (pgCmp h p) F.CMP_STATUS_FRAMES + 1) % 65536

theorem KeepsPipe.keepsLatched {t : State} (k : KeepsPipe h p s t) : KeepsLatched h p s t :=
  ⟨⟨k.mem, k.marker, k.frame, k.cmp _ (by decide) (by decide) (by decide), k.cmp _ (by decide) (by decide) (by decide)⟩,
    fun f hf => k.cmp f (by omega) (by omega) (by omega), k.act, k.keepsSched.streamWild k.act k.wild⟩

theorem KeepsShown.trans {t u : State} (hst : KeepsShown h p s t) (htu : KeepsShown h p t u) : KeepsShown h p s u :=
  ⟨hst.mem.trans htu.mem, htu.marker.trans hst.marker, htu.frame.trans hst.frame, htu.tier.trans hst.tier, htu.role.trans hst.role⟩

theorem KeepsLatched.trans {t u : State} (hst : KeepsLatched h p s t) (htu : KeepsLatched h p t u) : KeepsLatched h p s u :=
  ⟨hst.toKeepsShown.trans htu.toKeepsShown, fun f hf => (htu.status f hf).trans (hst.status f hf), htu.act.trans hst.act,
    htu.wild.trans hst.wild⟩

theorem setPipe_shown {v : Pipe} (hframe : v.frame = (s.pipe h p).frame) : KeepsShown h p s (s.setPipe h p v) :=
  ⟨memEq_setPipe _ _ _ _, by simp, by simp [hframe], setPipe_get _ _ _ _ _ _, setPipe_get _ _ _ _ _ _⟩

theorem setPipe_latched {v : Pipe} (hframe : v.frame = (s.pipe h p).frame) (hact : v.act = (s.pipe h p).act)
    (hwild : v.wild = (s.pipe h p).wild) : KeepsLatched h p s (s.setPipe h p v) :=
  ⟨setPipe_shown hframe, fun _ _ => setPipe_get _ _ _ _ _ _, by simp [hact],
    (setPipe_sched h p s v).streamWild (by simp [hact]) (by simp [hwild])⟩

theorem putStatus_shown {f : Fld} (v : Nat) (hf : f.off = 4) : KeepsShown h p s (s.put (pgCmp h p) f v) :=
  ⟨memEq_rfl s, rfl, by simp, get_put_off _ _ _ (by rw [hf]; decide), get_put_off _ _ _ (by rw [hf]; decide)⟩

/-- The FRAMES count of a latch: one more, or a free value where the stream is unpredictable (R81). -/
def State.countFrame (s : State) (h : Half) (p : Nat) : State :=
  if s.streamWild h p then s.putFree (pgCmp h p) F.CMP_STATUS_FRAMES else s.incMod (pgCmp h p) F.CMP_STATUS_FRAMES

theorem countFrame_shown (h : Half) (p : Fin 8) (s : State) : KeepsShown h p s (s.countFrame h p) := by
  unfold State.countFrame
  split
  · exact ((keepsPipe_rfl h p s).takeFree.keepsLatched.toKeepsShown).trans (putStatus_shown _ rfl)
  · exact putStatus_shown _ rfl

/-- The rest of CMP_STATUS lies below FRAMES. -/
theorem countFrame_status (h : Half) (p : Fin 8) (s : State) {f : Fld} (hf : f.off = 4) (hlow : f.lsb + f.width ≤ 16) :
    (s.countFrame h p).get (pgCmp h p) f = s.get (pgCmp h p) f := by
  unfold State.countFrame
  split
  · exact get_put_field s.takeFree.2 _ hf (by decide) (.inl hlow)
  · exact get_put_field s _ hf (by decide) (.inl hlow)

theorem countFrame_pipe (h : Half) (p : Fin 8) (s : State) : (s.countFrame h p).pipe h p = s.pipe h p := by
  unfold State.countFrame
  split
  · exact (put_pipe s.takeFree.2 _ _ _ h p).trans (by cases h <;> rfl)
  · exact put_pipe s _ _ _ h p

theorem countFrame_wild (h : Half) (p : Fin 8) (s : State) : (s.countFrame h p).streamWild h p = s.streamWild h p := by
  have hsched : KeepsSched h p s (s.countFrame h p) := by
    unfold State.countFrame
    split
    · exact (keepsPipe_rfl h p s).takeFree.keepsSched.put _ (by decide) (by decide) (by decide)
    · exact keepsSched_put h p s _ (by decide) (by decide) (by decide)
  exact hsched.streamWild (by rw [countFrame_pipe]) (by rw [countFrame_pipe])

theorem countFrame_frames (hwild : s.streamWild h p = false) :
    (s.countFrame h p).get (pgCmp h p) F.CMP_STATUS_FRAMES = (s.get (pgCmp h p) F.CMP_STATUS_FRAMES + 1) % 65536 := by
  rw [State.countFrame, if_neg (by simp [hwild])]
  exact get_put_same _ _ _ _ (by decide)

/-- The shadows become the active copies, and GO is no longer pending. -/
def State.latchShadows (s : State) (h : Half) (p : Nat) : State :=
  ((s.setPipe h p { s.pipe h p with act := s.shadows h p }).put (pgCmp h p) F.CMP_STATUS_PENDING 0).put (pgCmp h p) F.CMP_STATUS_LATCHED 1

theorem latchShadows_shown (h : Half) (p : Fin 8) (s : State) : KeepsShown h p s (s.latchShadows h p) :=
  have hset := setPipe_shown (h := h) (p := p) (s := s) (v := { s.pipe h p with act := s.shadows h p }) rfl
  (hset.trans (putStatus_shown _ rfl)).trans (putStatus_shown _ rfl)

/-- What waits for the latch learns of it, and the check unit acknowledges it (R148, R240, R247). -/
theorem latch_keeps (h : Half) (p : Fin 8) (s : State) : KeepsPipe h p ((s.latchShadows h p).countFrame h p) (s.latch h p) :=
  (keepsPipe_rfl h p _).ickTake.each fun _ _ ht => ht.setInst _ _

theorem latch_latches (h : Half) (p : Fin 8) (s : State) : Latches h p s (s.latch h p) := by
  have htail := (latch_keeps h p s).keepsLatched
  have hcount := countFrame_shown h p (s.latchShadows h p)
  refine ⟨((latchShadows_shown h p s).trans hcount).trans htail.toKeepsShown, ?_, ?_, ?_, fun hwild => ?_⟩
  · rw [State.flag, htail.status _ rfl, countFrame_status _ _ _ rfl (by decide), State.latchShadows,
      get_put_field _ _ (by decide) (by decide) (by decide), get_put_same _ _ _ _ (by decide)]
    rfl
  · rw [State.flag, htail.status _ rfl, countFrame_status _ _ _ rfl (by decide), State.latchShadows, get_put_same _ _ _ _ (by decide)]
    rfl
  · rw [htail.act, countFrame_pipe, State.latchShadows, put_pipe, put_pipe, pipe_setPipe_same]
  · rw [htail.wild, countFrame_wild] at hwild
    rw [htail.status _ rfl, countFrame_frames hwild, State.latchShadows, get_put_field _ _ (by decide) (by decide) (by decide),
      get_put_field _ _ (by decide) (by decide) (by decide), setPipe_get]

/-! ## The marker of an unlocked pipe -/

/-- What follows the latch: the digest of a handover that begins (R201), and the fetch of the new frame. -/
def State.latchTail (s : State) (h : Half) (p : Nat) (m : Marker) : State :=
  let s := s.whenB m.beginsHandover fun s => s.digestCapture h p
  if m.role = roleIdle then s else (s.setPipe h p { s.pipe h p with fetchUpTo := 1 }).fetchStep h p

theorem latchTail_keeps (h : Half) (p : Fin 8) (m : Marker) (s : State) : KeepsLatched h p s (s.latchTail h p m) := by
  unfold State.latchTail
  extract_lets s1
  have h1 : KeepsLatched h p s s1 := ((keepsPipe_rfl h p s).whenB (keepsPipe_rfl h p s).digestCapture).keepsLatched
  split
  · exact h1
  · have hset := setPipe_latched (h := h) (p := p) (s := s1) (v := { s1.pipe h p with fetchUpTo := 1 }) rfl rfl rfl
    exact (h1.trans hset).trans (keepsPipe_rfl h p _).fetchStep.keepsLatched

/-- Does the marker latch the shadows of an unlocked pipe? -/
def State.latchesAt (s : State) (h : Half) (p : Nat) (m : Marker) : Bool :=
  s.latchPoint h p m && s.flag (pgCmp h p) F.CMP_STATUS_PENDING && !(s.locked p)

theorem latchesAt_pending (hlatch : s.latchesAt h p m = true) : s.flag (pgCmp h p) F.CMP_STATUS_PENDING = true := by
  simp only [State.latchesAt, Bool.and_eq_true] at hlatch
  exact hlatch.1.2

theorem latchesAt_role {p : Nat} (hlatch : s.latchesAt h p m = true) : m.role ≠ roleIdle := by
  simp only [State.latchesAt, State.latchPoint, Bool.and_eq_true, decide_eq_true_eq] at hlatch
  exact hlatch.1.1.1

/-- The markers that reached a half at the even pipe's latch point are taken, and the shadows latched where all of them allow it. -/
def State.takeMarkers (s : State) (h : Half) (lead : Nat) (ms : List (Nat × Marker)) : State :=
  let s := s.each ms fun e s => (s.markerGone h e.1).takeMarker h e.1 e.2
  let all := ms.all fun e => s.flag (pgCmp h e.1) F.CMP_STATUS_PENDING
  let s := if ms.any (fun e => s.latchPoint h e.1 e.2) && all && (!(s.locked lead) || ms.length = 2) then
      s.each ms fun e s => s.whenB (e.2.role ≠ roleIdle) fun s => s.latch h e.1
    else s
  let s := s.each ms fun e s => s.whenB e.2.beginsHandover fun s => s.digestCapture h e.1
  s.each ms fun e s => if e.2.role = roleIdle then s else
    (s.setPipe h e.1 { s.pipe h e.1 with fetchUpTo := 1 }).fetchStep h e.1

theorem markerGone_marker (s : State) (h : Half) (p : Nat) : ((s.markerGone h p).port p).marker h = none := by
  cases h <;> simp [State.markerGone, Port.marker]

theorem execLatchMarker_eq (h : Half) (p : Fin 8) (s : State) : execLatchMarker h p s =
    let ps := (s.group p).filter fun p => ((s.port p).marker h).isSome
    if p.val ≠ (s.group p).headD p || ps.isEmpty then .next s
    else if !(s.inService h) then .next (s.each ps fun p s => s.markerGone h p)
    else .next (s.takeMarkers h p (ps.map fun p => (p, ((s.port p).marker h).getD {}))) := rfl

theorem takeMarkers_single (h : Half) (p : Nat) (m : Marker) (s : State) :
    let t := (s.markerGone h p).takeMarker h p m
    s.takeMarkers h p [(p, m)] = (t.whenB (t.latchesAt h p m) fun t => t.latch h p).latchTail h p m := by
  intro t
  have hlatch : (if t.latchPoint h p m && t.flag (pgCmp h p) F.CMP_STATUS_PENDING && !(t.locked p) then
      t.whenB (m.role ≠ roleIdle) fun t => t.latch h p else t) = t.whenB (t.latchesAt h p m) fun t => t.latch h p := by
    by_cases hl : t.latchesAt h p m = true
    · exact (if_pos hl).trans (by simp [State.whenB, hl, latchesAt_role hl])
    · exact (if_neg hl).trans (by simp [State.whenB, hl])
  rw [← hlatch]
  simp only [State.takeMarkers, each_singleton, List.any_cons, List.any_nil, List.all_cons, List.all_nil, List.length_singleton,
    Bool.or_false, Bool.and_true, Nat.reduceEqDiff, decide_false]
  rfl

section
variable (hgroup : s.group p = [p.val])
include hgroup

theorem execLatchMarker_none (hmarker : (s.port p).marker h = none) : execLatchMarker h p s = .next s := by
  simp [execLatchMarker_eq, hgroup, hmarker]

theorem execLatchMarker_lost (hmarker : (s.port p).marker h = some m) (hout : s.inService h = false) :
    execLatchMarker h p s = .next (s.markerGone h p) := by
  simp [execLatchMarker_eq, hgroup, hmarker, hout, each_singleton]

theorem execLatchMarker_taken (hmarker : (s.port p).marker h = some m) (hin : s.inService h = true) :
    execLatchMarker h p s = .next (s.takeMarkers h p [(p.val, m)]) := by
  simp [execLatchMarker_eq, hgroup, hmarker, hin]

theorem latchMarker_takes (hmarker : (s.port p).marker h = some m) (hin : s.inService h = true) : Does (.latchMarker h p) s fun t =>
    (t.port p).marker h = none ∧ t.get (pgCmp h p) F.CMP_SCHED_TIER = m.tier % 8 ∧ t.get (pgCmp h p) F.CMP_SCHED_ROLE = m.role % 8 ∧
    (t.pipe h p).frame = m.frame ∧ SameMem s t ∧
    ((t.flag (pgCmp h p) F.CMP_STATUS_PENDING = s.flag (pgCmp h p) F.CMP_STATUS_PENDING ∧ (t.pipe h p).act = (s.pipe h p).act ∧
        t.get (pgCmp h p) F.CMP_STATUS_FRAMES = s.get (pgCmp h p) F.CMP_STATUS_FRAMES) ∨
     (s.flag (pgCmp h p) F.CMP_STATUS_PENDING = true ∧ t.flag (pgCmp h p) F.CMP_STATUS_PENDING = false ∧ t.flag (pgCmp h p) F.CMP_STATUS_LATCHED = true ∧
        (t.pipe h p).act = s.shadows h p ∧
        (t.streamWild h p = false → t.get (pgCmp h p) F.CMP_STATUS_FRAMES = (s.get (pgCmp h p) F.CMP_STATUS_FRAMES + 1) % 65536))) := by
  let u := (s.markerGone h p).takeMarker h p m
  have hexec := (exec_latchMarker h p s).trans ((execLatchMarker_taken hgroup hmarker hin).trans
    (congrArg _ (takeMarkers_single h p m s)))
  have hu : TakesMarker h p m (s.markerGone h p) u := takeMarker_takes h p m _
  have hpending : u.flag (pgCmp h p) F.CMP_STATUS_PENDING = s.flag (pgCmp h p) F.CMP_STATUS_PENDING := by
    rw [State.flag, hu.status _ rfl]
    rfl
  have hact : (u.pipe h p).act = (s.pipe h p).act := hu.act.trans (by simp [State.markerGone, State.pipe])
  have hshadows : u.shadows h p = s.shadows h p := hu.shadows
  by_cases hl : u.latchesAt h p m = true
  · have hlatch := latch_latches h p u
    have htail := latchTail_keeps h p m (u.latch h p)
    rw [State.whenB, if_pos hl] at hexec
    refine ⟨_, hexec, ?_, ?_, ?_, ?_, ?_, .inr ⟨?_, ?_, ?_, ?_, fun hwild => ?_⟩⟩
    · rw [htail.marker, hlatch.marker, hu.marker, markerGone_marker]
    · rw [htail.tier, hlatch.tier, hu.tier]
    · rw [htail.role, hlatch.role, hu.role]
    · rw [htail.frame, hlatch.frame, hu.frame]
    · exact ((hu.mem.trans hlatch.mem).trans htail.mem).sameMem
    · rw [← hpending, latchesAt_pending hl]
    · rw [State.flag, htail.status _ rfl]
      exact hlatch.pending
    · rw [State.flag, htail.status _ rfl]
      exact hlatch.latched
    · rw [htail.act, hlatch.act, hshadows]
    · rw [htail.status _ rfl, hlatch.frames (htail.wild.symm.trans hwild), hu.status _ rfl]
      rfl
  · have htail := latchTail_keeps h p m u
    rw [State.whenB, if_neg hl] at hexec
    refine ⟨_, hexec, ?_, ?_, ?_, ?_, ?_, .inl ⟨?_, ?_, ?_⟩⟩
    · rw [htail.marker, hu.marker, markerGone_marker]
    · rw [htail.tier, hu.tier]
    · rw [htail.role, hu.role]
    · rw [htail.frame, hu.frame]
    · exact (hu.mem.trans htail.mem).sameMem
    · rw [State.flag, htail.status _ rfl]
      exact hpending
    · rw [htail.act, hact]
    · rw [htail.status _ rfl, hu.status _ rfl]
      rfl

end

end

/-! ## Every command of a pipe -/

/-- Settles O7: each command by its own lemma. -/
theorem pipeCommands : Obligations.PipeCommands := by
  refine ⟨fun rq p s hadm => ?_, fun h p s hgroup => ⟨fun hm => ?_, fun m hm hout => ?_, fun m hm hin => latchMarker_takes hgroup hm hin⟩,
    fun h p s hruns => ⟨?_, ?_, fun n b => ?_⟩, fun h p s hruns => pipeLineStart_allows hruns,
    fun h p s => ⟨fetchChunkArrival_none, fun c r => fetchChunkArrival_takes, composeResume_goes h p s⟩,
    fun h p s => ⟨fun hidle => ?_, fun n hcomp hready => ?_, fun n => lineClose_sends⟩,
    fun h p sent stalled s hruns => ⟨fun hidle => ?_, fun hactive hline => ⟨exec_completes _ _, fun hquiet => ?_⟩⟩⟩
  · rw [exec_cmpGo, execCmpGo, hostWrite_admitted hadm]
  · exact (exec_latchMarker h p s).trans (execLatchMarker_none hgroup hm)
  · exact (exec_latchMarker h p s).trans (execLatchMarker_lost hgroup hm hout)
  · exact (exec_pipeLineStart h p s).trans (execPipeLineStart_stopped hruns)
  · exact (exec_lineClose h p s).trans (execLineClose_stopped hruns)
  · exact (exec_lineCutoff h p n b s).trans (execLineCutoff_idle n b (.inl hruns))
  · exact (exec_lineClose h p s).trans (execLineClose_idle hidle)
  · rw [exec_lineClose, execLineClose_some hcomp, if_pos (by simp [hready])]
  · exact (exec_lineCutoff h p sent stalled s).trans (execLineCutoff_idle sent stalled (.inr hidle))
  · exact ⟨_, lineCutoff_sends sent stalled hruns hactive hline hquiet, (lineCut_spec h p s sent stalled).1⟩

end Sys2Proof.Machine
end

section
/-! SUPPORT. The discovery record and the link of a display port (R28, R29, R115 to R123): what each operation on them shows and leaves. -/

namespace Sys2Proof.Machine

/-! ## Fields of one page -/

/-- Two fields have no bit of a register in common. -/
def Fld.apart (f g : Fld) : Bool := f.off ≠ g.off || f.lsb + f.width ≤ g.lsb || g.lsb + g.width ≤ f.lsb

theorem get_put_apart (s : State) (p : Pg) {f g : Fld} (v : Nat) (hbits : f.lsb + f.width ≤ 32) (hapart : f.apart g = true) :
    (s.put p f v).get p g = s.get p g := by
  simp only [Fld.apart, Bool.or_eq_true, decide_eq_true_eq] at hapart
  obtain (hoff | hbelow) | habove := hapart
  · exact get_put_off s p v (Ne.symm hoff)
  all_goals
    by_cases hoff : g.off = f.off
    · exact get_put_field s v hoff hbits (by omega)
    · exact get_put_off s p v hoff

theorem flag_put_apart (s : State) (p : Pg) {f g : Fld} (v : Nat) (hbits : f.lsb + f.width ≤ 32) (hapart : f.apart g = true) :
    (s.put p f v).flag p g = s.flag p g := by rw [State.flag, State.flag, get_put_apart s p v hbits hapart]

theorem flag_put_same (s : State) (p : Pg) (f : Fld) (v : Nat) (hbits : f.lsb + f.width ≤ 32) :
    (s.put p f v).flag p f = decide (v % 2 ^ f.width ≠ 0) := by rw [State.flag, get_put_same s p f v hbits]

theorem flag_put_one (s : State) (p : Pg) (f : Fld) (hbits : f.lsb + f.width ≤ 32) (hwidth : 0 < f.width) :
    (s.put p f 1).flag p f = true := by
  rw [flag_put_same s p f 1 hbits, Nat.mod_eq_of_lt (Nat.one_lt_two_pow (by omega))]
  rfl

theorem flag_put_zero (s : State) (p : Pg) (f : Fld) (hbits : f.lsb + f.width ≤ 32) : (s.put p f 0).flag p f = false := by
  rw [flag_put_same s p f 0 hbits, Nat.zero_mod]
  rfl

theorem pgScn_ne_pgPat (p : Fin 8) : pgScn p ≠ pgPat := by
  simp only [pgScn, pgPat, plinthPg, ne_eq, Pg.mk.injEq, true_and]
  omega

/-! ## Memories -/

theorem MemEq.put {r s : State} (h : MemEq r s) (q : Pg) (f : Fld) (v : Nat) : MemEq r (s.put q f v) := h.trans (memEq_put s q f v)

theorem MemEq.incSat {r s : State} (h : MemEq r s) (q : Pg) (f : Fld) : MemEq r (s.incSat q f) := h.put _ _ _

theorem MemEq.incMod {r s : State} (h : MemEq r s) (q : Pg) (f : Fld) : MemEq r (s.incMod q f) := h.put _ _ _

theorem MemEq.setReg {r s : State} (h : MemEq r s) (q : Pg) (o : Nat) (w : Word) : MemEq r (s.setReg q o w) :=
  h.trans ⟨rfl, rfl, rfl, rfl, rfl⟩

theorem MemEq.setPort {r s : State} (h : MemEq r s) (n : Nat) (v : Port) : MemEq r (s.setPort n v) :=
  h.trans ⟨rfl, rfl, rfl, rfl, rfl⟩

theorem memEq_of_onlyPat {s t : State} (h : OnlyPat s t) : MemEq s t := by
  rw [h.1]
  exact memEq_rfl s

/-! ## The discovery state (R28, R29) -/

/-- An event changes no register of a port's page. -/
theorem event_getScn (s : State) (p : Fin 8) {f : Fld} (src code : Nat) (data : List Byte) (trig host : Bool) (hf : f.off < 0x10000) :
    (s.event src code data trig host).get (pgScn p) f = s.get (pgScn p) f :=
  (event_only s src code data trig host).get (pgScn_code_lt p) hf (pgScn_ne_pgPat p)

theorem event_port (s : State) (src code : Nat) (data : List Byte) (trig host : Bool) (n : Nat) :
    (s.event src code data trig host).port n = s.port n := by
  rw [(event_only s src code data trig host).1]
  rfl

section
variable (s : State) (p : Fin 8) (new : Nat) (cmd : Bool)

/-- A change of the discovery state leaves the fields below the discovery record. -/
theorem discSet_get {f : Fld} (hf : f.off < 0xF000) : (s.discSet (pgScn p) 0 new cmd).get (pgScn p) f = s.get (pgScn p) f := by
  have hput {t : State} {g : Fld} (v : Nat) (hg : g.off = 0xF000) : (t.put (pgScn p) g v).get (pgScn p) f = t.get (pgScn p) f :=
    get_put_off t _ v (by omega)
  unfold State.discSet
  extract_lets old s1 s2 s3 s4
  split
  · rfl
  · calc _ = s4.get (pgScn p) f := event_getScn s4 p _ _ _ _ _ (by omega)
      _ = s3.get (pgScn p) f := get_setReg_off s3 _ _ (by omega)
      _ = s2.get (pgScn p) f := hput 1 rfl
      _ = s1.get (pgScn p) f := hput _ rfl
      _ = s.get (pgScn p) f := hput new rfl

theorem discSet_flag {f : Fld} (hf : f.off < 0xF000) : (s.discSet (pgScn p) 0 new cmd).flag (pgScn p) f = s.flag (pgScn p) f := by
  rw [State.flag, State.flag, discSet_get s p new cmd hf]

/-- The position shows the state it was given. -/
theorem discSet_disc (hnew : new < 16) : (s.discSet (pgScn p) 0 new cmd).disc (pgScn p) 0 = new := by
  let state : Fld := F.DREC_STATUS_STATE.at (0x10 * 0)
  unfold State.discSet
  extract_lets old s1 s2 s3 s4
  split
  next h => exact h
  · calc _ = s4.get (pgScn p) state := event_getScn s4 p _ _ _ _ _ (by decide)
      _ = s3.get (pgScn p) state := get_setReg_off s3 _ _ (by decide)
      _ = s2.get (pgScn p) state := get_put_apart s2 _ 1 (by decide) (by decide)
      _ = s1.get (pgScn p) state := get_put_apart s1 _ _ (by decide) (by decide)
      _ = new % 16 := get_put_same s _ state new (by decide)
      _ = new := Nat.mod_eq_of_lt hnew

@[simp] theorem discSet_port (n : Nat) : (s.discSet (pgScn p) 0 new cmd).port n = s.port n := by
  unfold State.discSet
  extract_lets old s1 s2 s3 s4
  split
  · rfl
  · exact event_port s4 _ _ _ _ _ n

theorem memEq_discSet : MemEq s (s.discSet (pgScn p) 0 new cmd) := by
  unfold State.discSet
  extract_lets old s1 s2 s3 s4
  split
  · exact memEq_rfl s
  · have h4 : MemEq s s4 := ((((memEq_rfl s).put _ _ _).incMod _ _).put _ _ _).setReg _ _ _
    exact h4.trans (memEq_of_onlyPat (event_only ..))

end

theorem MemEq.discSet {r s : State} (h : MemEq r s) (p : Fin 8) (new : Nat) : MemEq r (s.discSet (pgScn p) 0 new) :=
  h.trans (memEq_discSet s p new false)

theorem setPort_disc (s : State) (n : Nat) (v : Port) (g : Pg) (k : Nat) : (s.setPort n v).disc g k = s.disc g k := rfl

theorem put_disc (s : State) (p : Fin 8) {f : Fld} (v : Nat) (hf : f.off < 0xF000) :
    (s.put (pgScn p) f v).disc (pgScn p) 0 = s.disc (pgScn p) 0 :=
  get_put_off s _ v (by simp only [Fld.at, F.DREC_STATUS_STATE]; omega)

/-! ## Discovery and the link (R115, R116, R121 to R123) -/

section
variable (s : State) (p : Fin 8)

theorem probe_disc : (s.probe p).disc (pgScn p) 0 = 1 := discSet_disc _ p 1 false (by decide)

theorem probe_flag {f : Fld} (hf : f.off < 0xF000) : (s.probe p).flag (pgScn p) f = s.flag (pgScn p) f := by
  rw [State.probe, discSet_flag _ p 1 false hf, setPort_r_flag]

theorem probe_port : (s.probe p).port p = { s.port p with auxFails := 0, auxWait := 1, caps := none, ident := none, training := none } := by
  rw [State.probe, discSet_port, port_setPort_same]

theorem memEq_probe : MemEq s (s.probe p) := ((memEq_rfl s).setPort _ _).discSet p 1

theorem hpdUp_absent (hdisc : s.disc (pgScn p) 0 = 0) : s.hpdUp p = (s.put (pgScn p) F.SCN_STATUS_HPD 1).probe p := by
  rw [State.hpdUp, put_disc s p 1 (by decide), if_pos hdisc]

theorem hpdUp_present (hdisc : s.disc (pgScn p) 0 ≠ 0) : s.hpdUp p = s.put (pgScn p) F.SCN_STATUS_HPD 1 := by
  rw [State.hpdUp, put_disc s p 1 (by decide), if_neg hdisc]

theorem linkLost_flag {f : Fld} (hf : F.SCN_LINK_UP.apart f = true) : (s.linkLost p).flag (pgScn p) f = s.flag (pgScn p) f := by
  rw [State.linkLost, setPort_r_flag, flag_put_apart s _ 0 (by decide) hf]

theorem linkLost_up : (s.linkLost p).flag (pgScn p) F.SCN_LINK_UP = false := by
  rw [State.linkLost, setPort_r_flag, flag_put_zero s _ _ (by decide)]

theorem linkLost_disc : (s.linkLost p).disc (pgScn p) 0 = s.disc (pgScn p) 0 := by
  rw [State.linkLost, setPort_disc, put_disc s p 0 (by decide)]

theorem linkLost_port : (s.linkLost p).port p =
    { s.port p with video := false, blen := false, blWant := false, blStart := none, training := none, sent := none } := by
  rw [State.linkLost, port_setPort_same, put_r_port]

theorem memEq_linkLost : MemEq s (s.linkLost p) := ((memEq_rfl s).put _ _ _).setPort _ _

/-- An Absent position has no link, no acceptance by command and no training (R115, R118). -/
theorem hpdDown_shows :
    let t := s.hpdDown p
    t.flag (pgScn p) F.SCN_STATUS_HPD = false ∧ t.disc (pgScn p) 0 = 0 ∧ t.flag (pgScn p) F.SCN_LINK_UP = false ∧ (t.port p).blen = false ∧
      (t.port p).byCommand = false ∧ (t.port p).training = none ∧ MemEq s t := by
  unfold State.hpdDown
  extract_lets low gone lost t
  have hmem : MemEq s lost := (((memEq_rfl s).put _ _ _).discSet p 0).trans (memEq_linkLost gone p)
  rw [setPort_r_flag, setPort_disc, setPort_r_flag, port_setPort_same]
  refine ⟨?_, ?_, linkLost_up gone p, ?_, rfl, ?_, hmem.setPort _ _⟩
  · calc lost.flag (pgScn p) F.SCN_STATUS_HPD
      _ = gone.flag (pgScn p) F.SCN_STATUS_HPD := linkLost_flag gone p (by decide)
      _ = low.flag (pgScn p) F.SCN_STATUS_HPD := discSet_flag low p 0 false (by decide)
      _ = false := flag_put_zero s _ _ (by decide)
  · exact (linkLost_disc gone p).trans (discSet_disc low p 0 false (by decide))
  · exact congrArg Port.blen (linkLost_port gone p)
  · exact congrArg Port.training (linkLost_port gone p)

/-- A position becomes Faulted by failed transactions (R116, R122). -/
theorem faulted_shows (v : Port) :
    let t := ((s.setPort p v).put (pgScn p) F.SCN_LINK_RESULT 4).discSet (pgScn p) 0 4
    t.disc (pgScn p) 0 = 4 ∧ t.get (pgScn p) F.SCN_LINK_RESULT = 4 ∧ t.flag (pgScn p) F.SCN_LINK_UP = s.flag (pgScn p) F.SCN_LINK_UP ∧
      t.port p = v ∧ MemEq s t := by
  refine ⟨discSet_disc _ p 4 false (by decide), ?_, ?_, ?_, (((memEq_rfl s).setPort _ _).put _ _ _).discSet p 4⟩
  · rw [discSet_get _ p 4 false (by decide), get_put_same _ _ _ 4 (by decide)]
    rfl
  · rw [discSet_flag _ p 4 false (by decide), flag_put_apart _ _ 4 (by decide) (by decide), setPort_r_flag]
  · rw [discSet_port, put_r_port, port_setPort_same]

/-! ## Training (R120, R121) -/

/-- The last candidate has failed, or there is none. -/
theorem trainFail_shows {result : Nat} (hresult : result < 16) :
    let t := s.trainFail p result
    t.disc (pgScn p) 0 = 4 ∧ t.flag (pgScn p) F.SCN_STATUS_TRAIN_FAIL = true ∧ t.get (pgScn p) F.SCN_LINK_RESULT = result := by
  unfold State.trainFail
  extract_lets q s1 s2
  refine ⟨discSet_disc _ p 4 false (by decide), ?_, ?_⟩
  · rw [discSet_flag _ p 4 false (by decide), flag_put_apart s2 _ result (by decide) (by decide), flag_put_one s1 _ _ (by decide) (by decide)]
  · rw [discSet_get _ p 4 false (by decide), get_put_same s2 _ _ result (by decide)]
    exact Nat.mod_eq_of_lt hresult

theorem trainFail_flag (result : Nat) {f : Fld} (hf : f.off < 0xF000) (hfail : F.SCN_STATUS_TRAIN_FAIL.apart f = true)
    (hresult : F.SCN_LINK_RESULT.apart f = true) : (s.trainFail p result).flag (pgScn p) f = s.flag (pgScn p) f := by
  rw [State.trainFail, discSet_flag _ p 4 false hf, flag_put_apart _ _ result (by decide) hresult, flag_put_apart _ _ 1 (by decide) hfail,
    setPort_r_flag]

theorem trainFail_port (result : Nat) : (s.trainFail p result).port p = { s.port p with training := none } := by
  rw [State.trainFail, discSet_port, put_r_port, put_r_port, port_setPort_same]

theorem memEq_trainFail (result : Nat) : MemEq s (s.trainFail p result) := ((((memEq_rfl s).setPort _ _).put _ _ _).put _ _ _).discSet p 4

/-- Training begins with the link down, and changes neither LINK_LOSS nor BLEN. -/
theorem train_shows :
    let t := s.train p
    t.flag (pgScn p) F.SCN_LINK_UP = false ∧ t.flag (pgScn p) F.SCN_STATUS_LINK_LOSS = s.flag (pgScn p) F.SCN_STATUS_LINK_LOSS ∧
      (t.port p).blen = (s.port p).blen ∧ MemEq s t := by
  unfold State.train
  extract_lets q c s1 s2 s3 q3 s4 t
  have hup : s4.flag (pgScn p) F.SCN_LINK_UP = false := by
    rw [setPort_r_flag, flag_put_apart s2 _ 0 (by decide) (by decide), flag_put_apart s1 _ 0 (by decide) (by decide),
      flag_put_zero s _ _ (by decide)]
  have hloss : s4.flag (pgScn p) F.SCN_STATUS_LINK_LOSS = s.flag (pgScn p) F.SCN_STATUS_LINK_LOSS := by
    rw [setPort_r_flag, flag_put_apart s2 _ 0 (by decide) (by decide), flag_put_apart s1 _ 0 (by decide) (by decide),
      flag_put_apart s _ 0 (by decide) (by decide)]
  have hblen : (s4.port p).blen = (s.port p).blen := by
    rw [port_setPort_same]
    simp only [q3, s3, s2, s1, put_r_port]
  have hmem : MemEq s s4 := ((((memEq_rfl s).put _ _ _).put _ _ _).put _ _ _).setPort _ _
  clear_value s4
  unfold t
  split
  · refine ⟨?_, ?_, ?_, hmem.trans (memEq_trainFail s4 p 2)⟩
    · rw [trainFail_flag s4 p 2 (by decide) (by decide) (by decide), hup]
    · rw [trainFail_flag s4 p 2 (by decide) (by decide) (by decide), hloss]
    · rw [trainFail_port, hblen]
  · exact ⟨hup, hloss, hblen, hmem⟩

/-- An attempt with configuration `c` has passed. -/
def State.linkTrained (s : State) (p : Nat) (c : Nat × Nat) : State :=
  ((((s.put (pgScn p) F.SCN_LINK_UP 1).put (pgScn p) F.SCN_LINK_CODING (if 8 ≤ c.1 then 1 else 0)).put (pgScn p) F.SCN_LINK_RATE c.1).put (pgScn p)
    F.SCN_LINK_LANES c.2).put (pgScn p) F.SCN_LINK_RESULT 1

theorem linkTrained_shows (c : Nat × Nat) :
    let t := s.linkTrained p c
    t.flag (pgScn p) F.SCN_LINK_UP = true ∧ t.get (pgScn p) F.SCN_LINK_RATE = c.1 % 16 ∧ t.get (pgScn p) F.SCN_LINK_LANES = c.2 % 8 ∧
      t.get (pgScn p) F.SCN_LINK_RESULT = 1 ∧ t.flag (pgScn p) F.SCN_LINK_CODING = decide (8 ≤ c.1) ∧
      t.get (pgScn p) F.SCN_LINK_TRIES = s.get (pgScn p) F.SCN_LINK_TRIES ∧ MemEq s t := by
  unfold State.linkTrained
  refine ⟨?_, ?_, ?_, get_put_same _ _ F.SCN_LINK_RESULT 1 (by decide), ?_, ?_,
    (((((memEq_rfl s).put _ _ _).put _ _ _).put _ _ _).put _ _ _).put _ _ _⟩
  · simp (disch := decide) only [flag_put_apart, flag_put_one]
  · simp (disch := decide) only [get_put_apart]
    exact get_put_same _ _ F.SCN_LINK_RATE _ (by decide)
  · simp (disch := decide) only [get_put_apart]
    exact get_put_same _ _ F.SCN_LINK_LANES _ (by decide)
  · simp (disch := decide) only [flag_put_apart]
    by_cases hcode : 8 ≤ c.1
    · rw [if_pos hcode, flag_put_one _ _ _ (by decide) (by decide), decide_eq_true hcode]
    · rw [if_neg hcode, flag_put_zero _ _ _ (by decide), decide_eq_false hcode]
  · simp (disch := decide) only [get_put_apart]

end

end Sys2Proof.Machine
end

section
/-! SUPPORT. The commands of a display port's hot plug, discovery and link training (R31, R115 to R122, R435). -/

namespace Sys2Proof.Machine

theorem exec_hpdPlug (p : Fin 8) (s : State) : exec (.hpdPlug p) s = execHpdPlug p s := rfl
theorem exec_hpdUnplug (p : Fin 8) (s : State) : exec (.hpdUnplug p) s = execHpdUnplug p s := rfl
theorem exec_hpdIrq (p : Fin 8) (s : State) : exec (.hpdIrq p) s = execHpdIrq p s := rfl
theorem exec_auxTransactionDone (p : Fin 8) (r : AuxResult) (s : State) : exec (.auxTransactionDone p r) s = execAuxTransactionDone p r s := rfl
theorem exec_discoveryRetry (p : Fin 8) (s : State) : exec (.discoveryRetry p) s = execDiscoveryRetry p s := rfl
theorem exec_scnAccept (rq : Requester) (p : Fin 8) (s : State) : exec (.scnAccept rq p) s = execScnAccept rq p s := rfl
theorem exec_scnRetrain (rq : Requester) (p : Fin 8) (s : State) : exec (.scnRetrain rq p) s = execScnRetrain rq p s := rfl
theorem exec_scnPsrEn (rq : Requester) (p : Fin 8) (b : Bool) (s : State) : exec (.scnPsrEn rq p b) s = execScnPsrEn rq p b s := rfl
theorem exec_trainAttemptDone (p : Fin 8) (b : Bool) (s : State) : exec (.trainAttemptDone p b) s = execTrainAttemptDone p b s := rfl
theorem exec_trainAttemptTimeout (p : Fin 8) (s : State) : exec (.trainAttemptTimeout p) s = execTrainAttemptTimeout p s := rfl
theorem exec_linkStatusReadDone (p : Fin 8) (r : LinkRead) (s : State) : exec (.linkStatusReadDone p r) s = execLinkStatusReadDone p r s := rfl

theorem setPort_hpdSensed (s : State) (n : Nat) (v : Port) : (s.setPort n v).hpdSensed = s.hpdSensed := rfl
theorem ack_disc (s : State) (g : Pg) (n : Nat) : s.ack.disc g n = s.disc g n := rfl
theorem ack_timing (s : State) (n : Nat) : s.ack.timing n = s.timing n := rfl
theorem ack_identityOk (s : State) (n mode : Nat) (i : SinkId) (t : Timing) : s.ack.identityOk n mode i t = s.identityOk n mode i t := rfl

section
variable {p : Fin 8} {s : State}

/-! ## Hot plug (R115, R31, R435) -/

/-- Where HPD is not sensed only its level is kept. -/
theorem hpdPlug_eq : exec (.hpdPlug p) s =
    .next (if s.hpdSensed then (s.setPort p { s.port p with hpd := true }).hpdUp p else s.setPort p { s.port p with hpd := true }) := by
  rw [exec_hpdPlug, execHpdPlug, setPort_hpdSensed]

theorem hpdUnplug_eq : exec (.hpdUnplug p) s =
    .next (if s.hpdSensed then (s.setPort p { s.port p with hpd := false }).hpdDown p else s.setPort p { s.port p with hpd := false }) := by
  rw [exec_hpdUnplug, execHpdUnplug, setPort_hpdSensed]

theorem hpdPlug_present (hsensed : s.hpdSensed = true) (hdisc : s.disc (pgScn p) 0 ≠ 0) :
    exec (.hpdPlug p) s = .next ((s.setPort p { s.port p with hpd := true }).put (pgScn p) F.SCN_STATUS_HPD 1) := by
  rw [hpdPlug_eq, if_pos hsensed, hpdUp_present]
  rwa [setPort_disc]

theorem hpdPlug_absent (hsensed : s.hpdSensed = true) (hdisc : s.disc (pgScn p) 0 = 0) : Does (.hpdPlug p) s fun t =>
    t.flag (pgScn p) F.SCN_STATUS_HPD = true ∧ t.disc (pgScn p) 0 = 1 ∧ (t.port p).hpd = true ∧ (t.port p).auxWait = 1 ∧ SameMem s t := by
  let up := (s.setPort p { s.port p with hpd := true }).put (pgScn p) F.SCN_STATUS_HPD 1
  have hprobes : exec (.hpdPlug p) s = .next (up.probe p) := by
    rw [hpdPlug_eq, if_pos hsensed, hpdUp_absent]
    rwa [setPort_disc]
  have hmem : MemEq s up := ((memEq_rfl s).setPort _ _).put _ _ _
  refine ⟨up.probe p, hprobes, ?_, probe_disc up p, ?_, by rw [probe_port], (hmem.trans (memEq_probe up p)).sameMem⟩
  · rw [probe_flag up p (by decide), flag_put_one _ _ _ (by decide) (by decide)]
  · rw [probe_port, put_r_port, port_setPort_same]

theorem hpdUnplug_sensed (hsensed : s.hpdSensed = true) : Does (.hpdUnplug p) s fun t =>
    t.flag (pgScn p) F.SCN_STATUS_HPD = false ∧ t.disc (pgScn p) 0 = 0 ∧ t.flag (pgScn p) F.SCN_LINK_UP = false ∧ (t.port p).blen = false ∧
      (t.port p).byCommand = false ∧ (t.port p).training = none ∧ SameMem s t := by
  let low := s.setPort p { s.port p with hpd := false }
  have hdown : exec (.hpdUnplug p) s = .next (low.hpdDown p) := by rw [hpdUnplug_eq, if_pos hsensed]
  obtain ⟨hhpd, hdisc, hup, hblen, hcmd, htraining, hmem⟩ := hpdDown_shows low p
  exact ⟨_, hdown, hhpd, hdisc, hup, hblen, hcmd, htraining, (((memEq_rfl s).setPort _ _).trans hmem).sameMem⟩

theorem hpdIrq_ignored (h : (s.port p).hpd = false ∨ s.hpdSensed = false) : exec (.hpdIrq p) s = .next s := by
  rw [exec_hpdIrq, execHpdIrq, if_pos (by rcases h with h | h <;> simp [h])]

theorem hpdIrq_reads (hhpd : (s.port p).hpd = true) (hsensed : s.hpdSensed = true) : exec (.hpdIrq p) s =
    .next ((s.put (pgScn p) F.SCN_STATUS_HPD_IRQ 1).setPort p { s.port p with linkRead := true, readFails := 0 }) := by
  rw [exec_hpdIrq, execHpdIrq, if_neg (by simp [hhpd, hsensed])]
  simp only [put_r_port]

/-! ## Discovery (R116, R117, R119) -/

theorem auxTransactionDone_notProbing (hdisc : s.disc (pgScn p) 0 ≠ 1) (r : AuxResult) : exec (.auxTransactionDone p r) s = .next s := by
  rw [exec_auxTransactionDone]
  exact if_pos hdisc

section
variable (hdisc : s.disc (pgScn p) 0 = 1)
include hdisc

theorem auxTransactionDone_failed : exec (.auxTransactionDone p .failed) s = .next (s.auxFail p) := by
  rw [exec_auxTransactionDone, execAuxTransactionDone, if_neg (not_not_intro hdisc)]

theorem auxTransactionDone_dpcd (c : SinkCaps) : exec (.auxTransactionDone p (.dpcd c)) s =
    if (s.port p).auxWait ≠ 1 then .next s else .next ((s.put (pgScn p) F.SCN_LINK_SINK_CRC (if c.sinkCrc then 1 else 0)).setPort p
      { s.port p with caps := some c, auxWait := 2, auxFails := 0 }) := by
  rw [exec_auxTransactionDone, execAuxTransactionDone, if_neg (not_not_intro hdisc)]
  simp only [put_r_port]

theorem auxTransactionDone_identity (i : SinkId) : exec (.auxTransactionDone p (.identity i)) s =
    if (s.port p).auxWait ≠ 2 then .next s else .next (s.identified p i) := by
  rw [exec_auxTransactionDone, execAuxTransactionDone, if_neg (not_not_intro hdisc)]

theorem auxTransactionDone_counts (hfew : (s.port p).auxFails < 6) : exec (.auxTransactionDone p .failed) s =
    .next (s.setPort p { s.port p with auxFails := (s.port p).auxFails + 1 }) := by
  rw [auxTransactionDone_failed hdisc, State.auxFail, if_pos (by omega)]

theorem auxTransactionDone_seventh (hmany : 6 ≤ (s.port p).auxFails) : Does (.auxTransactionDone p .failed) s fun t =>
    t.disc (pgScn p) 0 = 4 ∧ t.get (pgScn p) F.SCN_LINK_RESULT = 4 ∧ (t.port p).auxFails = 0 ∧ SameMem s t := by
  obtain ⟨hfaulted, hresult, -, hport, hmem⟩ := faulted_shows s p { s.port p with auxFails := 0, auxWait := 0 }
  refine ⟨_, ?_, hfaulted, hresult, congrArg Port.auxFails hport, hmem.sameMem⟩
  rw [auxTransactionDone_failed hdisc, State.auxFail, if_neg (by omega)]

theorem auxTransactionDone_answers (c : SinkCaps) (hwait : (s.port p).auxWait = 1) : Does (.auxTransactionDone p (.dpcd c)) s fun t =>
    (t.port p).caps = some c ∧ (t.port p).auxWait = 2 ∧ t.flag (pgScn p) F.SCN_LINK_SINK_CRC = c.sinkCrc ∧ t.disc (pgScn p) 0 = 1 ∧
      SameMem s t := by
  refine ⟨_, (auxTransactionDone_dpcd hdisc c).trans (if_neg (not_not_intro hwait)), by rw [port_setPort_same], by rw [port_setPort_same], ?_,
    ?_, (((memEq_rfl s).put _ _ _).setPort _ _).sameMem⟩
  · rw [setPort_r_flag]
    cases c.sinkCrc
    · exact flag_put_zero s _ _ (by decide)
    · exact flag_put_one s _ _ (by decide) (by decide)
  · rw [setPort_disc, put_disc s p _ (by decide), hdisc]

end

theorem discoveryRetry_faulted (hdisc : s.disc (pgScn p) 0 = 4) (hhpd : (s.port p).hpd = true) :
    exec (.discoveryRetry p) s = .next (s.probe p) := by
  rw [exec_discoveryRetry, execDiscoveryRetry, if_pos (by simp [hdisc, hhpd])]

theorem discoveryRetry_other (h : s.disc (pgScn p) 0 ≠ 4 ∨ (s.port p).hpd = false) : exec (.discoveryRetry p) s = .next s := by
  rw [exec_discoveryRetry, execDiscoveryRetry, if_neg (by rcases h with h | h <;> simp [h])]

/-! ## Host commands (R116, R118, R122, R135) -/

section
variable {rq : Requester} (hadm : Admitted rq (pgScn p) s)
include hadm

theorem scnAccept_noSink (h : s.disc (pgScn p) 0 ≠ 3 ∨ (s.port p).ident = none) : exec (.scnAccept rq p) s = .next s.ack := by
  rw [exec_scnAccept, execScnAccept, hostWrite_admitted hadm, ack_disc, ack_port]
  by_cases hdisc : s.disc (pgScn p) 0 = 3
  · rw [if_neg (not_not_intro hdisc), h.resolve_left (not_not_intro hdisc)]
  · rw [if_pos hdisc]

theorem scnAccept_sink (hdisc : s.disc (pgScn p) 0 = 3) {i : SinkId} (hident : (s.port p).ident = some i) : exec (.scnAccept rq p) s =
    .next (if s.identityOk p 1 i (s.timing p) then s.ack.sinkAccept p (s.timing p) true else s.ack) := by
  rw [exec_scnAccept, execScnAccept, hostWrite_admitted hadm, ack_disc, ack_port, if_neg (not_not_intro hdisc), hident]
  dsimp only
  rw [ack_timing, ack_identityOk]

theorem scnRetrain_admitted : exec (.scnRetrain rq p) s = .next
    (if s.disc (pgScn p) 0 = 2 && (s.port p).training.isNone then s.ack.train p
      else if s.disc (pgScn p) 0 = 4 && (s.port p).hpd then s.ack.probe p else s.ack) := by
  rw [exec_scnRetrain, execScnRetrain, hostWrite_admitted hadm, ack_disc, ack_port]

theorem scnPsrEn_admitted (enable : Bool) : exec (.scnPsrEn rq p enable) s = .next
    (if enable then s.ack.put (pgScn p) F.SCN_CTRL_PSR_EN 1
      else (s.ack.put (pgScn p) F.SCN_CTRL_PSR_EN 0).setPort p { s.port p with psrExit := true }) := by
  rw [exec_scnPsrEn, execScnPsrEn, hostWrite_admitted hadm]
  cases enable <;> simp only [put_r_port, ack_port, Bool.false_eq_true, if_false, if_true]

end

/-! ## Training attempts (R121) -/

theorem trainAttemptDone_idle (h : (s.port p).training = none) (ok : Bool) : exec (.trainAttemptDone p ok) s = .next s := by
  rw [exec_trainAttemptDone, execTrainAttemptDone, h]

theorem trainAttemptTimeout_idle (h : (s.port p).training = none) : exec (.trainAttemptTimeout p) s = .next s := by
  rw [exec_trainAttemptTimeout, execTrainAttemptTimeout, h]

section
variable {r : Training} (htraining : (s.port p).training = some r)
include htraining

theorem trainAttemptDone_pass :
    let t := (s.incSat (pgScn p) F.SCN_LINK_TRIES).linkTrained p (r.cands.headD (0, 0))
    exec (.trainAttemptDone p true) s = .next (t.setPort p { t.port p with training := none }) := by
  rw [exec_trainAttemptDone, execTrainAttemptDone, htraining]
  exact if_neg (by decide)

theorem trainAttemptDone_shows : Does (.trainAttemptDone p true) s fun t =>
    t.flag (pgScn p) F.SCN_LINK_UP = true ∧ t.get (pgScn p) F.SCN_LINK_RATE = (r.cands.headD (0, 0)).1 % 16 ∧
      t.get (pgScn p) F.SCN_LINK_LANES = (r.cands.headD (0, 0)).2 % 8 ∧ t.get (pgScn p) F.SCN_LINK_RESULT = 1 ∧ (t.port p).training = none ∧
      t.flag (pgScn p) F.SCN_LINK_CODING = decide (8 ≤ (r.cands.headD (0, 0)).1) ∧
      t.get (pgScn p) F.SCN_LINK_TRIES = min 255 (s.get (pgScn p) F.SCN_LINK_TRIES + 1) ∧ SameMem s t := by
  obtain ⟨hup, hrate, hlanes, hresult, hcoding, htries, hmem⟩ :=
    linkTrained_shows (s.incSat (pgScn p) F.SCN_LINK_TRIES) p (r.cands.headD (0, 0))
  have htried := htries.trans (get_incSat_same s _ _ (by decide))
  have hkept := ((memEq_rfl s).incSat (pgScn p) F.SCN_LINK_TRIES).trans hmem
  refine ⟨_, trainAttemptDone_pass htraining, ?_⟩
  exact ⟨(setPort_r_flag ..).trans hup, (setPort_r_get ..).trans hrate, (setPort_r_get ..).trans hlanes, (setPort_r_get ..).trans hresult,
    congrArg Port.training (port_setPort_same ..), (setPort_r_flag ..).trans hcoding, (setPort_r_get ..).trans htried, (hkept.setPort _ _).sameMem⟩

section
variable {c : Instr} (hc : c ∈ [Instr.trainAttemptDone p false, .trainAttemptTimeout p])
include hc

/-- A failed attempt and one that takes too long are the same. -/
theorem trainAttempt_failed : exec c s = .next ((s.incSat (pgScn p) F.SCN_LINK_TRIES).attemptFail p r) := by
  rcases List.mem_pair.mp hc with rfl | rfl
  · rw [exec_trainAttemptDone, execTrainAttemptDone, htraining]
    exact if_pos rfl
  · rw [exec_trainAttemptTimeout, execTrainAttemptTimeout, htraining]

theorem trainAttempt_again (htries : r.tries = 0) : Does c s fun t => (t.port p).training = some { r with tries := 1 } ∧ SameMem s t := by
  refine ⟨_, trainAttempt_failed htraining hc, ?_⟩
  rw [State.attemptFail, if_pos htries]
  exact ⟨by rw [port_setPort_same], (((memEq_rfl s).incSat _ _).setPort _ _).sameMem⟩

theorem trainAttempt_next (htries : r.tries ≠ 0) (hmore : 2 ≤ r.cands.length) : Does c s fun t =>
    (t.port p).training = some { cands := r.cands.tail, tries := 0 } := by
  refine ⟨_, trainAttempt_failed htraining hc, ?_⟩
  rw [State.attemptFail, if_neg htries, if_neg (by omega)]
  exact congrArg Port.training (port_setPort_same ..)

theorem trainAttempt_last (htries : r.tries ≠ 0) (hlast : r.cands.length ≤ 1) : Does c s fun t =>
    (t.port p).training = none ∧ t.disc (pgScn p) 0 = 4 ∧ t.flag (pgScn p) F.SCN_STATUS_TRAIN_FAIL = true ∧
      t.get (pgScn p) F.SCN_LINK_RESULT = 3 := by
  refine ⟨_, trainAttempt_failed htraining hc, ?_⟩
  rw [State.attemptFail, if_neg htries, if_pos hlast]
  exact ⟨by rw [trainFail_port], trainFail_shows _ p (by decide)⟩

end

end

/-! ## Link status reads (R122) -/

theorem linkStatusReadDone_none (h : (s.port p).linkRead = false) (r : LinkRead) : exec (.linkStatusReadDone p r) s = .next s := by
  rw [exec_linkStatusReadDone]
  exact if_pos (by simp [h])

section
variable (hread : (s.port p).linkRead = true)
include hread

theorem linkStatusReadDone_intact :
    exec (.linkStatusReadDone p .intact) s = .next (s.setPort p { s.port p with linkRead := false, readFails := 0 }) := by
  rw [exec_linkStatusReadDone, execLinkStatusReadDone, if_neg (by simp [hread])]

/-- The link is down whether or not it is trained again at once. -/
theorem linkStatusReadDone_lost : Does (.linkStatusReadDone p .lost) s fun t =>
    t.flag (pgScn p) F.SCN_STATUS_LINK_LOSS = true ∧ t.flag (pgScn p) F.SCN_LINK_UP = false ∧ (t.port p).blen = false ∧ SameMem s t := by
  have hexec := exec_linkStatusReadDone p .lost s
  rw [execLinkStatusReadDone, if_neg (by simp [hread])] at hexec
  extract_lets read lost at hexec
  have hloss : lost.flag (pgScn p) F.SCN_STATUS_LINK_LOSS = true := by
    rw [linkLost_flag _ p (by decide), flag_put_one read _ _ (by decide) (by decide)]
  have hdown : lost.flag (pgScn p) F.SCN_LINK_UP = false := linkLost_up _ p
  have hblen : (lost.port p).blen = false := by rw [linkLost_port]
  have hmem : MemEq s lost := (((memEq_rfl s).setPort _ _).put _ _ _).trans (memEq_linkLost _ p)
  clear_value lost
  refine ⟨_, hexec, ?_⟩
  split
  · obtain ⟨hup, hkeepsLoss, hkeepsBlen, htrain⟩ := train_shows lost p
    exact ⟨hkeepsLoss.trans hloss, hup, hkeepsBlen.trans hblen, (hmem.trans htrain).sameMem⟩
  · exact ⟨hloss, hdown, hblen, hmem.sameMem⟩

theorem linkStatusReadDone_counts (hfew : (s.port p).readFails < 6) : exec (.linkStatusReadDone p .failed) s =
    .next (s.setPort p { s.port p with readFails := (s.port p).readFails + 1 }) := by
  rw [exec_linkStatusReadDone, execLinkStatusReadDone, if_neg (by simp [hread])]
  exact if_pos (by omega)

/-- The link stays as it is (log entry 98, deduced). -/
theorem linkStatusReadDone_seventh (hmany : 6 ≤ (s.port p).readFails) : Does (.linkStatusReadDone p .failed) s fun t =>
    t.disc (pgScn p) 0 = 4 ∧ t.get (pgScn p) F.SCN_LINK_RESULT = 4 ∧ t.flag (pgScn p) F.SCN_LINK_UP = s.flag (pgScn p) F.SCN_LINK_UP ∧
      (t.port p).linkRead = false ∧ SameMem s t := by
  obtain ⟨hfaulted, hresult, hup, hport, hmem⟩ :=
    faulted_shows s p { s.port p with linkRead := false, readFails := 0, auxWait := 0, auxFails := 0 }
  refine ⟨_, ?_, hfaulted, hresult, hup, congrArg Port.linkRead hport, hmem.sameMem⟩
  rw [exec_linkStatusReadDone, execLinkStatusReadDone, if_neg (by simp [hread])]
  exact if_neg (by omega)

end

end

/-! ## Every command of the port -/

/-- Settles O8: each command by its own lemmas. -/
theorem portPlugAndTraining : Obligations.PortPlugAndTraining := by
  refine ⟨fun p s => ?plug, fun p r s hdisc => auxTransactionDone_notProbing hdisc r, fun p s hdisc => ?aux,
    fun p s => ⟨discoveryRetry_faulted, discoveryRetry_other⟩, fun rq p s hadm => ?host, fun p s => ⟨fun hidle => ?idle, fun r htraining => ?training⟩,
    fun p r s hread => linkStatusReadDone_none hread r, fun p s hread => ?link⟩
  case plug =>
    exact ⟨fun hblind => hpdIrq_ignored (.inr hblind),
      fun hblind => ⟨by rw [hpdPlug_eq, if_neg (ne_true_of_eq_false hblind)], by rw [hpdUnplug_eq, if_neg (ne_true_of_eq_false hblind)]⟩,
      hpdPlug_present, hpdPlug_absent, hpdUnplug_sensed, fun hlow => hpdIrq_ignored (.inl hlow), hpdIrq_reads⟩
  case aux =>
    exact ⟨auxTransactionDone_counts hdisc, auxTransactionDone_seventh hdisc, auxTransactionDone_answers hdisc,
      fun c hwait => (auxTransactionDone_dpcd hdisc c).trans (if_pos hwait),
      fun i hwait => (auxTransactionDone_identity hdisc i).trans (if_pos hwait),
      fun i hwait => (auxTransactionDone_identity hdisc i).trans (if_neg (not_not_intro hwait))⟩
  case host =>
    refine ⟨scnAccept_noSink hadm, fun i hdisc hident hbad => ?_, fun i hdisc hident hok => ?_, fun hdisc hidle => ?_, fun hdisc hhpd => ?_,
      fun hpresent hfaulted => ?_, scnPsrEn_admitted hadm true, scnPsrEn_admitted hadm false⟩
    · rw [scnAccept_sink hadm hdisc hident, if_neg (ne_true_of_eq_false hbad)]
    · rw [scnAccept_sink hadm hdisc hident, if_pos hok]
    · rw [scnRetrain_admitted hadm, if_pos (by simp [hdisc, hidle])]
    · rw [scnRetrain_admitted hadm, if_neg (by simp [hdisc]), if_pos (by simp [hdisc, hhpd])]
    · rw [scnRetrain_admitted hadm, if_neg (by simp [hpresent]), if_neg (by simp [hfaulted])]
  case idle =>
    exact ⟨trainAttemptDone_idle hidle, trainAttemptTimeout_idle hidle⟩
  case training =>
    exact ⟨trainAttemptDone_shows htraining, fun c hc => ⟨trainAttempt_again htraining hc, trainAttempt_next htraining hc, trainAttempt_last htraining hc⟩⟩
  case link =>
    exact ⟨linkStatusReadDone_intact hread, linkStatusReadDone_lost hread, linkStatusReadDone_counts hread, linkStatusReadDone_seventh hread⟩

end Sys2Proof.Machine
end

section
/-! SUPPORT. The integrity check unit of a display port (R145 to R155): the commands' meanings by name, and what its shared operations show and leave. -/

namespace Sys2Proof.Machine

theorem exec_ickGo (rq : Requester) (p : Fin 8) (s : State) : exec (.ickGo rq p) s = execIckGo rq p s := rfl
theorem exec_ickRelease (rq : Requester) (p : Fin 8) (s : State) : exec (.ickRelease rq p) s = execIckRelease rq p s := rfl
theorem exec_ickSinkNow (rq : Requester) (p : Fin 8) (s : State) : exec (.ickSinkNow rq p) s = execIckSinkNow rq p s := rfl
theorem exec_ickLatchAck (h : Half) (p : Fin 8) (s : State) : exec (.ickLatchAck h p) s = execIckLatchAck h p s := rfl
theorem exec_sinkCheckDue (p : Fin 8) (s : State) : exec (.sinkCheckDue p) s = execSinkCheckDue p s := rfl
theorem exec_sinkCrcReadDone (p : Fin 8) (v : Option (Word × Word × Word)) (s : State) :
    exec (.sinkCrcReadDone p v) s = execSinkCrcReadDone p v s := rfl

theorem whenB_true {c : Bool} (h : c = true) (s : State) (f : State → State) : s.whenB c f = f s := if_pos h

theorem whenB_false {c : Bool} (h : c = false) (s : State) (f : State → State) : s.whenB c f = s := if_neg (ne_true_of_eq_false h)

theorem ack_sinkAllowed (s : State) (n : Nat) : s.ack.sinkAllowed n = s.sinkAllowed n := rfl

/-! ## The page of the unit -/

theorem pgIck_code_lt (p : Fin 8) : (pgIck p).code < 0x10000 := by
  simp only [pgIck, plinthPg]
  omega

theorem pgIck_ne_pgPat (p : Fin 8) : pgIck p ≠ pgPat := by
  simp only [pgIck, pgPat, plinthPg, ne_eq, Pg.mk.injEq, true_and]
  omega

theorem pgIck_ne_pgSvc (p : Fin 8) : pgIck p ≠ pgSvc := by
  simp only [pgIck, pgSvc, plinthPg, ne_eq, Pg.mk.injEq, true_and]
  omega

/-- The port, the registers of its check unit below the results of the rectangles (ICK_RSTAT at 0x80) and every memory are as they were. -/
def KeepsUnit (p : Fin 8) (s t : State) : Prop :=
  t.port p = s.port p ∧ (∀ f : Fld, f.off < 0x80 → t.get (pgIck p) f = s.get (pgIck p) f) ∧ MemEq s t

section
variable {p : Fin 8} {r s : State}

theorem keepsUnit_rfl (p : Fin 8) (s : State) : KeepsUnit p s s := ⟨rfl, fun _ _ => rfl, memEq_rfl s⟩

theorem KeepsUnit.trans {t : State} (h : KeepsUnit p r s) (k : KeepsUnit p s t) : KeepsUnit p r t := by
  obtain ⟨hport, hget, hmem⟩ := h
  obtain ⟨kport, kget, kmem⟩ := k
  exact ⟨kport.trans hport, fun f hf => (kget f hf).trans (hget f hf), hmem.trans kmem⟩

theorem KeepsUnit.flag {t : State} (h : KeepsUnit p s t) {f : Fld} (hf : f.off < 0x80) : t.flag (pgIck p) f = s.flag (pgIck p) f := by
  obtain ⟨-, hget, -⟩ := h
  rw [State.flag, State.flag, hget f hf]

theorem KeepsUnit.putResult (h : KeepsUnit p r s) {f : Fld} (v : Nat) (hf : 0x80 ≤ f.off) : KeepsUnit p r (s.put (pgIck p) f v) :=
  h.trans ⟨rfl, fun _ hg => get_put_off s _ v (by omega), memEq_put _ _ _ _⟩

theorem KeepsUnit.event (h : KeepsUnit p r s) (src code : Nat) (data : List Byte) (trig host : Bool) :
    KeepsUnit p r (s.event src code data trig host) :=
  have honly := event_only s src code data trig host
  h.trans ⟨event_port .., fun _ hf => honly.get (pgIck_code_lt p) (by omega) (pgIck_ne_pgPat p), memEq_of_onlyPat honly⟩

theorem KeepsUnit.putSvc (h : KeepsUnit p r s) {f : Fld} (v : Nat) (hf : f.off < 0x10000) : KeepsUnit p r (s.put pgSvc f v) :=
  h.trans ⟨rfl, fun _ hg => get_put_page s v (by decide) (pgIck_code_lt p) hf (by omega) (pgIck_ne_pgSvc p), memEq_put _ _ _ _⟩

theorem KeepsUnit.alert (h : KeepsUnit p r s) : KeepsUnit p r s.alert :=
  (((h.putSvc 1 (by decide)).putSvc 1 (by decide)).putSvc _ (by decide)).trans ⟨rfl, fun _ _ => rfl, memEq_rfl _⟩

theorem KeepsUnit.whenB (h : KeepsUnit p r s) {c : Bool} {f : State → State} (hf : KeepsUnit p r (f s)) : KeepsUnit p r (s.whenB c f) := by
  unfold State.whenB
  split <;> assumption

theorem KeepsUnit.each (h : KeepsUnit p r s) {α : Type} {xs : List α} {f : α → State → State}
    (hf : ∀ x t, KeepsUnit p r t → KeepsUnit p r (f x t)) : KeepsUnit p r (s.each xs f) :=
  List.foldlRecOn xs _ h fun t ht x _ => hf x t ht

theorem KeepsUnit.showAct (h : KeepsUnit p r s) : KeepsUnit p r (s.showAct p) :=
  h.each fun _ _ ht => ht.putResult _ (Nat.le_add_right _ _)

end

/-! ## DARK and the start of a sink check (R152, R155) -/

theorem darkSet_get (s : State) (p : Nat) {f : Fld} (hf : F.ICK_STATUS_DARK.apart f = true) :
    (s.darkSet p).get (pgIck p) f = s.get (pgIck p) f := get_put_apart s _ 1 (by decide) hf

theorem darkSet_flag (s : State) (p : Nat) : (s.darkSet p).flag (pgIck p) F.ICK_STATUS_DARK = true :=
  flag_put_one s _ _ (by decide) (by decide)

theorem darkSet_port (s : State) (p : Nat) :
    (s.darkSet p).port p = { s.port p with darkPend := true, darkArm := false, darkFrame := false } := port_setPort_same _ _ _

theorem sinkStart_allowed {s : State} {p : Nat} (h : s.sinkAllowed p = true) :
    s.sinkStart p = s.setPort p { s.port p with sinkBusy := true, sinkCount := 0 } := whenB_true h _ _

theorem sinkStart_barred {s : State} {p : Nat} (h : s.sinkAllowed p = false) : s.sinkStart p = s := whenB_false h _ _

end Sys2Proof.Machine
end

section
/-! SUPPORT. The acknowledgement of a pipe's latch (R148): which lane takes the states found committed. -/

namespace Sys2Proof.Machine

/-- Is an acknowledgement of the half's latch due? -/
def Port.ackDue (q : Port) : Half → Bool
  | .A => q.ackA
  | .B => q.ackB

/-- The states that the half's latch found committed. -/
def Port.committed (q : Port) : Half → Option (List (Nat × Nat))
  | .A => q.ickA
  | .B => q.ickB

/-- The port once the half's latch is acknowledged. -/
def Port.acked (q : Port) : Half → Port
  | .A => { q with ackA := false, ickA := none }
  | .B => { q with ackB := false, ickB := none }

@[simp] theorem Port.acked_laneS (q : Port) (h : Half) : (q.acked h).laneS = q.laneS := by cases h <;> rfl
@[simp] theorem Port.acked_laneU (q : Port) (h : Half) : (q.acked h).laneU = q.laneU := by cases h <;> rfl
@[simp] theorem Port.acked_ackDue (q : Port) (h : Half) : (q.acked h).ackDue h = false := by cases h <;> rfl

/-- The active states that committed states give. -/
def actOf (v : List (Nat × Nat)) : List (Nat × Nat) := v.foldl (fun t e => tblSet (fun _ => 0) t e.1 e.2) []

/-- What every acknowledgement of a half's latch does: it is no longer due, and neither PENDING bit nor a memory changes. -/
def TakesAck (h : Half) (p : Fin 8) (s t : State) : Prop :=
  t.get (pgIck p) F.ICK_STATUS_PENDING_S = s.get (pgIck p) F.ICK_STATUS_PENDING_S ∧
  t.get (pgIck p) F.ICK_STATUS_PENDING_U = s.get (pgIck p) F.ICK_STATUS_PENDING_U ∧ (t.port p).ackDue h = false ∧ SameMem s t

/-- The half's latch is acknowledged and gives a lane its states. -/
def State.ackLane (s : State) (h : Half) (p : Nat) (u : Bool) (v : List (Nat × Nat)) : State :=
  let t := s.setPort p ((s.port p).acked h)
  t.setLane p u { t.lane p u with act := actOf v }

section
variable {h : Half} {p : Fin 8} {s : State}

theorem takesAck_of {t : State} (hregs : t.regs = s.regs) (hdue : (t.port p).ackDue h = false) (hmem : MemEq s t) : TakesAck h p s t :=
  ⟨congrArg _ (reg_congr hregs _ _), congrArg _ (reg_congr hregs _ _), hdue, hmem.sameMem⟩

theorem KeepsUnit.takesAck {t u : State} (k : KeepsUnit p t u) (ht : TakesAck h p s t) : TakesAck h p s u := by
  obtain ⟨hport, hget, hmem⟩ := k
  obtain ⟨hpendS, hpendU, hdue, hsame⟩ := ht
  exact ⟨(hget _ (by decide)).trans hpendS, (hget _ (by decide)).trans hpendU, by rwa [hport], hsame.trans hmem.sameMem⟩

/-! ## A lane that takes its states -/

theorem ackLane_port (v : List (Nat × Nat)) (u : Bool) : (s.ackLane h p u v).port p =
    let q := (s.port p).acked h
    if u then { q with laneU := { q.laneU with act := actOf v } } else { q with laneS := { q.laneS with act := actOf v } } := by
  cases u <;> simp [State.ackLane, State.setLane, State.lane]

theorem ackLane_takesAck (v : List (Nat × Nat)) (u : Bool) : TakesAck h p s (s.ackLane h p u v) := by
  refine takesAck_of rfl ?_ (((memEq_rfl s).setPort _ _).setPort _ _)
  rw [ackLane_port]
  cases h <;> cases u <;> rfl

/-! ## The command -/

theorem execIckLatchAck_eq (h : Half) (p : Fin 8) (s : State) : execIckLatchAck h p s =
    if !((s.port p).ackDue h) then .next s
    else
      match (s.port p).committed h with
      | none => .next (s.setPort p ((s.port p).acked h))
      | some v => if s.ownerOf p = some h then .next ((s.ackLane h p false v).showAct p) else .next (s.ackLane h p true v) := by
  cases h <;> rfl

theorem ickLatchAck_notDue (hdue : (s.port p).ackDue h = false) : exec (.ickLatchAck h p) s = .next s := by
  rw [exec_ickLatchAck, execIckLatchAck_eq, hdue]
  rfl

section
variable (hdue : (s.port p).ackDue h = true)
include hdue

theorem ickLatchAck_none (hnone : (s.port p).committed h = none) : Does (.ickLatchAck h p) s fun t =>
    t.regs = s.regs ∧ (t.port p).laneS = (s.port p).laneS ∧ (t.port p).laneU = (s.port p).laneU ∧ TakesAck h p s t := by
  have hexec : exec (.ickLatchAck h p) s = .next (s.setPort p ((s.port p).acked h)) := by
    rw [exec_ickLatchAck, execIckLatchAck_eq, hdue, hnone]
    rfl
  have hport : (s.setPort p ((s.port p).acked h)).port p = (s.port p).acked h := port_setPort_same _ _ _
  refine ⟨_, hexec, rfl, ?_, ?_, takesAck_of rfl ?_ ((memEq_rfl s).setPort _ _)⟩
  · rw [hport, Port.acked_laneS]
  · rw [hport, Port.acked_laneU]
  · rw [hport, Port.acked_ackDue]

section
variable {v : List (Nat × Nat)} (hsome : (s.port p).committed h = some v)
include hsome

theorem ickLatchAck_some : exec (.ickLatchAck h p) s =
    if s.ownerOf p = some h then .next ((s.ackLane h p false v).showAct p) else .next (s.ackLane h p true v) := by
  rw [exec_ickLatchAck, execIckLatchAck_eq, hdue, hsome]
  rfl

theorem ickLatchAck_laneS (howner : s.ownerOf p = some h) : Does (.ickLatchAck h p) s fun t =>
    (t.port p).laneS.act = actOf v ∧ (t.port p).laneU = (s.port p).laneU ∧ TakesAck h p s t := by
  have hshow : KeepsUnit p (s.ackLane h p false v) ((s.ackLane h p false v).showAct p) := (keepsUnit_rfl p _).showAct
  obtain ⟨hport, -, -⟩ := id hshow
  refine ⟨_, (ickLatchAck_some hdue hsome).trans (if_pos howner), ?_, ?_, hshow.takesAck (ackLane_takesAck v false)⟩
  · rw [hport, ackLane_port]
    rfl
  · rw [hport, ackLane_port]
    exact Port.acked_laneU _ _

theorem ickLatchAck_laneU (howner : s.ownerOf p ≠ some h) : Does (.ickLatchAck h p) s fun t =>
    (t.port p).laneU.act = actOf v ∧ (t.port p).laneS = (s.port p).laneS ∧ t.regs = s.regs ∧ TakesAck h p s t := by
  refine ⟨_, (ickLatchAck_some hdue hsome).trans (if_neg howner), ?_, ?_, rfl, ackLane_takesAck v true⟩
  · rw [ackLane_port]
    rfl
  · rw [ackLane_port]
    exact Port.acked_laneS _ _

end

/-- The states go to lane S of the half in SRC and to lane U of any other (log entry 100, the model's choice where SRC is Status or None). -/
theorem ickLatchAck_due : Does (.ickLatchAck h p) s fun t =>
    ((s.port p).committed h = none → t.regs = s.regs ∧ (t.port p).laneS = (s.port p).laneS ∧ (t.port p).laneU = (s.port p).laneU) ∧
    (∀ v, (s.port p).committed h = some v →
      (s.ownerOf p = some h → (t.port p).laneS.act = actOf v ∧ (t.port p).laneU = (s.port p).laneU) ∧
      (s.ownerOf p ≠ some h → (t.port p).laneU.act = actOf v ∧ (t.port p).laneS = (s.port p).laneS ∧ t.regs = s.regs)) ∧
    TakesAck h p s t := by
  cases hst : (s.port p).committed h with
  | none =>
    obtain ⟨t, hexec, hregs, hlaneS, hlaneU, htakes⟩ := ickLatchAck_none hdue hst
    exact ⟨t, hexec, fun _ => ⟨hregs, hlaneS, hlaneU⟩, nofun, htakes⟩
  | some w =>
    by_cases howner : s.ownerOf p = some h
    · obtain ⟨t, hexec, hact, hlaneU, htakes⟩ := ickLatchAck_laneS hdue hst howner
      refine ⟨t, hexec, nofun, fun v hv => ?_, htakes⟩
      cases hv
      exact ⟨fun _ => ⟨hact, hlaneU⟩, fun hother => absurd howner hother⟩
    · obtain ⟨t, hexec, hact, hlaneS, hregs, htakes⟩ := ickLatchAck_laneU hdue hst howner
      refine ⟨t, hexec, nofun, fun v hv => ?_, htakes⟩
      cases hv
      exact ⟨fun hown => absurd hown howner, fun _ => ⟨hact, hlaneS, hregs⟩⟩

end

end

end Sys2Proof.Machine
end

section
/-! SUPPORT. Sink checks (R154, R155): when one starts, and what a reading does. -/

namespace Sys2Proof.Machine

/-- The readings that mismatch in a row until the check unit reacts (SINK_THRESH). -/
def State.sinkThresh (s : State) (p : Nat) : Nat := inImage 1 15 7 (s.get (pgIck p) F.ICK_SINKCFG_SINK_THRESH)

/-- A check has ended with a reading that matches no frame of the history. -/
def State.sinkMissed (s : State) (p : Nat) : State :=
  let t := (s.setPort p { s.port p with sinkBusy := false }).incSat (pgIck p) F.ICK_STATUS_SINK_MIS
  t.setPort p { t.port p with sinkRun := min (t.sinkThresh p) ((s.port p).sinkRun + 1) }

/-- The run of mismatches has reached the threshold: SINK_FAIL, its event with the reading, and the reactions of SINK_REACT. -/
def State.sinkFails (s : State) (p : Nat) (v : Word × Word × Word) : State :=
  let s := s.put (pgIck p) F.ICK_STATUS_SINK_FAIL 1
  let s := s.event (srcOf (pgIck p)) 0x0030
    (b1 p ++ b1 0xFF ++ b1 0 ++ b1 0 ++ b4 v.1.toNat ++ b4 (s.get (pgScn p) F.SCN_FRAME_FRAME))
  let react := s.get (pgIck p) F.ICK_SINKCFG_SINK_REACT
  let s := s.whenB (react.testBit 0) State.alert
  s.whenB (react.testBit 1) fun s => s.darkSet p

/-- What a mismatch has shown stays as it is: SINK_MIS and the port but for the hold of DARK. -/
def KeepsMiss (p : Fin 8) (s t : State) : Prop :=
  t.get (pgIck p) F.ICK_STATUS_SINK_MIS = s.get (pgIck p) F.ICK_STATUS_SINK_MIS ∧ (t.port p).sinkRun = (s.port p).sinkRun ∧
  (t.port p).sinkBusy = (s.port p).sinkBusy

section
variable {p : Fin 8} {s : State}

theorem KeepsMiss.trans {t u : State} (h : KeepsMiss p s t) (k : KeepsMiss p t u) : KeepsMiss p s u := by
  obtain ⟨hmis, hrun, hbusy⟩ := h
  obtain ⟨kmis, krun, kbusy⟩ := k
  exact ⟨kmis.trans hmis, krun.trans hrun, kbusy.trans hbusy⟩

theorem KeepsUnit.keepsMiss {t : State} (k : KeepsUnit p s t) : KeepsMiss p s t := by
  obtain ⟨hport, hget, -⟩ := k
  exact ⟨hget _ (by decide), congrArg Port.sinkRun hport, congrArg Port.sinkBusy hport⟩

theorem darkSet_keepsMiss : KeepsMiss p s (s.darkSet p) :=
  ⟨darkSet_get s p (by decide), by rw [darkSet_port], by rw [darkSet_port]⟩

theorem sinkFails_shows (s : State) (p : Fin 8) (v : Word × Word × Word) :
    let t := s.sinkFails p v
    KeepsMiss p s t ∧ t.flag (pgIck p) F.ICK_STATUS_SINK_FAIL = true ∧
      ((s.get (pgIck p) F.ICK_SINKCFG_SINK_REACT).testBit 1 = true → t.flag (pgIck p) F.ICK_STATUS_DARK = true) := by
  unfold State.sinkFails
  extract_lets failed told react alerted t
  have htold : KeepsUnit p failed told := (keepsUnit_rfl p failed).event ..
  have halerted : KeepsUnit p failed alerted := htold.whenB htold.alert
  have hreact : react = s.get (pgIck p) F.ICK_SINKCFG_SINK_REACT := by
    obtain ⟨-, hget, -⟩ := htold
    exact (hget _ (by decide)).trans (get_put_off s _ _ (by decide))
  have hfail : alerted.flag (pgIck p) F.ICK_STATUS_SINK_FAIL = true :=
    (halerted.flag (by decide)).trans (flag_put_one s _ _ (by decide) (by decide))
  have hmiss : KeepsMiss p s alerted :=
    KeepsMiss.trans ⟨get_put_apart s _ 1 (by decide) (by decide), rfl, rfl⟩ halerted.keepsMiss
  rw [← hreact]
  cases hdark : react.testBit 1 with
  | false =>
    have ht : t = alerted := whenB_false hdark _ _
    rw [ht]
    exact ⟨hmiss, hfail, nofun⟩
  | true =>
    have ht : t = alerted.darkSet p := whenB_true hdark _ _
    rw [ht]
    refine ⟨hmiss.trans darkSet_keepsMiss, ?_, fun _ => darkSet_flag alerted p⟩
    rwa [State.flag, darkSet_get alerted p (by decide)]

theorem sinkMissed_mis : (s.sinkMissed p).get (pgIck p) F.ICK_STATUS_SINK_MIS =
    (s.incSat (pgIck p) F.ICK_STATUS_SINK_MIS).get (pgIck p) F.ICK_STATUS_SINK_MIS := rfl

theorem sinkMissed_flag {f : Fld} (hf : F.ICK_STATUS_SINK_MIS.apart f = true) :
    (s.sinkMissed p).flag (pgIck p) f = s.flag (pgIck p) f := flag_put_apart _ _ _ (by decide) hf

theorem sinkMissed_get {f : Fld} (hf : f.off ≠ 4) : (s.sinkMissed p).get (pgIck p) f = s.get (pgIck p) f := get_put_off _ _ _ hf

theorem sinkMissed_sinkThresh : (s.sinkMissed p).sinkThresh p = s.sinkThresh p :=
  congrArg (inImage 1 15 7) (sinkMissed_get (by decide))

theorem sinkMissed_port : (s.sinkMissed p).port p =
    { s.port p with sinkBusy := false, sinkRun := min (s.sinkThresh p) ((s.port p).sinkRun + 1) } := by
  rw [← sinkMissed_sinkThresh]
  simp only [State.sinkMissed, State.incSat, port_setPort_same, put_r_port]
  rfl

/-! ## Where a reading finds a check -/

theorem sinkCrcReadDone_none (hidle : (s.port p).sinkBusy = false) (v : Option (Word × Word × Word)) :
    exec (.sinkCrcReadDone p v) s = .next s := by
  rw [exec_sinkCrcReadDone, execSinkCrcReadDone, hidle]
  rfl

section
variable (hbusy : (s.port p).sinkBusy = true)
include hbusy

theorem sinkCrcReadDone_noReading : exec (.sinkCrcReadDone p none) s = .next (s.setPort p { s.port p with sinkBusy := false }) := by
  rw [exec_sinkCrcReadDone, execSinkCrcReadDone, hbusy]
  rfl

theorem sinkCrcReadDone_some (v : Word × Word × Word) : exec (.sinkCrcReadDone p (some v)) s =
    let t := s.setPort p { s.port p with sinkBusy := false }
    if (s.ownerOf p).isNone then .next t
    else if (s.port p).sinkHist.contains v then .next (t.setPort p { t.port p with sinkRun := 0 })
    else if (s.port p).sinkRun < s.sinkThresh p && min (s.sinkThresh p) ((s.port p).sinkRun + 1) = s.sinkThresh p then
      .next ((s.sinkMissed p).sinkFails p v)
    else .next (s.sinkMissed p) := by
  rw [exec_sinkCrcReadDone, execSinkCrcReadDone, hbusy, ← sinkMissed_sinkThresh]
  rfl

/-- With no half in SRC the unit compares nothing (R134). -/
theorem sinkCrcReadDone_noOwner (howner : s.ownerOf p = none) (v : Word × Word × Word) :
    exec (.sinkCrcReadDone p (some v)) s = .next (s.setPort p { s.port p with sinkBusy := false }) := by
  rw [sinkCrcReadDone_some hbusy, howner]
  rfl

section
variable (howner : s.ownerOf p ≠ none)
include howner

theorem sinkCrcReadDone_match {v : Word × Word × Word} (hv : v ∈ (s.port p).sinkHist) : Does (.sinkCrcReadDone p (some v)) s fun t =>
    (t.port p).sinkRun = 0 ∧ (t.port p).sinkBusy = false ∧ t.regs = s.regs ∧ t.pat = s.pat ∧ SameMem s t := by
  let ended := s.setPort p { s.port p with sinkBusy := false }
  have hexec : exec (.sinkCrcReadDone p (some v)) s = .next (ended.setPort p { ended.port p with sinkRun := 0 }) := by
    rw [sinkCrcReadDone_some hbusy, if_neg (by simpa using howner), if_pos (List.contains_iff_mem.mpr hv)]
  refine ⟨_, hexec, ?_, ?_, rfl, rfl, (((memEq_rfl s).setPort _ _).setPort _ _).sameMem⟩
  · rw [port_setPort_same]
  · rw [port_setPort_same, port_setPort_same]

section
variable {v : Word × Word × Word} (hv : v ∉ (s.port p).sinkHist)
include hv

theorem sinkCrcReadDone_mismatch : exec (.sinkCrcReadDone p (some v)) s =
    if (s.port p).sinkRun < s.sinkThresh p ∧ s.sinkThresh p ≤ (s.port p).sinkRun + 1 then .next ((s.sinkMissed p).sinkFails p v)
    else .next (s.sinkMissed p) := by
  rw [sinkCrcReadDone_some hbusy, if_neg (by simpa using howner), if_neg (by simpa using hv)]
  simp only [Bool.and_eq_true, decide_eq_true_eq, min_eq_left_iff]

/-- The check unit reacts where the run reaches the threshold with this reading, and not again while it stays there. -/
theorem sinkCrcReadDone_misses : Does (.sinkCrcReadDone p (some v)) s fun t =>
    let n := s.sinkThresh p
    t.get (pgIck p) F.ICK_STATUS_SINK_MIS = (s.incSat (pgIck p) F.ICK_STATUS_SINK_MIS).get (pgIck p) F.ICK_STATUS_SINK_MIS ∧
    (t.port p).sinkRun = min n ((s.port p).sinkRun + 1) ∧ (t.port p).sinkBusy = false ∧
    ((s.port p).sinkRun < n → n ≤ (s.port p).sinkRun + 1 → t.flag (pgIck p) F.ICK_STATUS_SINK_FAIL = true ∧
      ((s.get (pgIck p) F.ICK_SINKCFG_SINK_REACT).testBit 1 = true → t.flag (pgIck p) F.ICK_STATUS_DARK = true)) ∧
    ((s.port p).sinkRun + 1 < n ∨ n ≤ (s.port p).sinkRun →
      t.flag (pgIck p) F.ICK_STATUS_SINK_FAIL = s.flag (pgIck p) F.ICK_STATUS_SINK_FAIL) := by
  have hrun : ((s.sinkMissed p).port p).sinkRun = min (s.sinkThresh p) ((s.port p).sinkRun + 1) := by rw [sinkMissed_port]
  have hended : ((s.sinkMissed p).port p).sinkBusy = false := by rw [sinkMissed_port]
  by_cases hreach : (s.port p).sinkRun < s.sinkThresh p ∧ s.sinkThresh p ≤ (s.port p).sinkRun + 1
  · obtain ⟨⟨kmis, krun, kended⟩, hfail, hdark⟩ := sinkFails_shows (s.sinkMissed p) p v
    rw [sinkMissed_get (by decide)] at hdark
    refine ⟨_, (sinkCrcReadDone_mismatch hbusy howner hv).trans (if_pos hreach), kmis.trans sinkMissed_mis, krun.trans hrun, kended.trans hended,
      fun _ _ => ⟨hfail, hdark⟩, fun hshort => ?_⟩
    omega
  · exact ⟨_, (sinkCrcReadDone_mismatch hbusy howner hv).trans (if_neg hreach), sinkMissed_mis, hrun, hended,
      fun hbelow hat => absurd ⟨hbelow, hat⟩ hreach, fun _ => sinkMissed_flag (by decide)⟩

end

end

end

/-! ## Where a check starts -/

theorem sinkCheckDue_starts (hdue : inImage 1 255 7 (s.get (pgIck p) F.ICK_SINKCFG_SINK_DIV) ≤ (s.port p).sinkCount)
    (hallowed : s.sinkAllowed p = true) :
    exec (.sinkCheckDue p) s = .next (s.setPort p { s.port p with sinkBusy := true, sinkCount := 0 }) := by
  rw [exec_sinkCheckDue, execSinkCheckDue, if_pos hdue, sinkStart_allowed hallowed]

theorem sinkCheckDue_rests (h : (s.port p).sinkCount < inImage 1 255 7 (s.get (pgIck p) F.ICK_SINKCFG_SINK_DIV) ∨ s.sinkAllowed p = false) :
    exec (.sinkCheckDue p) s = .next s := by
  rw [exec_sinkCheckDue, execSinkCheckDue]
  rcases h with hearly | hbarred
  · rw [if_neg (by omega)]
  · rw [sinkStart_barred hbarred, ite_self]

end

end Sys2Proof.Machine
end

section
/-! SUPPORT. The commands of the integrity check unit (R148, R152, R154, R155). -/

namespace Sys2Proof.Machine

section
variable {rq : Requester} {p : Fin 8} {s : State} (hadm : Admitted rq (pgIck p) s)
include hadm

theorem ickGo_admitted : exec (.ickGo rq p) s =
    .next ((s.ack.put (pgIck p) F.ICK_STATUS_PENDING_S 1).put (pgIck p) F.ICK_STATUS_PENDING_U 1) := by
  rw [exec_ickGo, execIckGo, hostWrite_admitted hadm]

theorem ickRelease_admitted : exec (.ickRelease rq p) s =
    .next (s.ack.whenB (s.flag (pgIck p) F.ICK_STATUS_DARK) fun s => s.setPort p { s.port p with darkArm := true }) := by
  rw [exec_ickRelease, execIckRelease, hostWrite_admitted hadm, ack_flag]

theorem ickSinkNow_admitted : exec (.ickSinkNow rq p) s = .next (s.ack.sinkStart p) := by
  rw [exec_ickSinkNow, execIckSinkNow, hostWrite_admitted hadm]

end

/-- Settles O10: each command by its own lemmas. That SINK_NOW begins the count of SINK_DIV frames anew and does nothing while a check is under
way is the model's choice (log entry 134). -/
theorem integrityCommands : Obligations.IntegrityCommands := by
  refine ⟨fun rq p s hadm => ?host, fun h p s => ?latch, fun p s => ?sink⟩
  case host =>
    refine ⟨ickGo_admitted hadm, fun hdark => ?_, fun hdark => ?_, fun hallowed => ?_, fun hbarred => ?_⟩
    · rw [ickRelease_admitted hadm, whenB_true hdark, ack_port]
    · rw [ickRelease_admitted hadm, whenB_false hdark]
    · rw [ickSinkNow_admitted hadm, sinkStart_allowed (by rwa [ack_sinkAllowed]), ack_port]
    · rw [ickSinkNow_admitted hadm, sinkStart_barred (by rwa [ack_sinkAllowed])]
  case latch =>
    cases h with
    | A => exact ⟨ickLatchAck_notDue (h := .A), ickLatchAck_due (h := .A)⟩
    | B => exact ⟨ickLatchAck_notDue (h := .B), ickLatchAck_due (h := .B)⟩
  case sink =>
    exact ⟨sinkCheckDue_starts, sinkCheckDue_rests, fun v hidle => sinkCrcReadDone_none hidle v, sinkCrcReadDone_noReading,
      fun v hbusy howner => sinkCrcReadDone_noOwner hbusy howner v, fun v hbusy howner => sinkCrcReadDone_match hbusy howner,
      fun v hbusy howner => sinkCrcReadDone_misses hbusy howner⟩

end Sys2Proof.Machine
end

section
/-! SUPPORT. The contexts of the raster engine (R156 to R183): their registers and records, the loops over them, and the shader groups they hold. -/

namespace Sys2Proof.Machine

/-! ## Pages and registers of a context -/

section
variable {h : Half} {c d : Nat}

theorem pgRcx_code_lt (hc : c < 64) : (pgRcx h c).code < 0x10000 := by
  simp only [pgRcx, halfPg]
  omega

theorem pgRcx_ne (hne : d ≠ c) : pgRcx h d ≠ pgRcx h c := by
  simp only [pgRcx, halfPg, ne_eq, Pg.mk.injEq, true_and]
  omega

theorem pgGfe_ne_pgRcx : pgGfe h ≠ pgRcx h c := by
  simp only [pgGfe, pgRcx, halfPg, ne_eq, Pg.mk.injEq, true_and]
  omega

theorem pgGfe_code_lt : (pgGfe h).code < 0x10000 := show 0x20 < 0x10000 by decide

@[simp] theorem setCtx_get (s : State) (v : RCtx) (q : Pg) (f : Fld) : (s.setCtx h c v).get q f = s.get q f := setHs_r_get _ _ _ _ _
@[simp] theorem setCtx_rs (s : State) (v : RCtx) (k : Half) (n : Nat) : (s.setCtx h c v).rs k n = s.rs k n := setCtx_get _ _ _ _
@[simp] theorem put_ctx (s : State) (q : Pg) (f : Fld) (v : Nat) (k : Half) (n : Nat) : (s.put q f v).ctx k n = s.ctx k n := by
  simp [State.ctx]
@[simp] theorem setRs_ctx (s : State) (v : Nat) (k : Half) (n : Nat) : (s.setRs h c v).ctx k n = s.ctx k n := put_ctx _ _ _ _ _ _

theorem ctx_setCtx_ne (s : State) (v : RCtx) (hne : d ≠ c) : (s.setCtx h c v).ctx h d = s.ctx h d := by
  simp only [State.ctx, State.setCtx, hs_setHs_same]
  exact tblGet_set_ne _ _ _ hne

theorem memEq_setCtx (s : State) (v : RCtx) : MemEq s (s.setCtx h c v) := memEq_setHs s h _

/-- The state of a context has three bits. -/
theorem rs_setRs_same (s : State) (v : Nat) : (s.setRs h c v).rs h c = v % 8 := get_put_same s _ _ v (by decide)

/-- A write of the page of one context leaves the fields of another. -/
theorem get_putRcx_ne (s : State) {f g : Fld} (v : Nat) (hc : c < 64) (hd : d < 64) (hne : d ≠ c) (hf : f.off < 0x10000) (hg : g.off < 0x10000) :
    (s.put (pgRcx h c) f v).get (pgRcx h d) g = s.get (pgRcx h d) g :=
  get_put_page s v (pgRcx_code_lt hc) (pgRcx_code_lt hd) hf hg (pgRcx_ne hne)

theorem rs_setRs_ne (s : State) (v : Nat) (hc : c < 64) (hd : d < 64) (hne : d ≠ c) : (s.setRs h c v).rs h d = s.rs h d :=
  get_putRcx_ne s v hc hd hne (by decide) (by decide)

/-- A write of the page of a context leaves the tier that the front end received. -/
theorem get_putRcx_gfe (s : State) {f : Fld} (v : Nat) (hc : c < 64) (hf : f.off < 0x10000) :
    (s.put (pgRcx h c) f v).get (pgGfe h) F.GFE_LAT_TIER = s.get (pgGfe h) F.GFE_LAT_TIER :=
  get_put_page s v (pgRcx_code_lt hc) pgGfe_code_lt hf (by decide) pgGfe_ne_pgRcx

end

/-! ## Loops -/

section
variable {α : Type} {xs : List α} {f : α → State → State}

theorem each_keeps {P : State → Prop} {s : State} (hs : P s) (hf : ∀ x ∈ xs, ∀ t, P t → P (f x t)) : P (s.each xs f) := by
  unfold State.each
  induction xs generalizing s with
  | nil => exact hs
  | cons x l ih => exact ih (hf x List.mem_cons_self s hs) fun y hy => hf y (List.mem_cons_of_mem _ hy)

/-- A loop whose every other pass is a step of the relation `R` passes `x` once, with steps of `R` before it and after it. -/
theorem each_at {R : State → State → Prop} (hrefl : ∀ s, R s s) (htrans : ∀ {s t u}, R s t → R t u → R s u) {x : α} (hnodup : xs.Nodup)
    (hx : x ∈ xs) (hf : ∀ y ∈ xs, y ≠ x → ∀ t, R t (f y t)) (s : State) : ∃ u, R s u ∧ R (f x u) (s.each xs f) := by
  induction xs generalizing s with
  | nil => cases hx
  | cons y l ih =>
    obtain ⟨hy, hl⟩ := List.nodup_cons.mp hnodup
    by_cases hyx : y = x
    · subst hyx
      have hrest : R (f y s) ((f y s).each l f) := each_keeps (hrefl _) fun z hz t ht =>
        htrans ht (hf z (List.mem_cons_of_mem _ hz) (fun hzy => hy (hzy ▸ hz)) t)
      exact ⟨s, hrefl s, hrest⟩
    · have hxl : x ∈ l := (List.mem_cons.mp hx).resolve_left (Ne.symm hyx)
      obtain ⟨u, hbefore, hafter⟩ := ih hl hxl (fun z hz => hf z (List.mem_cons_of_mem _ hz)) (f y s)
      exact ⟨u, htrans (hf y List.mem_cons_self hyx s) hbefore, hafter⟩

/-- A loop that only `x` has work in is its pass. -/
theorem each_eq_at {x : α} {s : State} (hnodup : xs.Nodup) (hx : x ∈ xs)
    (hbefore : ∀ y ∈ xs, y ≠ x → f y s = s) (hafter : ∀ y ∈ xs, y ≠ x → f y (f x s) = f x s) : s.each xs f = f x s := by
  obtain ⟨u, hu, hend⟩ := each_at (R := fun a b => a = s ∨ a = f x s → b = a) (fun _ _ => rfl)
    (fun {a b c} hab hbc ha => (hbc ((hab ha).symm ▸ ha)).trans (hab ha)) hnodup hx
    (fun y hy hyx t ht => by rcases ht with rfl | rfl; exacts [hbefore y hy hyx, hafter y hy hyx]) s
  rw [hu (.inl rfl)] at hend
  exact hend (.inr rfl)

theorem each_eq_self {s : State} (hf : ∀ x ∈ xs, f x s = s) : s.each xs f = s :=
  each_keeps (P := fun t => t = s) rfl fun x hx t ht => by rw [ht, hf x hx]

end

theorem mem_upTo {n x : Nat} : x ∈ upTo n ↔ x < n := List.mem_range
theorem upTo_nodup (n : Nat) : (upTo n).Nodup := List.nodup_range

/-! ## Shader groups -/

section
variable {h : Half} {c : Nat}

theorem shGroup_setShGroup (s : State) (g k : Nat) (v : ShaderGroup) :
    (s.setShGroup h g v).shGroup h k = if k = g then v else s.shGroup h k := by
  simp only [State.shGroup, State.setShGroup, hs_setHs_same]
  exact tblGet_set _ _ _ _ _

theorem without_holder_same (u : ShaderGroup) (c : Nat) : (u.without c).holder ≠ c + 1 := by
  simp only [ShaderGroup.without]
  split <;> omega

theorem without_holder_ne {u : ShaderGroup} {d : Nat} (hd : u.holder ≠ d + 1) (c : Nat) : (u.without c).holder ≠ d + 1 := by
  simp only [ShaderGroup.without]
  split <;> omega

/-- A context that holds no shader group in `s` holds none in `t`, group by group. -/
def TakesNoGroup (h : Half) (s t : State) : Prop := ∀ g d, (s.shGroup h g).holder ≠ d + 1 → (t.shGroup h g).holder ≠ d + 1

theorem takesNoGroup_of {s t : State} (hgroups : (t.hs h).groups = (s.hs h).groups) : TakesNoGroup h s t := by
  intro g d hd
  rwa [State.shGroup, hgroups]

theorem TakesNoGroup.trans {s t u : State} (hst : TakesNoGroup h s t) (htu : TakesNoGroup h t u) : TakesNoGroup h s u :=
  fun g d hd => htu g d (hst g d hd)

theorem groupLeave_takesNoGroup (s : State) (c g : Nat) : TakesNoGroup h s (s.groupLeave h c g) := by
  intro k d hd
  rw [State.groupLeave, shGroup_setShGroup]
  split
  next hk => subst hk; exact without_holder_ne hd c
  · exact hd

theorem groupsDrop_takesNoGroup (s : State) (c : Nat) : TakesNoGroup h s (s.groupsDrop h c) :=
  each_keeps (takesNoGroup_of rfl) fun g _ t ht => ht.trans (groupLeave_takesNoGroup t c g)

theorem groupsOf_eq_nil {s : State} : s.groupsOf h c = [] ↔ ∀ g, g < 4 → (s.shGroup h g).holder ≠ c + 1 := by
  simp only [State.groupsOf, List.filter_eq_nil_iff, mem_upTo, decide_eq_true_eq, ne_eq]

theorem TakesNoGroup.groupsOf {s t : State} (ht : TakesNoGroup h s t) (hs : s.groupsOf h c = []) : t.groupsOf h c = [] :=
  groupsOf_eq_nil.mpr fun g hg => ht g c (groupsOf_eq_nil.mp hs g hg)

/-- A context that gives back its shader groups holds none. -/
theorem groupsOf_groupsDrop (s : State) (c : Nat) : (s.groupsDrop h c).groupsOf h c = [] := by
  refine groupsOf_eq_nil.mpr fun g hg => ?_
  obtain ⟨u, -, hafter⟩ := each_at (R := TakesNoGroup h) (fun _ => takesNoGroup_of rfl) TakesNoGroup.trans (upTo_nodup 4)
    (mem_upTo.mpr hg) (f := fun g s => s.groupLeave h c g) (fun k _ _ t => groupLeave_takesNoGroup t c k) s
  refine hafter g c ?_
  rw [State.groupLeave, shGroup_setShGroup, if_pos rfl]
  exact without_holder_same _ c

/-- Leaving shader groups touches neither a register, nor a context, nor a memory. -/
theorem groupsDrop_frame (s : State) (c : Nat) :
    (s.groupsDrop h c).regs = s.regs ∧ (∀ d, (s.groupsDrop h c).ctx h d = s.ctx h d) ∧ MemEq s (s.groupsDrop h c) := by
  refine each_keeps (P := fun t => t.regs = s.regs ∧ (∀ d, t.ctx h d = s.ctx h d) ∧ MemEq s t) ⟨rfl, fun _ => rfl, memEq_rfl s⟩ fun g _ t ht => ?_
  obtain ⟨hregs, hctx, hmem⟩ := ht
  refine ⟨(setHs_regs _ _ _).trans hregs, fun d => ?_, hmem.trans (memEq_setHs _ _ _)⟩
  rw [← hctx d]
  simp [State.groupLeave, State.setShGroup, State.ctx]

end
end Sys2Proof.Machine
end

section
/-! SUPPORT. The stores of a context on their way to DRAM (R160, R169, R173): what the L1 caches and the raster L2 leave unchanged. -/

namespace Sys2Proof.Machine

/-! ## The recorders of a half's memory accesses -/

/-- A page that a write to memory shows something on: refusals (R215), the dirty map (R198), the events of the recorder. -/
def memPage (h : Half) (p : Pg) : Prop := p = pgWld h ∨ p = pgTwn h ∨ p = pgPat

/-- What bytes of contexts on their way to DRAM keep: the registers outside those pages, the shader groups, and the contexts but for the stores
of context `c` and the mirror fences. -/
structure Drains (h : Half) (c : Nat) (s t : State) : Prop where
  regs : KeepsRegs (fun p _ => ¬memPage h p) s t
  groups : (t.hs h).groups = (s.hs h).groups
  own : ∃ st m, t.ctx h c = { s.ctx h c with stores := st, mfence := m }
  others : ∀ d, d ≠ c → ∃ m, t.ctx h d = { s.ctx h d with mfence := m }

section
variable {h : Half} {c : Nat} {r s : State}

theorem Drains.trans {t : State} (hrs : Drains h c r s) (hst : Drains h c s t) : Drains h c r t := by
  obtain ⟨hregs, hgroups, ⟨st, m, hown⟩, hothers⟩ := hrs
  obtain ⟨kregs, kgroups, ⟨st', m', kown⟩, kothers⟩ := hst
  refine ⟨hregs.trans kregs, kgroups.trans hgroups, ⟨st', m', by rw [kown, hown]⟩, fun d hd => ?_⟩
  obtain ⟨n, hn⟩ := hothers d hd
  obtain ⟨n', hn'⟩ := kothers d hd
  exact ⟨n', by rw [hn', hn]⟩

theorem drains_of {t : State} (hregs : KeepsRegs (fun p _ => ¬memPage h p) s t) (hgroups : (t.hs h).groups = (s.hs h).groups)
    (hctx : (t.hs h).ctx = (s.hs h).ctx) : Drains h c s t := by
  have hall (d : Nat) : t.ctx h d = s.ctx h d := by rw [State.ctx, hctx]; rfl
  exact ⟨hregs, hgroups, ⟨_, _, hall c⟩, fun d _ => ⟨_, hall d⟩⟩

theorem drains_rfl (h : Half) (c : Nat) (s : State) : Drains h c s s := drains_of (keepsRegs_of rfl) rfl rfl

theorem drains_ite {p : Prop} [Decidable p] {t u : State} (ht : Drains h c r t) (hu : Drains h c r u) : Drains h c r (if p then t else u) := by
  split <;> assumption

theorem Drains.whenB (hd : Drains h c r s) {b : Bool} {f : State → State} (hf : Drains h c r (f s)) : Drains h c r (s.whenB b f) :=
  drains_ite hf hd

theorem Drains.each (hd : Drains h c r s) {α : Type} {xs : List α} {f : α → State → State} (hf : ∀ x t, Drains h c r t → Drains h c r (f x t)) :
    Drains h c r (s.each xs f) := each_keeps hd fun x _ t ht => hf x t ht

theorem Drains.put (hd : Drains h c r s) {q : Pg} (hq : q.code < 0x10000) (hpage : memPage h q) (f : Fld) (v : Nat) (hf : f.off < 0x10000) :
    Drains h c r (s.put q f v) :=
  hd.trans (drains_of (keepsRegs_put s v hq hf (not_not_intro hpage)) (by simp) (by simp))

theorem Drains.putWld (hd : Drains h c r s) (f : Fld) (v : Nat) (hf : f.off < 0x10000) : Drains h c r (s.put (pgWld h) f v) :=
  hd.put (pgWld_code_lt h) (.inl rfl) f v hf

theorem Drains.setHs (hd : Drains h c r s) {v : HalfSt} (hgroups : v.groups = (s.hs h).groups) (hctx : v.ctx = (s.hs h).ctx) :
    Drains h c r (s.setHs h v) :=
  hd.trans (drains_of (keepsRegs_of (setHs_regs _ _ _)) (by simp [hgroups]) (by simp [hctx]))

theorem Drains.takeFree (hd : Drains h c r s) : Drains h c r s.takeFree.2 := hd.trans (drains_of (keepsRegs_of rfl) (by cases h <;> rfl) (by cases h <;> rfl))

theorem Drains.event (hd : Drains h c r s) (src code : Nat) (data : List Byte) (trig host : Bool) : Drains h c r (s.event src code data trig host) := by
  obtain ⟨heq, hregs⟩ := event_only s src code data trig host
  have hhs : (s.event src code data trig host).hs h = s.hs h := by rw [heq]; cases h <;> rfl
  exact hd.trans (drains_of (hregs.mono fun p _ hp he => hp (.inr (.inr he))) (by rw [hhs]) (by rw [hhs]))

theorem Drains.setMfence (hd : Drains h c r s) (d m : Nat) : Drains h c r (s.setCtx h d { s.ctx h d with mfence := m }) := by
  refine hd.trans ⟨keepsRegs_of (setHs_regs _ _ _), by simp [State.setCtx], ?_, fun e he => ?_⟩
  · by_cases hdc : c = d
    · subst hdc; exact ⟨_, m, ctx_setCtx_same _ _ _ _⟩
    · exact ⟨_, _, ctx_setCtx_ne _ _ hdc⟩
  · by_cases hde : e = d
    · subst hde; exact ⟨m, ctx_setCtx_same _ _ _ _⟩
    · exact ⟨_, ctx_setCtx_ne _ _ hde⟩

theorem Drains.setStores (hd : Drains h c r s) (st : List (Nat × List Byte)) : Drains h c r (s.setCtx h c { s.ctx h c with stores := st }) :=
  hd.trans ⟨keepsRegs_of (setHs_regs _ _ _), by simp [State.setCtx], ⟨st, _, ctx_setCtx_same _ _ _ _⟩, fun _ he => ⟨_, ctx_setCtx_ne _ _ he⟩⟩

/-! ## A write to memory (R196 to R198, R215) -/

theorem Drains.refuse (hd : Drains h c r s) (t : Tag) (k : AccKind) (b : Nat) : Drains h c r (s.refuse h t k b) := by
  unfold State.refuse
  extract_lets p first s1
  have h1 : Drains h c r s1 := hd.putWld _ _ (by decide)
  refine h1.whenB ?_
  extract_lets s2 s3 s4 s5 s6 s7
  have h4 : Drains h c r s4 := ((h1.putWld _ _ (by decide)).putWld _ _ (by decide)).putWld _ _ (by decide)
  have h5 : Drains h c r s5 := drains_ite (h4.putWld _ _ (by decide)) (h4.takeFree.putWld _ _ (by decide))
  have h7 : Drains h c r s7 := (h5.putWld _ _ (by decide)).putWld _ _ (by decide)
  exact h7.event _ _ _ _ _

theorem Drains.setDirty (hd : Drains h c r s) (l : List Nat) : Drains h c r (s.setDirty h l) := by
  have hset : Drains h c r (s.setHs h { s.hs h with dirty := l }) := hd.setHs rfl rfl
  exact hset.put (show 0x70 < 0x10000 by decide) (.inr (.inl rfl)) _ _ (by decide)

theorem Drains.markDirty (hd : Drains h c r s) (a n : Nat) : Drains h c r (s.markDirty h a n) := by
  unfold State.markDirty
  extract_lets gs hs again s1
  have h1 : Drains h c r s1 := hd.setHs rfl rfl
  exact h1.setDirty _

theorem Drains.mirrorOut (hd : Drains h c r s) (a : Nat) (bs : List Byte) : Drains h c r (s.mirrorOut h a bs) := by
  unfold State.mirrorOut
  split
  · exact hd
  · refine drains_ite hd (drains_ite (Drains.setHs ?_ rfl rfl) (hd.markDirty _ _))
    split
    · exact hd.whenB (hd.setHs rfl rfl)
    · exact hd

theorem Drains.storeBlock (hd : Drains h c r s) (a : Nat) (bs : List Byte) : Drains h c r (s.storeBlock h a bs) := by
  have hdram (m : List Host.Cell) : Drains h c r (s.setDram h m) := hd.trans (drains_of (keepsRegs_of (by simp)) (by simp) (by simp))
  have hspm (m : List Host.Cell) : Drains h c r (s.setSpm h m) := hd.trans (drains_of (keepsRegs_of (by simp)) (by simp) (by simp))
  exact drains_ite ((hdram _).mirrorOut _ _) ((hspm _).setHs rfl rfl)

theorem Drains.writeAt (hd : Drains h c r s) (t : Tag) (a : Nat) (bs : List Byte) : Drains h c r (s.writeAt h t a bs) :=
  hd.each fun _ _ hu => drains_ite (hu.storeBlock _ _) (hu.refuse _ _ _)

theorem Drains.rOut (hd : Drains h c r s) (t : Tag) (writers : List Nat) (a : Nat) (bs : List Byte) : Drains h c r (s.rOut h t writers a bs) :=
  drains_ite (hd.writeAt _ _ _) ((hd.writeAt _ _ _).each fun d _ hu => hu.setMfence d _)

/-! ## The raster L2 -/

theorem Drains.rl2Evict (hd : Drains h c r s) (i : Nat) : Drains h c r (s.rl2Evict h i) := by
  unfold State.rl2Evict
  split
  · exact hd
  · extract_lets hs s1
    have h1 : Drains h c r s1 := hd.setHs rfl rfl
    exact h1.each fun _ _ hu => hu.rOut _ _ _ _

theorem Drains.rl2Part (hd : Drains h c r s) (d pa : Nat) : Drains h c r (s.rl2Part h d pa) := by
  unfold State.rl2Part
  split
  · exact hd
  · split
    · exact hd
    · exact drains_ite hd (hd.rl2Evict _)

theorem Drains.rl2Fill (hd : Drains h c r s) (d pa : Nat) : Drains h c r (s.rl2Fill h d pa) := by
  unfold State.rl2Fill
  extract_lets trusted v s1
  have h1 : Drains h c r s1 := by
    refine drains_ite hd ?_
    split
    · exact hd
    · exact hd.takeFree.rl2Evict _
  exact drains_ite hd (drains_ite (h1.setHs rfl rfl) h1)

/-! ## The L1 caches -/

theorem Drains.storeWait (hd : Drains h c r s) (st : Nat × List Byte) : Drains h c r (s.storeWait h c st) := hd.setStores _

theorem Drains.storeOut (hd : Drains h c r s) (st : Nat × List Byte) : Drains h c r (s.storeOut h c st) := by
  unfold State.storeOut
  extract_lets s1
  have h1 : Drains h c r s1 := (hd.rl2Part _ _).rl2Fill _ _
  split
  · exact drains_ite (h1.storeWait _) (h1.setHs rfl rfl)
  · exact drains_ite (h1.storeWait _) (h1.rOut _ _ _ _)

theorem l1Out_drains (s : State) : Drains h c s (s.l1Out h c) := ((drains_rfl h c s).setStores _).each fun st _ hu => hu.storeOut st

/-- Where no store waits in the L1 caches, their write-back does nothing. -/
theorem l1Out_of_nil (hnil : (s.ctx h c).stores = []) : s.l1Out h c = s.setCtx h c (s.ctx h c) := by
  rw [State.l1Out, hnil]
  show s.setCtx h c { s.ctx h c with stores := [] } = _
  rw [← hnil]

/-! ## What they keep -/

theorem not_memPage_rcx (d : Nat) : ¬memPage h (pgRcx h d) := by
  have hne (k : Nat) (hk : k < 0x100) : pgRcx h d ≠ halfPg h k := by
    simp only [pgRcx, halfPg, ne_eq, Pg.mk.injEq, true_and]
    omega
  rintro (he | he | he)
  · exact hne _ (by decide) he
  · exact hne _ (by decide) he
  · exact halfPg_ne_plinthPg _ _ _ he

theorem not_memPage_gfe : ¬memPage h (pgGfe h) := by
  rintro (he | he | he) <;> cases h <;> simp [pgGfe, pgWld, pgTwn, pgPat, halfPg, plinthPg, Half.die] at he

theorem Drains.rcx (hd : Drains h c r s) {d : Nat} (hlt : d < 64) {f : Fld} (hf : f.off < 0x10000) : s.get (pgRcx h d) f = r.get (pgRcx h d) f :=
  congrArg f.ofWord (hd.regs _ _ (pgRcx_code_lt hlt) hf (not_memPage_rcx d))

theorem Drains.gfe (hd : Drains h c r s) : s.get (pgGfe h) F.GFE_LAT_TIER = r.get (pgGfe h) F.GFE_LAT_TIER :=
  congrArg F.GFE_LAT_TIER.ofWord (hd.regs _ _ pgGfe_code_lt (by decide) not_memPage_gfe)

end
end Sys2Proof.Machine
end

section
/-! SUPPORT. A context that faults or stops (R162, R166, R182): what it shows, and what it leaves to every other context. -/

namespace Sys2Proof.Machine

/-! ## What one context leaves to another -/

/-- What a step of other contexts leaves to context `c`: its registers, the tier, its record but for the mirror fence, and that it holds no more
shader groups than before. -/
structure Beside (h : Half) (c : Nat) (s t : State) : Prop where
  regs : KeepsRegs (fun p _ => p = pgRcx h c) s t
  tier : t.get (pgGfe h) F.GFE_LAT_TIER = s.get (pgGfe h) F.GFE_LAT_TIER
  ctx : ∃ m, t.ctx h c = { s.ctx h c with mfence := m }
  groups : TakesNoGroup h s t

section
variable {h : Half} {c : Nat} {s t : State}

theorem beside_rfl (s : State) : Beside h c s s := ⟨keepsRegs_of rfl, rfl, ⟨_, rfl⟩, takesNoGroup_of rfl⟩

theorem Beside.trans {u : State} (hst : Beside h c s t) (htu : Beside h c t u) : Beside h c s u := by
  obtain ⟨hregs, htier, ⟨m, hctx⟩, hgroups⟩ := hst
  obtain ⟨kregs, ktier, ⟨n, kctx⟩, kgroups⟩ := htu
  exact ⟨hregs.trans kregs, ktier.trans htier, ⟨n, by rw [kctx, hctx]⟩, hgroups.trans kgroups⟩

theorem Beside.get (hb : Beside h c s t) (hc : c < 64) {f : Fld} (hf : f.off < 0x10000) : t.get (pgRcx h c) f = s.get (pgRcx h c) f :=
  congrArg f.ofWord (hb.regs _ _ (pgRcx_code_lt hc) hf rfl)

theorem Beside.rs (hb : Beside h c s t) (hc : c < 64) : t.rs h c = s.rs h c := hb.get hc (by decide)

theorem Beside.job (hb : Beside h c s t) : (t.ctx h c).job = (s.ctx h c).job := by
  obtain ⟨m, hctx⟩ := hb.ctx
  rw [hctx]

theorem Beside.stores (hb : Beside h c s t) : (t.ctx h c).stores = (s.ctx h c).stores := by
  obtain ⟨m, hctx⟩ := hb.ctx
  rw [hctx]

theorem Beside.rAllowed (hb : Beside h c s t) (hc : c < 64) : t.rAllowed h c = s.rAllowed h c := by
  rw [State.rAllowed, State.rAllowed, hb.tier, hb.get hc (by decide)]

theorem beside_put {d : Nat} (s : State) (f : Fld) (v : Nat) (hd : d < 64) (hne : c ≠ d) (hf : f.off < 0x10000) :
    Beside h c s (s.put (pgRcx h d) f v) := by
  refine ⟨keepsRegs_put s v (pgRcx_code_lt hd) hf fun he => pgRcx_ne hne he.symm, get_putRcx_gfe s v hd hf, ⟨_, put_ctx _ _ _ _ _ _⟩, ?_⟩
  exact takesNoGroup_of (by simp)

theorem beside_setRs {d : Nat} (s : State) (v : Nat) (hd : d < 64) (hne : c ≠ d) : Beside h c s (s.setRs h d v) :=
  beside_put s _ v hd hne (by decide)

theorem beside_setCtx {d : Nat} (s : State) (v : RCtx) (hne : c ≠ d) : Beside h c s (s.setCtx h d v) :=
  ⟨keepsRegs_of (setHs_regs _ _ _), setCtx_get _ _ _ _, ⟨_, ctx_setCtx_ne _ _ hne⟩, takesNoGroup_of (by simp [State.setCtx])⟩

theorem Drains.beside {d : Nat} (hd : Drains h d s t) (hne : c ≠ d) : Beside h c s t :=
  ⟨hd.regs.mono fun _ _ hp => hp ▸ not_memPage_rcx c, hd.gfe, hd.others c hne, takesNoGroup_of hd.groups⟩

theorem beside_groupsDrop (s : State) (d : Nat) : Beside h c s (s.groupsDrop h d) := by
  obtain ⟨hregs, hctx, -⟩ := groupsDrop_frame (h := h) s d
  exact ⟨keepsRegs_of hregs, by simp only [State.get, State.reg, hregs], ⟨_, hctx c⟩, groupsDrop_takesNoGroup s d⟩

/-! ## A context that enters Faulted -/

theorem beside_rFaulted {d : Nat} (s : State) (cause : Nat) (hd : d < 64) (hne : c ≠ d) : Beside h c s (s.rFaulted h d cause) := by
  have hleft : Beside h c s ((s.l1Out h d).groupsDrop h d) := ((l1Out_drains s).beside hne).trans (beside_groupsDrop _ d)
  have hshown := (hleft.trans (beside_put _ F.RCX_STATUS_CAUSE cause hd hne (by decide))).trans (beside_setRs _ rsFaulted hd hne)
  exact hshown.trans (beside_setCtx _ _ hne)

theorem rFaulted_rs (s : State) (cause : Nat) : (s.rFaulted h c cause).rs h c = 6 :=
  (setCtx_rs _ _ _ _).trans (rs_setRs_same _ rsFaulted)

theorem rFaulted_cause (s : State) (cause : Nat) : (s.rFaulted h c cause).get (pgRcx h c) F.RCX_STATUS_CAUSE = cause % 16 := by
  refine (setCtx_get _ _ _ _).trans ((get_put_apart _ _ _ (by decide) (by decide)).trans ?_)
  exact get_put_same _ _ _ _ (by decide)

theorem rFaulted_job (s : State) (cause : Nat) : ((s.rFaulted h c cause).ctx h c).job = none :=
  congrArg RCtx.job (ctx_setCtx_same _ _ _ _)

theorem rFaulted_groupsOf (s : State) (cause : Nat) : (s.rFaulted h c cause).groupsOf h c = [] := by
  have hkept : TakesNoGroup h ((s.l1Out h c).groupsDrop h c) (s.rFaulted h c cause) :=
    takesNoGroup_of (by simp [State.rFaulted, State.setCtx, State.setRs])
  exact hkept.groupsOf (groupsOf_groupsDrop _ c)

theorem rFaulted_memEq {cause : Nat} (hnil : (s.ctx h c).stores = []) : MemEq s (s.rFaulted h c cause) := by
  obtain ⟨-, -, hdrop⟩ := groupsDrop_frame (h := h) (s.l1Out h c) c
  rw [l1Out_of_nil hnil] at hdrop
  have hleft : MemEq s ((s.l1Out h c).groupsDrop h c) := by
    rw [l1Out_of_nil hnil]
    exact (memEq_setCtx _ _).trans hdrop
  exact ((hleft.put _ _ _).put _ _ _).trans (memEq_setCtx _ _)

/-! ## A context that holds nothing and stops -/

/-- It shows its state, and drops a WAIT job, which it takes again later. -/
theorem rStopAt_cases (s : State) (st : Nat) : s.rStopAt h c st = s.setRs h c st ∨
    (∃ j, (s.ctx h c).job = some j ∧ j.typ = 4) ∧ s.rStopAt h c st = (s.setRs h c st).setCtx h c { s.ctx h c with job := none } := by
  unfold State.rStopAt
  dsimp only
  rw [setRs_ctx]
  split
  · exact .inl rfl
  next j hjob =>
    split
    next hwait => exact .inr ⟨⟨j, hjob, hwait⟩, rfl⟩
    · exact .inl rfl

theorem beside_rStopAt {d : Nat} (s : State) (st : Nat) (hd : d < 64) (hne : c ≠ d) : Beside h c s (s.rStopAt h d st) := by
  have hset := beside_setRs (h := h) s st hd hne
  obtain heq | ⟨-, heq⟩ := rStopAt_cases (h := h) (c := d) s st <;> rw [heq]
  · exact hset
  · exact hset.trans (beside_setCtx _ _ hne)

theorem rStopAt_rs (s : State) (st : Nat) : (s.rStopAt h c st).rs h c = st % 8 := by
  obtain heq | ⟨-, heq⟩ := rStopAt_cases (h := h) (c := c) s st <;> rw [heq]
  · exact rs_setRs_same s st
  · exact (setCtx_rs _ _ _ _).trans (rs_setRs_same s st)

theorem rStopAt_frame (s : State) (st : Nat) : MemEq s (s.rStopAt h c st) ∧ (s.rStopAt h c st).regs = (s.setRs h c st).regs ∧
    ((s.rStopAt h c st).hs h).compositor = (s.hs h).compositor := by
  obtain heq | ⟨-, heq⟩ := rStopAt_cases (h := h) (c := c) s st <;> rw [heq]
  · exact ⟨memEq_put _ _ _ _, rfl, by simp [State.setRs]⟩
  · exact ⟨(memEq_put _ _ _ _).trans (memEq_setCtx _ _), setHs_regs _ _ _, by simp [State.setCtx, State.setRs]⟩

/-- Any other job stays. -/
theorem rStopAt_job {s : State} {j : Job} (st : Nat) (hjob : (s.ctx h c).job = some j) (hwait : j.typ ≠ 4) :
    ((s.rStopAt h c st).ctx h c).job = some j := by
  obtain heq | ⟨⟨k, hk, htyp⟩, -⟩ := rStopAt_cases (h := h) (c := c) s st
  · rw [heq, setRs_ctx, hjob]
  · cases hjob.symm.trans hk
    exact absurd htyp hwait

end
end Sys2Proof.Machine
end

section
/-! SUPPORT. The host commands of a raster context (R158, R164 to R166, R170): the doorbell, the priority, SUSPEND and RESUME. -/

namespace Sys2Proof.Machine

theorem exec_rcxDoorbell (rq : Requester) (c : Fin 64) (tail : Word) (s : State) : exec (.rcxDoorbell rq c tail) s = execRcxDoorbell rq c tail s := rfl
theorem exec_rcxPrioWrite (rq : Requester) (c : Fin 64) (v : Word) (s : State) : exec (.rcxPrioWrite rq c v) s = execRcxPrioWrite rq c v s := rfl
theorem exec_rcxSuspend (rq : Requester) (c : Fin 64) (s : State) : exec (.rcxSuspend rq c) s = execRcxSuspend rq c s := rfl
theorem exec_rcxResume (rq : Requester) (c : Fin 64) (s : State) : exec (.rcxResume rq c) s = execRcxResume rq c s := rfl

@[simp] theorem ack_rs (s : State) (h : Half) (c : Nat) : s.ack.rs h c = s.rs h c := rfl
@[simp] theorem ack_ctx (s : State) (h : Half) (c : Nat) : s.ack.ctx h c = s.ctx h c := by cases h <;> rfl
@[simp] theorem ack_rHead (s : State) (h : Half) (c : Nat) : s.ack.rHead h c = s.rHead h c := ack_get s _ _

/-! ## The doorbell (R158) -/

/-- How far a tail lies ahead of the head of a context's ring. -/
def State.aheadOf (s : State) (h : Half) (c tail : Nat) : Nat := (tail + 2 ^ 32 - s.rHead h c) % 2 ^ 32

@[simp] theorem ack_aheadOf (s : State) (h : Half) (c tail : Nat) : s.ack.aheadOf h c tail = s.aheadOf h c tail := by
  rw [State.aheadOf, State.aheadOf, ack_rHead]

@[simp] theorem ack_rAllowed (s : State) (h : Half) (c : Nat) : s.ack.rAllowed h c = s.rAllowed h c := rfl

/-- A ring that the doorbell accepts shows the tail, and an Idle context with work leaves Idle. -/
def State.rung (s : State) (h : Half) (c tail : Nat) : State :=
  let s := s.put (pgRcx h c) F.RCX_TAIL_COUNT tail
  if s.rs h c = rsIdle then s.setRs h c (s.rRest h c) else s

section
variable {rq : Requester} {c : Fin 64} {tail : Word} {s : State}

theorem rcxDoorbell_admitted (hadm : Admitted rq (pgRcx rq.half c) s) : exec (.rcxDoorbell rq c tail) s =
    if s.ringLog rq.half c < 4 || 2 ^ s.ringLog rq.half c < s.aheadOf rq.half c tail.toNat then .next (s.ack.rWild rq.half c 0x18)
    else .next ((s.ack.rung rq.half c tail.toNat).arbitrate rq.half) := by
  rw [exec_rcxDoorbell, execRcxDoorbell, hostWrite_admitted hadm]
  rfl

end

section
variable {h : Half} {c : Nat} {s : State} {tail : Nat}

/-- The doorbell writes RCX_TAIL and RCX_STATUS only. -/
theorem rung_frame (hc : c < 64) : KeepsRegs (fun q o => ¬(q = pgRcx h c ∧ (o = 0xC ∨ o = 0x18))) s (s.rung h c tail) ∧
    MemEq s (s.rung h c tail) ∧ (s.rung h c tail).halfA = s.halfA ∧ (s.rung h c tail).halfB = s.halfB := by
  have htail : KeepsRegs (fun q o => ¬(q = pgRcx h c ∧ (o = 0xC ∨ o = 0x18))) s (s.put (pgRcx h c) F.RCX_TAIL_COUNT tail) :=
    keepsRegs_put s _ (pgRcx_code_lt hc) (by decide) (not_not_intro ⟨rfl, .inr rfl⟩)
  unfold State.rung
  dsimp only
  split
  · exact ⟨htail.trans (keepsRegs_put _ _ (pgRcx_code_lt hc) (by decide) (not_not_intro ⟨rfl, .inl rfl⟩)), memEq_rfl s, rfl, rfl⟩
  · exact ⟨htail, memEq_rfl s, rfl, rfl⟩

theorem rung_rTail (htail : tail < 2 ^ 32) : (s.rung h c tail).rTail h c = tail := by
  have hput : (s.put (pgRcx h c) F.RCX_TAIL_COUNT tail).rTail h c = tail :=
    (get_put_same s _ _ _ (by decide)).trans (Nat.mod_eq_of_lt htail)
  unfold State.rung
  dsimp only
  split
  · exact (get_put_off _ _ _ (by decide)).trans hput
  · exact hput

theorem rung_rHead (hc : c < 64) : (s.rung h c tail).rHead h c = s.rHead h c :=
  congrArg F.RCX_HEAD_COUNT.ofWord ((rung_frame hc).1 _ _ (pgRcx_code_lt hc) (by decide) (by simp [F.RCX_HEAD_COUNT]))

theorem rs_putTail : (s.put (pgRcx h c) F.RCX_TAIL_COUNT tail).rs h c = s.rs h c := get_put_off _ _ _ (by decide)

theorem rung_notIdle (hs : s.rs h c ≠ 0) : (s.rung h c tail).rs h c = s.rs h c := by
  have hrung : s.rung h c tail = s.put (pgRcx h c) F.RCX_TAIL_COUNT tail := if_neg fun hidle => hs (rs_putTail.symm.trans hidle)
  rw [hrung, rs_putTail]

/-- An Idle context with work waits, or is Tier-stopped where the tier does not allow it. -/
theorem rung_idle (hc : c < 64) (htail : tail < 2 ^ 32) (hs : s.rs h c = 0) (hsuspend : (s.ctx h c).suspend = false)
    (hjob : (s.ctx h c).job = none) : (s.rung h c tail).rs h c = if s.aheadOf h c tail = 0 then 0 else if s.rAllowed h c then 1 else 5 := by
  have hhead : s.rHead h c < 2 ^ 32 := get_lt _ _ _
  have hahead : s.aheadOf h c tail = 0 ↔ s.rHead h c = tail := by
    unfold State.aheadOf
    omega
  have hput : (s.put (pgRcx h c) F.RCX_TAIL_COUNT tail).rRest h c = if s.rHead h c = tail then 0 else if s.rAllowed h c then 1 else 5 := by
    have hh : (s.put (pgRcx h c) F.RCX_TAIL_COUNT tail).rHead h c = s.rHead h c := get_put_off _ _ _ (by decide)
    have ht : (s.put (pgRcx h c) F.RCX_TAIL_COUNT tail).rTail h c = tail := (get_put_same s _ _ _ (by decide)).trans (Nat.mod_eq_of_lt htail)
    have ha : (s.put (pgRcx h c) F.RCX_TAIL_COUNT tail).rAllowed h c = s.rAllowed h c := by
      rw [State.rAllowed, State.rAllowed, get_putRcx_gfe s _ hc (by decide), get_put_off _ _ _ (by decide)]
    rw [State.rRest, put_ctx, hsuspend, hjob, hh, ht, ha]
    by_cases heq : s.rHead h c = tail <;> cases s.rAllowed h c <;> simp [heq, rsIdle, rsWaiting, rsTierStopped]
  have hrung : s.rung h c tail = (s.put (pgRcx h c) F.RCX_TAIL_COUNT tail).setRs h c ((s.put (pgRcx h c) F.RCX_TAIL_COUNT tail).rRest h c) :=
    if_pos (rs_putTail.trans hs)
  rw [hrung, rs_setRs_same, hput]
  simp only [hahead]
  split
  · rfl
  · split <;> rfl

end

/-! ## The priority (R164 to R166) -/

/-- The write that clears REFUSED, where its bit is set. -/
def State.refusedClear (s : State) (h : Half) (c : Nat) (v : Word) : State :=
  if v.getLsbD 8 then s.put (pgRcx h c) F.RCX_PRIO_REFUSED 0 else s

/-- PRIO shows the new value, and a context that is not Idle keeps the old one in force for now. -/
def State.prioSet (s : State) (h : Half) (c v : Nat) : State :=
  let old := s.prio h c
  let s := s.put (pgRcx h c) F.RCX_PRIO_PRIO v
  if s.rs h c = rsIdle then s else s.setCtx h c { s.ctx h c with prioHeld := some old }

theorem rcxPrioWrite_admitted {rq : Requester} {c : Fin 64} {v : Word} {s : State} (hadm : Admitted rq (pgRcx rq.half c) s) :
    exec (.rcxPrioWrite rq c v) s =
      if v.toNat / 8 % 32 ≠ 0 || 512 ≤ v.toNat then .next (s.ack.rWild rq.half c 4)
      else if c.val = 0 then .next (s.ack.refusedClear rq.half c v)
      else if v.toNat % 8 = 7 then .next ((s.ack.refusedClear rq.half c v).put (pgRcx rq.half c) F.RCX_PRIO_REFUSED 1)
      else .next (((s.ack.refusedClear rq.half c v).prioSet rq.half c (v.toNat % 8)).arbitrate rq.half) := by
  rw [exec_rcxPrioWrite, execRcxPrioWrite, hostWrite_admitted hadm]
  rfl

section
variable {h : Half} {c : Nat} {s : State}

theorem refusedClear_flag (s : State) (v : Word) :
    (s.refusedClear h c v).flag (pgRcx h c) F.RCX_PRIO_REFUSED = (s.flag (pgRcx h c) F.RCX_PRIO_REFUSED && !v.getLsbD 8) := by
  unfold State.refusedClear
  cases v.getLsbD 8
  · simp
  · simp [flag_put_zero _ _ _ (show F.RCX_PRIO_REFUSED.lsb + F.RCX_PRIO_REFUSED.width ≤ 32 by decide)]

/-- It leaves every register but RCX_PRIO, the priority in force and the state of the context. -/
theorem refusedClear_frame (hc : c < 64) (v : Word) : KeepsRegs (fun q o => ¬(q = pgRcx h c ∧ o = 4)) s (s.refusedClear h c v) ∧
    MemEq s (s.refusedClear h c v) ∧ (s.refusedClear h c v).prio h c = s.prio h c ∧ (s.refusedClear h c v).rs h c = s.rs h c := by
  unfold State.refusedClear
  split
  · refine ⟨keepsRegs_put s _ (pgRcx_code_lt hc) (by decide) (not_not_intro ⟨rfl, rfl⟩), memEq_rfl s, ?_, get_put_off _ _ _ (by decide)⟩
    rw [State.prio, State.prio, put_ctx, get_put_apart _ _ _ (by decide) (by decide)]
  · exact ⟨keepsRegs_of rfl, memEq_rfl s, rfl, rfl⟩

theorem prioSet_frame (hc : c < 64) (v : Nat) : KeepsRegs (fun q o => ¬(q = pgRcx h c ∧ o = 4)) s (s.prioSet h c v) ∧
    MemEq s (s.prioSet h c v) ∧ (s.prioSet h c v).rs h c = s.rs h c := by
  have hput : KeepsRegs (fun q o => ¬(q = pgRcx h c ∧ o = 4)) s (s.put (pgRcx h c) F.RCX_PRIO_PRIO v) :=
    keepsRegs_put s _ (pgRcx_code_lt hc) (by decide) (not_not_intro ⟨rfl, rfl⟩)
  have hrs : (s.put (pgRcx h c) F.RCX_PRIO_PRIO v).rs h c = s.rs h c := get_put_off _ _ _ (by decide)
  unfold State.prioSet
  dsimp only
  split
  · exact ⟨hput, memEq_rfl s, hrs⟩
  · exact ⟨hput.trans (keepsRegs_of (setHs_regs _ _ _)), (memEq_put _ _ _ _).trans (memEq_setCtx _ _), (setCtx_rs _ _ _ _).trans hrs⟩

theorem prioSet_get (s : State) (v : Nat) (f : Fld) : (s.prioSet h c v).get (pgRcx h c) f = (s.put (pgRcx h c) F.RCX_PRIO_PRIO v).get (pgRcx h c) f := by
  unfold State.prioSet
  dsimp only
  split
  · rfl
  · exact setCtx_get _ _ _ _

theorem prioSet_prio (v : Nat) (hs : s.rs h c ≠ 0) : (s.prioSet h c v).prio h c = s.prio h c := by
  have hrs : (s.put (pgRcx h c) F.RCX_PRIO_PRIO v).rs h c ≠ rsIdle := by
    have hkept : (s.put (pgRcx h c) F.RCX_PRIO_PRIO v).rs h c = s.rs h c := get_put_off _ _ _ (by decide)
    rw [hkept]
    exact hs
  rw [State.prioSet, if_neg hrs, State.prio, ctx_setCtx_same]
  rfl

end

/-! ## SUSPEND and RESUME (R166, R170) -/

section
variable {rq : Requester} {c : Fin 64} {s : State} (hadm : Admitted rq (pgRcx rq.half c) s)
include hadm

theorem rcxSuspend_admitted : exec (.rcxSuspend rq c) s =
    if s.rs rq.half c = 6 || s.rs rq.half c = 4 then .next s.ack
    else if s.rs rq.half c = 2 then .next (s.ack.setCtx rq.half c { s.ctx rq.half c with suspend := true })
    else .next (s.ack.rStopAt rq.half c rsSuspended) := by
  rw [exec_rcxSuspend, execRcxSuspend, hostWrite_admitted hadm, ← ack_ctx]
  rfl

theorem rcxResume_admitted : exec (.rcxResume rq c) s =
    .next (if s.rs rq.half c = 4 then s.ack.setRs rq.half c rsWaiting else s.ack) := by
  rw [exec_rcxResume, execRcxResume, hostWrite_admitted hadm]
  rfl

end
end Sys2Proof.Machine
end

section
/-! SUPPORT. The tiers at the raster engine (R182, R183): the report of a tier, and the timeout of T4. -/

namespace Sys2Proof.Machine

theorem exec_rasterT4Timeout (h : Half) (s : State) : exec (.rasterT4Timeout h) s = execRasterT4Timeout h s := rfl

/-! ## The report of a tier -/

/-- What the tier received does to one context. -/
def State.tierContext (s : State) (h : Half) (c : Nat) : State :=
  if s.rAllowed h c then (if s.rs h c = rsTierStopped then s.setRs h c rsWaiting else s)
  else if s.rs h c = rsWaiting || s.rs h c = rsBlocked then s.rStopAt h c rsTierStopped
  else s

/-- What the tier received does to the contexts. -/
def State.tierContexts (s : State) (h : Half) (tier : Nat) : State :=
  (s.put (pgGfe h) F.GFE_LAT_TIER tier).each (upTo 64) fun c s => s.tierContext h c

/-- The pause request of a compositor that the tier stops is dropped. -/
def State.tierCompositor (s : State) (h : Half) : State :=
  if (s.hs h).compositor = 1 && !(s.rAllowed h 0) then s.setHs h { s.hs h with compositor := 0 } else s

theorem rasterTierReport_eq (h : Half) (tier : Fin 5) (s : State) : exec (.rasterTierReport h tier) s =
    .next (((s.tierContexts h tier).tierCompositor h).setHs h { ((s.tierContexts h tier).tierCompositor h).hs h with gfeStop := tier.val = 4 }) := rfl

/-- What contexts that stop or wait leave unchanged: the memories, the compositor, and every register but their RCX_STATUS. -/
structure ShowsStates (h : Half) (s t : State) : Prop where
  mem : MemEq s t
  compositor : (t.hs h).compositor = (s.hs h).compositor
  regs : KeepsRegs (fun p o => ∀ c, c < 64 → ¬(p = pgRcx h c ∧ o = 0xC)) s t

section
variable {h : Half} {c : Nat} {s t : State}

theorem ShowsStates.trans {u : State} (hst : ShowsStates h s t) (htu : ShowsStates h t u) : ShowsStates h s u :=
  ⟨hst.mem.trans htu.mem, htu.compositor.trans hst.compositor, hst.regs.trans htu.regs⟩

theorem ShowsStates.tier (hst : ShowsStates h s t) : t.get (pgGfe h) F.GFE_LAT_TIER = s.get (pgGfe h) F.GFE_LAT_TIER :=
  congrArg F.GFE_LAT_TIER.ofWord (hst.regs _ _ pgGfe_code_lt (by decide) fun _ _ he => pgGfe_ne_pgRcx he.1)

theorem ShowsStates.rAllowed (hst : ShowsStates h s t) (hc : c < 64) : t.rAllowed h c = s.rAllowed h c := by
  have hmask : t.get (pgRcx h c) F.RCX_CFG_TIERMASK = s.get (pgRcx h c) F.RCX_CFG_TIERMASK :=
    congrArg F.RCX_CFG_TIERMASK.ofWord (hst.regs _ _ (pgRcx_code_lt hc) (by decide) fun _ _ he => absurd he.2 (by decide))
  rw [State.rAllowed, State.rAllowed, hst.tier, hmask]

theorem setRs_showsStates (s : State) (v : Nat) (hc : c < 64) : ShowsStates h s (s.setRs h c v) :=
  ⟨memEq_put _ _ _ _, by simp [State.setRs], keepsRegs_put s _ (pgRcx_code_lt hc) (by decide) fun hno => hno c hc ⟨rfl, rfl⟩⟩

theorem tierContext_showsStates (s : State) (hc : c < 64) : ShowsStates h s (s.tierContext h c) := by
  have hrfl : ShowsStates h s s := ⟨memEq_rfl s, rfl, keepsRegs_of rfl⟩
  unfold State.tierContext
  split
  · split
    · exact setRs_showsStates s _ hc
    · exact hrfl
  · split
    · obtain ⟨hmem, hregs, hcomp⟩ := rStopAt_frame (h := h) (c := c) s rsTierStopped
      exact ⟨hmem, hcomp, (setRs_showsStates s rsTierStopped hc).regs.trans (keepsRegs_of hregs)⟩
    · exact hrfl

theorem tierContext_beside {d : Nat} (s : State) (hd : d < 64) (hne : c ≠ d) : Beside h c s (s.tierContext h d) := by
  unfold State.tierContext
  split
  · split
    · exact beside_setRs s _ hd hne
    · exact beside_rfl s
  · split
    · exact beside_rStopAt s _ hd hne
    · exact beside_rfl s

/-- The state that a tier leaves a context in. -/
def tierState (allowed : Bool) (v : Nat) : Nat :=
  if allowed then (if v = rsTierStopped then rsWaiting else v) else if v = rsWaiting ∨ v = rsBlocked then rsTierStopped else v

theorem tierContext_rs (s : State) : (s.tierContext h c).rs h c = tierState (s.rAllowed h c) (s.rs h c) := by
  unfold State.tierContext tierState
  split
  · split
    · exact rs_setRs_same s rsWaiting
    · rfl
  · simp only [Bool.or_eq_true, decide_eq_true_eq]
    split
    · exact rStopAt_rs s rsTierStopped
    · rfl

theorem get_putTier (s : State) {tier : Nat} (ht : tier < 5) : (s.put (pgGfe h) F.GFE_LAT_TIER tier).get (pgGfe h) F.GFE_LAT_TIER = tier := by
  rw [get_put_same _ _ _ _ (by decide)]
  exact Nat.mod_eq_of_lt (show tier < 2 ^ 3 by omega)

theorem get_putTier_rcx (s : State) (tier : Nat) (hc : c < 64) {f : Fld} (hf : f.off < 0x10000) :
    (s.put (pgGfe h) F.GFE_LAT_TIER tier).get (pgRcx h c) f = s.get (pgRcx h c) f :=
  get_put_page s _ pgGfe_code_lt (pgRcx_code_lt hc) (by decide) hf (Ne.symm pgGfe_ne_pgRcx)

/-- Does the tier that is reported allow the context? -/
theorem rAllowed_putTier (s : State) {tier : Nat} (ht : tier < 5) (hc : c < 64) :
    (s.put (pgGfe h) F.GFE_LAT_TIER tier).rAllowed h c = (s.get (pgRcx h c) F.RCX_CFG_TIERMASK).testBit tier := by
  rw [State.rAllowed, get_putTier s ht, get_putTier_rcx s tier hc (by decide)]

theorem tierContexts_showsStates (s : State) (tier : Nat) : ShowsStates h (s.put (pgGfe h) F.GFE_LAT_TIER tier) (s.tierContexts h tier) :=
  each_keeps ⟨memEq_rfl _, rfl, keepsRegs_of rfl⟩ fun _ hc t ht => ht.trans (tierContext_showsStates t (mem_upTo.mp hc))

theorem tierContexts_rs (s : State) {tier : Nat} (ht : tier < 5) (hc : c < 64) :
    (s.tierContexts h tier).rs h c = tierState ((s.get (pgRcx h c) F.RCX_CFG_TIERMASK).testBit tier) (s.rs h c) := by
  obtain ⟨u, hbefore, hafter⟩ := each_at (R := Beside h c) beside_rfl Beside.trans (upTo_nodup 64) (mem_upTo.mpr hc)
    (f := fun c s => s.tierContext h c) (fun d hd hne t => tierContext_beside t (mem_upTo.mp hd) (Ne.symm hne))
    (s.put (pgGfe h) F.GFE_LAT_TIER tier)
  have hrs : (s.put (pgGfe h) F.GFE_LAT_TIER tier).rs h c = s.rs h c := get_putTier_rcx s tier hc (by decide)
  rw [State.tierContexts, hafter.rs hc, tierContext_rs, hbefore.rAllowed hc, hbefore.rs hc, rAllowed_putTier s ht hc, hrs]

/-- The compositor's part of the report changes no register and no memory. -/
theorem tierCompositor_frame (s : State) : (s.tierCompositor h).regs = s.regs ∧ MemEq s (s.tierCompositor h) := by
  unfold State.tierCompositor
  split
  · exact ⟨setHs_regs _ _ _, memEq_setHs _ _ _⟩
  · exact ⟨rfl, memEq_rfl s⟩

theorem tierCompositor_compositor (s : State) : ((s.tierCompositor h).hs h).compositor =
    if (s.hs h).compositor = 1 ∧ s.rAllowed h 0 = false then 0 else (s.hs h).compositor := by
  unfold State.tierCompositor
  simp only [Bool.and_eq_true, decide_eq_true_eq, Bool.not_eq_true']
  split
  · simp
  · rfl

end

/-! ## The timeout of T4 -/

/-- A context that still holds is Faulted. -/
def State.t4Context (s : State) (h : Half) (c : Nat) : State := if s.rs h c = rsHolding then s.rFaulted h c 3 else s

/-- Every context that still holds is Faulted. -/
def State.t4Contexts (s : State) (h : Half) : State := s.each (upTo 64) fun c s => s.t4Context h c

theorem rasterT4Timeout_idle {h : Half} {s : State} (hstop : (s.hs h).gfeStop = false) : exec (.rasterT4Timeout h) s = .next s := by
  rw [exec_rasterT4Timeout, execRasterT4Timeout, hstop]
  rfl

theorem rasterT4Timeout_stop {h : Half} {s : State} (hstop : (s.hs h).gfeStop = true) :
    exec (.rasterT4Timeout h) s = .next ((s.t4Contexts h).unpause h) := by
  rw [exec_rasterT4Timeout, execRasterT4Timeout, hstop]
  rfl

section
variable {h : Half} {c : Nat} {s : State}

theorem t4Context_beside {d : Nat} (s : State) (hd : d < 64) (hne : c ≠ d) : Beside h c s (s.t4Context h d) := by
  unfold State.t4Context
  split
  · exact beside_rFaulted s _ hd hne
  · exact beside_rfl s

/-- The loop passes each context once, and the passes of the others leave it as it was. -/
theorem t4Contexts_at (s : State) (hc : c < 64) : ∃ u, Beside h c s u ∧ Beside h c (u.t4Context h c) (s.t4Contexts h) :=
  each_at beside_rfl Beside.trans (upTo_nodup 64) (mem_upTo.mpr hc) (f := fun c s => s.t4Context h c)
    (fun _ hd hne t => t4Context_beside t (mem_upTo.mp hd) (Ne.symm hne)) s

theorem t4Contexts_holding (hc : c < 64) (hs : s.rs h c = 2) : (s.t4Contexts h).rs h c = 6 ∧
    (s.t4Contexts h).get (pgRcx h c) F.RCX_STATUS_CAUSE = 3 ∧ ((s.t4Contexts h).ctx h c).job = none ∧ (s.t4Contexts h).groupsOf h c = [] := by
  obtain ⟨u, hbefore, hafter⟩ := t4Contexts_at (h := h) s hc
  have hpass : u.t4Context h c = u.rFaulted h c 3 := if_pos ((hbefore.rs hc).trans hs)
  rw [hpass] at hafter
  exact ⟨(hafter.rs hc).trans (rFaulted_rs u 3), (hafter.get hc (by decide)).trans (rFaulted_cause u 3),
    hafter.job.trans (rFaulted_job u 3), hafter.groups.groupsOf (rFaulted_groupsOf u 3)⟩

theorem t4Contexts_other (hc : c < 64) (hs : s.rs h c ≠ 2) :
    (s.t4Contexts h).rs h c = s.rs h c ∧ ((s.t4Contexts h).ctx h c).job = (s.ctx h c).job := by
  obtain ⟨u, hbefore, hafter⟩ := t4Contexts_at (h := h) s hc
  have hpass : u.t4Context h c = u := if_neg fun he => hs ((hbefore.rs hc).symm.trans he)
  rw [hpass] at hafter
  have hall := hbefore.trans hafter
  exact ⟨hall.rs hc, hall.job⟩

/-- Where no context that holds has a store in its caches, the faults write no memory. -/
theorem t4Contexts_memEq (hnil : ∀ c, c < 64 → s.rs h c = 2 → (s.ctx h c).stores = []) : MemEq s (s.t4Contexts h) := by
  refine (each_keeps (P := fun t => MemEq s t ∧ ∀ c, c < 64 → t.rs h c = 2 → (t.ctx h c).stores = []) ⟨memEq_rfl s, hnil⟩
    fun d hd t ht => ?_ : MemEq s (s.t4Contexts h) ∧ _).1
  obtain ⟨hmem, hstores⟩ := ht
  have hd := mem_upTo.mp hd
  by_cases hholds : t.rs h d = 2
  · have hpass : t.t4Context h d = t.rFaulted h d 3 := if_pos hholds
    rw [hpass]
    refine ⟨hmem.trans (rFaulted_memEq (hstores d hd hholds)), fun c hc hrs => ?_⟩
    by_cases hcd : c = d
    · subst hcd
      rw [rFaulted_rs] at hrs
      cases hrs
    · have hbeside := beside_rFaulted (h := h) t 3 hd hcd
      exact hbeside.stores.trans (hstores c hc ((hbeside.rs hc).symm.trans hrs))
  · have hpass : t.t4Context h d = t := if_neg hholds
    rw [hpass]
    exact ⟨hmem, hstores⟩

/-- Paused warps that resume change no register, no memory, no job and no shader group. -/
theorem unpause_frame (s : State) : (s.unpause h).regs = s.regs ∧ MemEq s (s.unpause h) ∧ ((s.unpause h).hs h).groups = (s.hs h).groups ∧
    ∀ c, ((s.unpause h).ctx h c).job = (s.ctx h c).job := by
  have hloop := each_keeps (P := fun t => t.regs = s.regs ∧ MemEq s t ∧ (t.hs h).groups = (s.hs h).groups ∧ ∀ c, (t.ctx h c).job = (s.ctx h c).job)
    (xs := upTo 64) (f := fun c s => if (s.ctx h c).paused then s.setCtx h c { s.ctx h c with paused := false } else s)
    ⟨rfl, memEq_rfl s, rfl, fun _ => rfl⟩ fun d _ t ht => by
      obtain ⟨hregs, hmem, hgroups, hjob⟩ := ht
      dsimp only
      split
      · refine ⟨(setHs_regs _ _ _).trans hregs, hmem.trans (memEq_setCtx _ _), by simp [State.setCtx, hgroups], fun c => ?_⟩
        by_cases hcd : c = d
        · subst hcd
          rw [ctx_setCtx_same, ← hjob c]
        · rw [ctx_setCtx_ne _ _ hcd, hjob c]
      · exact ⟨hregs, hmem, hgroups, hjob⟩
  obtain ⟨hregs, hmem, hgroups, hjob⟩ := hloop
  refine ⟨(setHs_regs _ _ _).trans hregs, hmem.trans (memEq_setHs _ _ _), by simp [State.unpause, hgroups], fun c => ?_⟩
  rw [← hjob c]
  simp [State.unpause, State.ctx]

end

end Sys2Proof.Machine
end

section
/-! SUPPORT. The commands of a raster context and the tier at the raster engine (R158, R165, R166, R169, R170, R182, R183). -/

namespace Sys2Proof.Machine

section
variable {rq : Requester} {c : Fin 64} {s : State} (hadm : Admitted rq (pgRcx rq.half c) s)
include hadm

theorem rcxDoorbell_wild {tail : Word} (hout : s.ringLog rq.half c < 4 ∨ 2 ^ s.ringLog rq.half c < s.aheadOf rq.half c tail.toNat) :
    exec (.rcxDoorbell rq c tail) s = .next (s.ack.rWild rq.half c 0x18) := by
  rw [rcxDoorbell_admitted hadm, if_pos (by simpa using hout)]

theorem rcxDoorbell_inRange {tail : Word} (hring : 4 ≤ s.ringLog rq.half c) (hahead : s.aheadOf rq.half c tail.toNat ≤ 2 ^ s.ringLog rq.half c) :
    exec (.rcxDoorbell rq c tail) s = .next ((s.ack.rung rq.half c tail.toNat).arbitrate rq.half) := by
  rw [rcxDoorbell_admitted hadm, if_neg (by simpa using ⟨hring, hahead⟩)]

theorem rcxPrioWrite_wild {v : Word} (hres : v.toNat / 8 % 32 ≠ 0 ∨ 512 ≤ v.toNat) :
    exec (.rcxPrioWrite rq c v) s = .next (s.ack.rWild rq.half c 4) := by
  rw [rcxPrioWrite_admitted hadm, if_pos (by simpa using hres)]

theorem rcxPrioWrite_defined {v : Word} (hlow : v.toNat / 8 % 32 = 0) (hhigh : v.toNat < 512) : exec (.rcxPrioWrite rq c v) s =
    if c.val = 0 then .next (s.ack.refusedClear rq.half c v)
    else if v.toNat % 8 = 7 then .next ((s.ack.refusedClear rq.half c v).put (pgRcx rq.half c) F.RCX_PRIO_REFUSED 1)
    else .next (((s.ack.refusedClear rq.half c v).prioSet rq.half c (v.toNat % 8)).arbitrate rq.half) := by
  rw [rcxPrioWrite_admitted hadm, if_neg (by simp only [hlow, Bool.or_eq_true, decide_eq_true_eq]; omega)]

end

/-- What an accepted priority write shows, before its arbitration. -/
theorem prioSet_shown {h : Half} {c : Fin 64} (s : State) (v : Word) : ∃ u : State,
    u = (s.ack.refusedClear h c v).prioSet h c (v.toNat % 8) ∧ u.get (pgRcx h c) F.RCX_PRIO_PRIO = v.toNat % 8 ∧
    (s.rs h c ≠ 0 → u.prio h c = s.prio h c) ∧
    u.flag (pgRcx h c) F.RCX_PRIO_REFUSED = (s.flag (pgRcx h c) F.RCX_PRIO_REFUSED && !v.getLsbD 8) ∧
    u.rs h c = s.rs h c ∧ SameMem s u ∧ KeepsRegs (fun q o => ¬(q = pgRcx h c ∧ o = 4)) s u := by
  obtain ⟨hregs, hmem, hprio, hrs⟩ := refusedClear_frame (h := h) (s := s.ack) c.isLt v
  obtain ⟨kregs, kmem, krs⟩ := prioSet_frame (h := h) (s := s.ack.refusedClear h c v) c.isLt (v.toNat % 8)
  refine ⟨_, rfl, ?_, fun hidle => (prioSet_prio _ (by rw [hrs]; exact hidle)).trans (hprio.trans ?_), ?_, krs.trans hrs,
    (hmem.trans kmem).sameMem, hregs.trans kregs⟩
  · rw [prioSet_get, get_put_same _ _ _ _ (by decide)]
    exact Nat.mod_mod _ 8
  · rw [State.prio, State.prio, ack_ctx, ack_get]
  · rw [State.flag, prioSet_get, ← State.flag, flag_put_apart _ _ _ (by decide) (by decide), refusedClear_flag, ack_flag]

/-- Settles O11: each command by its own lemmas. The moments of the arbitrations (log entry 29), and that SUSPEND stops a Waiting or Blocked
context at once and PRIO shows a new value at once (log entry 30), are the model's reading. -/
theorem rasterCommands : Obligations.RasterCommands := by
  refine ⟨fun rq c tail s hadm => ?doorbell, fun rq c v s hadm => ?prio, fun rq c s hadm => ?suspend, fun h tier s => ?tier, fun h s => ?timeout⟩
  case doorbell =>
    obtain ⟨hregs, hmem, hhalfA, hhalfB⟩ := rung_frame (h := rq.half) (s := s.ack) (tail := tail.toNat) c.isLt
    have hhead := (rung_rHead (h := rq.half) (s := s.ack) (tail := tail.toNat) c.isLt).trans (ack_rHead s rq.half c)
    have hbusy := rung_notIdle (h := rq.half) (c := c) (s := s.ack) (tail := tail.toNat)
    have hidle := rung_idle (h := rq.half) (s := s.ack) (tail := tail.toNat) c.isLt tail.isLt
    rw [ack_rs] at hbusy
    rw [ack_rs, ack_ctx, ack_aheadOf, ack_rAllowed] at hidle
    refine ⟨rcxDoorbell_wild hadm, fun hring hahead => ⟨_, rcxDoorbell_inRange hadm hring hahead, rung_rTail tail.isLt, hhead,
      hbusy, hidle, hmem.sameMem, hhalfA, hhalfB, hregs⟩⟩
  case prio =>
    refine ⟨rcxPrioWrite_wild hadm, fun hlow hhigh hzero => ?_, fun hlow hhigh hpos hseven => ?_, fun hlow hhigh hpos hother => ?_⟩
    · rw [rcxPrioWrite_defined hadm hlow hhigh, if_pos hzero]
      rfl
    · rw [rcxPrioWrite_defined hadm hlow hhigh, if_neg hpos, if_pos hseven]
      rfl
    · obtain ⟨u, hu, hshown⟩ := prioSet_shown (h := rq.half) (c := c) s v
      refine ⟨u, ?_, hshown⟩
      rw [rcxPrioWrite_defined hadm hlow hhigh, if_neg hpos, if_neg hother, hu]
  case suspend =>
    refine ⟨fun hstopped => ?_, fun hholding => ?_, fun hfaulted hsuspended hholding => ?_, fun hsuspended => ?_, fun hother => ?_⟩
    · rw [rcxSuspend_admitted hadm, if_pos (by simpa using hstopped)]
    · rw [rcxSuspend_admitted hadm, hholding]
      rfl
    · refine ⟨_, ?_, rStopAt_rs _ rsSuspended, (rStopAt_frame (h := rq.half) (c := c) s.ack rsSuspended).1.sameMem,
        fun j hjob hwait => rStopAt_job _ (by rw [ack_ctx, hjob]) hwait⟩
      rw [rcxSuspend_admitted hadm, if_neg (by simp [hfaulted, hsuspended]), if_neg hholding]
    · rw [rcxResume_admitted hadm, if_pos hsuspended]
      rfl
    · rw [rcxResume_admitted hadm, if_neg hother]
  case tier =>
    obtain ⟨hregs, hmem⟩ := tierCompositor_frame (h := h) (s.tierContexts h tier)
    have hstates : ShowsStates h _ (s.tierContexts h tier) := tierContexts_showsStates s tier
    have hget (q : Pg) (f : Fld) : ((s.tierContexts h tier).tierCompositor h).get q f = (s.tierContexts h tier).get q f := by
      simp only [State.get, State.reg, hregs]
    refine ⟨_, rasterTierReport_eq h tier s, ?_, by simp, fun c => ?_, ?_, ?_⟩
    · rw [setHs_r_get, hget, hstates.tier, get_putTier s tier.isLt]
    · exact (setHs_r_get _ _ _ _ _).trans ((hget _ _).trans (tierContexts_rs s tier.isLt c.isLt))
    · have hcomp : ((s.put (pgGfe h) F.GFE_LAT_TIER tier).hs h).compositor = (s.hs h).compositor := by simp
      rw [hs_setHs_same]
      dsimp only
      rw [tierCompositor_compositor, hstates.rAllowed (by decide), rAllowed_putTier s tier.isLt (by decide), hstates.compositor, hcomp]
    · exact (((memEq_put s _ _ _).trans hstates.mem).trans (hmem.trans (memEq_setHs _ _ _))).sameMem
  case timeout =>
    refine ⟨rasterT4Timeout_idle, fun hstop => ⟨_, rasterT4Timeout_stop hstop, ?_⟩⟩
    obtain ⟨hregs, hmem, hgroups, hjob⟩ := unpause_frame (h := h) (s.t4Contexts h)
    have hget (q : Pg) (f : Fld) : ((s.t4Contexts h).unpause h).get q f = (s.t4Contexts h).get q f := by
      simp only [State.get, State.reg, hregs]
    refine ⟨fun c hholding => ?_, fun c hother => ?_, by simp [State.unpause], fun hnil => ?_⟩
    · obtain ⟨krs, kcause, kjob, kgroups⟩ := t4Contexts_holding c.isLt hholding
      exact ⟨(hget _ _).trans krs, (hget _ _).trans kcause, (hjob c).trans kjob, (takesNoGroup_of hgroups).groupsOf kgroups⟩
    · obtain ⟨krs, kjob⟩ := t4Contexts_other c.isLt hother
      exact ⟨(hget _ _).trans krs, (hjob c).trans kjob⟩
    · exact ((t4Contexts_memEq fun c hc => hnil ⟨c, hc⟩).trans hmem).sameMem

end Sys2Proof.Machine
end

section
/-! SUPPORT. The unpredictable result of a raster context (R9 to R11, R158): which registers it leaves, and what it makes of the other contexts. -/

namespace Sys2Proof.Machine

/-- An unknown register of a page leaves the registers of every other page, and the units of the halves. -/
theorem wildReg_frame (s w : State) {p : Pg} {off : Nat} (h : Half) (hp : p.code < 0x10000) (hoff : off < 0x10000) :
    KeepsRegs (fun q _ => q ≠ p) s (s.wildReg w p off) ∧ (s.wildReg w p off).hs h = s.hs h := by
  have hset (v : Word) : KeepsRegs (fun q _ => q ≠ p) s (s.setReg p off v) ∧ (s.setReg p off v).hs h = s.hs h :=
    ⟨keepsRegs_setReg s v hp hoff (not_not_intro rfl), setReg_r_hs _ _ _ _ _⟩
  have hself : KeepsRegs (fun q _ => q ≠ p) s s ∧ s.hs h = s.hs h := ⟨keepsRegs_of rfl, rfl⟩
  unfold State.wildReg
  extract_lets hub hubs
  split
  · exact hself
  · split
    · exact hself
    · extract_lets m
      split
      · exact hself
      · exact hset _

section
variable {h : Half} {c : Nat}

theorem halfKind_rcx (hc : c < 64) : halfKind (0x100 + c) = some .rcx :=
  (by decide : ∀ d : Fin 64, halfKind (0x100 + d) = some .rcx) ⟨c, hc⟩

theorem pgRcx_kind (hc : c < 64) : (pgRcx h c).kind = some .rcx := by
  cases h <;> exact halfKind_rcx hc

theorem pageOffs_rcx_lt : ∀ o ∈ pageOffs .rcx, o < 0x10000 := by decide

/-- The engine of a context that takes an unknown state. -/
theorem wildUnit_rcx (s w : State) (hc : c < 64) : ∃ v, s.wildUnit w (pgRcx h c) = (s.setHs h ((s.hs h).without c)).setCtx h c v := by
  have hkind : halfKind (pgRcx h c).code = some .rcx := halfKind_rcx hc
  have hsub : (pgRcx h c).code - 0x100 = c := Nat.add_sub_cancel_left _ _
  unfold State.wildUnit
  cases h <;> simp only [pgRcx, halfPg, Half.die] at hkind hsub ⊢ <;> rw [hkind, hsub] <;> exact ⟨_, rfl⟩

/-- The registers of a context and its record are in `t` those of `s`. -/
def KeepsContext (h : Half) (d : Nat) (s t : State) : Prop := KeepsRegs (fun p _ => p = pgRcx h d) s t ∧ t.ctx h d = s.ctx h d

theorem KeepsContext.raiseIf {d : Nat} {s t : State} (hk : KeepsContext h d s t) (b : Bool) (p : Pg) :
    KeepsContext h d s (t.whenB b fun s => s.raise p) := by
  obtain ⟨hregs, hctx⟩ := hk
  cases b
  · exact ⟨hregs, hctx⟩
  · exact ⟨hregs.trans (keepsRegs_of rfl), by rw [← hctx]; simp [State.whenB, State.ctx]⟩

theorem KeepsContext.eventIf {d : Nat} {s t : State} (hk : KeepsContext h d s t) (b : Bool) (p : Pg) (n : Nat) (data : List Byte) :
    KeepsContext h d s (t.whenB b fun s => s.funcEvent p n data) := by
  obtain ⟨hregs, hctx⟩ := hk
  cases b
  · exact ⟨hregs, hctx⟩
  · obtain ⟨heq, hpat⟩ := event_only t (srcOf p) 0x00B0 (b1 n ++ data) false false
    have hhs : (t.funcEvent p n data).hs h = t.hs h := by
      rw [State.funcEvent, heq]
      cases h <;> rfl
    refine ⟨hregs.trans (hpat.mono fun q _ hq => hq ▸ halfPg_ne_plinthPg _ _ _), ?_⟩
    rw [← hctx]
    simp only [State.whenB, if_true, State.ctx, hhs]

/-- The state in which the registers of a context are unknown. -/
def State.wildPage (s w : State) (h : Half) (c : Nat) : State :=
  ({ s with free := s.free + 1 } : State).each (pageOffs .rcx) fun o s => s.wildReg w (pgRcx h c) o

theorem wildPage_frame (s w : State) (hc : c < 64) :
    KeepsRegs (fun p _ => p ≠ pgRcx h c) s (s.wildPage w h c) ∧ (s.wildPage w h c).hs h = s.hs h := by
  refine each_keeps (P := fun t => KeepsRegs (fun p _ => p ≠ pgRcx h c) s t ∧ t.hs h = s.hs h)
    ⟨keepsRegs_of rfl, by cases h <;> rfl⟩ fun o ho t ht => ?_
  obtain ⟨hregs, hhs⟩ := ht
  obtain ⟨kregs, khs⟩ := wildReg_frame t w h (pgRcx_code_lt hc) (pageOffs_rcx_lt o ho)
  exact ⟨hregs.trans kregs, khs.trans hhs⟩

/-- An unpredictable result of a context: its page and its engine are unknown, and an interrupt and an event may come. -/
theorem unpredictable_rcx (s : State) (off : Nat) (hc : c < 64) : s.unpredictable (pgRcx h c) off =
    let w := Config.wild s.free
    (((s.wildPage w h c).wildUnit w (pgRcx h c)).whenB (w.free % 2 = 1) fun s => s.raise (pgRcx h c)).whenB (w.free / 2 % 2 = 1)
      fun s => s.funcEvent (pgRcx h c) (w.free / 4 % 256) (b4 w.time) := by
  unfold State.unpredictable
  rw [pgRcx_kind hc]
  rfl

/-- The registers of every other context stay, and their records are those of the table that the engine without the context keeps. -/
theorem unpredictable_other (s : State) (off : Nat) {d : Nat} (hc : c < 64) (hne : d ≠ c) :
    KeepsRegs (fun p _ => p = pgRcx h d) s (s.unpredictable (pgRcx h c) off) ∧
      (s.unpredictable (pgRcx h c) off).ctx h d = tblGet (fun _ => {}) ((s.hs h).without c).ctx d := by
  have heq := unpredictable_rcx (h := h) s off hc
  extract_lets w at heq
  obtain ⟨hregs, hhs⟩ := wildPage_frame (h := h) s w hc
  obtain ⟨v, hunit⟩ := wildUnit_rcx (h := h) (s.wildPage w h c) w hc
  have hpage : KeepsRegs (fun p _ => p = pgRcx h d) s ((s.wildPage w h c).wildUnit w (pgRcx h c)) := by
    rw [hunit]
    exact (hregs.mono fun _ _ hp => by rw [hp]; exact pgRcx_ne hne).trans (keepsRegs_of ((setHs_regs _ _ _).trans (setHs_regs _ _ _)))
  have hrecord : ((s.wildPage w h c).wildUnit w (pgRcx h c)).ctx h d = tblGet (fun _ => {}) ((s.hs h).without c).ctx d := by
    rw [hunit, ctx_setCtx_ne _ _ hne, State.ctx, hs_setHs_same, hhs]
  have hkeeps : KeepsContext h d ((s.wildPage w h c).wildUnit w (pgRcx h c)) (s.unpredictable (pgRcx h c) off) := by
    rw [heq]
    exact KeepsContext.eventIf (KeepsContext.raiseIf ⟨keepsRegs_of rfl, rfl⟩ _ _) _ _ _ _
  exact ⟨hpage.trans hkeeps.1, hkeeps.2.trans hrecord⟩

/-- The unpredictable result of a context, from the state whose L1 caches and shader groups it has left. -/
theorem rWild_other (s : State) (off : Nat) {d : Nat} (hc : c < 64) (hd : d < 64) (hne : d ≠ c) : (s.rWild h c off).rs h d = s.rs h d ∧
    (s.rWild h c off).ctx h d = tblGet (fun _ => {}) ((((s.l1Out h c).groupsDrop h c).hs h).without c).ctx d := by
  obtain ⟨hregs, hctx⟩ := unpredictable_other (h := h) ((s.l1Out h c).groupsDrop h c) off hc hne
  have hleft : Beside h d s ((s.l1Out h c).groupsDrop h c) := ((l1Out_drains s).beside hne).trans (beside_groupsDrop _ c)
  exact ⟨(congrArg F.RCX_STATUS_STATE.ofWord (hregs _ _ (pgRcx_code_lt hd) (by decide) rfl)).trans (hleft.rs hd), hctx⟩

end
end Sys2Proof.Machine
end

section
/-! SUPPORT. An arbitration (R164) of an engine on which only the compositor context has work, and a state whose table lists a context twice. -/

namespace Sys2Proof.Machine

theorem exec_arbitration (h : Half) (s : State) : exec (.arbitration h) s = .next (s.arbitrate h) := rfl

/-! ## Contexts without work -/

/-- Every context but the compositor context is Idle, Suspended, Tier-stopped or Faulted. -/
def OnlyCompositor (h : Half) (s : State) : Prop := ∀ d, d < 64 → d ≠ 0 → s.rs h d ≠ 1 ∧ s.rs h d ≠ 2 ∧ s.rs h d ≠ 3

section
variable {h : Half} {s : State}

theorem takeJob_of_idle {c : Nat} (hc : s.rs h c ≠ 1) : s.takeJob h c = s := by
  have htakes : s.takesJob h c = false := by simp [State.takesJob, rsWaiting, hc]
  rw [State.takeJob, htakes]
  rfl

theorem takeJob_reservedRing {c : Nat} (htakes : s.takesJob h c = true) (hring : s.ringLog h c < 4) :
    s.takeJob h c = s.rWild h c 0x14 := by
  rw [State.takeJob, htakes, if_pos hring]
  rfl

theorem waitCheck_of_notBlocked {c : Nat} (hc : s.rs h c ≠ 3) : s.waitCheck h c = s := by
  unfold State.waitCheck
  split
  · rfl
  · exact if_pos hc

theorem saveEnd_of_none {c : Nat} (hc : (s.ctx h c).saving = none) : s.saveEnd h c = s := by
  rw [State.saveEnd, hc]

theorem OnlyCompositor.setRs (hs : OnlyCompositor h s) (v : Nat) : OnlyCompositor h (s.setRs h 0 v) := fun d hd hne => by
  rw [rs_setRs_ne s v (by decide) hd hne]
  exact hs d hd hne

/-- Shader groups pass to ordinary and Async contexts with work only (R164, R171). -/
theorem giveGroups_onlyCompositor (hs : OnlyCompositor h s) : s.giveGroups h = s := by
  have hwork (c : Nat) (hc : c ∈ upTo 64) (hne : c ≠ 0) : s.ready h c = false ∧ s.executing h c = false := by
    obtain ⟨hwaits, hholds, -⟩ := hs c (mem_upTo.mp hc) hne
    exact ⟨by simp [State.ready, rsWaiting, hwaits], by simp [State.executing, rsHolding, hholds]⟩
  have hgroup : (upTo 64).filter (s.wantsGroup h) = [] := List.filter_eq_nil_iff.mpr fun c hc => by
    by_cases hne : c = 0
    · simp [State.wantsGroup, hne]
    · simp [State.wantsGroup, hwork c hc hne]
  have hcores (g : Nat) : (upTo 64).filter (s.wantsCores h g) = [] := List.filter_eq_nil_iff.mpr fun c hc => by
    by_cases hne : c = 0
    · simp [State.wantsCores, hne]
    · simp [State.wantsCores, hwork c hc hne]
  have hpick : s.pickCtx h [] = none := rfl
  have hasync : s.each ((upTo 4).filter (s.groupOn h)) (fun g s => match s.pickCtx h ((upTo 64).filter (s.wantsCores h g)) with
      | none => s
      | some c => s.startAsync h c g) = s := each_eq_self fun g _ => by simp only [hcores, hpick]
  unfold State.giveGroups
  split
  · rfl
  · simp only [hgroup, hpick, ite_self]
    exact hasync

/-- Such an arbitration leaves the records of the contexts as the compositor context's next descriptor leaves them. -/
theorem arbitrateOn_onlyCompositor {u : State} (hu : u = s.setCtx h 0 { s.ctx h 0 with prioHeld := none }) (hwaits : s.rs h 0 = 1)
    (hs : OnlyCompositor h s) (hafter : OnlyCompositor h (u.takeJob h 0)) (d : Nat) : (s.arbitrateOn h).ctx h d = (u.takeJob h 0).ctx h d := by
  have hrs (c : Nat) : u.rs h c = s.rs h c := by rw [hu, setCtx_rs]
  have hzero : 0 ∈ upTo 64 := mem_upTo.mpr (by decide)
  unfold State.arbitrateOn
  extract_lets s1 s2 s3 s4 hs4 s5
  have h1 : s1 = u := by
    refine (each_eq_at (upTo_nodup 64) hzero (fun c hc hne => ?_) fun c hc hne => ?_).trans ?_
    · obtain ⟨hc1, -, hc3⟩ := hs c (mem_upTo.mp hc) hne
      simp [rsWaiting, rsBlocked, hc1, hc3]
    · obtain ⟨hc1, -, hc3⟩ := hs c (mem_upTo.mp hc) hne
      simp [rsWaiting, rsBlocked, hwaits, hc1, hc3]
    · simp [rsWaiting, hwaits, hu]
  have h2 : s2 = u := by
    rw [← h1]
    refine each_eq_self fun c hc => waitCheck_of_notBlocked ?_
    rw [h1, hrs]
    by_cases hne : c = 0
    · rw [hne, hwaits]
      decide
    · exact (hs c (mem_upTo.mp hc) hne).2.2
  have h3 : s3 = u.takeJob h 0 := by
    rw [← h2]
    refine each_eq_at (upTo_nodup 64) hzero (fun c hc hne => takeJob_of_idle ?_) fun c hc hne => takeJob_of_idle ?_
    · rw [h2, hrs]
      exact (hs c (mem_upTo.mp hc) hne).1
    · rw [h2]
      exact (hafter c (mem_upTo.mp hc) hne).1
  have h4 : OnlyCompositor h s4 ∧ s4.ctx h d = (u.takeJob h 0).ctx h d := by
    have hloop : s4 = if s3.rs h 0 = rsWaiting then s3.setRs h 0 (s3.rRest h 0) else s3 := by
      refine each_eq_at (upTo_nodup 64) hzero (fun c hc hne => if_neg ?_) fun c hc hne => if_neg ?_
      · rw [h3]
        exact (hafter c (mem_upTo.mp hc) hne).1
      · rw [h3]
        split
        · exact (hafter.setRs _ c (mem_upTo.mp hc) hne).1
        · exact (hafter c (mem_upTo.mp hc) hne).1
    rw [hloop, h3]
    split
    · exact ⟨hafter.setRs _, setRs_ctx _ _ _ _⟩
    · exact ⟨hafter, rfl⟩
  have h5 : OnlyCompositor h s5 ∧ s5.ctx h d = (u.takeJob h 0).ctx h d := by
    obtain ⟨honly, hctx⟩ := h4
    simp only [s5]
    split
    · refine ⟨fun c hc hne => ?_, by rw [← hctx]; simp [State.ctx, hs4]⟩
      have hkept : (s4.setHs h { s4.hs h with compositor := 1 }).rs h c = s4.rs h c := setHs_r_get _ _ _ _ _
      rw [hkept]
      exact honly c hc hne
    · split
      · exact ⟨honly.setRs _, (setRs_ctx _ _ _ _).trans hctx⟩
      · exact ⟨honly, hctx⟩
  rw [giveGroups_onlyCompositor h5.1]
  exact h5.2

end

/-! ## A context listed twice -/

/-- A record whose writing leaves the table of contexts leaves the state. -/
theorem setCtx_of_tblSet {h : Half} {s : State} {c : Nat} {v : RCtx} (htable : tblSet (fun _ => {}) (s.hs h).ctx c v = (s.hs h).ctx) :
    s.setCtx h c v = s := by
  rw [State.setCtx, htable]
  cases h <;> rfl

/-- The compositor context of Half A waits with a descriptor in a ring of 2^1 entries; context 5 is Suspended. The table of contexts is not in
canonical form: it lists context 5 twice, and only the second entry, which a read of the table does not see, has a job. -/
def listedTwice : State :=
  let s := (((State.reset.setRs .A 0 1).put (pgRcx .A 0) F.RCX_TAIL_COUNT 1).put (pgRcx .A 0) F.RCX_CFG_TIERMASK 31).put (pgRcx .A 0) F.RCX_RING_HI_LOG2 1
  (s.setRs .A 5 4).setHs .A { ctx := [(5, { paused := true }), (5, { job := some {} })] }

theorem listedTwice_ctx (d : Nat) : listedTwice.ctx .A d = if d = 5 then { paused := true } else {} := by
  have htable : (listedTwice.hs .A).ctx = [(5, { paused := true }), (5, { job := some {} })] := rfl
  rw [State.ctx, htable]
  by_cases hd : d = 5
  · rw [hd]
    rfl
  · simp [tblGet, tblFind, hd, Ne.symm hd]

theorem listedTwice_rs {d : Nat} (hd : d < 64) : listedTwice.rs .A d = if d = 0 then 1 else if d = 5 then 4 else 0 :=
  (by decide : ∀ d : Fin 64, listedTwice.rs .A d = if d.val = 0 then 1 else if d.val = 5 then 4 else 0) ⟨d, hd⟩

theorem listedTwice_onlyCompositor : OnlyCompositor .A listedTwice := fun d hd hne => by
  rw [listedTwice_rs hd, if_neg hne]
  split <;> decide

/-- The record of context 0 is a fresh one, so that taking its priority back changes nothing. -/
theorem listedTwice_setCtx : listedTwice = listedTwice.setCtx .A 0 { listedTwice.ctx .A 0 with prioHeld := none } :=
  (setCtx_of_tblSet rfl).symm

/-- The reserved ring of the compositor context makes its result unpredictable, and the warps that it had paused resume: the first entry of
context 5 is then a fresh record, which the table drops, and the second entry shows. -/
theorem listedTwice_job : ((listedTwice.arbitrate .A).ctx .A 5).job = some {} := by
  have hsaves : listedTwice.each (upTo 64) (fun c s => s.saveEnd .A c) = listedTwice :=
    each_eq_self fun d _ => saveEnd_of_none (by rw [listedTwice_ctx]; split <;> rfl)
  have hwild : listedTwice.takeJob .A 0 = listedTwice.rWild .A 0 0x14 := takeJob_reservedRing (by decide) (by decide)
  have hafter : OnlyCompositor .A (listedTwice.takeJob .A 0) := fun d hd hne => by
    rw [hwild, (rWild_other _ _ (by decide) hd hne).1]
    exact listedTwice_onlyCompositor d hd hne
  rw [State.arbitrate, hsaves, arbitrateOn_onlyCompositor listedTwice_setCtx (listedTwice_rs (by decide)) listedTwice_onlyCompositor hafter,
    hwild, (rWild_other _ _ (by decide) (by decide) (by decide)).2]
  decide

/-- Refutes O12: its states are not confined to those whose tables of contexts are in canonical form. On `listedTwice` the first clause fails:
the Suspended context 5 reads as one without a job, and after the arbitration as one with a job. -/
theorem not_rasterCourse : ¬Obligations.RasterCourse := by
  rintro ⟨harbitration, -⟩
  obtain ⟨t, ht, hkept⟩ := harbitration .A listedTwice
  have ht : listedTwice.arbitrate .A = t := Host.Outcome.next.inj ((exec_arbitration .A listedTwice).symm.trans ht)
  have hsuspended : listedTwice.rs .A (5 : Fin 64) = 4 := listedTwice_rs (by decide)
  have hrecord : listedTwice.ctx .A (5 : Fin 64) = { paused := true } := listedTwice_ctx 5
  obtain ⟨-, -, -, hjob⟩ := hkept 5 (by rw [hrecord]) (.inl hsuspended)
  rw [hrecord, ← ht] at hjob
  have hsome : ((listedTwice.arbitrate .A).ctx .A (5 : Fin 64)).job = some {} := listedTwice_job
  rw [hsome] at hjob
  cases hjob

end Sys2Proof.Machine
end

section
/-! SUPPORT. The bookkeeping of the pair supervisor (R57, R187, R190, R204, R205): what the ends of handovers and of a REARM, the changes of
PAIRING and MODE, and the sync of the mirror regions leave of the memories, of the halves, and of a half that is Lost or in reset. -/

namespace Sys2Proof.Machine

/-- The memories of `s` are those of `t`, so are the halves but for the course of their resets and a waiting ARM interrupt, and a half that
is Lost or in reset stays so. -/
structure Supervises (s t : State) : Prop where
  mem : MemEq s t
  halves : ∀ k, ∃ stage restart armIrq, t.hs k = { s.hs k with stage := stage, restart := restart, armIrq := armIrq } ∧
    ((s.hs k).stage = .reset → stage = .reset)
  lost : ∀ k, s.halfState k = hsLost → t.halfState k = hsLost

section
variable {r s t : State}

theorem Supervises.trans (h : Supervises r s) (k : Supervises s t) : Supervises r t := by
  refine ⟨h.mem.trans k.mem, fun x => ?_, fun x hx => k.lost x (h.lost x hx)⟩
  obtain ⟨st, re, arm, hs, hreset⟩ := h.halves x
  obtain ⟨st', re', arm', ht, kreset⟩ := k.halves x
  refine ⟨st', re', arm', by rw [ht, hs], fun hx => kreset ?_⟩
  rw [hs]
  exact hreset hx

/-! ### One write -/

theorem halves_of_hs_eq (h : ∀ k, t.hs k = s.hs k) (k : Half) : ∃ stage restart armIrq,
    t.hs k = { s.hs k with stage := stage, restart := restart, armIrq := armIrq } ∧ ((s.hs k).stage = .reset → stage = .reset) :=
  ⟨_, _, _, h k, id⟩

theorem halfState_congr (h : t.reg pgPair 4 = s.reg pgPair 4) (k : Half) : t.halfState k = s.halfState k := by
  cases k
  · exact congrArg F.PAIR_STATUS_A_STATE.ofWord h
  · exact congrArg F.PAIR_STATUS_B_STATE.ofWord h

/-- A change beside the memories, the halves and the register of their states. -/
theorem supervises_of (hmem : MemEq s t) (hhs : ∀ k, t.hs k = s.hs k) (hreg : t.reg pgPair 4 = s.reg pgPair 4) : Supervises s t :=
  ⟨hmem, halves_of_hs_eq hhs, fun k hk => (halfState_congr hreg k).trans hk⟩

theorem supervises_rfl (s : State) : Supervises s s := supervises_of (memEq_rfl s) (fun _ => rfl) rfl

theorem Supervises.of (h : Supervises r s) (hmem : MemEq s t) (hA : t.halfA = s.halfA) (hB : t.halfB = s.halfB) (hregs : t.regs = s.regs) :
    Supervises r t :=
  h.trans (supervises_of hmem (fun k => by cases k; exacts [hA, hB]) (by simp only [State.reg, hregs]))

theorem Supervises.setPort (h : Supervises r s) (n : Nat) (v : Port) : Supervises r (s.setPort n v) := h.of (memEq_rfl s) rfl rfl rfl

theorem Supervises.raise (h : Supervises r s) (p : Pg) : Supervises r (s.raise p) := h.of (memEq_rfl s) rfl rfl rfl

theorem Supervises.setReg (h : Supervises r s) {q : Pg} {o : Nat} (w : Word) (hq : q.code < 0x10000) (ho : o < 0x10000) (hne : q ≠ pgPair) :
    Supervises r (s.setReg q o w) :=
  h.trans (supervises_of (memEq_rfl s) (setReg_r_hs s q o w) (reg_setReg_ne s w (key_ne_of_page hq (by decide) ho (by decide) (Ne.symm hne))))

/-- A register of another page of the Plinth. -/
theorem Supervises.plinth (h : Supervises r s) {c : Nat} (f : Fld) (v : Nat) (hc : c < 0x10000 ∧ c ≠ 0x70) (hf : f.off < 0x10000) :
    Supervises r (s.put (plinthPg c) f v) :=
  h.setReg _ hc.1 hf fun he => hc.2 (congrArg Pg.code he)

/-- A register of a page of a half. -/
theorem Supervises.half (h : Supervises r s) {k : Half} {c : Nat} (f : Fld) (v : Nat) (hc : c < 0x10000) (hf : f.off < 0x10000) :
    Supervises r (s.put (halfPg k c) f v) := h.setReg _ hc hf (halfPg_ne_plinthPg k c 0x70)

/-- A field of the PAIR page that holds no bit of the state of half `k`. -/
theorem halfState_putPair (s : State) (f : Fld) (v : Nat) (hbits : f.lsb + f.width ≤ 32)
    (happart : f.apart F.PAIR_STATUS_A_STATE = true ∧ f.apart F.PAIR_STATUS_B_STATE = true) (k : Half) :
    (s.put pgPair f v).halfState k = s.halfState k := by
  cases k
  · exact get_put_apart s pgPair v hbits happart.1
  · exact get_put_apart s pgPair v hbits happart.2

theorem Supervises.putPair (h : Supervises r s) (f : Fld) (v : Nat) (hbits : f.lsb + f.width ≤ 32)
    (happart : f.apart F.PAIR_STATUS_A_STATE = true ∧ f.apart F.PAIR_STATUS_B_STATE = true) : Supervises r (s.put pgPair f v) :=
  h.trans ⟨memEq_rfl s, halves_of_hs_eq (put_r_hs s pgPair f v), fun k hk => (halfState_putPair s f v hbits happart k).trans hk⟩

theorem setHs_halfState (s : State) (h : Half) (v : HalfSt) (k : Half) : (s.setHs h v).halfState k = s.halfState k :=
  halfState_congr (setHs_r_reg s h v pgPair 4) k

theorem hs_setHs_ne (s : State) {h k : Half} (v : HalfSt) (hne : k ≠ h) : (s.setHs h v).hs k = s.hs k := by
  cases h <;> cases k
  · exact absurd rfl hne
  · rfl
  · rfl
  · exact absurd rfl hne

/-- A half goes on in the course of its reset, or takes note of an ARM interrupt. -/
theorem Supervises.setHs (h : Supervises r s) {k : Half} {stage : HalfStage} {restart : Nat} {armIrq : Bool}
    (hreset : (s.hs k).stage = .reset → stage = .reset) :
    Supervises r (s.setHs k { s.hs k with stage := stage, restart := restart, armIrq := armIrq }) := by
  refine h.trans ⟨memEq_setHs s k _, fun x => ?_, fun x hx => (setHs_halfState s k _ x).trans hx⟩
  by_cases hx : x = k
  · subst hx
    exact ⟨_, _, _, hs_setHs_same s x _, hreset⟩
  · exact ⟨_, _, _, hs_setHs_ne s _ hx, id⟩

/-! ### Choices and repetitions -/

theorem supervises_ite {c : Prop} [Decidable c] {t u : State} (ht : Supervises r t) (hu : Supervises r u) : Supervises r (if c then t else u) := by
  split <;> assumption

theorem Supervises.whenB (h : Supervises r s) {c : Bool} {f : State → State} (hf : Supervises r (f s)) : Supervises r (s.whenB c f) :=
  supervises_ite hf h

theorem Supervises.each (h : Supervises r s) {α : Type} {xs : List α} {f : α → State → State}
    (hf : ∀ x t, Supervises r t → Supervises r (f x t)) : Supervises r (s.each xs f) := each_keeps h fun x _ => hf x

/-! ### MODE and PAIRING -/

theorem Supervises.event (h : Supervises r s) (src code : Nat) (data : List Byte) (trig host : Bool) :
    Supervises r (s.event src code data trig host) := by
  have hpat := event_only s src code data trig host
  refine h.trans (supervises_of (memEq_of_onlyPat hpat) (fun k => ?_) (hpat.reg (by decide) (by decide) (by decide)))
  rw [hpat.1]
  cases k <;> rfl

theorem Supervises.raiseBoth (h : Supervises r s) (code : Nat) : Supervises r (s.raiseBoth code) := by
  unfold State.raiseBoth
  extract_lets s1
  have hA : Supervises r s1 := h.whenB (h.raise _)
  exact hA.whenB (hA.raise _)

theorem Supervises.setModeTier (h : Supervises r s) (mode tier : Nat) (t : ModeTrigger) : Supervises r (s.setModeTier mode tier t) := by
  have hput : Supervises r ((s.put pgMod F.MOD_STATUS_MODE mode).put pgMod F.MOD_STATUS_TIER tier) :=
    (h.plinth _ _ (by decide) (by decide)).plinth _ _ (by decide) (by decide)
  have hev := (hput.event srcMode 0x0002 (b1 s.mode ++ b1 mode ++ b1 s.tier ++ b1 tier ++ [Config.triggerCode t]) false false).raiseBoth 0x2000
  unfold State.setModeTier
  refine supervises_ite h (supervises_ite ?_ (hev.of (memEq_rfl _) rfl rfl rfl))
  exact (hev.whenB (hev.of (memEq_rfl _) rfl rfl rfl)).of (memEq_rfl _) rfl rfl rfl

theorem Supervises.refreshMode (h : Supervises r s) (t : ModeTrigger) : Supervises r (s.refreshMode t) := by
  unfold State.refreshMode
  refine supervises_ite ?_ h
  split
  · exact h
  · exact h.setModeTier _ _ _

theorem Supervises.refreshPairing (h : Supervises r s) (t : ModeTrigger) : Supervises r (s.refreshPairing t) :=
  (h.putPair _ _ (by decide) (by decide)).refreshMode t

/-- A new state of a half that is not Lost. -/
theorem Supervises.setHalfState (h : Supervises r s) {k : Half} (hk : s.halfState k ≠ hsLost) (v : Nat) (t : ModeTrigger) :
    Supervises r (s.setHalfState k v t) := by
  unfold State.setHalfState
  refine Supervises.refreshPairing (h.trans ⟨?_, ?_, fun x hx => ?_⟩) t
  · cases k <;> exact memEq_rfl s
  · cases k <;> exact halves_of_hs_eq (put_r_hs s _ _ _)
  · cases k <;> cases x
    · exact absurd hx hk
    · exact (get_put_apart s pgPair v (by decide) (by decide)).trans hx
    · exact (get_put_apart s pgPair v (by decide) (by decide)).trans hx
    · exact absurd hx hk

/-! ### The Plinth sections and the end of a REARM -/

/-- The items that switch on their own have the pages of ports, check units, touch and audio. -/
theorem itemPage_code_lt {item : Nat} {pg : Pg} (h : itemPage item pg = true) : pg.code < 0x40 := by
  simp only [itemPage, Bool.and_eq_true] at h
  obtain ⟨-, h⟩ := h
  split at h
  · simp only [Bool.or_eq_true, decide_eq_true_eq] at h
    omega
  · split at h <;> simp only [decide_eq_true_eq] at h <;> omega

theorem Supervises.putClassA (h : Supervises r s) {key : Nat} (w : Word) (hne : keyPage key ≠ pgPair) : Supervises r (s.putClassA key w) := by
  unfold State.putClassA
  dsimp only
  split
  · exact h
  · split
    · exact h
    · exact h.setReg _ (keyPage_code_lt key) (Nat.mod_lt _ (by decide)) hne

theorem Supervises.applyItem (h : Supervises r s) (item : Nat) (image : List Host.Cell) :
    Supervises r (s.applyPages .P (itemPage item) image) :=
  each_keeps h fun key hkey t ht => ht.putClassA _ fun he => by
    have hcode := itemPage_code_lt (List.mem_filter.mp hkey).2
    rw [he] at hcode
    exact absurd hcode (by decide)

theorem Supervises.sinkCfgShow (h : Supervises r s) {p : Nat} (hp : p < 8) (slot : Nat) : Supervises r (s.sinkCfgShow p slot) := by
  refine h.putClassA _ fun he => ?_
  rw [keyPage_key (by simp only [pgIck, plinthPg]; omega) (by decide)] at he
  have hcode : 0x10 + p = 0x70 := congrArg Pg.code he
  omega

theorem Supervises.tafShow (h : Supervises r s) (n slot : Nat) : Supervises r (s.tafShow n slot) := by
  unfold State.tafShow
  by_cases hn : 8 ≤ n
  · rw [if_pos hn]
    exact h
  · rw [if_neg hn]
    have hput {t : State} (ht : Supervises r t) (f : Fld) (v : Nat) (hf : f.off < 0x10000) : Supervises r (t.put (pgTaf n) f v) :=
      ht.plinth (c := 0x20 + n) f v (by omega) hf
    exact hput (hput (hput (hput (hput h _ _ (by decide)) _ _ (by decide)) _ _ (by decide)) _ _ (by decide)) _ _ (by decide)

theorem Supervises.audioLoad (h : Supervises r s) (slot : Nat) : Supervises r (s.audioLoad slot) := by
  have hcell (bank k : Nat) (w : Word) {t : State} (ht : Supervises r t) : Supervises r (t.setCell bank k w) := ht.of (memEq_rfl t) rfl rfl rfl
  have hempty : Supervises r { s with audio := { s.audio with banks := [] } } := h.of (memEq_rfl s) rfl rfl rfl
  have hcells := hempty.each (xs := (Config.imageCells (s.slotCells slot)).1)
    (f := fun e s => if e.1 < 4096 then (s.setCell 0 e.1 e.2).setCell 1 e.1 e.2 else s) fun e t ht =>
      supervises_ite (hcell _ _ _ (hcell _ _ _ ht)) ht
  unfold State.audioLoad
  refine Supervises.plinth (c := 0x39) (hcells.each fun e t ht => ?_) _ _ (by decide) (by decide)
  split
  · exact ht.setReg _ (by decide) (by omega) (by decide)
  · exact ht

theorem Supervises.takeSections (h : Supervises r s) (slot item : Nat) : Supervises r (s.takeSections slot item) := by
  have happly := h.applyItem item (s.slotCells slot)
  unfold State.takeSections
  dsimp only
  split
  · exact happly.sinkCfgShow ‹_› _
  · exact supervises_ite (happly.tafShow _ _) (happly.audioLoad _)

theorem Supervises.armEnd (h : Supervises r s) (src : ArmSource) (result : Nat) : Supervises r (s.armEnd src result) := by
  have h0 : Supervises r { s with arm := none, start := { s.start with cause := result } } := h.of (memEq_rfl s) rfl rfl rfl
  cases src with
  | half k =>
    have hend := ((h0.half (k := k) (c := 0x2003) F.ARM_STATUS_BUSY 0 (by decide) (by decide)).half (k := k) (c := 0x2003) F.ARM_STATUS_DONE 1
      (by decide) (by decide)).half (k := k) (c := 0x2003) F.ARM_STATUS_RESULT result (by decide) (by decide)
    exact supervises_ite (hend.raise _) (hend.setHs id)
  | _ => exact h0

theorem Supervises.rearmStop (h : Supervises r s) (result : Nat) : Supervises r (s.rearmStop result) := by
  unfold State.rearmStop
  split
  · exact h
  · refine Supervises.armEnd ?_ _ _
    exact Supervises.of (Supervises.each h fun i t ht => ht.takeSections _ i) (memEq_rfl _) rfl rfl rfl

/-! ### The end of the planned handovers -/

theorem Supervises.hoStart (h : Supervises r s) (source : HoSource) (target : Half) (ports : List Nat) :
    Supervises r (s.hoStart source target ports) := by
  unfold State.hoStart
  refine Supervises.refreshPairing (Supervises.putPair ?_ _ _ (by decide) (by decide)) _
  exact Supervises.of (Supervises.each h fun p t ht => ht.setPort p _) (memEq_rfl _) rfl rfl rfl

theorem Supervises.shedIssue (h : Supervises r s) : Supervises r s.shedIssue := by
  unfold State.shedIssue
  split
  · exact h
  next run _ =>
    have hissued : Supervises r { s with shed := some { run with issued := true } } := h.of (memEq_rfl s) rfl rfl rfl
    exact supervises_ite h (supervises_ite hissued (hissued.hoStart _ _ _))

theorem Supervises.pairDone (h : Supervises r s) (result : Nat) : Supervises r (s.pairDone result) :=
  Supervises.raise ((h.putPair _ _ (by decide) (by decide)).putPair _ _ (by decide) (by decide)) _

theorem Supervises.hoSettle (h : Supervises r s) : Supervises r s.hoSettle := by
  unfold State.hoSettle
  split
  · exact h
  next run _ =>
    have hnone : Supervises r { s with hoRun := none } := h.of (memEq_rfl s) rfl rfl rfl
    have hput := (hnone.putPair F.PAIR_STATUS_BUSY 0 (by decide) (by decide)).putPair F.PAIR_STATUS_RESULT run.result (by decide) (by decide)
    have hdone := hput.whenB (c := run.cancelled) (f := fun s => s.pairDone 7) (hput.pairDone 7)
    refine supervises_ite h (Supervises.shedIssue (Supervises.refreshPairing ?_ _))
    split
    · exact hput.pairDone _
    · dsimp only
      split
      · exact hdone
      · split
        · exact hdone.rearmStop _
        · exact supervises_ite hdone (hdone.rearmStop _)
    · exact hdone

theorem Supervises.hoEnd (h : Supervises r s) (p result : Nat) : Supervises r (s.hoEnd p result) := by
  have hports {t : State} (ht : Supervises r t) (ps : List Nat) :
      Supervises r (t.each ps fun q s => s.setPort q { s.port q with ho := none }) := ht.each fun q _ hu => hu.setPort q _
  unfold State.hoEnd
  refine supervises_ite h (Supervises.hoSettle ?_)
  dsimp only
  split
  · exact hports h _
  next run _ =>
    have hrun := (hports h (s.group p)).of (t := { s.each (s.group p) fun q s => s.setPort q { s.port q with ho := none } with
      hoRun := some { run with firstFail := if run.firstFail.isNone && result ≠ 0 then some result else run.firstFail } }) (memEq_rfl _) rfl rfl rfl
    exact hrun.whenB (hports hrun _)

/-! ### The course of a REARM -/

theorem not_inReset_stage {k : Half} (h : s.inReset k = false) : (s.hs k).stage ≠ .reset := by
  intro hstage
  simp [State.inReset, hstage] at h

theorem Supervises.halfResetReq (h : Supervises r s) (k : Half) (cause : Nat) : Supervises r (s.halfResetReq k cause) := by
  unfold State.halfResetReq
  by_cases hin : s.inReset k = true
  · rw [if_pos hin]
    exact h
  · rw [if_neg hin]
    extract_lets s1 s2 s3
    have h2 : Supervises s s2 := Supervises.half (c := 0x2002) ((supervises_rfl s).half (c := 0x2002) _ _ (by decide) (by decide)) _ _
      (by decide) (by decide)
    have hhs : s3.hs k = s.hs k := by
      simp only [s3]
      rw [(event_only _ _ _ _ _ _).1]
      cases k <;> rfl
    refine h.trans (Supervises.setHs (h2.event _ _ _ _ _) fun hreset => ?_)
    rw [hhs] at hreset
    exact absurd hreset (not_inReset_stage (Bool.eq_false_iff.mpr hin))

theorem Supervises.rearmGo (h : Supervises r s) : Supervises r s.rearmGo := by
  unfold State.rearmGo
  split
  · exact h
  next a _ =>
  extract_lets own
  split
  · exact supervises_ite h (h.rearmStop _)
  · have hstep (k : Nat) : Supervises r { s with rearm := some { a with step := k } } := h.of (memEq_rfl s) rfl rfl rfl
    exact supervises_ite h (supervises_ite ((hstep 3).halfResetReq _ _)
      (supervises_ite ((hstep 6).halfResetReq _ _) (supervises_ite (hstep 8) h)))

/-! ### Sync of the mirror regions -/

theorem Supervises.syncCheckOne (h : Supervises r s) (k : Half) : Supervises r (s.syncCheckOne k) := by
  unfold State.syncCheckOne
  extract_lets st
  by_cases hst : st ≠ hsStarting && st ≠ hsSyncing
  · rw [if_pos hst]
    exact h
  · rw [if_neg hst]
    have hk : s.halfState k ≠ hsLost := by
      rintro hlost
      simp [st, hlost, hsLost, hsStarting, hsSyncing] at hst
    exact supervises_ite (h.setHalfState hk _ _).rearmGo (supervises_ite (h.setHalfState hk _ _) h)

theorem Supervises.syncShow (h : Supervises r s) (k : Half) : Supervises r (s.syncShow k) :=
  h.half (c := 0x70) _ _ (by decide) (by decide)

theorem Supervises.syncCheck (h : Supervises r s) : Supervises r s.syncCheck :=
  (((h.syncCheckOne .A).syncCheckOne .B).syncShow .A).syncShow .B

end
end Sys2Proof.Machine
end

section
/-! SUPPORT. The loss of a half (R189, R190, R198, R200, R246): what the surviving half takes over changes no byte of MRAM and no register of the
PAIR page, and the half that is declared Lost is shown so. -/

namespace Sys2Proof.Machine

/-- MRAM and the registers of the PAIR page are in `t` those of `s`. -/
def KeepsPair (s t : State) : Prop := t.mram = s.mram ∧ KeepsRegs (fun p _ => p = pgPair) s t

section
variable {r s t : State}

theorem keepsPair_rfl (s : State) : KeepsPair s s := ⟨rfl, keepsRegs_of rfl⟩

theorem KeepsPair.trans (h : KeepsPair r s) (k : KeepsPair s t) : KeepsPair r t := ⟨k.1.trans h.1, h.2.trans k.2⟩

theorem KeepsPair.halfState (h : KeepsPair s t) (k : Half) : t.halfState k = s.halfState k :=
  halfState_congr (h.2 pgPair 4 (by decide) (by decide) rfl) k

/-! ### One write -/

theorem KeepsPair.of (h : KeepsPair r s) (hmram : t.mram = s.mram) (hregs : t.regs = s.regs) : KeepsPair r t :=
  h.trans ⟨hmram, keepsRegs_of hregs⟩

theorem KeepsPair.setHs (h : KeepsPair r s) (k : Half) (v : HalfSt) : KeepsPair r (s.setHs k v) := h.of (by simp) (by simp)

theorem KeepsPair.setInst (h : KeepsPair r s) (k : Half) (i : Nat) (v : Inst) : KeepsPair r (s.setInst k i v) := h.setHs _ _

theorem KeepsPair.raise (h : KeepsPair r s) (p : Pg) : KeepsPair r (s.raise p) := h.of rfl rfl

theorem KeepsPair.takeFree (h : KeepsPair r s) : KeepsPair r s.takeFree.2 := h.of rfl rfl

theorem KeepsPair.half (h : KeepsPair r s) {k : Half} {c : Nat} (f : Fld) (v : Nat) (hc : c < 0x10000) (hf : f.off < 0x10000) :
    KeepsPair r (s.put (halfPg k c) f v) := h.trans ⟨rfl, keepsRegs_put s v hc hf (halfPg_ne_plinthPg k c 0x70)⟩

theorem KeepsPair.event (h : KeepsPair r s) (src code : Nat) (data : List Byte) (trig host : Bool) :
    KeepsPair r (s.event src code data trig host) := by
  have hpat := event_only s src code data trig host
  exact h.trans ⟨(memEq_of_onlyPat hpat).1, hpat.2.mono fun p _ hp => by rw [hp]; decide⟩

theorem keepsPair_ite {c : Prop} [Decidable c] {t u : State} (ht : KeepsPair r t) (hu : KeepsPair r u) : KeepsPair r (if c then t else u) := by
  split <;> assumption

theorem KeepsPair.whenB (h : KeepsPair r s) {c : Bool} {f : State → State} (hf : KeepsPair r (f s)) : KeepsPair r (s.whenB c f) :=
  keepsPair_ite hf h

theorem KeepsPair.each (h : KeepsPair r s) {α : Type} {xs : List α} {f : α → State → State}
    (hf : ∀ x ∈ xs, ∀ t, KeepsPair r t → KeepsPair r (f x t)) : KeepsPair r (s.each xs f) := each_keeps h hf

/-! ### A write to a half's memory -/

theorem KeepsPair.refuse (h : KeepsPair r s) (k : Half) (t : Tag) (acc : AccKind) (b : Nat) : KeepsPair r (s.refuse k t acc b) := by
  unfold State.refuse
  extract_lets p first s1
  have hwld {u : State} (hu : KeepsPair r u) (f : Fld) (v : Nat) (hf : f.off < 0x10000) : KeepsPair r (u.put p f v) :=
    hu.half (k := k) (c := 0xA0) f v (by decide) hf
  have h1 : KeepsPair r s1 := hwld h _ _ (by decide)
  refine h1.whenB ?_
  extract_lets s2 s3 s4 s5 s6 s7
  have h4 : KeepsPair r s4 := hwld (hwld (hwld h1 _ _ (by decide)) _ _ (by decide)) _ _ (by decide)
  have h5 : KeepsPair r s5 := keepsPair_ite (hwld h4 _ _ (by decide)) (hwld h4.takeFree _ _ (by decide))
  have h7 : KeepsPair r s7 := hwld (hwld h5 _ _ (by decide)) _ _ (by decide)
  exact h7.event _ _ _ _ _

theorem KeepsPair.markDirty (h : KeepsPair r s) (k : Half) (a n : Nat) : KeepsPair r (s.markDirty k a n) :=
  KeepsPair.half (c := 0x70) ((h.setHs _ _).setHs _ _) _ _ (by decide) (by decide)

theorem KeepsPair.mirrorOut (h : KeepsPair r s) (k : Half) (a : Nat) (bs : List Byte) : KeepsPair r (s.mirrorOut k a bs) := by
  unfold State.mirrorOut
  split
  · exact h
  · refine keepsPair_ite h (keepsPair_ite (KeepsPair.setHs ?_ _ _) (h.markDirty _ _ _))
    split
    · exact h.whenB (h.setHs _ _)
    · exact h

theorem KeepsPair.storeBlock (h : KeepsPair r s) (k : Half) (a : Nat) (bs : List Byte) : KeepsPair r (s.storeBlock k a bs) := by
  have hdram (m : List Host.Cell) : KeepsPair r (s.setDram k m) := h.of (by simp) (by simp)
  have hspm (m : List Host.Cell) : KeepsPair r (s.setSpm k m) := h.of (by simp) (by simp)
  exact keepsPair_ite ((hdram _).mirrorOut _ _ _) ((hspm _).setHs _ _)

theorem KeepsPair.writeAt (h : KeepsPair r s) (k : Half) (t : Tag) (a : Nat) (bs : List Byte) : KeepsPair r (s.writeAt k t a bs) :=
  h.each fun _ _ _ hu => keepsPair_ite (hu.storeBlock _ _ _) (hu.refuse _ _ _ _)

theorem KeepsPair.queueDirty (h : KeepsPair r s) (k : Half) : KeepsPair r (s.queueDirty k) :=
  (h.setHs _ _).each fun _ _ _ ht => ht.markDirty _ _ _

/-! ### Instances of a hub -/

section
variable {i : Nat}

/-- An INST page, among the pages of its half. -/
theorem KeepsPair.putInst (h : KeepsPair r s) (hi : i < 64) (k : Half) (f : Fld) (v : Nat) (hf : f.off < 0x10000) :
    KeepsPair r (s.put (pgInst k i) f v) := h.half (c := 0x400 + 2 * i) f v (by omega) hf

theorem KeepsPair.setInstState (h : KeepsPair r s) (hi : i < 64) (k : Half) (v : Nat) : KeepsPair r (s.setInstState k i v) :=
  KeepsPair.half (c := 0xB0) (h.putInst hi k _ _ (by decide)) _ _ (by decide) (show 4 * (i / 8) < 0x10000 by omega)

theorem KeepsPair.instDone (h : KeepsPair r s) (hi : i < 64) (k : Half) (op result : Nat) : KeepsPair r (s.instDone k i op result) := by
  have hput {t : State} (ht : KeepsPair r t) (f : Fld) (v : Nat) (hf : f.off < 0x10000) : KeepsPair r (t.put (pgInst k i) f v) :=
    ht.putInst hi k f v hf
  exact (hput (hput (hput (hput h _ _ (by decide)) _ _ (by decide)) _ _ (by decide)) _ _ (by decide)).raise _

theorem KeepsPair.busFetch (h : KeepsPair r s) (k : Half) (i : Nat) : KeepsPair r (s.busFetch k i) := keepsPair_ite (h.setInst _ _ _) h

theorem KeepsPair.thawed (h : KeepsPair r s) (hi : i < 64) (k : Half) : KeepsPair r (s.thawed k i) := by
  have htwin : KeepsPair r (if s.flag (pgInst k i) F.INST_CFG_TWIN && s.inService (Half.other k) && s.instState (Half.other k) i = stFrozen then
      s.setInstState (Half.other k) i stTwin else s) := keepsPair_ite (h.setInstState hi _ _) h
  exact ((htwin.setInstState hi k _).instDone hi k 2 0).busFetch k i

theorem KeepsPair.heldEnd (h : KeepsPair r s) (hi : i < 64) (k : Half) : KeepsPair r (s.heldEnd k i) := by
  have hasked : KeepsPair r (s.askDone k i) := h.setInst _ _ _
  exact keepsPair_ite (keepsPair_ite h (keepsPair_ite (keepsPair_ite (hasked.instDone hi k 2 1) (hasked.thawed hi k))
    (hasked.instDone hi k 2 1))) h

theorem KeepsPair.mboxWrite (h : KeepsPair r s) (k : Half) (i off : Nat) (bs : List Byte) : KeepsPair r (s.mboxWrite k i off bs) :=
  keepsPair_ite (h.setInst _ _ _) (h.writeAt _ _ _ _)

theorem KeepsPair.cplWrite (h : KeepsPair r s) (k : Half) (i : Nat) (c : Completion) : KeepsPair r (s.cplWrite k i c) :=
  ((h.mboxWrite k i _ _).mboxWrite k i _ _).setInst _ _ _

theorem KeepsPair.instFrozen (h : KeepsPair r s) (hi : i < 64) (k : Half) (cause : Nat) : KeepsPair r (s.instFrozen k i cause) :=
  (h.setInstState hi k _).putInst hi k _ _ (by decide)

theorem KeepsPair.hubBoundary (h : KeepsPair r s) (hi : i < 64) (k : Half) : KeepsPair r (s.hubBoundary k i) := by
  unfold State.hubBoundary
  extract_lets s1
  have h1 : KeepsPair r s1 := keepsPair_ite h (keepsPair_ite ((h.instFrozen hi k 1).instDone hi k 1 0) (h.instFrozen hi k 1))
  split
  · exact h1.busFetch k i
  · exact (((h1.setInst _ _ _).putInst hi k _ _ (by decide)).instDone hi k 6 0).busFetch k i

theorem KeepsPair.hubFinish (h : KeepsPair r s) (hi : i < 64) (k : Half) (c : Completion) (irq : Bool) : KeepsPair r (s.hubFinish k i c irq) := by
  have hover : KeepsPair r ((s.cplWrite k i c).setInst k i { (s.cplWrite k i c).inst k i with cur := none }) := (h.cplWrite k i c).setInst _ _ _
  exact (hover.whenB (hover.raise _)).hubBoundary hi k

theorem KeepsPair.saveNow (h : KeepsPair r s) (hi : i < 64) (k : Half) : KeepsPair r (s.saveNow k i) :=
  ((h.setInst _ _ _).writeAt _ _ _ _).instDone hi k 3 0

end

theorem KeepsPair.twinDrop (h : KeepsPair r s) (k : Half) : KeepsPair r (s.twinDrop k) := by
  refine h.each fun i hi t ht => ?_
  have hi : i < 64 := mem_upTo.mp hi
  extract_lets u s1 s2 s3 s4
  have h2 : KeepsPair r s2 := (ht.putInst hi k _ _ (by decide)).setInst _ _ _
  have h3 : KeepsPair r s3 := by
    simp only [s3]
    split
    · exact h2
    · split
      · exact h2
      · exact h2.hubFinish hi k _ _
  have h4 : KeepsPair r s4 := h3.whenB (h3.heldEnd hi k)
  exact h4.whenB (h4.saveNow hi k)

/-! ### The survivor -/

theorem KeepsPair.mirrorSurvivor (h : KeepsPair r s) (gone : Half) : KeepsPair r (s.mirrorSurvivor gone) := by
  have htwn {t : State} (ht : KeepsPair r t) (k : Half) (f : Fld) (v : Nat) (hf : f.off < 0x10000) : KeepsPair r (t.put (pgTwn k) f v) :=
    ht.half (c := 0x70) f v (by decide) hf
  have hdrop := (h.queueDirty (Half.other gone)).twinDrop (Half.other gone)
  exact keepsPair_ite h (htwn (htwn (htwn (hdrop.setHs _ _) gone F.TWN_MIR_SRC_SRC 0 (by decide)) _ F.TWN_STATUS_SYNC 0 (by decide)) _
    F.TWN_MIR_SRC_SRC _ (by decide))

/-- The pair supervisor shows a half that it takes as Lost, and MRAM is as it was. -/
theorem setHalfState_lost (s : State) (h : Half) (t : ModeTrigger) :
    (s.setHalfState h hsLost t).halfState h = hsLost ∧ (s.setHalfState h hsLost t).mram = s.mram := by
  unfold State.setHalfState
  extract_lets u
  have hu : u.halfState h = hsLost ∧ u.mram = s.mram := by
    cases h
    · exact ⟨get_put_same s pgPair F.PAIR_STATUS_A_STATE hsLost (by decide), rfl⟩
    · exact ⟨get_put_same s pgPair F.PAIR_STATUS_B_STATE hsLost (by decide), rfl⟩
  have hsup := (supervises_rfl u).refreshPairing t
  exact ⟨hsup.lost h hu.1, hsup.mem.1.trans hu.2⟩

end

/-- A half declared Lost is Lost, and MRAM is as it was (R189). -/
theorem declareLost_shows (s : State) (h : Half) (cause : Nat) (t : ModeTrigger) :
    (s.declareLost h cause t).halfState h = hsLost ∧ (s.declareLost h cause t).mram = s.mram := by
  unfold State.declareLost
  extract_lets u v
  have hu : KeepsPair (s.setHalfState h hsLost t) u := (keepsPair_rfl _).mirrorSurvivor h
  have hv : Supervises u v := (supervises_rfl u).each fun p _ ht => ht.setPort p _
  have hend : Supervises u (v.each (upTo 8) fun p s => match (s.port p).ho with
      | none => s
      | some o => if o.target = h then s.hoEnd p 5 else s) := hv.each fun p t ht => by
    split
    · exact ht
    · exact supervises_ite (ht.hoEnd p 5) ht
  obtain ⟨hlost, hmram⟩ := setHalfState_lost s h t
  exact ⟨hend.lost h ((hu.halfState h).trans hlost), hend.mem.1.trans (hu.1.trans hmram)⟩

end Sys2Proof.Machine
end

section
/-! SUPPORT. The request of a half reset and the reset itself (R383, R388, R394): what they change and what they leave. -/

namespace Sys2Proof.Machine

/-! ## The request -/

section
variable {h : Half} {s : State}

theorem halfResetReq_of_inReset (hin : s.inReset h = true) (cause : Nat) : s.halfResetReq h cause = s := if_pos hin

/-- RST_CAUSE of a half with a new request: its cause, and one more in the count. -/
def State.resetCounted (s : State) (h : Half) (cause : Nat) : State :=
  (s.incSat (pgRstH h) F.RST_CAUSE_HALF_RESETS).put (pgRstH h) F.RST_CAUSE_CAUSE cause

theorem pgRstH_code_lt (h : Half) : (pgRstH h).code < 0x10000 := show 0x2002 < 0x10000 by decide

theorem resetCounted_cause {cause : Nat} (hcause : cause < 16) : (s.resetCounted h cause).get (pgRstH h) F.RST_CAUSE_CAUSE = cause :=
  (get_put_same _ _ _ _ (by decide)).trans (Nat.mod_eq_of_lt hcause)

theorem resetCounted_count (cause : Nat) : (s.resetCounted h cause).get (pgRstH h) F.RST_CAUSE_HALF_RESETS =
    min 65535 (s.get (pgRstH h) F.RST_CAUSE_HALF_RESETS + 1) :=
  (get_put_apart _ _ _ (by decide) (by decide)).trans (get_incSat_same s (pgRstH h) F.RST_CAUSE_HALF_RESETS (by decide))

theorem resetCounted_keepsRegs (cause : Nat) : KeepsRegs (fun p o => ¬(p = pgRstH h ∧ o = F.RST_CAUSE_CAUSE.off)) s (s.resetCounted h cause) :=
  (keepsRegs_put s _ (pgRstH_code_lt h) (by decide) (fun hk => hk ⟨rfl, rfl⟩)).trans
    (keepsRegs_put _ _ (pgRstH_code_lt h) (by decide) (fun hk => hk ⟨rfl, rfl⟩))

/-- A request that is recorded: the course of the half, RST_CAUSE and one event. -/
theorem halfResetReq_of_running (hin : s.inReset h = false) (cause : Nat) : ∃ t, OnlyPat (s.resetCounted h cause) t ∧
    s.halfResetReq h cause = t.setHs h { s.hs h with stage := .stopping, restart := 0 } := by
  refine ⟨(s.resetCounted h cause).event (srcOf (halfPg h 0xFF1)) 0x0070 (b1 cause) (trig := cause ≠ 6 && cause ≠ 7 && cause ≠ 8),
    event_only _ _ _ _ _ _, ?_⟩
  have hhs (t : State) (ht : OnlyPat (s.resetCounted h cause) t) : t.hs h = s.hs h := by
    rw [ht.1]
    cases h <;> rfl
  rw [← hhs _ (event_only _ _ _ _ _ _)]
  exact if_neg (Bool.eq_false_iff.mp hin)

end

end Sys2Proof.Machine
end

section
/-! SUPPORT. The reset of a half (R8, R383, R388): the fields of its pages and the state of its engines go, everything outside the half stays. -/

namespace Sys2Proof.Machine

/-! ## A table whose values change -/

section
variable {α : Type} [DecidableEq α] {d : Nat → α} {k : Nat} {m : List (Nat × α)}

theorem tblFind_ne_default_of_wf (h : tblWf d m = true) : tblFind k m ≠ some (d k) := by
  induction m with
  | nil => simp [tblFind]
  | cons e r ih =>
    obtain ⟨hne, -, hr⟩ := (tblWf_cons d e r).mp h
    by_cases hk : e.1 = k
    · subst hk
      simpa [tblFind] using hne
    · simpa [tblFind, hk] using ih hr

/-- A key whose value stays, where the table lists no value that the key reads as unlisted. -/
theorem tblFind_map {f : Nat → α → α} (hdef : tblFind k m ≠ some (d k)) (hf : ∀ v, f k v = v) : tblFind k (tblMap d f m) = tblFind k m := by
  induction m with
  | nil => rfl
  | cons e r ih =>
    obtain ⟨j, v⟩ := e
    by_cases hk : j = k
    · subst hk
      have hv : v ≠ d j := by simpa [tblFind] using hdef
      simp [tblMap, tblFind, hf, hv]
    · have hrest := ih (by simpa [tblFind, hk] using hdef)
      rw [tblFind, if_neg hk, ← hrest, tblMap, List.filterMap_cons]
      split
      · rfl
      next y hy =>
        have hj : y.1 = j := by
          split at hy
          · cases hy
          · cases hy; rfl
        rw [tblFind.eq_def]
        simp only [hj, hk, if_false]
        rfl

end

/-- A register of a page that is not cleared. -/
theorem clearRegs_reg {s : State} {sel : Pg → Bool} {clr : Cls → Bool} {p : Pg} {off : Nat} (hp : p.code < 0x10000) (ho : off < 0x10000)
    (hsel : sel p = false) (hdef : tblFind (p.key off) s.regs ≠ some (regReset (p.key off))) : (s.clearRegs sel clr).reg p off = s.reg p off := by
  simp only [State.reg, tblGet, State.clearRegs]
  rw [tblFind_map hdef fun v => by simp [keyPage_key hp ho, hsel]]

/-! ## What the reset changes -/

/-- `t` is `s` but for registers of pages of half `h`. -/
def OnlyDie (h : Half) (s t : State) : Prop := t = { s with regs := t.regs } ∧ KeepsRegs (fun p _ => p.die ≠ Half.die h) s t

section
variable {h : Half} {r s : State}

theorem onlyDie_rfl (h : Half) (s : State) : OnlyDie h s s := ⟨rfl, keepsRegs_of rfl⟩

theorem OnlyDie.put (hd : OnlyDie h r s) {c : Nat} {f : Fld} (v : Nat) (hc : c < 0x10000) (hf : f.off < 0x10000) :
    OnlyDie h r (s.put (halfPg h c) f v) := by
  obtain ⟨heq, hregs⟩ := hd
  refine ⟨?_, hregs.trans (keepsRegs_put s v hc hf fun hne => hne rfl)⟩
  calc s.put (halfPg h c) f v
    _ = { s with regs := (s.put (halfPg h c) f v).regs } := rfl
    _ = { r with regs := (s.put (halfPg h c) f v).regs } := by rw [heq]

theorem OnlyDie.whenB (hd : OnlyDie h r s) {c : Bool} {f : State → State} (hf : OnlyDie h r (f s)) : OnlyDie h r (s.whenB c f) := by
  unfold State.whenB
  split <;> assumption

theorem OnlyDie.putSpm (hd : OnlyDie h r s) {n : Nat} (hn : n < 4) (f : Fld) (v : Nat) (hf : f.off < 0x10000) :
    OnlyDie h r (s.put (pgSpm h n) f v) := hd.put (c := 0x68 + n) v (by omega) hf

theorem OnlyDie.setDomain (hd : OnlyDie h r s) {d : Nat} (hlt : d < 31) (v : Nat) : OnlyDie h r (s.setDomain h d v) :=
  hd.put (c := 0x2001) v (by decide) (show 0x10 + 4 * (d / 8) < 0x10000 by omega)

/-- The fields of the half that its reset clears (R8, R383), and what of it no longer waits. -/
def State.halfFieldsCleared (s : State) (h : Half) : State :=
  let inPage (p : Pg) : Bool := p.die = Half.die h
  { (s.clearRegs inPage clrHTF).clearHeld inPage with irq := s.irq.filter fun k => !(inPage (keyPage k)) }

theorem halfClear_eq (h : Half) (s : State) : ∃ v : HalfSt, v.stage = .reset ∧ OnlyDie h ((s.halfFieldsCleared h).setHs h v) (s.halfClear h) := by
  unfold State.halfClear
  extract_lets on spm keep inPage s1 s2 d s3 s4 s5 s6
  have h3 : OnlyDie h s3 s3 := onlyDie_rfl h s3
  have h4 : OnlyDie h s3 s4 := each_keeps h3 fun e he t ht => by
    obtain ⟨d, hd, rfl⟩ := List.mem_map.mp he
    exact ht.setDomain (mem_upTo.mp hd) _
  have h5 : OnlyDie h s3 s5 := each_keeps h4 fun e he t ht => by
    obtain ⟨n, hn, rfl⟩ := List.mem_map.mp he
    have hput := ht.putSpm (mem_upTo.mp hn) F.SPM_STATUS_STATE (if s.get (pgSpm h n) F.SPM_STATUS_STATE = 3 then 2 else
      s.get (pgSpm h n) F.SPM_STATUS_STATE) (by decide)
    exact hput.whenB (hput.putSpm (mem_upTo.mp hn) _ _ (by decide))
  exact ⟨_, rfl, (h5.put (c := 0x60) 1 (by decide) (by decide)).put (c := 0x61) 1 (by decide) (by decide)⟩

theorem halfClear_hs (h : Half) (s : State) : ((s.halfClear h).hs h).stage = .reset ∧ (s.halfClear h).hs (Half.other h) = s.hs (Half.other h) := by
  obtain ⟨v, hv, heq, -⟩ := halfClear_eq h s
  rw [heq]
  cases h <;> exact ⟨hv, rfl⟩

theorem halfClear_memEq (h : Half) (s : State) : MemEq s (s.halfClear h) := by
  obtain ⟨v, -, heq, -⟩ := halfClear_eq h s
  rw [heq]
  cases h <;> exact memEq_rfl s

/-- A register outside the half. -/
theorem halfClear_reg {p : Pg} {off : Nat} (hp : p.code < 0x10000) (ho : off < 0x10000) (hdie : p.die ≠ Half.die h)
    (hdef : tblFind (p.key off) s.regs ≠ some (regReset (p.key off))) : (s.halfClear h).reg p off = s.reg p off := by
  obtain ⟨v, -, -, hregs⟩ := halfClear_eq h s
  calc (s.halfClear h).reg p off
    _ = ((s.halfFieldsCleared h).setHs h v).reg p off := hregs p off hp ho hdie
    _ = (s.clearRegs (fun p => p.die = Half.die h) clrHTF).reg p off := setHs_r_reg _ _ _ _ _
    _ = s.reg p off := clearRegs_reg hp ho (by simpa using hdie) hdef

theorem halfClear_keepsRegs (hs : s.Canon) : KeepsRegs (fun p _ => p.die ≠ Half.die h) s (s.halfClear h) :=
  fun _ _ hp ho hdie => halfClear_reg hp ho hdie (tblFind_ne_default_of_wf hs.1)

/-- A half that is shown as Lost stays so through its reset. -/
theorem halfClear_lost {k : Half} (hlost : s.halfState k = hsLost) : (s.halfClear h).halfState k = hsLost := by
  have hreset : F.PAIR_STATUS_A_STATE.ofWord (regReset (pgPair.key 4)) ≠ hsLost ∧ F.PAIR_STATUS_B_STATE.ofWord (regReset (pgPair.key 4)) ≠ hsLost := by
    decide
  have hdef : tblFind (pgPair.key 4) s.regs ≠ some (regReset (pgPair.key 4)) := fun he => by
    have hreg : s.reg pgPair 4 = regReset (pgPair.key 4) := by simp only [State.reg, tblGet, he, Option.getD_some]
    have hstate : s.halfState k ≠ hsLost := by
      cases k
      · show F.PAIR_STATUS_A_STATE.ofWord (s.reg pgPair 4) ≠ hsLost
        rw [hreg]
        exact hreset.1
      · show F.PAIR_STATUS_B_STATE.ofWord (s.reg pgPair 4) ≠ hsLost
        rw [hreg]
        exact hreset.2
    exact hstate hlost
  exact (halfState_congr (halfClear_reg (by decide) (by decide) (by cases h <;> decide) hdef) k).trans hlost

end
end Sys2Proof.Machine
end

section
/-! SUPPORT. What a Lost half and a half reset leave (R185, R189, R190, R383, R388). -/

namespace Sys2Proof.Machine

/-- A request that is recorded shows its cause and its count, and leaves the memories, the other registers and the other half. -/
theorem halfResetReq_recorded {h : Half} {s : State} (hin : s.inReset h = false) {cause : Nat} (hcause : cause < 9) :
    (s.halfResetReq h cause).hs h = { s.hs h with stage := .stopping, restart := 0 } ∧
    (s.halfResetReq h cause).get (pgRstH h) F.RST_CAUSE_CAUSE = cause ∧
    (s.halfResetReq h cause).get (pgRstH h) F.RST_CAUSE_HALF_RESETS = min 65535 (s.get (pgRstH h) F.RST_CAUSE_HALF_RESETS + 1) ∧
    (s.halfResetReq h cause).hs (Half.other h) = s.hs (Half.other h) ∧ SameMem s (s.halfResetReq h cause) ∧
    KeepsRegs (fun p o => p ≠ pgPat ∧ ¬(p = pgRstH h ∧ o = F.RST_CAUSE_CAUSE.off)) s (s.halfResetReq h cause) := by
  obtain ⟨t, ht, heq⟩ := halfResetReq_of_running hin cause
  have hpage : pgRstH h ≠ pgPat := halfPg_ne_plinthPg h 0x2002 0x48
  have hget (f : Fld) (hf : f.off < 0x10000) : (s.halfResetReq h cause).get (pgRstH h) f = (s.resetCounted h cause).get (pgRstH h) f := by
    rw [heq, setHs_r_get, ht.get (pgRstH_code_lt h) hf hpage]
  have hregs : KeepsRegs (fun p o => p ≠ pgPat ∧ ¬(p = pgRstH h ∧ o = F.RST_CAUSE_CAUSE.off)) s t :=
    ((resetCounted_keepsRegs cause).mono fun _ _ hk => hk.2).trans (ht.2.mono fun _ _ hk => hk.1)
  refine ⟨?_, (hget _ (by decide)).trans (resetCounted_cause (by omega)), (hget _ (by decide)).trans (resetCounted_count cause), ?_, ?_, ?_⟩
  · rw [heq, hs_setHs_same]
  · rw [heq, hs_setHs_other, ht.1]
    cases h <;> rfl
  · rw [heq]
    exact SameMem.trans (SameMem.trans (sameMem_of rfl rfl rfl rfl rfl) ht.sameMem) (sameMem_setHs t h _)
  · rw [heq]
    exact hregs.trans (keepsRegs_of (setHs_regs _ _ _))

/-- Settles O15: the loss of a half, the request of its reset and the reset are each the lemma of what they change. -/
theorem lostHalf : Obligations.LostHalf := by
  unfold Obligations.LostHalf
  refine ⟨fun h cause s => ?_, fun h cause s hin _ hcause => halfResetReq_recorded hin hcause, fun h s hcanon => ?_,
    fun h cause s hin => halfResetReq_of_inReset hin cause⟩
  · obtain ⟨hlost, hmram⟩ := declareLost_shows s h cause .pairing
    exact ⟨hlost, fun a => by rw [hmram]⟩
  · obtain ⟨hstage, hother⟩ := halfClear_hs h s
    exact ⟨hstage, hother, (halfClear_memEq h s).sameMem, halfClear_keepsRegs hcanon⟩

end Sys2Proof.Machine
end

section
/-! SUPPORT. Heartbeats, their loss and the notice of a half reset (R188 to R190, R382). -/

namespace Sys2Proof.Machine

theorem exec_heartbeatSend (h : Half) (s : State) : exec (.heartbeatSend h) s = execHeartbeatSend h s := rfl
theorem exec_heartbeatReceive (h : Half) (late : Nat) (s : State) : exec (.heartbeatReceive h late) s = execHeartbeatReceive h late s := rfl
theorem exec_heartbeatTimeout (h : Half) (s : State) : exec (.heartbeatTimeout h) s = execHeartbeatTimeout h s := rfl
theorem exec_resetNotice (h : Half) (s : State) : exec (.resetNotice h) s = execResetNotice h s := rfl

/-- The half with one more heartbeat on its control link. -/
def State.beatSent (s : State) (h : Half) : State :=
  let n := ((s.hs h).hbCount + 1) % 65536
  s.setHs h { s.hs h with hbCount := n, hbLink := ((s.halfState h, n) :: (s.hs h).hbLink).take hbInFlight }

section
variable {h : Half} {s : State}

/-! ## Heartbeats -/

theorem execHeartbeatSend_running (hstage : (s.hs h).stage = .running) (hwith : (s.hs h).hbWithheld = false) :
    execHeartbeatSend h s = .next (if s.flag (pgTwn h) F.TWN_STATUS_LINK then (s.beatSent h).setHs (Half.other h)
      { (s.beatSent h).hs (Half.other h) with hbPeer := some (s.halfState h, ((s.hs h).hbCount + 1) % 65536) } else s.beatSent h) := by
  have hlink : (s.beatSent h).flag (pgTwn h) F.TWN_STATUS_LINK = s.flag (pgTwn h) F.TWN_STATUS_LINK := setHs_r_flag _ _ _ _ _
  rw [← hlink]
  exact if_neg (by simp [hstage, hwith])

theorem execHeartbeatSend_withheld (hidle : (s.hs h).stage ≠ .running ∨ (s.hs h).hbWithheld = true) : execHeartbeatSend h s = .next s :=
  if_pos (by simpa using hidle)

theorem execHeartbeatReceive_none {late : Nat} (hnone : (s.hs h).hbLink[late]? = none) : execHeartbeatReceive h late s = .next s := by
  simp only [execHeartbeatReceive, hnone]

theorem execHeartbeatReceive_some {late st n : Nat} (hbeat : (s.hs h).hbLink[late]? = some (st, n)) : execHeartbeatReceive h late s =
    .next (s.setHs h { s.hs h with hbLink := (s.hs h).hbLink.erase (st, n), hbAcc := if hbFresh (s.hs h).hbAcc n then some n else (s.hs h).hbAcc }) := by
  simp only [execHeartbeatReceive, hbeat]
  split <;> rfl

/-- A count above the last accepted one, by half the range at most (R189, log entry 114). -/
theorem hbFresh_iff (acc : Option Nat) (n : Nat) : hbFresh acc n = true ↔
    acc = none ∨ ∃ a, acc = some a ∧ 1 ≤ (n + 65536 - a) % 65536 ∧ (n + 65536 - a) % 65536 < 32768 := by
  cases acc <;> simp [hbFresh]

theorem hbFresh_eq_false {acc : Option Nat} {n a : Nat} (hacc : acc = some a)
    (hold : (n + 65536 - a) % 65536 = 0 ∨ 32768 ≤ (n + 65536 - a) % 65536) : hbFresh acc n = false := by
  rw [hacc, hbFresh]
  simp only [Bool.and_eq_false_iff, decide_eq_false_iff_not]
  omega

/-! ## The loss of a half -/

theorem execHeartbeatTimeout_inService (hin : s.inService h = true) : execHeartbeatTimeout h s =
    .next ((((s.declareLost h 1).syncCheck).halfResetReq h (if (s.hs h).hbWithheld then 7 else 2)).rearmGo) := if_neg (by simp [hin])

theorem execHeartbeatTimeout_out (hout : s.inService h = false) : execHeartbeatTimeout h s = .next s := if_pos (by simp [hout])

theorem execResetNotice_none (hstage : (s.hs h).stage ≠ .stopping) : execResetNotice h s = .next s :=
  congrArg Host.Outcome.next (if_neg hstage)

/-- The notice of a requested reset (R189, R190): the loss, the reset, and what the survivor and a REARM make of it. -/
theorem execResetNotice_stopping (hstage : (s.hs h).stage = .stopping) :
    execResetNotice h s = .next (((s.resetNoticed h).halfClear h).syncCheck).rearmGo := by
  rw [execResetNotice, if_pos hstage, State.halfNotice, if_pos hstage]

/-- A half in service is Lost once the notice of its reset has reached the Plinth. -/
theorem resetNoticed_lost (hin : s.inService h = true) : (s.resetNoticed h).halfState h = hsLost := by
  have hout : ¬(s.halfState h = hsLost || s.halfState h = hsParked || s.halfState h = hsDown) = true := by
    simp only [State.inService, Bool.and_eq_true, decide_eq_true_eq] at hin
    simp only [Bool.or_eq_true, decide_eq_true_eq]
    unfold hsLost hsParked hsDown
    omega
  rw [State.resetNoticed, if_neg hout]
  exact (declareLost_shows s h 2 .pairing).1

theorem Supervises.stage {t : State} (hs : Supervises s t) (k : Half) (hreset : (s.hs k).stage = .reset) : (t.hs k).stage = .reset := by
  obtain ⟨st, re, arm, ht, hst⟩ := hs.halves k
  rw [ht]
  exact hst hreset

theorem resetNotice_stopping (hstage : (s.hs h).stage = .stopping) : Does (.resetNotice h) s fun t =>
    (t.hs h).stage = .reset ∧ (s.inService h = true → t.halfState h = 4) := by
  have hsup : Supervises ((s.resetNoticed h).halfClear h) (((s.resetNoticed h).halfClear h).syncCheck).rearmGo :=
    (supervises_rfl _).syncCheck.rearmGo
  exact ⟨_, execResetNotice_stopping hstage, hsup.stage h (halfClear_hs h _).1, fun hin => hsup.lost h (halfClear_lost (resetNoticed_lost hin))⟩

end

/-- Settles O14: each event of a heartbeat by its meaning, and the notice of a reset by what the supervisor's bookkeeping keeps after it. -/
theorem heartbeatsAndNotices : Obligations.HeartbeatsAndNotices := by
  unfold Obligations.HeartbeatsAndNotices
  refine ⟨fun h s hstage hwith => execHeartbeatSend_running hstage hwith, fun h s hidle => execHeartbeatSend_withheld hidle,
    fun h late st c s hbeat => ⟨fun hfresh => ?_, fun ⟨a, hacc, hold⟩ => ?_⟩, fun h late s hnone => execHeartbeatReceive_none hnone,
    fun h s hin => execHeartbeatTimeout_inService hin, fun h s hout => execHeartbeatTimeout_out hout, fun h s hstage => resetNotice_stopping hstage,
    fun h s hstage => execResetNotice_none hstage⟩
  · rw [exec_heartbeatReceive, execHeartbeatReceive_some hbeat, if_pos ((hbFresh_iff _ _).mpr hfresh)]
  · rw [exec_heartbeatReceive, execHeartbeatReceive_some hbeat, hbFresh_eq_false hacc hold]
    rfl

end Sys2Proof.Machine
end

section
/-! SUPPORT. A write within one block of DRAM (R196 to R198): what it stores, and what its mirror effect leaves. -/

namespace Sys2Proof.Machine

section
variable {h : Half} {s : State} {a n : Nat} {bs : List Byte}

/-! ## One block -/

theorem blocksOf_one (hn : 0 < n) (hfit : a % 64 + n ≤ 64) : blocksOf a n = [a / 64 * 64] := by
  have hblocks : (a + n - 1) / 64 - a / 64 + 1 = 1 := by omega
  rw [blocksOf, if_neg (by omega), hblocks]
  rfl

theorem blockPart_one (hfit : a % 64 + bs.length ≤ 64) : blockPart a bs (a / 64 * 64) = (a, bs) := by
  have hlo : max a (a / 64 * 64) = a := by omega
  have hhi : min (a + bs.length) (a / 64 * 64 + 64) = a + bs.length := by omega
  simp only [blockPart, hlo, hhi, Nat.sub_self, List.drop_zero, Nat.add_sub_cancel_left, List.take_length]

theorem writeAt_one (hn : 0 < bs.length) (hfit : a % 64 + bs.length ≤ 64) (t : Tag) : s.writeAt h t a bs =
    if s.admitBlock h t .write (a / 64 * 64) then s.storeBlock h a bs else s.refuse h t .write (a / 64 * 64) := by
  rw [State.writeAt, blocksOf_one hn hfit, each_singleton, blockPart_one hfit]

/-- A write within one block has room while one more copy has. -/
theorem mirFull_one (hn : 0 < n) (hfit : a % 64 + n ≤ 64) (hroom : (s.hs h).mirQ.length < 4096) : s.mirFull h a n = false := by
  unfold State.mirFull
  extract_lets copies
  have hcopies : copies.length ≤ (blocksOf a n).length := List.length_filter_le _ _
  rw [blocksOf_one hn hfit, List.length_singleton] at hcopies
  have hfits : ¬mirQMax < (s.hs h).mirQ.length + copies.length := by
    unfold mirQMax
    omega
  rw [decide_eq_false hfits, Bool.and_false]

/-! ## The mirror effect -/

@[simp] theorem setDram_mirrorOf (s : State) (h : Half) (m : List Host.Cell) (k : Half) (a : Nat) : (s.setDram h m).mirrorOf k a = s.mirrorOf k a := by
  cases h <;> rfl
@[simp] theorem setDram_mirrorSrc (s : State) (h : Half) (m : List Host.Cell) (k : Half) (r : Nat) : (s.setDram h m).mirrorSrc k r = s.mirrorSrc k r := by
  cases h <;> rfl
@[simp] theorem setDram_mirrorLive (s : State) (h : Half) (m : List Host.Cell) (k : Half) : (s.setDram h m).mirrorLive k = s.mirrorLive k := by
  cases h <;> rfl
@[simp] theorem setHs_mirrorOf (s : State) (h : Half) (v : HalfSt) (k : Half) (a : Nat) : (s.setHs h v).mirrorOf k a = s.mirrorOf k a := by
  cases h <;> rfl
@[simp] theorem setHs_admitBlock (s : State) (h : Half) (v : HalfSt) (k : Half) (t : Tag) (acc : AccKind) (b : Nat) :
    (s.setHs h v).admitBlock k t acc b = s.admitBlock k t acc b := by cases h <;> rfl
theorem setHs_setHs (s : State) (h : Half) (u v : HalfSt) : (s.setHs h u).setHs h v = s.setHs h v := by cases h <;> rfl

/-- A write to a region that the half sources, while its mirror writes go out, joins the twin-link queue. -/
theorem mirrorOut_live {m : Nat} (hof : s.mirrorOf h a = some m) (hsrc : s.mirrorSrc h m = true) (hlive : s.mirrorLive h = true) :
    ∃ v, s.mirrorOut h a bs = s.setHs h v ∧ v.mirQ = (s.hs h).mirQ ++ [⟨a, bs⟩] := by
  have hagain (g : Nat) : ∃ u, s.whenB (g = a / 65536) (fun s => s.setHs h { s.hs h with copyAgain := true }) = s.setHs h u ∧ u.mirQ = (s.hs h).mirQ := by
    unfold State.whenB
    split
    · exact ⟨_, rfl, rfl⟩
    · refine ⟨s.hs h, ?_, rfl⟩
      cases h <;> rfl
  simp only [State.mirrorOut, hof, hsrc, hlive, Bool.not_true, Bool.false_eq_true, if_false, if_true]
  split
  next g _ =>
    obtain ⟨u, hu, hq⟩ := hagain g
    rw [hu, hs_setHs_same, setHs_setHs, hq]
    exact ⟨_, rfl, rfl⟩
  · exact ⟨_, rfl, rfl⟩

/-- `t` has the memories of `s` and its other half. -/
def KeepsOther (h : Half) (s t : State) : Prop := MemEq s t ∧ t.hs (Half.other h) = s.hs (Half.other h)

theorem keepsOther_rfl (h : Half) (s : State) : KeepsOther h s s := ⟨memEq_rfl s, rfl⟩

theorem KeepsOther.trans {r t : State} (hrs : KeepsOther h r s) (hst : KeepsOther h s t) : KeepsOther h r t :=
  ⟨hrs.1.trans hst.1, hst.2.trans hrs.2⟩

theorem KeepsOther.setHs {r : State} (hk : KeepsOther h r s) (v : HalfSt) : KeepsOther h r (s.setHs h v) :=
  hk.trans ⟨memEq_setHs s h v, hs_setHs_other s h v⟩

theorem KeepsOther.put {r : State} (hk : KeepsOther h r s) (p : Pg) (f : Fld) (v : Nat) : KeepsOther h r (s.put p f v) :=
  hk.trans ⟨memEq_put s p f v, put_r_hs s p f v _⟩

theorem keepsOther_ite {c : Prop} [Decidable c] {t u : State} (ht : KeepsOther h s t) (hu : KeepsOther h s u) :
    KeepsOther h s (if c then t else u) := by split <;> assumption

theorem KeepsOther.markDirty {r : State} (hk : KeepsOther h r s) (a n : Nat) : KeepsOther h r (s.markDirty h a n) :=
  ((hk.setHs _).setHs _).put _ _ _

/-- The mirror effect of a write shows in the half that wrote, and on its pages. -/
theorem mirrorOut_keepsOther (h : Half) (s : State) (a : Nat) (bs : List Byte) : KeepsOther h s (s.mirrorOut h a bs) := by
  have hrfl := keepsOther_rfl h s
  unfold State.mirrorOut
  split
  · exact hrfl
  · refine keepsOther_ite hrfl (keepsOther_ite (KeepsOther.setHs ?_ _) (hrfl.markDirty _ _))
    split
    · exact keepsOther_ite (hrfl.setHs _) hrfl
    · exact hrfl

end
end Sys2Proof.Machine
end

section
/-! SUPPORT. The mirror writes of a half, and their turn in the other half (R195 to R198, R215, R266). -/

namespace Sys2Proof.Machine

theorem exec_mirrorWrite (rq : Requester) (a : Nat) (bs : List Byte) (s : State) : exec (.mirrorWrite rq a bs) s = execMirrorWrite rq a bs s := rfl
theorem exec_mirrorWriteApply (h : Half) (s : State) : exec (.mirrorWriteApply h) s = execMirrorWriteApply h s := rfl

/-! ## MIRROR_WRITE -/

section
variable {rq : Requester} {a m : Nat} {bs : List Byte} {s : State}

theorem execMirrorWrite_full (hfull : s.mirFull rq.half a bs.length = true) : execMirrorWrite rq a bs s = .next s := if_pos hfull

/-- A mirror write within one block of a region. -/
theorem execMirrorWrite_one (hn : 0 < bs.length) (hfit : a % 64 + bs.length ≤ 64) (hof : s.mirrorOf rq.half (a / 64 * 64) = some m)
    (hroom : (s.hs rq.half).mirQ.length < 4096) : execMirrorWrite rq a bs s =
      .next (if Issuer.core rq.by_ && !(s.admitBlock rq.half (s.rqTag rq) .write (a / 64 * 64)) then
        (s.writeAt rq.half (s.rqTag rq) a bs).accessFault else s.writeAt rq.half (s.rqTag rq) a bs) := by
  have hblocks : ((blocksOf a bs.length).filter fun b => (s.mirrorOf rq.half b).isSome) = [a / 64 * 64] := by
    rw [blocksOf_one hn hfit, List.filter_singleton, hof]
    rfl
  simp only [execMirrorWrite, mirFull_one hn hfit hroom, Bool.false_eq_true, if_false, hblocks, each_singleton, blockPart_one hfit, List.any_cons,
    List.any_nil, Bool.or_false]

theorem mirrorWrite_refused (hn : 0 < bs.length) (hfit : a % 64 + bs.length ≤ 64) (hof : s.mirrorOf rq.half (a / 64 * 64) = some m)
    (hroom : (s.hs rq.half).mirQ.length < 4096) (hno : s.admitBlock rq.half (s.rqTag rq) .write (a / 64 * 64) = false) :
    exec (.mirrorWrite rq a bs) s = .next (if Issuer.core rq.by_ then (s.refuse rq.half (s.rqTag rq) .write (a / 64 * 64)).accessFault
      else s.refuse rq.half (s.rqTag rq) .write (a / 64 * 64)) := by
  rw [exec_mirrorWrite, execMirrorWrite_one hn hfit hof hroom, writeAt_one hn hfit, hno]
  simp only [Bool.not_false, Bool.and_true, Bool.false_eq_true, if_false]

theorem mirrorWrite_admitted (hn : 0 < bs.length) (hfit : a % 64 + bs.length ≤ 64) (hdram : a < dramSize)
    (hblock : s.mirrorOf rq.half (a / 64 * 64) = some m) (hof : s.mirrorOf rq.half a = some m)
    (hroom : (s.hs rq.half).mirQ.length < 4096) (hyes : s.admitBlock rq.half (s.rqTag rq) .write (a / 64 * 64) = true)
    (hsrc : s.mirrorSrc rq.half m = true) (hlive : s.mirrorLive rq.half = true) : Does (.mirrorWrite rq a bs) s fun t =>
      (∀ i, memByte (t.dram rq.half) i = if a ≤ i ∧ i < a + bs.length then bs.getD (i - a) 0 else memByte (s.dram rq.half) i) ∧
      (t.hs rq.half).mirQ = (s.hs rq.half).mirQ ++ [⟨a, bs⟩] ∧ t.dram (Half.other rq.half) = s.dram (Half.other rq.half) ∧
      t.mram = s.mram ∧ t.spmA = s.spmA ∧ t.spmB = s.spmB ∧ t.regs = s.regs := by
  obtain ⟨v, hout, hq⟩ := mirrorOut_live (s := s.setDram rq.half (memSetBytes (s.dram rq.half) a bs)) (bs := bs)
    ((setDram_mirrorOf _ _ _ _ _).trans hof) ((setDram_mirrorSrc _ _ _ _ _).trans hsrc) ((setDram_mirrorLive _ _ _ _).trans hlive)
  refine ⟨(s.setDram rq.half (memSetBytes (s.dram rq.half) a bs)).setHs rq.half v, ?_, fun i => ?_, ?_, ?_, by simp, by simp, by simp, by simp⟩
  · rw [exec_mirrorWrite, execMirrorWrite_one hn hfit hblock hroom, writeAt_one hn hfit, hyes, ← hout]
    simp only [Bool.not_true, Bool.and_false, Bool.false_eq_true, if_false, if_true, State.storeBlock, if_pos hdram]
  · rw [setHs_r_dram, dram_setDram_same]
    exact memByte_setBytes _ _ _ _
  · rw [hs_setHs_same, hq, setDram_r_hs]
  · rw [setHs_r_dram]
    cases rq.half <;> rfl

end

/-! ## MIRROR_WRITE_APPLY -/

section
variable {h : Half} {w : MirWrite} {r : List MirWrite} {s : State}

theorem other_other (h : Half) : Half.other (Half.other h) = h := by cases h <;> rfl

/-- The request of a mirror write for a slot of the other half's DRAM (R266). -/
def MirWrite.request (w : MirWrite) : DReq := { source := .mirror, requester := 13, addr := w.addr, write := some w.bytes, mirror := true }

theorem mirrorReq_cons (hq : (s.hs h).mirQ = w :: r) : s.mirrorReq (Half.other h) = some w.request := by
  rw [State.mirrorReq, other_other, hq]
  rfl

theorem execMirrorWriteApply_empty (hq : (s.hs h).mirQ = []) : execMirrorWriteApply h s = .next s := by
  have hnone : s.mirrorReq (Half.other h) = none := by rw [State.mirrorReq, other_other, hq]
  rw [execMirrorWriteApply, hnone]

theorem execMirrorWriteApply_cons (hq : (s.hs h).mirQ = w :: r) : execMirrorWriteApply h s = .next (if s.dramUp (Half.other h) (dramChan w.addr) &&
    s.grant (Half.other h) (dramChan w.addr) 0 = .request w.request then
      (s.slotNext (Half.other h) (dramChan w.addr)).mirrorApply (Half.other h) w.request else s) := by
  rw [execMirrorWriteApply, mirrorReq_cons hq]
  rfl

/-- The mirror tag is admitted into every mirror region of the DRAM, and into nothing else (R210). -/
theorem admitBlock_mirror {b : Nat} (hb : b < dramSize) (hof : s.mirrorOf h b ≠ none) (world : World) (part : Nat) (m : Bool) (k : AccKind) :
    s.admitBlock h ⟨world, part, m, true⟩ k b = true := by
  have hctrl : ctrlOf b = some (0, 0, 64) := if_pos hb
  simpa [State.admitBlock, hctrl, Option.isSome_iff_ne_none] using hof

/-- A mirror write whose region exists where it arrives is stored there. -/
theorem mirrorStore_request (hn : 0 < w.bytes.length) (hfit : w.addr % 64 + w.bytes.length ≤ 64) (hdram : w.addr < dramSize)
    (hof : s.mirrorOf h (w.addr / 64 * 64) ≠ none) :
    s.mirrorStore h w.request = (s.setDram h (memSetBytes (s.dram h) w.addr w.bytes)).mirrorOut h w.addr w.bytes := by
  have hblock : w.addr / 64 * 64 < dramSize := by omega
  have hadmit (k : AccKind) : s.admitBlock h ⟨w.request.world, w.request.part, w.request.m, w.request.mirror⟩ k (w.request.addr / 64 * 64) = true :=
    admitBlock_mirror hblock hof _ _ _ k
  have hwrite : w.request.write.getD [] = w.bytes := rfl
  rw [State.mirrorStore, if_pos (hadmit .mirror), hwrite]
  exact (writeAt_one hn hfit _).trans ((if_pos (hadmit .write)).trans (if_pos hdram))

theorem savesGo_of_none (hsaves : ∀ i, i < 64 → (s.inst h i).saving = false) : s.savesGo h = s :=
  each_eq_self fun i hi => by rw [hsaves i (mem_upTo.mp hi)]; rfl

/-- The slot that a mirror write takes shows in the half that serves it. -/
theorem slotTaken_keepsOther (h : Half) (s : State) (c : Nat) (q : DReq) : KeepsOther h s ((s.slotNext h c).dramTake h q) :=
  ((keepsOther_rfl h s).setHs _).setHs _

theorem slotTaken_mirrorOf (h : Half) (s : State) (c : Nat) (q : DReq) (a : Nat) : ((s.slotNext h c).dramTake h q).mirrorOf h a = s.mirrorOf h a :=
  (setHs_mirrorOf _ _ _ _ _).trans (setHs_mirrorOf _ _ _ _ _)

/-- What the bookkeeping of the supervisor leaves of a half's twin-link queue. -/
theorem Supervises.queue {t : State} (hs : Supervises s t) (k : Half) : (t.hs k).mirQ = (s.hs k).mirQ ∧ (t.hs k).mirDone = (s.hs k).mirDone := by
  obtain ⟨st, re, arm, ht, -⟩ := hs.halves k
  rw [ht]
  exact ⟨rfl, rfl⟩

theorem MemEq.dram {t : State} (hm : MemEq s t) (k : Half) : t.dram k = s.dram k := by
  obtain ⟨-, hA, hB, -, -⟩ := hm
  cases k
  · exact hA
  · exact hB

/-- A mirror write that half `h` serves is stored there, and gone from the queue of the half that sent it. -/
theorem mirrorApply_stores (hq : (s.hs (Half.other h)).mirQ = w :: r) (hsaves : ∀ i, i < 64 → (s.inst (Half.other h) i).saving = false)
    (hn : 0 < w.bytes.length) (hfit : w.addr % 64 + w.bytes.length ≤ 64) (hdram : w.addr < dramSize)
    (hof : s.mirrorOf h (w.addr / 64 * 64) ≠ none) (c : Nat) : ∃ t, (s.slotNext h c).mirrorApply h w.request = t ∧
      t.dram h = memSetBytes (s.dram h) w.addr w.bytes ∧ (t.hs (Half.other h)).mirQ = r ∧
      (t.hs (Half.other h)).mirDone = (s.hs (Half.other h)).mirDone + 1 ∧ t.dram (Half.other h) = s.dram (Half.other h) ∧ t.mram = s.mram := by
  unfold State.mirrorApply
  extract_lets o u v x
  obtain ⟨htaken, htakenHs⟩ := slotTaken_keepsOther h s c w.request
  have hu : u = (((s.slotNext h c).dramTake h w.request).setDram h (memSetBytes (s.dram h) w.addr w.bytes)).mirrorOut h w.addr w.bytes := by
    rw [← htaken.dram h]
    exact mirrorStore_request hn hfit hdram (by rwa [slotTaken_mirrorOf])
  obtain ⟨hout, houtHs⟩ := mirrorOut_keepsOther h (((s.slotNext h c).dramTake h w.request).setDram h (memSetBytes (s.dram h) w.addr w.bytes))
    w.addr w.bytes
  rw [← hu] at hout houtHs
  have hhs : u.hs o = s.hs o := houtHs.trans ((setDram_r_hs _ _ _ _).trans htakenHs)
  have hxmem : MemEq u x := memEq_setHs u o _
  have hxhs : x.hs o = { s.hs o with mirQ := r, mirDone := (s.hs o).mirDone + 1 } := by
    simp only [x, v, hs_setHs_same, hhs]
    rw [hq]
    rfl
  have hgo : x.savesGo o = x := savesGo_of_none fun i hi => by
    rw [State.inst, hxhs]
    exact hsaves i hi
  have hsync : Supervises x (x.savesGo o).syncCheck := by
    rw [hgo]
    exact (supervises_rfl x).syncCheck
  obtain ⟨hqueue, hdone⟩ := hsync.queue o
  have hmem := (hout.trans hxmem).trans hsync.mem
  refine ⟨_, rfl, ?_, ?_, ?_, ?_, ?_⟩
  · rw [hmem.dram, dram_setDram_same]
  · rw [hqueue, hxhs]
  · rw [hdone, hxhs]
  · rw [hmem.dram, ← htaken.dram]
    cases h <;> rfl
  · rw [hmem.1, setDram_mram, htaken.1]

/-- A mirror write whose slot is granted (R197). -/
theorem mirrorWriteApply_granted (hq : (s.hs h).mirQ = w :: r) (hup : s.dramUp (Half.other h) (dramChan w.addr) = true)
    (hgrant : s.grant (Half.other h) (dramChan w.addr) 0 = .request w.request) (hsaves : ∀ i : Fin 64, (s.inst h i).saving = false)
    (hn : 0 < w.bytes.length) (hfit : w.addr % 64 + w.bytes.length ≤ 64) (hdram : w.addr < dramSize)
    (hof : s.mirrorOf (Half.other h) (w.addr / 64 * 64) ≠ none) : Does (.mirrorWriteApply h) s fun t =>
      (∀ i, memByte (t.dram (Half.other h)) i = if w.addr ≤ i ∧ i < w.addr + w.bytes.length then w.bytes.getD (i - w.addr) 0 else
        memByte (s.dram (Half.other h)) i) ∧
      (t.hs h).mirQ = r ∧ (t.hs h).mirDone = (s.hs h).mirDone + 1 ∧ t.dram h = s.dram h ∧ t.mram = s.mram := by
  have hstores := mirrorApply_stores (h := Half.other h) (by rwa [other_other]) (fun i hi => by rw [other_other]; exact hsaves ⟨i, hi⟩) hn hfit hdram hof
    (dramChan w.addr)
  rw [other_other] at hstores
  obtain ⟨t, ht, hbytes, hqueue, hdone, hown, hmram⟩ := hstores
  refine ⟨t, ?_, fun i => ?_, hqueue, hdone, hown, hmram⟩
  · rw [exec_mirrorWriteApply, execMirrorWriteApply_cons hq, ht]
    simp only [hup, hgrant, decide_true, Bool.and_self, if_true]
  · rw [hbytes]
    exact memByte_setBytes _ _ _ _

theorem mirrorWriteApply_waits (hq : (s.hs h).mirQ = w :: r) (hno : s.dramUp (Half.other h) (dramChan w.addr) = false ∨
    s.grant (Half.other h) (dramChan w.addr) 0 ≠ .request w.request) : exec (.mirrorWriteApply h) s = .next s := by
  rw [exec_mirrorWriteApply, execMirrorWriteApply_cons hq, if_neg]
  rw [Bool.and_eq_true, decide_eq_true_eq]
  rintro ⟨hup, hgrant⟩
  rcases hno with hdown | hother
  · exact Bool.false_ne_true (hdown.symm.trans hup)
  · exact hother hgrant

end
end Sys2Proof.Machine
end

section
/-! SUPPORT. MFENCE, its acknowledgement, and the hand-over of a region (R197, R200). -/

namespace Sys2Proof.Machine

theorem exec_twnMfence (rq : Requester) (tok : Word) (s : State) : exec (.twnMfence rq tok) s = execTwnMfence rq tok s := rfl
theorem exec_mfenceAcknowledge (h : Half) (s : State) : exec (.mfenceAcknowledge h) s = .next (s.mfenceCheck h) := rfl
theorem exec_twnMirSrcWrite (rq : Requester) (v : Word) (s : State) : exec (.twnMirSrcWrite rq v) s = execTwnMirSrcWrite rq v s := rfl
theorem exec_mirrorSourceSwap (m : Fin 16) (s : State) : exec (.mirrorSourceSwap m) s = execMirrorSourceSwap m s := rfl

/-- TWN_MFENCE (R197): a fence waits for the mirror writes issued before it. -/
theorem twnMfence_admitted {rq : Requester} {tok : Word} {s : State} (hadm : Admitted rq (pgTwn rq.half) s) : exec (.twnMfence rq tok) s =
    .next (s.ack.setHs rq.half { s.hs rq.half with mfence := (s.hs rq.half).mfence ++ [(tok, (s.hs rq.half).mirSent)] }) := by
  rw [exec_twnMfence, execTwnMfence, hostWrite_admitted hadm, ack_hs]

/-! ## MFENCE_ACKNOWLEDGE -/

section
variable {h : Half} {s : State}

theorem pgTwn_code_lt (h : Half) : (pgTwn h).code < 0x10000 := show 0x70 < 0x10000 by decide

/-- The fences that are met are the longest run of them at the head of the queue. -/
theorem takeWhile_met {pre post : List (Word × Nat)} {e : Word × Nat} {done : Nat} (hpre : ∀ e ∈ pre, e.2 ≤ done) (he : e.2 ≤ done)
    (hpost : ∀ e, post.head? = some e → done < e.2) : (pre ++ e :: post).takeWhile (fun e => decide (e.2 ≤ done)) = pre ++ [e] := by
  have hstop : post.takeWhile (fun e => decide (e.2 ≤ done)) = [] := by
    cases post with
    | nil => rfl
    | cons x xs => exact List.takeWhile_cons_of_neg (by simpa using hpost x rfl)
  rw [List.takeWhile_append_of_pos (fun x hx => decide_eq_true (hpre x hx))]
  simp only [List.takeWhile_cons, he, decide_true, if_true, hstop]

theorem mfenceCheck_met {pre post : List (Word × Nat)} {tok : Word} {n : Nat} (hq : (s.hs h).mfence = pre ++ (tok, n) :: post)
    (hpre : ∀ e ∈ pre, e.2 ≤ (s.hs h).mirDone) (hn : n ≤ (s.hs h).mirDone) (hpost : ∀ e, post.head? = some e → (s.hs h).mirDone < e.2) :
    s.mfenceCheck h = (s.setHs h { s.hs h with mfence := post }).put (pgTwn h) F.TWN_MACK_TOKEN tok.toNat := by
  have hdrop : (pre ++ (tok, n) :: post).drop (pre ++ [(tok, n)]).length = post := by
    rw [List.append_cons pre _ post]
    exact List.drop_left
  have hmet := takeWhile_met (e := (tok, n)) hpre hn hpost
  simp only [State.mfenceCheck, hq, hmet, List.getLast?_append, List.getLast?_singleton, Option.some_or, hdrop]

theorem mfenceCheck_unmet (hhead : ∀ e, (s.hs h).mfence.head? = some e → (s.hs h).mirDone < e.2) : s.mfenceCheck h = s := by
  have hnone : ((s.hs h).mfence.takeWhile fun e => e.2 ≤ (s.hs h).mirDone) = [] := by
    cases hq : (s.hs h).mfence with
    | nil => rfl
    | cons e es => exact List.takeWhile_cons_of_neg (by simpa using hhead e (by rw [hq]; rfl))
  rw [State.mfenceCheck, hnone]
  rfl

theorem mfenceAcknowledge_met {pre post : List (Word × Nat)} {tok : Word} {n : Nat} (hq : (s.hs h).mfence = pre ++ (tok, n) :: post)
    (hpre : ∀ e ∈ pre, e.2 ≤ (s.hs h).mirDone) (hn : n ≤ (s.hs h).mirDone) (hpost : ∀ e, post.head? = some e → (s.hs h).mirDone < e.2) :
    Does (.mfenceAcknowledge h) s fun t => t.get (pgTwn h) F.TWN_MACK_TOKEN = tok.toNat ∧ (t.hs h).mfence = post ∧ SameMem s t ∧
      KeepsRegs (fun p o => ¬(p = pgTwn h ∧ o = F.TWN_MACK_TOKEN.off)) s t := by
  refine ⟨_, congrArg Host.Outcome.next (mfenceCheck_met hq hpre hn hpost), ?_, ?_, ?_, ?_⟩
  · rw [get_put_same _ _ _ _ (by decide)]
    exact Nat.mod_eq_of_lt tok.isLt
  · rw [put_r_hs, hs_setHs_same]
  · exact ((memEq_setHs s h _).trans (memEq_put _ _ _ _)).sameMem
  · exact (keepsRegs_of (by simp)).trans (keepsRegs_put _ _ (pgTwn_code_lt h) (by decide) fun hk => hk ⟨rfl, rfl⟩)

end

/-! ## TWN_MIR_SRC_WRITE -/

section
variable {rq : Requester} {v : Word} {s : State}

theorem twnMirSrcWrite_reserved (hadm : Admitted rq (pgTwn rq.half) s) (hv : 65536 ≤ v.toNat) :
    exec (.twnMirSrcWrite rq v) s = .next (s.ack.unpredictable (pgTwn rq.half) 4) := by
  rw [exec_twnMirSrcWrite, execTwnMirSrcWrite, hostWrite_admitted hadm, if_pos hv]

/-- A 0 written to the bit of a region notes its hand-over. -/
theorem twnMirSrcWrite_notes (hadm : Admitted rq (pgTwn rq.half) s) (hv : v.toNat < 65536) : exec (.twnMirSrcWrite rq v) s =
    .next (s.ack.setHs rq.half { s.hs rq.half with
      mirHand := (s.hs rq.half).mirHand ++ ((List.range 16).filter fun m =>
        s.mirrorSrc rq.half m && !(v.toNat.testBit m) && !((s.hs rq.half).mirHand.any fun r => r.region = m)).map fun m =>
          ⟨m, (s.hs rq.half).mirSent, (s.hs rq.half).dirty.filter fun g => s.inMirror rq.half (g * 65536) m⟩ }) := by
  rw [exec_twnMirSrcWrite, execTwnMirSrcWrite, hostWrite_admitted hadm, if_neg (by omega)]
  simp only [ack_hs]
  rfl

end

/-! ## MIRROR_SOURCE_SWAP -/

section
variable {m : Fin 16} {r : MirHand} {s : State}

/-- The swap of a region in the registers of both halves, once half `h` has nothing of it left to copy. -/
def State.sourceSwapped (s : State) (h : Half) (m : Nat) : State :=
  ((s.setHs h { s.hs h with mirHand := (s.hs h).mirHand.filter fun x => x.region ≠ m }).putBit (pgTwn h) F.TWN_MIR_SRC_SRC m false).putBit
    (pgTwn (Half.other h)) F.TWN_MIR_SRC_SRC m true

theorem sourceSwapped_hs_other (h : Half) (m : Nat) : (s.sourceSwapped h m).hs (Half.other h) = s.hs (Half.other h) := by
  simp only [State.sourceSwapped, State.putBit, put_r_hs, hs_setHs_other]

theorem execMirrorSourceSwap_fromA (hA : (s.hs .A).mirHand.find? (fun x => x.region = m.val) = some r)
    (hB : (s.hs .B).mirHand.find? (fun x => x.region = m.val) = none) (hin : s.inService .B = true) (hqueue : s.handQueue .A r = [])
    (hgran : r.granules = []) : execMirrorSourceSwap m s = .next (s.sourceSwapped .A m.val) := by
  have hB' : ((s.sourceSwapped .A m.val).hs .B).mirHand.find? (fun x => x.region = m.val) = none := by
    rw [show Half.B = Half.other .A from rfl, sourceSwapped_hs_other]
    exact hB
  have hin' : s.inService (Half.other .A) = true := hin
  simp only [State.sourceSwapped] at hB' ⊢
  simp only [execMirrorSourceSwap, hA, hin', hqueue, hgran, List.isEmpty_nil, Bool.and_self, if_true, hB']

theorem pgTwn_ne_other (h : Half) : pgTwn (Half.other h) ≠ pgTwn h := by cases h <;> decide

theorem sourceSwapped_mirrorSrc (h : Half) (hm : m.val < 16) : (s.sourceSwapped h m).mirrorSrc h m = false ∧
    (s.sourceSwapped h m).mirrorSrc (Half.other h) m = true := by
  constructor
  · rw [State.mirrorSrc, State.sourceSwapped, State.putBit, get_put_page _ _ (pgTwn_code_lt _) (pgTwn_code_lt _) (by decide)
      (by decide) (pgTwn_ne_other h).symm, putBit_testBit _ _ _ _ _ _ (by decide) hm hm, if_pos rfl]
  · rw [State.mirrorSrc, State.sourceSwapped, putBit_testBit _ _ _ _ _ _ (by decide) hm hm, if_pos rfl]

theorem mirrorSourceSwap_fromA (hA : (s.hs .A).mirHand.find? (fun x => x.region = m.val) = some r)
    (hB : (s.hs .B).mirHand.find? (fun x => x.region = m.val) = none) (hin : s.inService .B = true) (hqueue : s.handQueue .A r = [])
    (hgran : r.granules = []) : Does (.mirrorSourceSwap m) s fun t => t.mirrorSrc .A m = false ∧ t.mirrorSrc .B m = true ∧ SameMem s t ∧
      KeepsRegs (fun p o => p ≠ pgTwn .A ∧ p ≠ pgTwn .B ∨ o ≠ F.TWN_MIR_SRC_SRC.off) s t := by
  obtain ⟨hgiven, htaken⟩ := sourceSwapped_mirrorSrc (s := s) .A m.isLt
  refine ⟨_, execMirrorSourceSwap_fromA hA hB hin hqueue hgran, hgiven, htaken, ?_, ?_⟩
  · exact ((memEq_setHs s .A _).trans ((memEq_put _ _ _ _).trans (memEq_put _ _ _ _))).sameMem
  · exact (keepsRegs_of (by simp)).trans ((keepsRegs_putBit _ _ _ (pgTwn_code_lt _) (by decide) (by simp)).trans
      (keepsRegs_putBit _ _ _ (pgTwn_code_lt _) (by decide) (by simp [Half.other])))

end

/-- Settles O17, clause by clause of the model's mirror commands. -/
theorem mirrorWrites : Obligations.MirrorWrites := by
  unfold Obligations.MirrorWrites
  refine ⟨fun rq a m bs s => ?_, fun rq a bs s hfull => execMirrorWrite_full hfull,
    fun h w r s hq => ⟨mirrorWriteApply_waits hq, mirrorWriteApply_granted hq⟩, fun h s hq => execMirrorWriteApply_empty hq,
    fun rq tok s => twnMfence_admitted, fun h pre post tok n s => mfenceAcknowledge_met,
    fun h s hhead => congrArg Host.Outcome.next (mfenceCheck_unmet hhead), fun rq v s hadm => ⟨twnMirSrcWrite_notes hadm, twnMirSrcWrite_reserved hadm⟩,
    fun m r s => mirrorSourceSwap_fromA⟩
  intro h b u hn hfit hdram hblock hof hroom
  exact ⟨mirrorWrite_refused hn hfit hblock hroom, mirrorWrite_admitted hn hfit hdram hblock hof hroom⟩

end Sys2Proof.Machine
end

section
/-! SUPPORT. The twin link and the copy of a granule (R198, R199, R246). -/

namespace Sys2Proof.Machine

theorem exec_twinLinkDown (s : State) : exec .twinLinkDown s = execTwinLinkDown s := rfl
theorem exec_twinLinkUp (s : State) : exec .twinLinkUp s = execTwinLinkUp s := rfl
theorem exec_catchupGranuleDone (h : Half) (s : State) : exec (.catchupGranuleDone h) s = execCatchupGranuleDone h s := rfl

/-! ## A window put over a table -/

/-- A window put over a table leaves every key outside it. -/
theorem tblOverlay_outside {α : Type} [DecidableEq α] (d : Nat → α) {lo len k : Nat} (hout : k < lo ∨ lo + len ≤ k) (w m : List (Nat × α)) :
    tblGet d (tblOverlay d lo len w m) k = tblGet d m k := by
  have hfold (acc : List (Nat × α)) : tblGet d (w.foldl (fun acc e => if e.1 < len then tblSet d acc (lo + e.1) e.2 else acc) acc) k =
      tblGet d acc k := by
    induction w generalizing acc with
    | nil => rfl
    | cons e es ih =>
      rw [List.foldl_cons, ih]
      split
      · exact tblGet_set_ne _ _ _ (by omega)
      · rfl
  have hkept : (!(decide (lo ≤ k) && decide (k < lo + len))) = true := by
    simp only [Bool.not_eq_true', Bool.and_eq_false_iff, decide_eq_false_iff_not]
    omega
  rw [tblOverlay, hfold, tblGet, tblFind_keep, if_pos hkept]
  rfl

/-! ## The link -/

section
variable {h : Half} {s : State}

/-- A half in service loses the link: it shows it down, and its queue is marked as dirty. -/
def State.linkGone (s : State) (h : Half) : State := if !(s.inService h) then s
  else ((((((s.put (pgTwn h) F.TWN_STATUS_LINK 0).put (pgTwn h) F.TWN_STATUS_DOWN 1).queueDirty h).twinDrop h).mfenceCheck h).put (pgTwn h)
    F.TWN_STATUS_SYNC 0)

def State.linkBack (s : State) (h : Half) : State := if s.inService h then s.put (pgTwn h) F.TWN_STATUS_LINK 1 else s

theorem execTwinLinkDown_eq (s : State) : execTwinLinkDown s = .next (
    if s.halfState .A = 3 && s.halfState .B = 3 then
      ((s.linkGone .A).linkGone .B).alert.setHalfState (if (s.owned .A).length < (s.owned .B).length then .A else .B) 2
    else ((s.linkGone .A).linkGone .B).alert) := rfl

theorem execTwinLinkUp_eq (s : State) : execTwinLinkUp s = .next (
    let u := (((s.linkBack .A).linkBack .B).catchupStart .A).catchupStart .B
    (if u.inService .A && u.inService .B then (u.twinSync .A).twinSync .B else u).syncCheck) := rfl

theorem execCatchupGranuleDone_none (hnone : (s.hs h).copying = none) : execCatchupGranuleDone h s = .next s := by
  rw [execCatchupGranuleDone, hnone]

theorem execCatchupGranuleDone_some {g : Nat} (hcopy : (s.hs h).copying = some g) (hagain : (s.hs h).copyAgain = false) : execCatchupGranuleDone h s = .next (
    let o := Half.other h
    let u := s.setDram o (tblOverlay byteZero (g * 65536) 65536 (tblWindow (g * 65536) 65536 (s.dram h)) (s.dram o))
    let hand := (s.hs h).mirHand.map fun r => { r with granules := r.granules.erase g }
    (((u.setHs h { s.hs h with mirHand := hand, copying := none }).setDirty h ((s.hs h).dirty.filter fun x => x ≠ g)).catchupStart h).syncCheck) := by
  simp only [execCatchupGranuleDone, hcopy, hs_setHs_same, setDram_r_hs, hagain, Bool.false_eq_true, if_false, setHs_setHs]

end

/-- Settles O18: the first four clauses are the model's commands, case by case; the last is `tblOverlay_outside`. -/
theorem twinLink : Obligations.TwinLink := by
  unfold Obligations.TwinLink
  exact ⟨execTwinLinkDown_eq, execTwinLinkUp_eq, fun h s => execCatchupGranuleDone_none, fun h g s => execCatchupGranuleDone_some,
    fun m w lo a _ hout => tblOverlay_outside byteZero hout w m⟩

end Sys2Proof.Machine
end

section
/-! SUPPORT. The commands of PAIR_CTRL and the ends of handovers (R194, R199, R202 to R206, R461, R462). -/

namespace Sys2Proof.Machine

theorem exec_pairHandover (rq : Requester) (ports : BitVec 8) (target : Half) (s : State) :
    exec (.pairHandover rq ports target) s = execPairHandover rq ports target s := rfl
theorem exec_pairRejoin (rq : Requester) (ports : BitVec 8) (s : State) : exec (.pairRejoin rq ports) s = execPairRejoin rq ports s := rfl
theorem exec_pairCancel (rq : Requester) (s : State) : exec (.pairCancel rq) s = execPairCancel rq s := rfl
theorem exec_digestCompare (p : Fin 8) (s : State) : exec (.digestCompare p) s = execDigestCompare p s := rfl
theorem exec_handoverTimeout (p : Fin 8) (s : State) : exec (.handoverTimeout p) s = execHandoverTimeout p s := rfl
theorem exec_autoReturn (p : Fin 8) (s : State) : exec (.autoReturn p) s = execAutoReturn p s := rfl
theorem exec_halfPark (h : Half) (s : State) : exec (.halfPark h) s = execHalfPark h s := rfl

/-! ## HANDOVER -/

section
variable {rq : Requester} {ports : BitVec 8} {target : Half} {s : State}

/-- The named ports of the other half, with their locked partners, that a HANDOVER moves (R203, R205). -/
def State.handoverPorts (s : State) (ports : BitVec 8) (target : Half) : List Nat :=
  (s.withPartners (portsOf ports)).filter fun p => s.ownerOf p = some (Half.other target) && !((s.port p).t4Stop)

theorem pairHandover_admitted (hadm : Admitted rq pgPair s) : exec (.pairHandover rq ports target) s =
    if s.hoRun.isSome || s.rearm.isSome then .next (s.ack.pairDone 1)
    else if (s.handoverPorts ports target).any (fun p => s.role target p ≠ roleStandby) then
      .next (s.ack.wildStatus pgPair [F.PAIR_STATUS_DONE, F.PAIR_STATUS_RESULT])
    else if (s.handoverPorts ports target).any (fun p => !(s.qualified target p)) then .next (s.ack.pairDone 2)
    else if (s.handoverPorts ports target).isEmpty then .next (s.ack.pairDone 0)
    else .next (s.ack.hoStart (.command rq.half) target (s.handoverPorts ports target)) := by
  rw [exec_pairHandover, execPairHandover, hostWrite_admitted hadm]
  rfl

theorem pairHandover_busy (hadm : Admitted rq pgPair s) (hbusy : s.hoRun.isSome = true ∨ s.rearm.isSome = true) :
    exec (.pairHandover rq ports target) s = .next (s.ack.pairDone 1) := by
  rw [pairHandover_admitted hadm, if_pos (Bool.or_eq_true_iff.mpr hbusy)]

/-- A HANDOVER while no handover and no REARM runs. -/
theorem pairHandover_free (hadm : Admitted rq pgPair s) (hho : s.hoRun = none) (hre : s.rearm = none) : exec (.pairHandover rq ports target) s =
    if (s.handoverPorts ports target).any (fun p => s.role target p ≠ roleStandby) then
      .next (s.ack.wildStatus pgPair [F.PAIR_STATUS_DONE, F.PAIR_STATUS_RESULT])
    else if (s.handoverPorts ports target).any (fun p => !(s.qualified target p)) then .next (s.ack.pairDone 2)
    else if (s.handoverPorts ports target).isEmpty then .next (s.ack.pairDone 0)
    else .next (s.ack.hoStart (.command rq.half) target (s.handoverPorts ports target)) := by
  rw [pairHandover_admitted hadm, if_neg (by simp [hho, hre])]

theorem pairHandover_withoutStandby (hadm : Admitted rq pgPair s) (hho : s.hoRun = none) (hre : s.rearm = none)
    (hrole : ∃ p ∈ s.handoverPorts ports target, s.role target p ≠ roleStandby) :
    exec (.pairHandover rq ports target) s = .next (s.ack.wildStatus pgPair [F.PAIR_STATUS_DONE, F.PAIR_STATUS_RESULT]) := by
  rw [pairHandover_free hadm hho hre, if_pos (by simpa [List.any_eq_true] using hrole)]

theorem any_notStandby_eq_false (hrole : ∀ p ∈ s.handoverPorts ports target, s.role target p = roleStandby) :
    (s.handoverPorts ports target).any (fun p => s.role target p ≠ roleStandby) = false := by
  simpa [List.any_eq_false] using hrole

theorem pairHandover_notReady (hadm : Admitted rq pgPair s) (hho : s.hoRun = none) (hre : s.rearm = none)
    (hrole : ∀ p ∈ s.handoverPorts ports target, s.role target p = roleStandby)
    (hqual : ∃ p ∈ s.handoverPorts ports target, s.qualified target p = false) :
    exec (.pairHandover rq ports target) s = .next (s.ack.pairDone 2) := by
  rw [pairHandover_free hadm hho hre, any_notStandby_eq_false hrole, if_neg Bool.false_ne_true, if_pos (by simpa [List.any_eq_true] using hqual)]

theorem pairHandover_noPort (hadm : Admitted rq pgPair s) (hho : s.hoRun = none) (hre : s.rearm = none)
    (hnone : s.handoverPorts ports target = []) : exec (.pairHandover rq ports target) s = .next (s.ack.pairDone 0) := by
  rw [pairHandover_free hadm hho hre, hnone]
  rfl

theorem pairHandover_starts (hadm : Admitted rq pgPair s) (hho : s.hoRun = none) (hre : s.rearm = none) (hsome : s.handoverPorts ports target ≠ [])
    (hready : ∀ p ∈ s.handoverPorts ports target, s.role target p = roleStandby ∧ s.qualified target p = true) :
    exec (.pairHandover rq ports target) s = .next (s.ack.hoStart (.command rq.half) target (s.handoverPorts ports target)) := by
  have hqual : (s.handoverPorts ports target).any (fun p => !(s.qualified target p)) = false := by
    simpa [List.any_eq_false] using fun p hp => (hready p hp).2
  rw [pairHandover_free hadm hho hre, any_notStandby_eq_false fun p hp => (hready p hp).1, hqual, if_neg Bool.false_ne_true, if_neg Bool.false_ne_true,
    if_neg (mt List.isEmpty_iff.mp hsome)]

end

/-! ## REJOIN -/

section
variable {rq : Requester} {ports : BitVec 8} {s : State}

/-- The state with the Idle marks of some ports cleared. -/
def State.idleCleared (s : State) (ps : List Nat) : State := s.each ps fun p s => s.setPort p { s.port p with idleA := false, idleB := false }

theorem idleCleared_ports (s : State) (ps : List Nat) : ∃ v, s.idleCleared ps = { s with ports := v } :=
  each_keeps (P := fun t => ∃ v, t = { s with ports := v }) ⟨_, rfl⟩ fun p _ t ht => by
    obtain ⟨v, rfl⟩ := ht
    exact ⟨_, rfl⟩

theorem idleCleared_port (s : State) (ps : List Nat) (p : Nat) : (s.idleCleared ps).port p =
    if p ∈ ps then { s.port p with idleA := false, idleB := false } else s.port p := by
  induction ps generalizing s with
  | nil => rfl
  | cons q qs ih =>
    have hstep : s.idleCleared (q :: qs) = (s.setPort q { s.port q with idleA := false, idleB := false }).idleCleared qs := rfl
    rw [hstep, ih]
    by_cases hpq : p = q
    · subst hpq
      simp only [port_setPort_same, List.mem_cons, true_or, if_true, ite_self]
    · simp only [port_setPort_ne _ _ hpq, List.mem_cons, hpq, false_or]

theorem pairDone_shows (s : State) (r : Nat) : (s.pairDone r).flag pgPair F.PAIR_STATUS_DONE = true ∧
    (s.pairDone r).get pgPair F.PAIR_STATUS_RESULT = r % 2 ^ F.PAIR_STATUS_RESULT.width ∧ SameMem s (s.pairDone r) ∧
    KeepsRegs (fun p o => ¬(p = pgPair ∧ o = F.PAIR_STATUS_DONE.off)) s (s.pairDone r) := by
  refine ⟨?_, ?_, ?_, ?_⟩
  · exact (flag_put_apart _ _ _ (by decide) (by decide)).trans (flag_put_one _ _ _ (by decide) (by decide))
  · exact get_put_same (s.put pgPair F.PAIR_STATUS_DONE 1) pgPair F.PAIR_STATUS_RESULT r (by decide)
  · exact ((memEq_put s pgPair F.PAIR_STATUS_DONE 1).trans (memEq_put _ pgPair F.PAIR_STATUS_RESULT r)).sameMem
  · exact (keepsRegs_put _ _ (by decide) (by decide) fun hk => hk ⟨rfl, rfl⟩).trans
      (keepsRegs_put _ _ (by decide) (by decide) fun hk => hk ⟨rfl, rfl⟩)

theorem execPairRejoin_admitted (hadm : Admitted rq pgPair s) :
    execPairRejoin rq ports s = .next ((s.ack.idleCleared (portsOf ports)).pairDone 0) := by
  rw [execPairRejoin, hostWrite_admitted hadm]
  rfl

theorem pairRejoin_admitted (hadm : Admitted rq pgPair s) : Does (.pairRejoin rq ports) s fun t =>
    t.flag pgPair F.PAIR_STATUS_DONE = true ∧ t.get pgPair F.PAIR_STATUS_RESULT = 0 ∧ SameMem s t ∧
    (∀ p, p ∈ portsOf ports → t.port p = { s.port p with idleA := false, idleB := false }) ∧
    (∀ p, p ∉ portsOf ports → t.port p = s.port p) ∧ t.irq = (s.raise pgPair).irq ∧
    KeepsRegs (fun p o => ¬(p = pgPair ∧ o = F.PAIR_STATUS_DONE.off)) s t := by
  obtain ⟨v, hv⟩ := idleCleared_ports s.ack (portsOf ports)
  obtain ⟨hdone, hresult, hmem, hregs⟩ := pairDone_shows (s.ack.idleCleared (portsOf ports)) 0
  have hport (p : Nat) : ((s.ack.idleCleared (portsOf ports)).pairDone 0).port p = (s.ack.idleCleared (portsOf ports)).port p := rfl
  refine ⟨(s.ack.idleCleared (portsOf ports)).pairDone 0, execPairRejoin_admitted hadm, hdone, hresult, ?_, fun p hp => ?_, fun p hp => ?_, ?_, ?_⟩
  · exact SameMem.trans (by rw [hv]; exact sameMem_of rfl rfl rfl rfl rfl) hmem
  · rw [hport, idleCleared_port, if_pos hp]
    rfl
  · rw [hport, idleCleared_port, if_neg hp]
    rfl
  · rw [hv]
    rfl
  · exact (keepsRegs_of (by rw [hv]; rfl)).trans hregs

end

/-! ## CANCEL, and how a handover ends -/

section
variable {s : State}

theorem pairCancel_none {rq : Requester} (hadm : Admitted rq pgPair s) (hho : s.hoRun = none) : exec (.pairCancel rq) s = .next (s.ack.pairDone 0) := by
  have hho' : s.ack.hoRun = none := hho
  rw [exec_pairCancel, execPairCancel, hostWrite_admitted hadm, hho']

theorem pairCancel_running {rq : Requester} {r : HoRun} (hadm : Admitted rq pgPair s) (hho : s.hoRun = some r) :
    exec (.pairCancel rq) s = .next (({ s.ack with hoRun := some { r with cancelled := true } }).hoEndAll 7).rearmGo := by
  have hho' : s.ack.hoRun = some r := hho
  rw [exec_pairCancel, execPairCancel, hostWrite_admitted hadm, hho']

/-- The comparison of the digests of a port that has not been compared since L1 (R202). -/
theorem digestCompare_same {p : Fin 8} {o : HoPort} {a b : List (Nat × Word)} (hport : (s.port p).ho = some o) (ha : o.digestA = some a)
    (hb : o.digestB = some b) (hphase : o.phase = 1) (hnew : o.compared = false) (hd : digestDiff a b = none) :
    exec (.digestCompare p) s = .next (s.setPort p { s.port p with ho := some { o with compared := true } }) := by
  simp only [exec_digestCompare, execDigestCompare, hport, ha, hb, hphase, hnew, hd, ne_eq, not_true_eq_false, decide_false, Bool.or_self,
    Bool.false_eq_true, if_false]

theorem digestCompare_differs {p : Fin 8} {o : HoPort} {a b : List (Nat × Word)} {r : HoRun} {pg off : Nat} (hport : (s.port p).ho = some o)
    (ha : o.digestA = some a) (hb : o.digestB = some b) (hphase : o.phase = 1) (hnew : o.compared = false) (hho : s.hoRun = some r)
    (hdiff : r.diff = false) (hd : digestDiff a b = some (pg, off)) : exec (.digestCompare p) s =
      .next (({ (s.put pgPair F.PAIR_DIFF_PAGE pg).put pgPair F.PAIR_DIFF_OFFSET off with hoRun := some { r with diff := true } }).hoEnd p 3).rearmGo := by
  simp only [exec_digestCompare, execDigestCompare, hport, ha, hb, hphase, hnew, hho, hdiff, hd, ne_eq, not_true_eq_false, decide_false, Bool.or_self,
    Bool.false_eq_true, if_false, Bool.not_false, whenB_true, put_hoRun, Option.map_some]

theorem handoverTimeout_running {p : Fin 8} {o : HoPort} (hport : (s.port p).ho = some o) :
    exec (.handoverTimeout p) s = .next (if o.phase = 1 ∧ s.get pgPair F.PAIR_CFG_HO_TIMEOUT ≤ o.frames then (s.hoEnd p 4).rearmGo else s) := by
  simp only [exec_handoverTimeout, execHandoverTimeout, hport, Bool.and_eq_true, decide_eq_true_eq]

/-- A port whose home half is qualified returns to it (R194). -/
theorem autoReturn_returns {p : Fin 8} (hauto : s.flag pgPair F.PAIR_CFG_AUTO_RETURN = true) (hho : s.hoRun = none) (hre : s.rearm = none)
    (hinsp : s.insp = none) (hshed : s.shed = none)
    (hready : ∀ q ∈ s.group p, s.qualified (s.home p) q = true ∧ (s.port q).ho = none ∧ (s.port q).t4Stop = false) :
    exec (.autoReturn p) s = .next (s.hoStart .auto (s.home p) (s.group p)) := by
  have hall : (s.group p).all (fun q => s.qualified (s.home p) q && (s.port q).ho.isNone && !((s.port q).t4Stop)) = true := by
    refine List.all_eq_true.mpr fun q hq => ?_
    obtain ⟨hqual, hport, hstop⟩ := hready q hq
    simp only [hqual, hport, hstop, Option.isNone_none, Bool.not_false, Bool.and_self]
  simp only [exec_autoReturn, execAutoReturn, hauto, hho, hre, hinsp, hshed, hall, Option.isNone_none, Bool.and_self, if_true]

theorem halfPark_shedOver {h : Half} (hshed : s.shed = some { half := h, issued := true }) (hho : s.hoRun = none)
    (hswitch : ∀ p ∈ s.owned h, (s.port p).shedSwitch = false) :
    exec (.halfPark h) s = .next (if (s.parkHalf h).tier ≤ 1 then (s.parkHalf h).unparkHalf h else s.parkHalf h) := by
  have hany : (s.owned h).any (fun p => (s.port p).shedSwitch) = false := by simpa [List.any_eq_false] using hswitch
  simp only [exec_halfPark, execHalfPark, hshed, hho, hany, ne_eq, not_true_eq_false, decide_false, Bool.not_true, Option.isSome_none, Bool.or_self,
    Bool.false_eq_true, if_false]

end

/-- Settles O19, clause by clause of the commands of PAIR_CTRL and the ends of handovers. -/
theorem pairCommands : Obligations.PairCommands := by
  unfold Obligations.PairCommands
  refine ⟨?_, fun rq ports s => pairRejoin_admitted, fun rq s hadm => ⟨pairCancel_none hadm, fun r => pairCancel_running hadm⟩,
    fun p o a b s hport ha hb hphase hnew r hho hdiff => ?_, fun p o s => handoverTimeout_running,
    fun p s => autoReturn_returns, fun h s => halfPark_shedOver⟩
  · intro rq ports target s hadm ended ps
    exact ⟨pairHandover_busy hadm, pairHandover_withoutStandby hadm, pairHandover_notReady hadm, pairHandover_noPort hadm, pairHandover_starts hadm⟩
  · cases hd : digestDiff a b with
    | none => exact digestCompare_same hport ha hb hphase hnew hd
    | some d => exact digestCompare_differs hport ha hb hphase hnew hho hdiff hd

end Sys2Proof.Machine
end

section
/-! SUPPORT. What the record of a refused block (R215) leaves, and what the write-back of a hart's caches (R219, R220)
keeps. -/

namespace Sys2Proof.Machine

/-! ## A refused block -/

/-- A register that a refusal in a half leaves (R215): it lies outside the fault record of the half and the page of the recorder. -/
def refusalKeeps (h : Half) (p : Pg) (o : Nat) : Prop := p ≠ pgPat ∧ ¬(p = pgWld h ∧ (o = 0x10 ∨ o = 0x14))

theorem keepsRegs_ite {K : Pg → Nat → Prop} {c : Prop} [Decidable c] {r t u : State} (ht : KeepsRegs K r t) (hu : KeepsRegs K r u) :
    KeepsRegs K r (if c then t else u) := by
  split <;> assumption

theorem keepsRegs_whenB {K : Pg → Nat → Prop} {r s : State} {b : Bool} {f : State → State} (hs : KeepsRegs K r s) (hf : KeepsRegs K r (f s)) :
    KeepsRegs K r (s.whenB b f) := keepsRegs_ite hf hs

theorem takeFree_keepsRegs {K : Pg → Nat → Prop} (s : State) : KeepsRegs K s s.takeFree.2 := keepsRegs_of rfl

theorem keepsRegs_putFault {h : Half} {r s : State} (hs : KeepsRegs (refusalKeeps h) r s) (f : Fld) (v : Nat)
    (hf : f.off = 0x10 ∨ f.off = 0x14) : KeepsRegs (refusalKeeps h) r (s.put (pgWld h) f v) :=
  hs.trans (keepsRegs_put s v (pgWld_code_lt h) (by omega) fun hk => hk.2 ⟨rfl, hf⟩)

theorem refuse_keepsRegs (h : Half) (s : State) (t : Tag) (k : AccKind) (b : Nat) :
    KeepsRegs (refusalKeeps h) s (s.refuse h t k b) := by
  unfold State.refuse
  extract_lets p first s1
  have h1 : KeepsRegs (refusalKeeps h) s s1 := keepsRegs_putFault (keepsRegs_of rfl) _ _ (by decide)
  refine keepsRegs_whenB h1 ?_
  extract_lets s2 s3 s4 s5 s6 s7
  have h4 : KeepsRegs (refusalKeeps h) s s4 :=
    keepsRegs_putFault (keepsRegs_putFault (keepsRegs_putFault h1 _ _ (by decide)) _ _ (by decide)) _ _ (by decide)
  have h5 : KeepsRegs (refusalKeeps h) s s5 :=
    keepsRegs_ite (keepsRegs_putFault h4 _ _ (by decide)) (keepsRegs_putFault (h4.trans (takeFree_keepsRegs s4)) _ _ (by decide))
  have h7 : KeepsRegs (refusalKeeps h) s s7 := keepsRegs_putFault (keepsRegs_putFault h5 _ _ (by decide)) _ _ (by decide)
  exact h7.trans ((event_only s7 _ _ _ _ _).2.mono fun _ _ hk => hk.1)

theorem refuse_hs (h : Half) (s : State) (t : Tag) (k : AccKind) (b : Nat) (g : Half) : (s.refuse h t k b).hs g = s.hs g := by
  rw [((notes_rfl h s).refuse t k b).1]
  cases g <;> rfl

/-! ## The write-back of dirty lines -/

/-- A register that writes to the memory of a half leave: they show refusals, the dirty map and events (R198, R215). -/
def flushKeeps (h : Half) (p : Pg) (o : Nat) : Prop := p ≠ pgTwn h ∧ refusalKeeps h p o

/-- `t` keeps what a hart of a half is and may do in `s`: the registers but for those that a write to memory shows something in, the harts of the
half, and the stage of the half. -/
structure KeepsHarts (h : Half) (s t : State) : Prop where
  regs : KeepsRegs (flushKeeps h) s t
  harts : (t.hs h).harts = (s.hs h).harts
  stage : (t.hs h).stage = (s.hs h).stage

section
variable {h : Half} {r s : State}

theorem keepsHarts_rfl (h : Half) (s : State) : KeepsHarts h s s := ⟨keepsRegs_of rfl, rfl, rfl⟩

theorem KeepsHarts.trans {t : State} (hrs : KeepsHarts h r s) (hst : KeepsHarts h s t) : KeepsHarts h r t :=
  ⟨hrs.regs.trans hst.regs, hst.harts.trans hrs.harts, hst.stage.trans hrs.stage⟩

theorem KeepsHarts.of {t : State} (hs : KeepsHarts h r s) (hregs : t.regs = s.regs) (hharts : (t.hs h).harts = (s.hs h).harts)
    (hstage : (t.hs h).stage = (s.hs h).stage) : KeepsHarts h r t := hs.trans ⟨keepsRegs_of hregs, hharts, hstage⟩

theorem KeepsHarts.setHs (hs : KeepsHarts h r s) {v : HalfSt} (hharts : v.harts = (s.hs h).harts) (hstage : v.stage = (s.hs h).stage) :
    KeepsHarts h r (s.setHs h v) := hs.of (setHs_regs _ _ _) (by rw [hs_setHs_same, hharts]) (by rw [hs_setHs_same, hstage])

theorem keepsHarts_ite {p : Prop} [Decidable p] {t u : State} (ht : KeepsHarts h r t) (hu : KeepsHarts h r u) :
    KeepsHarts h r (if p then t else u) := by
  split <;> assumption

theorem KeepsHarts.each (hs : KeepsHarts h r s) {α : Type} {xs : List α} {f : α → State → State}
    (hf : ∀ x t, KeepsHarts h r t → KeepsHarts h r (f x t)) : KeepsHarts h r (s.each xs f) := each_keeps hs fun x _ t ht => hf x t ht

theorem KeepsHarts.refuse (hs : KeepsHarts h r s) (t : Tag) (k : AccKind) (b : Nat) : KeepsHarts h r (s.refuse h t k b) :=
  hs.trans ⟨(refuse_keepsRegs h s t k b).mono fun _ _ hk => hk.2, by rw [refuse_hs], by rw [refuse_hs]⟩

theorem KeepsHarts.put (hs : KeepsHarts h r s) {q : Pg} {f : Fld} (v : Nat) (hq : q.code < 0x10000) (hf : f.off < 0x10000)
    (hk : ¬flushKeeps h q f.off) : KeepsHarts h r (s.put q f v) :=
  hs.trans ⟨keepsRegs_put s v hq hf hk, by rw [put_r_hs], by rw [put_r_hs]⟩

theorem KeepsHarts.setDirty (hs : KeepsHarts h r s) (l : List Nat) : KeepsHarts h r (s.setDirty h l) := by
  have hset : KeepsHarts h r (s.setHs h { s.hs h with dirty := l }) := hs.setHs rfl rfl
  exact hset.put _ (show 0x70 < 0x10000 by decide) (by decide) fun hk => hk.1 rfl

theorem KeepsHarts.markDirty (hs : KeepsHarts h r s) (a n : Nat) : KeepsHarts h r (s.markDirty h a n) := by
  unfold State.markDirty
  extract_lets gs hs' again s1
  have h1 : KeepsHarts h r s1 := hs.setHs rfl rfl
  exact h1.setDirty _

theorem KeepsHarts.mirrorOut (hs : KeepsHarts h r s) (a : Nat) (bs : List Byte) : KeepsHarts h r (s.mirrorOut h a bs) := by
  unfold State.mirrorOut
  split
  · exact hs
  · refine keepsHarts_ite hs (keepsHarts_ite (KeepsHarts.setHs ?_ rfl rfl) (hs.markDirty _ _))
    split
    · exact keepsHarts_ite (hs.setHs rfl rfl) hs
    · exact hs

theorem KeepsHarts.storeBlock (hs : KeepsHarts h r s) (a : Nat) (bs : List Byte) : KeepsHarts h r (s.storeBlock h a bs) := by
  have hdram (m : List Host.Cell) : KeepsHarts h r (s.setDram h m) := hs.of (by simp) (by simp) (by simp)
  have hspm (m : List Host.Cell) : KeepsHarts h r (s.setSpm h m) := hs.of (by simp) (by simp) (by simp)
  exact keepsHarts_ite ((hdram _).mirrorOut _ _) ((hspm _).setHs rfl rfl)

theorem KeepsHarts.writeAt (hs : KeepsHarts h r s) (t : Tag) (a : Nat) (bs : List Byte) : KeepsHarts h r (s.writeAt h t a bs) :=
  hs.each fun _ _ hu => keepsHarts_ite (hu.storeBlock _ _) (hu.refuse _ _ _)

theorem KeepsHarts.l2Evict (hs : KeepsHarts h r s) (key : Nat) : KeepsHarts h r (s.l2Evict h key) := by
  unfold State.l2Evict
  split
  · exact hs
  · extract_lets t hs' s1
    have h1 : KeepsHarts h r s1 := hs.setHs rfl rfl
    exact keepsHarts_ite h1 (keepsHarts_ite (h1.setHs rfl rfl) (h1.writeAt _ _ _))

theorem KeepsHarts.l2Fill (hs : KeepsHarts h r s) (cluster : Nat) (t : Tag) (addr : Nat) (bytes : List Byte) (dirty : Bool) :
    KeepsHarts h r (s.l2Fill h cluster t addr bytes dirty) := by
  have hfree : KeepsHarts h r s.takeFree.2 := hs.of rfl (by cases h <;> rfl) (by cases h <;> rfl)
  unfold State.l2Fill
  refine keepsHarts_ite hs ?_
  cases s.l2Find h cluster t.world addr with
  | some key => exact hs.setHs rfl rfl
  | none => exact (hfree.l2Evict _).setHs rfl rfl

end
end Sys2Proof.Machine
end

section
/-! SUPPORT. A hart and its changes of world (R211, R219): its record and registers, what the flush keeps, and a trap into M-mode. -/

namespace Sys2Proof.Machine

section
variable {h : Half} {n m : Nat} {s : State}

/-! ## The record of a hart -/

theorem hart_setHart_ne (s : State) (v : Hart) (hne : m ≠ n) : (s.setHart h n v).hart h m = s.hart h m := by
  simp only [State.hart, State.setHart, hs_setHs_same]
  exact tblGet_set_ne _ _ _ hne

@[simp] theorem setHart_get (s : State) (v : Hart) (q : Pg) (f : Fld) : (s.setHart h n v).get q f = s.get q f := setHs_r_get _ _ _ _ _
@[simp] theorem setHart_flag (s : State) (v : Hart) (q : Pg) (f : Fld) : (s.setHart h n v).flag q f = s.flag q f := setHs_r_flag _ _ _ _ _
@[simp] theorem setHart_regs (s : State) (v : Hart) : (s.setHart h n v).regs = s.regs := setHs_regs _ _ _
@[simp] theorem setHart_stage (s : State) (v : Hart) : ((s.setHart h n v).hs h).stage = (s.hs h).stage := by simp [State.setHart]
@[simp] theorem setHart_restart (s : State) (v : Hart) : ((s.setHart h n v).hs h).restart = (s.hs h).restart := by simp [State.setHart]
@[simp] theorem put_hart (s : State) (q : Pg) (f : Fld) (v : Nat) : (s.put q f v).hart h n = s.hart h n := by simp [State.hart]

theorem memEq_setHart (s : State) (v : Hart) : MemEq s (s.setHart h n v) := memEq_setHs s h _

theorem pgHart_code_lt (hn : n < 8) : (pgHart h n).code < 0x10000 := by
  simp only [pgHart, halfPg]
  omega

theorem pgHart_ne_pgWld : pgHart h n ≠ pgWld h := by
  simp only [pgHart, pgWld, halfPg, ne_eq, Pg.mk.injEq, true_and]
  omega

theorem pgHart_ne_pgTwn : pgHart h n ≠ pgTwn h := by
  simp only [pgHart, pgTwn, halfPg, ne_eq, Pg.mk.injEq, true_and]
  omega

/-- A register of a hart shows nothing of the half's writes to memory. -/
theorem flushKeeps_pgHart {o : Nat} : flushKeeps h (pgHart h n) o :=
  ⟨pgHart_ne_pgTwn, halfPg_ne_plinthPg _ _ _, fun he => pgHart_ne_pgWld he.1⟩

theorem flag_congr {s t : State} {p q : Pg} {f g : Fld} (hget : t.get p f = s.get q g) : t.flag p f = s.flag q g := by
  rw [State.flag, State.flag, hget]

/-! ## Changes of one hart -/

/-- `t` is `s` but for the record of hart `n`. -/
structure OnHart (h : Half) (n : Nat) (s t : State) : Prop where
  regs : t.regs = s.regs
  mem : MemEq s t
  stage : (t.hs h).stage = (s.hs h).stage
  others : ∀ m, m ≠ n → t.hart h m = s.hart h m

theorem onHart_rfl (h : Half) (n : Nat) (s : State) : OnHart h n s s := ⟨rfl, memEq_rfl s, rfl, fun _ _ => rfl⟩

theorem OnHart.trans {t u : State} (hst : OnHart h n s t) (htu : OnHart h n t u) : OnHart h n s u :=
  ⟨htu.regs.trans hst.regs, hst.mem.trans htu.mem, htu.stage.trans hst.stage, fun m hm => (htu.others m hm).trans (hst.others m hm)⟩

theorem setHart_onHart (s : State) (v : Hart) : OnHart h n s (s.setHart h n v) :=
  ⟨setHart_regs s v, memEq_setHart s v, setHart_stage s v, fun _ hm => hart_setHart_ne s v hm⟩

theorem OnHart.get {t : State} (hst : OnHart h n s t) (p : Pg) (f : Fld) : t.get p f = s.get p f := by
  simp only [State.get, State.reg, hst.regs]

theorem OnHart.flag {t : State} (hst : OnHart h n s t) (p : Pg) (f : Fld) : t.flag p f = s.flag p f := flag_congr (hst.get p f)

/-! ## A halt request that waits (R228) -/

theorem haltCheck_eq (s : State) (h : Half) (n : Nat) : s.haltCheck h n =
    if (s.hart h n).haltReq && !(s.hartHeld h n) && s.invasive h n then s.setHart h n { s.hart h n with halted := true, haltReq := false }
    else s := rfl

theorem haltCheck_onHart (s : State) (h : Half) (n : Nat) : OnHart h n s (s.haltCheck h n) := by
  rw [haltCheck_eq]
  split
  · exact setHart_onHart s _
  · exact onHart_rfl h n s

/-- A halt changes nothing else of the hart. -/
theorem haltCheck_hart (s : State) (h : Half) (n : Nat) :
    ∃ halted req, (s.haltCheck h n).hart h n = { s.hart h n with halted := halted, haltReq := req } := by
  rw [haltCheck_eq]
  split
  · exact ⟨true, false, hart_setHart_same s h n _⟩
  · exact ⟨_, _, rfl⟩

theorem haltCheck_of_noRequest (hreq : (s.hart h n).haltReq = false) : s.haltCheck h n = s := by
  rw [haltCheck_eq, hreq]
  rfl

/-! ## A change of world (R219) -/

/-- A hart without its caches, its TLBs and predictor, what its fetch sees, and the count of its flushes: what a change of world leaves. -/
def Hart.kept (t : Hart) : Hart := { t with l1d := [], l1dHeld := [], l1iHeld := [], tlb := [], predictor := [], seen := [], flushes := 0 }

/-- A part of a hart that a change of world leaves. -/
theorem kept_part {α : Type} {a b : Hart} (hk : a.kept = b.kept) (f : Hart → α) (hf : ∀ t, f t.kept = f t) : f a = f b := by
  rw [← hf a, hk, hf b]

/-- A register that a change of world of hart `n` leaves. -/
def switchKeeps (h : Half) (n : Nat) (p : Pg) (o : Nat) : Prop := flushKeeps h p o ∧ ¬(p = pgHart h n ∧ o = F.MWORLD_WORLD.off)

/-- `t` is `s` after a write-back of the caches of hart `n` and a change of its world. -/
structure Switched (h : Half) (n : Nat) (s t : State) : Prop where
  regs : KeepsRegs (switchKeeps h n) s t
  tag : ∀ f, F.MWORLD_WORLD.apart f = true → f.off < 0x10000 → t.get (pgHart h n) f = s.get (pgHart h n) f
  own : (t.hart h n).kept = (s.hart h n).kept
  others : ∀ m, m ≠ n → t.hart h m = s.hart h m
  stage : (t.hs h).stage = (s.hs h).stage

theorem switched_rfl (h : Half) (n : Nat) (s : State) : Switched h n s s := ⟨keepsRegs_of rfl, fun _ _ _ => rfl, rfl, fun _ _ => rfl, rfl⟩

/-- The state after the dirty lines of a hart have gone to its L2 cluster. -/
def State.l1WriteBack (s : State) (h : Half) (n : Nat) : State :=
  s.each (s.hart h n).l1d fun l u => u.l2Fill h (clusterOf n) (s.tag h (.hart (Fin.ofNat 8 n))) l.addr l.bytes true

theorem l1Flush_eq (s : State) (h : Half) (n : Nat) :
    s.l1Flush h n = (s.l1WriteBack h n).setHart h n { (s.l1WriteBack h n).hart h n with l1d := [], l1dHeld := [] } := rfl

theorem l1WriteBack_keepsHarts (s : State) (h : Half) (n : Nat) : KeepsHarts h s (s.l1WriteBack h n) :=
  (keepsHarts_rfl h s).each fun _ _ hu => hu.l2Fill _ _ _ _ _

theorem l1WriteBack_hart (s : State) (h : Half) (n m : Nat) : (s.l1WriteBack h n).hart h m = s.hart h m := by
  rw [State.hart, (l1WriteBack_keepsHarts s h n).harts]
  rfl

theorem worldSet_of_ne {w : Nat} (hw : s.get (pgHart h n) F.MWORLD_WORLD ≠ w) : s.worldSet h n w =
    ((s.l1Flush h n).put (pgHart h n) F.MWORLD_WORLD w).setHart h n
      { (s.l1Flush h n).hart h n with
        l1iHeld := [], tlb := [], predictor := [], flushes := ((s.l1Flush h n).hart h n).flushes + 1,
        seen := ((s.l1Flush h n).put (pgHart h n) F.MWORLD_WORLD w).fetchView h } := by
  simp only [State.worldSet, if_neg hw, put_hart]

theorem worldSet_of_eq {w : Nat} (hw : s.get (pgHart h n) F.MWORLD_WORLD = w) : s.worldSet h n w = s := if_pos hw

theorem l1Flush_hart (s : State) (h : Half) (n : Nat) : (s.l1Flush h n).hart h n = { s.hart h n with l1d := [], l1dHeld := [] } := by
  rw [l1Flush_eq, hart_setHart_same, l1WriteBack_hart]

theorem l1Flush_keepsRegs (s : State) (h : Half) (n : Nat) : KeepsRegs (flushKeeps h) s (s.l1Flush h n) :=
  (l1WriteBack_keepsHarts s h n).regs.trans (keepsRegs_of (setHart_regs _ _))

theorem l1Flush_get (hn : n < 8) {f : Fld} (hf : f.off < 0x10000) : (s.l1Flush h n).get (pgHart h n) f = s.get (pgHart h n) f :=
  congrArg f.ofWord (l1Flush_keepsRegs s h n _ _ (pgHart_code_lt hn) hf flushKeeps_pgHart)

theorem worldSet_switched (hn : n < 8) (w : Nat) : Switched h n s (s.worldSet h n w) := by
  by_cases hw : s.get (pgHart h n) F.MWORLD_WORLD = w
  · rw [worldSet_of_eq hw]
    exact switched_rfl h n s
  rw [worldSet_of_ne hw]
  refine ⟨?_, fun f hf hoff => ?_, ?_, fun m hm => ?_, ?_⟩
  · have hflush := (l1Flush_keepsRegs s h n).mono fun p o (hk : switchKeeps h n p o) => hk.1
    exact (hflush.trans (keepsRegs_put _ _ (pgHart_code_lt hn) (by decide) fun hk => hk.2 ⟨rfl, rfl⟩)).trans (keepsRegs_of (setHart_regs _ _))
  · rw [setHart_get, get_put_apart _ _ _ (by decide) hf, l1Flush_get hn hoff]
  · rw [hart_setHart_same, l1Flush_hart]
    rfl
  · rw [hart_setHart_ne _ _ hm, put_hart, l1Flush_eq, hart_setHart_ne _ _ hm, l1WriteBack_hart]
  · rw [setHart_stage, put_r_hs, l1Flush_eq, setHart_stage, (l1WriteBack_keepsHarts s h n).stage]

theorem worldSet_world {w : Nat} (hw : w < 2) : (s.worldSet h n w).get (pgHart h n) F.MWORLD_WORLD = w := by
  by_cases heq : s.get (pgHart h n) F.MWORLD_WORLD = w
  · rw [worldSet_of_eq heq, heq]
  · rw [worldSet_of_ne heq, setHart_get, get_put_same _ _ _ _ (by decide)]
    exact Nat.mod_eq_of_lt hw

theorem worldSet_flushes (w : Nat) : ((s.worldSet h n w).hart h n).flushes =
    (s.hart h n).flushes + if s.get (pgHart h n) F.MWORLD_WORLD = w then 0 else 1 := by
  by_cases hw : s.get (pgHart h n) F.MWORLD_WORLD = w
  · rw [worldSet_of_eq hw, if_pos hw, Nat.add_zero]
  · rw [worldSet_of_ne hw, hart_setHart_same, l1Flush_hart, if_neg hw]

theorem worldSet_memEq {w : Nat} (hclean : s.get (pgHart h n) F.MWORLD_WORLD = w ∨ (s.hart h n).l1d = []) : MemEq s (s.worldSet h n w) := by
  by_cases hw : s.get (pgHart h n) F.MWORLD_WORLD = w
  · rw [worldSet_of_eq hw]
    exact memEq_rfl s
  · have hout : s.l1WriteBack h n = s := by
      rw [State.l1WriteBack, hclean.resolve_left hw]
      rfl
    rw [worldSet_of_ne hw, l1Flush_eq, hout]
    exact ((memEq_setHart s _).put _ _ _).trans (memEq_setHart _ _)

end
end Sys2Proof.Machine
end

section
/-! SUPPORT. A trap into M-mode and a return from it (R211, R218): what they show of the hart, and what they leave. -/

namespace Sys2Proof.Machine

section
variable {h : Half} {n : Nat} {s : State}

theorem get_world_lt (s : State) (h : Half) (n : Nat) : s.get (pgHart h n) F.MWORLD_WORLD < 2 := get_lt s _ _
theorem get_pworld_lt (s : State) (h : Half) (n : Nat) : s.get (pgHart h n) F.MWORLD_PWORLD < 2 := get_lt s _ _

/-- A field of one bit. -/
theorem flag_eq_decide_one {p : Pg} {f : Fld} (hlt : s.get p f < 2) : s.flag p f = decide (s.get p f = 1) := by
  rw [State.flag, decide_eq_decide]
  omega

theorem world_eq_pworld_iff : s.get (pgHart h n) F.MWORLD_WORLD = s.get (pgHart h n) F.MWORLD_PWORLD ↔
    s.flag (pgHart h n) F.MWORLD_WORLD = s.flag (pgHart h n) F.MWORLD_PWORLD := by
  have hw := get_world_lt s h n
  have hp := get_pworld_lt s h n
  rw [flag_eq_decide_one hw, flag_eq_decide_one hp, decide_eq_decide]
  omega

/-! ## A trap into M-mode (R211) -/

/-- `t` is `s` after a trap of hart `n` into M-mode. -/
structure Trapped (h : Half) (n : Nat) (s t : State) : Prop where
  regs : KeepsRegs (switchKeeps h n) s t
  world : t.flag (pgHart h n) F.MWORLD_WORLD = true
  pworld : t.flag (pgHart h n) F.MWORLD_PWORLD = s.flag (pgHart h n) F.MWORLD_WORLD
  mpart : t.get (pgHart h n) F.MWORLD_MPART = s.get (pgHart h n) F.MWORLD_MPART
  mMode : (t.hart h n).mMode = true
  flushes : (t.hart h n).flushes = (s.hart h n).flushes + if s.flag (pgHart h n) F.MWORLD_WORLD then 0 else 1
  others : ∀ m, m ≠ n → t.hart h m = s.hart h m
  mem : s.flag (pgHart h n) F.MWORLD_WORLD = true ∨ (s.hart h n).l1d = [] → MemEq s t

theorem trapM_trapped (hn : n < 8) (s : State) : Trapped h n s (s.trapM h n) := by
  have hbit := flag_eq_decide_one (get_world_lt s h n)
  let v := s.put (pgHart h n) F.MWORLD_PWORLD (s.get (pgHart h n) F.MWORLD_WORLD)
  let u := v.worldSet h n 1
  let w := u.setHart h n { u.hart h n with mMode := true }
  have hworld : v.get (pgHart h n) F.MWORLD_WORLD = s.get (pgHart h n) F.MWORLD_WORLD := get_put_apart _ _ _ (by decide) (by decide)
  have hpworld : v.get (pgHart h n) F.MWORLD_PWORLD = s.get (pgHart h n) F.MWORLD_WORLD :=
    (get_put_same _ _ _ _ (by decide)).trans (Nat.mod_eq_of_lt (get_world_lt s h n))
  have hmpart : v.get (pgHart h n) F.MWORLD_MPART = s.get (pgHart h n) F.MWORLD_MPART := get_put_apart _ _ _ (by decide) (by decide)
  have hhart (m : Nat) : v.hart h m = s.hart h m := put_hart _ _ _ _
  have hput : KeepsRegs (switchKeeps h n) s v :=
    keepsRegs_put _ _ (pgHart_code_lt hn) (by decide) fun hk => hk.2 ⟨rfl, rfl⟩
  have hswitch : Switched h n v u := worldSet_switched hn 1
  have hown : OnHart h n u (s.trapM h n) := (setHart_onHart u _).trans (haltCheck_onHart w h n)
  obtain ⟨halted, req, hlast⟩ := haltCheck_hart w h n
  have hend : (s.trapM h n).hart h n = { u.hart h n with mMode := true, halted := halted, haltReq := req } := by
    rw [show s.trapM h n = w.haltCheck h n from rfl, hlast, hart_setHart_same]
  refine ⟨(hput.trans hswitch.regs).trans (keepsRegs_of hown.regs), ?_, ?_, ?_, ?_, ?_, fun m hm => ?_, fun hclean => ?_⟩
  · rw [hown.flag, State.flag, worldSet_world (by decide)]
    rfl
  · exact flag_congr ((hown.get _ _).trans ((hswitch.tag _ (by decide) (by decide)).trans hpworld))
  · rw [hown.get, hswitch.tag _ (by decide) (by decide), hmpart]
  · rw [hend]
  · rw [hend, worldSet_flushes, hhart, hworld, hbit]
    simp only [decide_eq_true_eq]
  · rw [hown.others m hm, hswitch.others m hm, hhart]
  · have hclean' : v.get (pgHart h n) F.MWORLD_WORLD = 1 ∨ (v.hart h n).l1d = [] := by
      rwa [hworld, hhart, ← decide_eq_true_eq (p := s.get (pgHart h n) F.MWORLD_WORLD = 1), ← hbit]
    exact ((memEq_put _ _ _ _).trans (worldSet_memEq hclean')).trans hown.mem

/-! ## An interrupt that waits is taken (R218) -/

theorem bestBy_mem (m : Nat → Nat) {l : List Nat} {x : Nat} (hx : bestBy m l = some x) : x ∈ l := by
  induction l generalizing x with
  | nil => simp [bestBy] at hx
  | cons y r ih =>
    rw [bestBy] at hx
    split at hx
    · simp_all
    next z hz =>
      split at hx
      · exact List.mem_cons_of_mem _ (ih (hz.trans hx))
      · simp_all

theorem bestBy_isSome (m : Nat → Nat) {l : List Nat} (hl : l ≠ []) : ∃ x, bestBy m l = some x := by
  cases l with
  | nil => exact absurd rfl hl
  | cons y r =>
    rw [bestBy]
    split
    · exact ⟨_, rfl⟩
    · split <;> exact ⟨_, rfl⟩

/-- `t` is `s` after hart `n` took an interrupt, or none. -/
structure Taken (h : Half) (n : Nat) (s t : State) : Prop where
  frame : OnHart h n s t
  mMode : (t.hart h n).mMode = (s.hart h n).mMode
  flushes : (t.hart h n).flushes = (s.hart h n).flushes

theorem taken_rfl (h : Half) (n : Nat) (s : State) : Taken h n s s := ⟨onHart_rfl h n s, rfl, rfl⟩

theorem taken_setHart {v : Hart} (hmode : v.mMode = (s.hart h n).mMode) (hflushes : v.flushes = (s.hart h n).flushes) :
    Taken h n s (s.setHart h n v) :=
  ⟨setHart_onHart s v, by rw [hart_setHart_same, hmode], by rw [hart_setHart_same, hflushes]⟩

theorem openTake_taken (s : State) (h : Half) (n : Nat) : Taken h n s (s.openTake h n) := by
  unfold State.openTake
  extract_lets t
  split
  · exact taken_rfl h n s
  · split
    · exact taken_setHart rfl rfl
    · split
      · exact taken_setHart rfl rfl
      · exact taken_rfl h n s

/-- An identity of the S file that the enables let is taken by a hart that runs in the Open world. -/
theorem openTake_takes (hopen : s.flag (pgHart h n) F.MWORLD_WORLD = false) (hheld : s.hartHeld h n = false)
    (hhalt : (s.hart h n).halted = false) (htrap : (s.hart h n).trapHeld = false)
    (hwait : ∃ i ∈ (s.hart h n).pendS, (1, i) ∈ (s.hart h n).openEn) :
    ∃ i ∈ (s.hart h n).pendS, (1, i) ∈ (s.hart h n).openEn ∧ ((s.openTake h n).hart h n).sTaken = some (1, i) := by
  have hlet : (s.hart h n).pendS.filter (fun i => (s.hart h n).openEn.contains (1, i)) ≠ [] := by
    obtain ⟨i, hi, hen⟩ := hwait
    exact List.ne_nil_of_mem (List.mem_filter.mpr ⟨hi, List.contains_iff_mem.mpr hen⟩)
  obtain ⟨i, hi⟩ := bestBy_isSome id hlet
  obtain ⟨hpend, hen⟩ := List.mem_filter.mp (bestBy_mem id hi)
  refine ⟨i, hpend, List.contains_iff_mem.mp hen, ?_⟩
  simp only [State.openTake, hopen, hheld, hhalt, htrap, Bool.or_self, Bool.false_eq_true, if_false, hi, hart_setHart_same]

/-! ## A return from M-mode (R211, R218) -/

/-- The state of an MRET before what waits for the hart is taken. -/
def State.returning (s : State) (h : Half) (n : Nat) (toM : Bool) (openEn : List (Nat × Nat)) : State :=
  let w := s.get (pgHart h n) F.MWORLD_PWORLD
  let u := s.worldSet h n w
  u.setHart h n { u.hart h n with mMode := toM && w = 1, openEn := openEn }

/-- The state after an MRET of a hart in M-mode whose dirty lines are known. -/
def State.returned (s : State) (h : Half) (n : Nat) (toM : Bool) (openEn : List (Nat × Nat)) : State :=
  ((s.returning h n toM openEn).haltCheck h n).openTake h n

section
variable {toM : Bool} {openEn : List (Nat × Nat)}

theorem returning_onHart : OnHart h n (s.worldSet h n (s.get (pgHart h n) F.MWORLD_PWORLD)) (s.returning h n toM openEn) := setHart_onHart _ _

theorem returning_world : (s.returning h n toM openEn).flag (pgHart h n) F.MWORLD_WORLD = s.flag (pgHart h n) F.MWORLD_PWORLD := by
  rw [returning_onHart.flag]
  exact flag_congr (worldSet_world (get_pworld_lt s h n))

theorem returning_hart : (s.returning h n toM openEn).hart h n =
    { (s.worldSet h n (s.get (pgHart h n) F.MWORLD_PWORLD)).hart h n with
      mMode := toM && s.get (pgHart h n) F.MWORLD_PWORLD = 1, openEn := openEn } := hart_setHart_same _ _ _ _

theorem returned_onHart : OnHart h n (s.returning h n toM openEn) (s.returned h n toM openEn) :=
  (haltCheck_onHart _ h n).trans (openTake_taken _ h n).frame

theorem returned_world : (s.returned h n toM openEn).flag (pgHart h n) F.MWORLD_WORLD = s.flag (pgHart h n) F.MWORLD_PWORLD :=
  (returned_onHart.flag _ _).trans returning_world

theorem returned_mMode : ((s.returned h n toM openEn).hart h n).mMode = (toM && s.flag (pgHart h n) F.MWORLD_PWORLD) := by
  obtain ⟨halted, req, hhalt⟩ := haltCheck_hart (s.returning h n toM openEn) h n
  rw [State.returned, (openTake_taken _ h n).mMode, hhalt, returning_hart, flag_eq_decide_one (get_pworld_lt s h n)]

theorem returned_flushes : ((s.returned h n toM openEn).hart h n).flushes =
    (s.hart h n).flushes + if s.flag (pgHart h n) F.MWORLD_WORLD = s.flag (pgHart h n) F.MWORLD_PWORLD then 0 else 1 := by
  obtain ⟨halted, req, hhalt⟩ := haltCheck_hart (s.returning h n toM openEn) h n
  rw [State.returned, (openTake_taken _ h n).flushes, hhalt, returning_hart, worldSet_flushes]
  simp only [world_eq_pworld_iff]

theorem returned_others (hn : n < 8) {m : Nat} (hm : m ≠ n) : (s.returned h n toM openEn).hart h m = s.hart h m := by
  rw [returned_onHart.others m hm, returning_onHart.others m hm, (worldSet_switched hn _).others m hm]

theorem returned_memEq (hclean : s.get (pgHart h n) F.MWORLD_WORLD = s.get (pgHart h n) F.MWORLD_PWORLD ∨ (s.hart h n).l1d = []) :
    MemEq s (s.returned h n toM openEn) :=
  ((worldSet_memEq hclean).trans returning_onHart.mem).trans returned_onHart.mem

theorem pgPwr_ne_pgHart (hn : n < 8) : pgPwr h ≠ pgHart h n := by
  simp only [pgPwr, pgHart, halfPg, ne_eq, Pg.mk.injEq, true_and]
  omega

theorem switched_hartHeld {t : State} (hn : n < 8) (hst : Switched h n s t) : t.hartHeld h n = s.hartHeld h n := by
  have hstopped : (t.hart h n).stopped = (s.hart h n).stopped := kept_part hst.own Hart.stopped fun _ => rfl
  have hpage : flushKeeps h (pgPwr h) (0x10 + 4 * (n / 8)) := by
    cases h <;> simp [flushKeeps, refusalKeeps, pgPwr, pgTwn, pgWld, pgPat, halfPg, plinthPg, Half.die]
  have hdomain : t.domain h n = s.domain h n := by
    rw [State.domain, State.domain, hst.regs (pgPwr h) (0x10 + 4 * (n / 8)) (show 0x2001 < 0x10000 by decide) (by omega)
      ⟨hpage, fun he => pgPwr_ne_pgHart hn he.1⟩]
  rw [State.hartHeld, State.hartHeld, hstopped, hdomain, hst.stage]

/-- What waited in the S file is taken on a return to the Open world. -/
theorem returned_takes (hn : n < 8) (hopen : s.flag (pgHart h n) F.MWORLD_PWORLD = false) (hheld : s.hartHeld h n = false)
    (hhalt : (s.hart h n).halted = false) (htrap : (s.hart h n).trapHeld = false) (hreq : (s.hart h n).haltReq = false)
    (hwait : ∃ i ∈ (s.hart h n).pendS, (1, i) ∈ openEn) :
    ∃ i ∈ (s.hart h n).pendS, (1, i) ∈ openEn ∧ ((s.returned h n toM openEn).hart h n).sTaken = some (1, i) := by
  have hswitch := worldSet_switched (h := h) (s := s) hn (s.get (pgHart h n) F.MWORLD_PWORLD)
  have hheld' : (s.returning h n toM openEn).hartHeld h n = false := by
    rw [← hheld, ← switched_hartHeld hn hswitch, State.hartHeld, State.hartHeld, returning_hart, returning_onHart.stage, State.domain,
      State.domain, State.reg, State.reg, returning_onHart.regs]
  have hpend : ((s.returning h n toM openEn).hart h n).pendS = (s.hart h n).pendS := by
    rw [returning_hart]
    exact kept_part hswitch.own Hart.pendS fun _ => rfl
  have hen : ((s.returning h n toM openEn).hart h n).openEn = openEn := by rw [returning_hart]
  have htakes := openTake_takes (s := s.returning h n toM openEn) (returning_world.trans hopen) hheld'
    (by rw [returning_hart]; exact (kept_part hswitch.own Hart.halted fun _ => rfl).trans hhalt)
    (by rw [returning_hart]; exact (kept_part hswitch.own Hart.trapHeld fun _ => rfl).trans htrap)
    (by rwa [hpend, hen])
  rw [hpend, hen] at htakes
  rwa [State.returned, haltCheck_of_noRequest (by rw [returning_hart]; exact (kept_part hswitch.own Hart.haltReq fun _ => rfl).trans hreq)]

end
end
end Sys2Proof.Machine
end

section
/-! SUPPORT. The commands of a hart's tags, traps, interrupts and debug (R211, R212, R217 to R219, R224, R228 to R230, R382). -/

namespace Sys2Proof.Machine

theorem exec_hpartWrite (h : Half) (n : Fin 8) (v : HpartValue) (s : State) : exec (.hpartWrite h n v) s = execHpartWrite h n v s := rfl
theorem exec_mworldWrite (h : Half) (n : Fin 8) (v : Word) (s : State) : exec (.mworldWrite h n v) s = execMworldWrite h n v s := rfl
theorem exec_mModeTrap (h : Half) (at_ : HartPoint) (s : State) : exec (.mModeTrap h at_) s = execMModeTrap h at_ s := rfl
theorem exec_mret (h : Half) (at_ : HartReturn) (s : State) : exec (.mret h at_) s = execMret h at_ s := rfl
theorem exec_trustedInterrupt (h : Half) (at_ : HartPoint) (s : State) : exec (.trustedInterrupt h at_) s = execTrustedInterrupt h at_ s := rfl
theorem exec_debugPreempt (h : Half) (at_ : HartPoint) (s : State) : exec (.debugPreempt h at_) s = execDebugPreempt h at_ s := rfl
theorem exec_hartreset (h : Half) (n : Fin 8) (s : State) : exec (.hartreset h n) s = execHartreset h n s := rfl
theorem exec_fenceI (h : Half) (n : Fin 8) (s : State) : exec (.fenceI h n) s = execFenceI h n s := rfl

section
variable {h : Half} {n : Fin 8} {s : State}

/-! ## HPART (R211, R212) -/

theorem hartWritable_eq_false_iff : s.hartWritable h n = false ↔
    s.hartHeld h n = true ∨ (s.hart h n).trapHeld = true ∨ ((s.hart h n).halted = true ∧ s.invasive h n = false) := by
  simp only [State.hartWritable, Bool.and_eq_false_iff, Bool.or_eq_false_iff, Bool.not_eq_false', or_assoc]

theorem hartWritable_of (hheld : s.hartHeld h n = false) (htrap : (s.hart h n).trapHeld = false)
    (hinv : (s.hart h n).halted = true → s.invasive h n = true) : s.hartWritable h n = true := by
  simp only [State.hartWritable, hheld, htrap, Bool.not_false, Bool.true_and, Bool.or_eq_true, Bool.not_eq_true']
  by_cases hhalt : (s.hart h n).halted = true
  · exact .inr (hinv hhalt)
  · exact .inl (Bool.eq_false_iff.mpr hhalt)

/-- The mode in which the write of HPART runs takes it (log entry 87). -/
def HpartTakes (h : Half) (n : Fin 8) (lower : Bool) (s : State) : Prop :=
  lower = false ∨ (s.hart h n).mMode = true ∨ (s.hart h n).halted = true

theorem hpartWrite_ignored {v : HpartValue} (hno : s.hartWritable h n = false ∨ ¬HpartTakes h n v.lower s) :
    exec (.hpartWrite h n v) s = .next s := by
  have hguard : (!(s.hartWritable h n) || (v.lower && !(s.hart h n).mMode && !(s.hart h n).halted)) = true := by
    rcases hno with hno | hno
    · simp only [hno, Bool.not_false, Bool.true_or]
    · simp only [HpartTakes, not_or, Bool.not_eq_false, Bool.not_eq_true] at hno
      simp only [hno, Bool.not_false, Bool.and_self, Bool.or_true]
  rw [exec_hpartWrite, execHpartWrite, if_pos hguard]

theorem hpartWrite_taken {v : HpartValue} (hw : s.hartWritable h n = true) (ht : HpartTakes h n v.lower s) : exec (.hpartWrite h n v) s =
    if 16 ≤ v.value.toNat then .next (s.takeFree.2.setHpart h n (s.takeFree.1 % 16)) else .next (s.setHpart h n v.value.toNat) := by
  have hguard : ¬((!(s.hartWritable h n) || (v.lower && !(s.hart h n).mMode && !(s.hart h n).halted)) = true) := by
    rcases ht with ht | ht | ht <;> simp [hw, ht]
  rw [exec_hpartWrite, execHpartWrite, if_neg hguard]

/-! ## MWORLD (R211, R212) -/

theorem mworldWrite_ignored {v : Word} (hno : s.hartWritable h n = false ∨ (s.hart h n).mMode = false) :
    exec (.mworldWrite h n v) s = .next s := by
  have hguard : (!(s.hartWritable h n) || !(s.hart h n).mMode) = true := by
    rcases hno with hno | hno <;> simp only [hno, Bool.not_false, Bool.true_or, Bool.or_true]
  rw [exec_mworldWrite, execMworldWrite, if_pos hguard]

/-- The two writes of an MWORLD_WRITE: PWORLD, then MPART where it names a Trusted Partition. -/
def State.mworldPut (s : State) (h : Half) (n pworld mpart : Nat) : State := (s.put (pgHart h n) F.MWORLD_PWORLD pworld).setMpart h n mpart

theorem mworldWrite_taken {v : Word} (hw : s.hartWritable h n = true) (hm : (s.hart h n).mMode = true) : exec (.mworldWrite h n v) s =
    if 4096 ≤ v.toNat ∨ v.toNat / 4 % 64 ≠ 0 then .next (s.takeFree.2.mworldPut h n s.takeFree.1 (s.takeFree.1 / 2 % 16))
    else .next (s.mworldPut h n (v.toNat / 2) (v.toNat / 256)) := by
  rw [exec_mworldWrite, execMworldWrite, hw, hm]
  rfl

theorem mworldPut_eq (s : State) (h : Half) (n : Fin 8) (pworld mpart : Nat) : s.mworldPut h n pworld mpart =
    if s.trustedPart h mpart then (s.put (pgHart h n) F.MWORLD_PWORLD pworld).put (pgHart h n) F.MWORLD_MPART mpart
    else s.put (pgHart h n) F.MWORLD_PWORLD pworld := by
  have htrusted : (s.put (pgHart h n) F.MWORLD_PWORLD pworld).trustedPart h mpart = s.trustedPart h mpart := by
    rw [State.trustedPart, State.trustedPart,
      get_put_page _ _ (pgHart_code_lt n.isLt) (pgWld_code_lt h) (by decide) (by decide) pgHart_ne_pgWld.symm]
  rw [State.mworldPut, State.setMpart, htrusted]

/-- An MWORLD_WRITE leaves WORLD, and everything outside its register. -/
theorem mworldPut_frame (s : State) (h : Half) (n : Fin 8) (pworld mpart : Nat) :
    (s.mworldPut h n pworld mpart).get (pgHart h n) F.MWORLD_WORLD = s.get (pgHart h n) F.MWORLD_WORLD ∧
      MemEq s (s.mworldPut h n pworld mpart) ∧
      KeepsRegs (fun p o => ¬(p = pgHart h n ∧ o = F.MWORLD_WORLD.off)) s (s.mworldPut h n pworld mpart) := by
  have hput {u : State} (f : Fld) (hf : f.off = F.MWORLD_WORLD.off) (v : Nat) :
      KeepsRegs (fun p o => ¬(p = pgHart h n ∧ o = F.MWORLD_WORLD.off)) u (u.put (pgHart h n) f v) :=
    keepsRegs_put u v (pgHart_code_lt n.isLt) (by rw [hf]; decide) (not_not_intro ⟨rfl, hf⟩)
  rw [mworldPut_eq]
  split
  · refine ⟨?_, (memEq_put _ _ _ _).put _ _ _, (hput F.MWORLD_PWORLD rfl _).trans (hput F.MWORLD_MPART rfl _)⟩
    rw [get_put_apart _ _ _ (by decide) (by decide), get_put_apart _ _ _ (by decide) (by decide)]
  · exact ⟨get_put_apart _ _ _ (by decide) (by decide), memEq_put _ _ _ _, hput F.MWORLD_PWORLD rfl _⟩

theorem mworldPut_pworld (s : State) (h : Half) (n : Fin 8) (pworld mpart : Nat) :
    (s.mworldPut h n pworld mpart).get (pgHart h n) F.MWORLD_PWORLD = pworld % 2 := by
  rw [mworldPut_eq]
  split
  · rw [get_put_apart _ _ _ (by decide) (by decide), get_put_same _ _ _ _ (by decide)]
    rfl
  · exact get_put_same _ _ _ _ (by decide)

theorem mworldPut_mpart (s : State) (h : Half) (n : Fin 8) {pworld mpart : Nat} (hmpart : mpart < 16) :
    (s.mworldPut h n pworld mpart).get (pgHart h n) F.MWORLD_MPART =
      if s.trustedPart h mpart then mpart else s.get (pgHart h n) F.MWORLD_MPART := by
  rw [mworldPut_eq]
  split
  · exact (get_put_same _ _ _ _ (by decide)).trans (Nat.mod_eq_of_lt hmpart)
  · exact get_put_apart _ _ _ (by decide) (by decide)

theorem mworldWrite_leaves {v : Word} (hw : s.hartWritable h n = true) (hm : (s.hart h n).mMode = true) : Does (.mworldWrite h n v) s fun u =>
    u.get (pgHart h n) F.MWORLD_WORLD = s.get (pgHart h n) F.MWORLD_WORLD ∧ SameMem s u ∧
      KeepsRegs (fun p o => ¬(p = pgHart h n ∧ o = F.MWORLD_WORLD.off)) s u := by
  rw [Does, mworldWrite_taken hw hm]
  split
  · obtain ⟨hworld, hmem, hregs⟩ := mworldPut_frame s.takeFree.2 h n s.takeFree.1 (s.takeFree.1 / 2 % 16)
    exact ⟨_, rfl, hworld, hmem.sameMem, (takeFree_keepsRegs s).trans hregs⟩
  · obtain ⟨hworld, hmem, hregs⟩ := mworldPut_frame s h n (v.toNat / 2) (v.toNat / 256)
    exact ⟨_, rfl, hworld, hmem.sameMem, hregs⟩

theorem mworldWrite_takes {v : Word} (hw : s.hartWritable h n = true) (hm : (s.hart h n).mMode = true) (hv : v.toNat < 4096)
    (hres : v.toNat / 4 % 64 = 0) : Does (.mworldWrite h n v) s fun u =>
    u.get (pgHart h n) F.MWORLD_PWORLD = v.toNat / 2 % 2 ∧
    u.get (pgHart h n) F.MWORLD_MPART = if s.trustedPart h (v.toNat / 256) then v.toNat / 256 else s.get (pgHart h n) F.MWORLD_MPART := by
  rw [Does, mworldWrite_taken hw hm, if_neg (by omega)]
  exact ⟨_, rfl, mworldPut_pworld s h n _ _, mworldPut_mpart s h n (by omega)⟩

/-! ## Traps into M-mode (R211, R217, R219, R224) -/

/-- The hart executes nothing: it is held, halted, or waits at a trap. -/
def HartBusy (h : Half) (n : Fin 8) (s : State) : Prop := s.hartHeld h n = true ∨ (s.hart h n).halted = true ∨ (s.hart h n).trapHeld = true

/-- The hart with the dirty lines of its data cache. -/
def State.withDirty (s : State) (h : Half) (n : Nat) (dirty : List CacheLine) : State := s.setHart h n { s.hart h n with l1d := dirty }

section
variable {dirty : List CacheLine}

theorem hartBusy_guard : HartBusy h n s ↔ (s.hartHeld h n || (s.hart h n).halted || (s.hart h n).trapHeld) = true := by
  simp only [HartBusy, Bool.or_eq_true, or_assoc]

theorem mModeTrap_busy (hbusy : HartBusy h n s) : exec (.mModeTrap h ⟨n, dirty⟩) s = .next s := by
  rw [exec_mModeTrap, execMModeTrap, if_pos (hartBusy_guard.mp hbusy)]

theorem mModeTrap_held (hrun : ¬HartBusy h n s) (hrestart : (s.hs h).restart ≠ 0) (hopen : s.flag (pgHart h n) F.MWORLD_WORLD = false) :
    exec (.mModeTrap h ⟨n, dirty⟩) s = .next (s.setHart h n { s.hart h n with l1d := dirty, trapHeld := true }) := by
  rw [exec_mModeTrap, execMModeTrap, if_neg (mt hartBusy_guard.mpr hrun), if_pos (by simp [hrestart, hopen])]

theorem mModeTrap_runs (hrun : ¬HartBusy h n s) (hfree : (s.hs h).restart = 0 ∨ s.flag (pgHart h n) F.MWORLD_WORLD = true) :
    exec (.mModeTrap h ⟨n, dirty⟩) s = .next ((s.withDirty h n dirty).trapM h n) := by
  rw [exec_mModeTrap, execMModeTrap, if_neg (mt hartBusy_guard.mpr hrun), if_neg (by rcases hfree with hfree | hfree <;> simp [hfree])]
  rfl

/-- A trap of a hart whose dirty lines have been named. -/
theorem trapM_withDirty (s : State) (h : Half) (n : Fin 8) (dirty : List CacheLine) :
    let world := s.flag (pgHart h n) F.MWORLD_WORLD
    let u := (s.withDirty h n dirty).trapM h n
    u.flag (pgHart h n) F.MWORLD_WORLD = true ∧ u.flag (pgHart h n) F.MWORLD_PWORLD = world ∧
    u.get (pgHart h n) F.MWORLD_MPART = s.get (pgHart h n) F.MWORLD_MPART ∧ (u.hart h n).mMode = true ∧
    (u.hart h n).flushes = (s.hart h n).flushes + (if world then 0 else 1) ∧
    (∀ m, m ≠ n.val → u.hart h m = s.hart h m) ∧ (world = true ∨ dirty = [] → SameMem s u) := by
  have hon : OnHart h n s (s.withDirty h n dirty) := setHart_onHart s _
  have hown : (s.withDirty h n dirty).hart h n = { s.hart h n with l1d := dirty } := hart_setHart_same _ _ _ _
  have htrap := trapM_trapped n.isLt (s.withDirty h n dirty) (h := h)
  refine ⟨htrap.world, htrap.pworld.trans (hon.flag _ _), htrap.mpart.trans (hon.get _ _), htrap.mMode, ?_, fun m hm => ?_, fun hclean => ?_⟩
  · rw [htrap.flushes, hown, hon.flag]
  · rw [htrap.others m hm, hon.others m hm]
  · exact (hon.mem.trans (htrap.mem (by rwa [hon.flag, hown]))).sameMem

theorem trustedInterrupt_ignored (hno : HartBusy h n s ∨ (s.hart h n).pendM = [] ∨ s.flag (pgHart h n) F.MWORLD_WORLD = true) :
    exec (.trustedInterrupt h ⟨n, dirty⟩) s = .next s := by
  have hguard : ((s.hart h n).pendM.isEmpty || s.hartHeld h n || (s.hart h n).halted || (s.hart h n).trapHeld ||
      s.flag (pgHart h n) F.MWORLD_WORLD) = true := by
    rcases hno with (hno | hno | hno) | hno | hno <;> simp [hno]
  rw [exec_trustedInterrupt, execTrustedInterrupt, if_pos hguard]

theorem trustedInterrupt_pending (hrun : ¬HartBusy h n s) (hpend : (s.hart h n).pendM ≠ [])
    (hopen : s.flag (pgHart h n) F.MWORLD_WORLD = false) :
    exec (.trustedInterrupt h ⟨n, dirty⟩) s =
      .next (if (s.hs h).restart ≠ 0 then s.withDirty h n dirty else (s.withDirty h n dirty).trapM h n) := by
  have hguard : ¬(((s.hart h n).pendM.isEmpty || s.hartHeld h n || (s.hart h n).halted || (s.hart h n).trapHeld ||
      s.flag (pgHart h n) F.MWORLD_WORLD) = true) := by
    simp only [HartBusy, not_or, Bool.not_eq_true] at hrun
    simp [hrun, hpend, hopen]
  rw [exec_trustedInterrupt, execTrustedInterrupt, if_neg hguard]
  simp only [setHart_restart]
  rfl

/-! ## MRET (R211, R218) -/

section
variable {toM : Bool} {openEn : List (Nat × Nat)}

theorem mret_ignored (hno : HartBusy h n s ∨ (s.hart h n).mMode = false) : exec (.mret h ⟨⟨n, dirty⟩, toM, openEn⟩) s = .next s := by
  have hguard : (s.hartHeld h n || (s.hart h n).halted || (s.hart h n).trapHeld || !(s.hart h n).mMode) = true := by
    rcases hno with (hno | hno | hno) | hno <;> simp [hno]
  rw [exec_mret, execMret, if_pos hguard]

theorem mret_runs (hrun : ¬HartBusy h n s) (hm : (s.hart h n).mMode = true) :
    exec (.mret h ⟨⟨n, dirty⟩, toM, openEn⟩) s = .next ((s.withDirty h n dirty).returned h n toM openEn) := by
  have hguard : ¬((s.hartHeld h n || (s.hart h n).halted || (s.hart h n).trapHeld || !(s.hart h n).mMode) = true) := by
    simp only [HartBusy, not_or, Bool.not_eq_true] at hrun
    simp [hrun, hm]
  rw [exec_mret, execMret, if_neg hguard, State.returned, State.returning, State.withDirty, setHart_get]

end

/-! ## Debug (R228, R229) -/

theorem debugPreempt_ignored (hno : (s.hart h n).halted = false ∨ s.hartHeld h n = true ∨ (s.hart h n).pendM = [] ∨
    s.flag (pgHart h n) F.MWORLD_WORLD = true ∨ (s.hs h).restart ≠ 0) : exec (.debugPreempt h ⟨n, dirty⟩) s = .next s := by
  have hguard : (!(s.hart h n).halted || s.hartHeld h n || (s.hart h n).pendM.isEmpty || s.flag (pgHart h n) F.MWORLD_WORLD ||
      decide ((s.hs h).restart ≠ 0)) = true := by
    rcases hno with hno | hno | hno | hno | hno <;> simp [hno]
  rw [exec_debugPreempt, execDebugPreempt, if_pos hguard]

/-- The state of a hart that leaves Debug Mode for a Trusted interrupt, before it traps. -/
def State.preempted (s : State) (h : Half) (n : Nat) (dirty : List CacheLine) : State :=
  (s.setHart h n { s.hart h n with halted := false, l1d := dirty }).put (pgWld h) F.WLD_STATUS_DBG_PRE 1

theorem debugPreempt_pending (hhalt : (s.hart h n).halted = true) (hheld : s.hartHeld h n = false) (hpend : (s.hart h n).pendM ≠ [])
    (hopen : s.flag (pgHart h n) F.MWORLD_WORLD = false) (hfree : (s.hs h).restart = 0) :
    exec (.debugPreempt h ⟨n, dirty⟩) s = .next ((s.preempted h n dirty).trapM h n) := by
  have hguard : ¬((!(s.hart h n).halted || s.hartHeld h n || (s.hart h n).pendM.isEmpty || s.flag (pgHart h n) F.MWORLD_WORLD ||
      decide ((s.hs h).restart ≠ 0)) = true) := by simp [hhalt, hheld, hpend, hopen, hfree]
  rw [exec_debugPreempt, execDebugPreempt, if_neg hguard]
  rfl

theorem pgWld_ne_pgTwn : pgWld h ≠ pgTwn h := by cases h <;> decide

theorem pgWld_ne_pgPat : pgWld h ≠ pgPat := halfPg_ne_plinthPg _ _ _

/-- The interrupt ends the halt, shows DBG_PRE and is taken. -/
theorem preempted_trap (s : State) (h : Half) (n : Fin 8) (dirty : List CacheLine) :
    let u := (s.preempted h n dirty).trapM h n
    u.flag (pgHart h n) F.MWORLD_WORLD = true ∧ u.flag (pgWld h) F.WLD_STATUS_DBG_PRE = true ∧ (dirty = [] → SameMem s u) := by
  have htrap := trapM_trapped n.isLt (s.preempted h n dirty) (h := h)
  refine ⟨htrap.world, ?_, fun hclean => ?_⟩
  · have hreg := htrap.regs (pgWld h) F.WLD_STATUS_DBG_PRE.off (pgWld_code_lt h) (by decide)
      ⟨⟨pgWld_ne_pgTwn, pgWld_ne_pgPat, by simp [F.WLD_STATUS_DBG_PRE]⟩, fun he => pgHart_ne_pgWld he.1.symm⟩
    exact (flag_congr (congrArg F.WLD_STATUS_DBG_PRE.ofWord hreg)).trans (flag_put_one _ _ _ (by decide) (by decide))
  · have hown : (s.preempted h n dirty).hart h n = { s.hart h n with halted := false, l1d := dirty } := by
      rw [State.preempted, put_hart, hart_setHart_same]
    have hmem : MemEq s (s.preempted h n dirty) := (memEq_setHart s _).put _ _ _
    exact (hmem.trans (htrap.mem (.inr (by rw [hown, hclean])))).sameMem

/-- A halt request is taken at once where the hart may be halted. -/
theorem debugHaltRequest_does (s : State) (h : Half) (n : Fin 8) : Does (.debugHaltRequest h n) s fun u =>
    u.hart h n = (if s.hartHeld h n = false ∧ s.invasive h n = true then { s.hart h n with halted := true, haltReq := false }
      else { s.hart h n with haltReq := true }) ∧
    u.regs = s.regs ∧ (∀ m, m ≠ n.val → u.hart h m = s.hart h m) ∧ SameMem s u := by
  let v := s.setHart h n { s.hart h n with haltReq := true }
  have hown : v.hart h n = { s.hart h n with haltReq := true } := hart_setHart_same _ _ _ _
  have hon : OnHart h n s (v.haltCheck h n) := (setHart_onHart s _).trans (haltCheck_onHart v h n)
  have hheld : v.hartHeld h n = s.hartHeld h n := by
    rw [State.hartHeld, State.hartHeld, hown, setHart_stage, State.domain, State.domain, State.reg, State.reg, setHart_regs]
  have hinv : v.invasive h n = s.invasive h n := by simp only [v, State.invasive, setHart_flag]
  refine ⟨_, rfl, ?_, hon.regs, hon.others, hon.mem.sameMem⟩
  rw [show (s.setHart h n { s.hart h n with haltReq := true }) = v from rfl, haltCheck_eq, hheld, hinv, hown]
  by_cases hgo : s.hartHeld h n = false ∧ s.invasive h n = true
  · rw [if_pos hgo, if_pos (by simp [hgo]), hart_setHart_same]
  · have hstay : ¬((true && !(s.hartHeld h n) && s.invasive h n) = true) := by simpa using hgo
    rw [if_neg hgo, if_neg hstay, hown]

end

/-! ## HARTRESET and FENCE.I (R230, R382) -/

theorem hartreset_off (hoff : s.domain h n = 0) : exec (.hartreset h n) s = .next s := by
  rw [exec_hartreset, execHartreset, if_pos hoff]

theorem hartreset_powered (hon : s.domain h n ≠ 0) :
    exec (.hartreset h n) s = .next (s.setHart h n { s.hartStart h with stopped := (s.hart h n).stopped }) := by
  rw [exec_hartreset, execHartreset, if_neg hon]

theorem fenceI_runs (hheld : s.hartHeld h n = false) (hhalt : (s.hart h n).halted = false) :
    exec (.fenceI h n) s = .next (s.setHart h n { s.hart h n with seen := s.fetchView h }) := by
  rw [exec_fenceI, execFenceI, if_neg (by simp [hheld, hhalt])]

theorem fenceI_ignored (hno : s.hartHeld h n = true ∨ (s.hart h n).halted = true) : exec (.fenceI h n) s = .next s := by
  rw [exec_fenceI, execFenceI, if_pos (Bool.or_eq_true_iff.mpr hno)]

end

/-! ## Every command -/

section
variable {h : Half} {n : Fin 8} {s : State}

/-- An MRET of a hart in M-mode whose dirty lines have been named. -/
theorem returned_withDirty (hrun : ¬HartBusy h n s) (dirty : List CacheLine) (toM : Bool) (openEn : List (Nat × Nat)) :
    let t := s.hart h n
    let world := s.flag (pgHart h n) F.MWORLD_WORLD
    let pworld := s.flag (pgHart h n) F.MWORLD_PWORLD
    let u := (s.withDirty h n dirty).returned h n toM openEn
    u.flag (pgHart h n) F.MWORLD_WORLD = pworld ∧ (u.hart h n).mMode = (toM && pworld) ∧
    (u.hart h n).flushes = t.flushes + (if world = pworld then 0 else 1) ∧
    (pworld = false → t.haltReq = false → (∃ i ∈ t.pendS, (1, i) ∈ openEn) →
      ∃ i ∈ t.pendS, (1, i) ∈ openEn ∧ (u.hart h n).sTaken = some (1, i)) ∧
    (∀ m, m ≠ n.val → u.hart h m = s.hart h m) ∧ (world = pworld ∨ dirty = [] → SameMem s u) := by
  have hon : OnHart h n s (s.withDirty h n dirty) := setHart_onHart s _
  have hown : (s.withDirty h n dirty).hart h n = { s.hart h n with l1d := dirty } := hart_setHart_same _ _ _ _
  have hheld : (s.withDirty h n dirty).hartHeld h n = s.hartHeld h n := by
    rw [State.hartHeld, State.hartHeld, hown, hon.stage, State.domain, State.domain, State.reg, State.reg, hon.regs]
  simp only [HartBusy, not_or, Bool.not_eq_true] at hrun
  obtain ⟨hheld0, hhalt0, htrap0⟩ := hrun
  refine ⟨returned_world.trans (hon.flag _ _), ?_, ?_, fun hopen hreq hwait => ?_, fun m hm => ?_, fun hclean => ?_⟩
  · rw [returned_mMode, hon.flag]
  · rw [returned_flushes, hon.flag, hon.flag, hown]
  · have htakes := returned_takes (s := s.withDirty h n dirty) (toM := toM) n.isLt ((hon.flag _ _).trans hopen) (hheld.trans hheld0)
      (by rw [hown]; exact hhalt0) (by rw [hown]; exact htrap0) (by rw [hown]; exact hreq) (by rw [hown]; exact hwait)
    rwa [hown] at htakes
  · rw [returned_others n.isLt hm, hon.others m hm]
  · refine (hon.mem.trans (returned_memEq ?_)).sameMem
    rw [hon.get, hon.get, hown]
    exact hclean.imp_left world_eq_pworld_iff.mpr

end

/-- Settles O20, clause by clause: the writes of the tags, the traps and returns of a hart, its interrupts, and debug. That MRET leaves M-mode where
PWORLD is Open (log entry 118), and that code below HS-mode writes no HPART (log entry 87), are the model's choices. -/
theorem worldTags : Obligations.WorldTags := by
  unfold Obligations.WorldTags
  refine ⟨fun h n v lower s => ?_, fun h n dirty toM openEn s => ?_⟩
  · intro t free writes
    refine ⟨fun hno => ?_, fun hm => mworldWrite_ignored (.inr hm), fun hno => hpartWrite_ignored (.inr hno), fun hheld htrap hinv => ?_⟩
    · have hw := hartWritable_eq_false_iff.mpr hno
      exact ⟨hpartWrite_ignored (.inl hw), mworldWrite_ignored (.inl hw)⟩
    · have hw := hartWritable_of hheld htrap hinv
      refine ⟨fun ht hv => ?_, fun ht hv hpart => ?_, fun ht hv hpart => ?_, fun hm => ⟨mworldWrite_leaves hw hm, mworldWrite_takes hw hm⟩⟩
      · rw [hpartWrite_taken (v := ⟨v, lower⟩) hw ht, if_pos hv]
        rfl
      · rw [hpartWrite_taken (v := ⟨v, lower⟩) hw ht, if_neg (Nat.not_le.mpr hv), State.setHpart, if_pos hpart]
      · rw [hpartWrite_taken (v := ⟨v, lower⟩) hw ht, if_neg (Nat.not_le.mpr hv), State.setHpart, if_neg hpart]
  · intro t busy world pworld traps
    refine ⟨fun hbusy => ⟨mModeTrap_busy hbusy, mret_ignored (.inl hbusy)⟩, fun hrun => mModeTrap_held hrun, fun hrun hfree => ?_,
      fun hrun hm => mret_ignored (.inr hm), fun hrun hm => ?_, fun hrun hpend hopen hfree => ?_, fun hrun hpend hopen hrestart => ?_,
      trustedInterrupt_ignored, fun hhalt hheld hpend hopen hfree => ?_, debugPreempt_ignored, debugHaltRequest_does s h n,
      hartreset_off, hartreset_powered, fenceI_runs, fenceI_ignored⟩
    · exact ⟨_, mModeTrap_runs hrun hfree, trapM_withDirty s h n dirty⟩
    · exact ⟨_, mret_runs hrun hm, returned_withDirty hrun dirty toM openEn⟩
    · refine ⟨_, (trustedInterrupt_pending hrun hpend hopen).trans ?_, trapM_withDirty s h n dirty⟩
      rw [if_neg (not_not_intro hfree)]
    · rw [trustedInterrupt_pending hrun hpend hopen, if_pos hrestart]
      rfl
    · exact ⟨_, debugPreempt_pending hhalt hheld hpend hopen hfree, preempted_trap s h n dirty⟩

end Sys2Proof.Machine
end

section
/-! SUPPORT. A microsecond of the loader's copy (R53, R459): the registers that its reads of the source show nothing in. -/

namespace Sys2Proof.Machine

/-- A page beside those in which a read from a scratchpad shows an error (R254); a read of the Plinth window counts its units from the scratchpad's
base too, far above the pages of a half. -/
def besideSpm (p : Pg) : Prop := p.code < 0x68 ∨ (0x6C ≤ p.code ∧ p.code < 0xC000)

/-- A register that a copy of the loader leaves. -/
def copyKeeps (p : Pg) (o : Nat) : Prop := besideSpm p ∧ ∀ h, refusalKeeps h p o

theorem spmUeNote_keepsRegs {h : Half} {n : Nat} (hn : n < 4 ∨ (0x1C000 ≤ n ∧ n < 0x1D000)) (s : State) (port : Bool) (w : Nat) :
    KeepsRegs copyKeeps s (s.spmUeNote h n port w) := by
  have hput : KeepsRegs copyKeeps s (s.put (pgSpm h n) F.SPM_STATUS_UE 1) := by
    rintro p o hp ho ⟨hpage, _⟩
    refine reg_setReg_ne _ _ fun hkey => ?_
    simp only [Pg.key, pgSpm, halfPg, F.SPM_STATUS_UE] at hkey
    rcases hpage with hpage | hpage <;> omega
  exact hput.trans ((event_only _ _ _ _ _ _).2.mono fun _ _ hk => (hk.2 h).1)

/-- The addresses that a controller stands in front of (R213). -/
theorem ctrlOf_range {a : Nat} {e : Nat × Nat × Nat} (he : ctrlOf a = some e) :
    a < dramSize ∨ (spmBase ≤ a ∧ a < spmBase + spmSize) ∨ (0xF200000000 ≤ a ∧ a < 0xF200710000) := by
  unfold ctrlOf at he
  split at he
  next hdram => exact .inl hdram
  next =>
    split at he
    next hspm => exact .inr (.inl hspm)
    next =>
      split at he
      next hwindow => exact .inr (.inr hwindow)
      next => cases he

/-- A word that a read found to be bad lies in a scratchpad or at an address of the Plinth window. -/
theorem unit_of_admitted {s : State} {h : Half} {t : Tag} {k : AccKind} {b : Nat} (hb : spmBase ≤ b)
    (hadm : s.admitBlock h t k (b / 64 * 64) = true) :
    (b - spmBase) / 0x400000 < 4 ∨ (0x1C000 ≤ (b - spmBase) / 0x400000 ∧ (b - spmBase) / 0x400000 < 0x1D000) := by
  have hsome : ∃ e, ctrlOf (b / 64 * 64) = some e := by
    unfold State.admitBlock at hadm
    split at hadm
    · cases hadm
    next he => exact ⟨_, he⟩
  obtain ⟨e, he⟩ := hsome
  have hrange := ctrlOf_range he
  simp only [dramSize, spmSize, spmBase] at hrange hb ⊢
  omega

theorem noteRead_keepsRegs (h : Half) (s : State) (t : Tag) (k : AccKind) (a n : Nat) : KeepsRegs copyKeeps s (s.noteRead h t k a n) := by
  have hrefused : KeepsRegs copyKeeps s (s.noteRefusals h t k a n) :=
    each_keeps (P := KeepsRegs copyKeeps s) (keepsRegs_of rfl) fun b _ u hu =>
      hu.trans ((refuse_keepsRegs h u t k b).mono fun _ _ hk => hk.2 h)
  refine each_keeps (P := KeepsRegs copyKeeps s) hrefused fun b hb u hu => hu.trans (spmUeNote_keepsRegs ?_ u _ _)
  obtain ⟨hadm, hbad⟩ := Bool.and_eq_true_iff.mp (List.mem_filter.mp hb).2
  exact unit_of_admitted (of_decide_eq_true (Bool.and_eq_true_iff.mp hbad).1) hadm

theorem armCopy_keepsRegs (s : State) (o : ArmOp) (k : Nat) : KeepsRegs copyKeeps s (s.armCopy o k) := by
  unfold State.armCopy
  split
  · exact (noteRead_keepsRegs _ s _ _ _ _).trans (keepsRegs_of rfl)
  · exact keepsRegs_of rfl

/-- A microsecond of a copy changes MRAM, the operation, and what its reads note. -/
theorem armTick_frame (s : State) :
    s.armTick = { s with regs := s.armTick.regs, free := s.armTick.free, pat := s.armTick.pat, mram := s.armTick.mram, arm := s.armTick.arm } ∧
      KeepsRegs copyKeeps s s.armTick := by
  unfold State.armTick
  split
  · exact ⟨rfl, keepsRegs_of rfl⟩
  next o _ =>
    split
    · exact ⟨rfl, keepsRegs_of rfl⟩
    · let upto := min (o.blocks * 4096) (o.sent + 80)
      obtain ⟨⟨heq, _⟩, _⟩ := armCopies_spec o (upto / 4096 - o.sent / 4096) (o.sent / 4096) { s with arm := some { o with sent := upto } }
      refine ⟨?_, each_keeps (P := KeepsRegs copyKeeps s) (keepsRegs_of rfl) fun k _ u hu => hu.trans (armCopy_keepsRegs u o k)⟩
      unfold State.armCopyTo
      rw [heq]

theorem armTick_of_none {s : State} (harm : s.arm = none) : s.armTick = s := by
  unfold State.armTick
  rw [harm]

theorem armTick_hs (s : State) (h : Half) : s.armTick.hs h = s.hs h := by
  rw [(armTick_frame s).1]
  cases h <;> rfl

end Sys2Proof.Machine
end

section
/-! SUPPORT. One microsecond of module time (R209, R226, R397, R411, R439): what each part of it counts, and what it leaves. -/

namespace Sys2Proof.Machine

/-- `t` is `s` but for registers outside `K`, the halves outside `H`, the counters of the supplies and free values. -/
structure Ticks (K : Pg → Nat → Prop) (H : Half → Prop) (s t : State) : Prop where
  rest : t = { s with regs := t.regs, free := t.free, pw := t.pw, halfA := t.halfA, halfB := t.halfB }
  regs : KeepsRegs K s t
  halves : ∀ h, H h → t.hs h = s.hs h

section
variable {K : Pg → Nat → Prop} {H : Half → Prop} {r s : State}

theorem ticks_rfl (K : Pg → Nat → Prop) (H : Half → Prop) (s : State) : Ticks K H s s := ⟨rfl, keepsRegs_of rfl, fun _ _ => rfl⟩

theorem Ticks.trans {t : State} (hrs : Ticks K H r s) (hst : Ticks K H s t) : Ticks K H r t := by
  refine ⟨?_, hrs.regs.trans hst.regs, fun h hh => (hst.halves h hh).trans (hrs.halves h hh)⟩
  have hrest := hst.rest
  rw [hrs.rest] at hrest
  exact hrest

theorem ticks_ite {p : Prop} [Decidable p] {t u : State} (ht : Ticks K H r t) (hu : Ticks K H r u) : Ticks K H r (if p then t else u) := by
  split <;> assumption

theorem Ticks.put (hs : Ticks K H r s) {q : Pg} {f : Fld} (v : Nat) (hq : q.code < 0x10000) (hf : f.off < 0x10000) (hk : ¬K q f.off) :
    Ticks K H r (s.put q f v) :=
  hs.trans ⟨rfl, keepsRegs_put s v hq hf hk, fun _ _ => put_r_hs _ _ _ _ _⟩

theorem Ticks.setHs (hs : Ticks K H r s) {h : Half} (v : HalfSt) (hh : ¬H h) : Ticks K H r (s.setHs h v) := by
  refine hs.trans ⟨?_, keepsRegs_of (setHs_regs _ _ _), fun g hg => ?_⟩
  · cases h <;> rfl
  · cases h <;> cases g
    exacts [absurd hg hh, rfl, rfl, absurd hg hh]

theorem Ticks.takeFree (hs : Ticks K H r s) : Ticks K H r s.takeFree.2 := hs.trans ⟨rfl, keepsRegs_of rfl, fun h _ => by cases h <;> rfl⟩

theorem Ticks.pw (hs : Ticks K H r s) (v : Power) : Ticks K H r { s with pw := v } :=
  hs.trans ⟨rfl, keepsRegs_of rfl, fun h _ => by cases h <;> rfl⟩

theorem Ticks.memEq (hs : Ticks K H r s) : MemEq r s := by
  rw [hs.rest]
  exact memEq_rfl r

theorem Ticks.get (hs : Ticks K H r s) {p : Pg} {f : Fld} (hp : p.code < 0x10000) (hf : f.off < 0x10000) (hk : K p f.off) : s.get p f = r.get p f :=
  congrArg f.ofWord (hs.regs p f.off hp hf hk)

/-! ## The parts of a microsecond -/

theorem rtcTick_ticks (hk : ∀ o, ¬K pgKal o) : Ticks K H s s.rtcTick := by
  unfold State.rtcTick
  refine ticks_ite (ticks_rfl K H s) ?_
  extract_lets acc n u
  have hu : Ticks K H s u := ticks_ite (ticks_rfl K H s)
    (((ticks_rfl K H s).put _ (by decide) (by decide) (hk _)).put _ (by decide) (by decide) (hk _))
  exact hu.pw _

theorem watchdogTick_ticks {h : Half} (hk : ¬K (pgWld h) F.WLD_WDOG_REMAIN.off) : Ticks K H s (s.watchdogTick h) :=
  ticks_ite (ticks_rfl K H s) ((ticks_rfl K H s).put _ (pgWld_code_lt h) (by decide) hk)

theorem pgSaf_code_lt (h : Half) : (pgSaf h).code < 0x10000 := by cases h <;> decide

theorem safTick_ticks {h : Half} (hk : ∀ o, ¬K (pgSaf h) o) (hh : ¬H h) : Ticks K H s (s.safTick h) :=
  ticks_ite (((ticks_rfl K H s).setHs _ hh).put _ (pgSaf_code_lt h) (by decide) (hk _)) (ticks_rfl K H s)

theorem wakeTick_ticks (hk : ∀ o, ¬K pgSvc o) : Ticks K H s s.wakeTick :=
  ticks_ite ((ticks_rfl K H s).takeFree.put _ (by decide) (by decide) (hk _)) (ticks_rfl K H s)

theorem hupRead_ticks (hok : ¬K pgShd F.SHD_STATUS_HUP_OK.off) (hhup : ¬K pgShd F.SHD_VOLT_HUP.off) : Ticks K H s s.hupRead :=
  ticks_ite (ticks_rfl K H s) (((ticks_rfl K H s).takeFree.put _ (by decide) (by decide) hhup).put _ (by decide) (by decide) hok)

/-! ## What they count -/

theorem watchdogTick_counts {h : Half} (hrun : (s.hs h).stage = .running) (htime : 0 < s.get (pgWld h) F.WLD_WDCFG_TIMEOUT)
    (hinv : s.flag (pgWld h) F.WLD_DBG_TRU_INV = false) :
    (s.watchdogTick h).get (pgWld h) F.WLD_WDOG_REMAIN = s.get (pgWld h) F.WLD_WDOG_REMAIN - 1 := by
  have hcount : s.watchdogTick h = s.put (pgWld h) F.WLD_WDOG_REMAIN (s.get (pgWld h) F.WLD_WDOG_REMAIN - 1) := by
    unfold State.watchdogTick
    rw [if_neg]
    simp only [hrun, hinv, Nat.ne_of_gt htime, ne_eq, not_true_eq_false, decide_false, Bool.false_and, Bool.or_self, Bool.false_eq_true,
      not_false_eq_true]
  rw [hcount, get_put_same _ _ _ _ (by decide)]
  exact Nat.mod_eq_of_lt (lt_of_le_of_lt (Nat.sub_le _ _) (get_lt s _ _))

/-- Safety cores held for the reset of their Function run again (R209). -/
theorem safTick_runs {h : Half} (hhold : (s.hs h).saf.hold = true) :
    ((s.safTick h).hs h).saf = { hold := false, resets := (s.hs h).saf.resets + 1, tcm := (s.hs h).saf.tcm } ∧
      (s.safTick h).get (pgSaf h) F.SAF_STATUS_RUN = 1 := by
  rw [State.safTick, if_pos hhold, State.safReset]
  exact ⟨by rw [put_r_hs, hs_setHs_same], get_put_same _ _ _ _ (by decide)⟩

theorem hupRead_eq (s : State) : s.hupRead = if (s.noPower || s.flag pgShd F.SHD_STATUS_HUP_OK) = true then s
    else s.takeFree.2.showHup (max (s.get pgShd F.SHD_VOLT_HUP) (s.takeFree.1 % 40001)) := rfl

theorem showHup_hup (s : State) (mv : Nat) : (s.showHup mv).get pgShd F.SHD_VOLT_HUP = min 0xFFFF mv := by
  rw [State.showHup, get_put_apart _ _ _ (by decide) (by decide), get_put_same _ _ _ _ (by decide)]
  exact Nat.mod_eq_of_lt (lt_of_le_of_lt (Nat.min_le_left _ _) (by decide))

theorem hupRead_rises (s : State) : s.get pgShd F.SHD_VOLT_HUP ≤ s.hupRead.get pgShd F.SHD_VOLT_HUP := by
  have hlt : s.get pgShd F.SHD_VOLT_HUP < 65536 := get_lt s _ _
  rw [hupRead_eq]
  split
  · exact le_rfl
  · rw [showHup_hup]
    omega

end

/-! ## The whole microsecond -/

section
variable {K : Pg → Nat → Prop} {H : Half → Prop} {s : State}

/-- A microsecond before the watchdogs, before the safety cores, before HUP is read, and before the loader copies. -/
def State.tickRtc (s : State) : State := ({ s with time := s.time + 1 }).rtcTick
def State.tickDogs (s : State) : State := (s.tickRtc.watchdogTick .A).watchdogTick .B
def State.tickWake (s : State) : State := ((s.tickDogs.safTick .A).safTick .B).wakeTick
def State.tickHup (s : State) : State := s.tickWake.hupRead

theorem tick_eq (s : State) : tick s = s.tickHup.armTick := rfl

theorem tickDogs_ticks (hkal : ∀ o, ¬K pgKal o) (hwld : ∀ h, ¬K (pgWld h) F.WLD_WDOG_REMAIN.off) :
    Ticks K H { s with time := s.time + 1 } s.tickDogs :=
  ((rtcTick_ticks hkal).trans (watchdogTick_ticks (hwld .A))).trans (watchdogTick_ticks (hwld .B))

theorem safTicks_ticks (hsaf : ∀ h o, ¬K (pgSaf h) o) (hh : ∀ h, ¬H h) : Ticks K H s ((s.safTick .A).safTick .B) :=
  (safTick_ticks (hsaf .A) (hh .A)).trans (safTick_ticks (hsaf .B) (hh .B))

theorem tickHup_ticks (hsvc : ∀ o, ¬K pgSvc o) (hok : ¬K pgShd F.SHD_STATUS_HUP_OK.off) (hhup : ¬K pgShd F.SHD_VOLT_HUP.off) :
    Ticks K H ((s.tickDogs.safTick .A).safTick .B) s.tickHup := (wakeTick_ticks hsvc).trans (hupRead_ticks hok hhup)

/-- What the copy of the loader leaves of a register at the end of a microsecond. -/
theorem tick_get {p : Pg} {f : Fld} (hp : p.code < 0x10000) (hf : f.off < 0x10000) (hcopy : copyKeeps p f.off) :
    (tick s).get p f = s.tickHup.get p f :=
  congrArg f.ofWord ((armTick_frame s.tickHup).2 p f.off hp hf hcopy)

theorem copyKeeps_pgShd (o : Nat) : copyKeeps pgShd o :=
  ⟨.inl (by decide), fun _ => ⟨by decide, fun he => halfPg_ne_plinthPg _ _ _ he.1.symm⟩⟩

theorem pgSaf_ne_pgWld (h g : Half) : pgSaf h ≠ pgWld g := by cases h <;> cases g <;> decide

theorem copyKeeps_pgSaf (h : Half) (o : Nat) : copyKeeps (pgSaf h) o :=
  ⟨.inr (show 0x6C ≤ 0x90 ∧ 0x90 < 0xC000 by decide), fun g => ⟨halfPg_ne_plinthPg _ _ _, fun he => pgSaf_ne_pgWld h g he.1⟩⟩

theorem copyKeeps_remain (h : Half) : copyKeeps (pgWld h) F.WLD_WDOG_REMAIN.off :=
  ⟨.inr (show 0x6C ≤ 0xA0 ∧ 0xA0 < 0xC000 by decide), fun g => by simp [refusalKeeps, pgWld_ne_pgPat, F.WLD_WDOG_REMAIN]⟩

/-- The registers that time alone changes. -/
inductive TimeReg : Pg → Nat → Prop
  | kal (o : Nat) : TimeReg pgKal o
  | svc (o : Nat) : TimeReg pgSvc o
  | saf (h : Half) (o : Nat) : TimeReg (pgSaf h) o
  | dog (h : Half) : TimeReg (pgWld h) F.WLD_WDOG_REMAIN.off
  | hupOk : TimeReg pgShd F.SHD_STATUS_HUP_OK.off
  | hup : TimeReg pgShd F.SHD_VOLT_HUP.off

theorem tick_before_copy (s : State) : Ticks (fun p o => ¬TimeReg p o) (fun _ => False) { s with time := s.time + 1 } s.tickHup :=
  ((tickDogs_ticks (fun o hk => hk (.kal o)) fun h hk => hk (.dog h)).trans (safTicks_ticks (fun h o hk => hk (.saf h o)) fun _ hh => hh)).trans
    (tickHup_ticks (fun o hk => hk (.svc o)) (fun hk => hk .hupOk) fun hk => hk .hup)

theorem tick_hup_rises (s : State) : s.get pgShd F.SHD_VOLT_HUP ≤ (tick s).get pgShd F.SHD_VOLT_HUP := by
  have hdogs := tickDogs_ticks (K := fun p _ => p = pgShd) (H := fun _ => False) (s := s) (fun _ => by decide) fun h => halfPg_ne_plinthPg h _ _
  have hsafs := safTicks_ticks (K := fun p _ => p = pgShd) (H := fun _ => False) (s := s.tickDogs)
    (fun h _ => halfPg_ne_plinthPg h _ _) fun _ hh => hh
  have hwake : Ticks (fun p _ => p = pgShd) (fun _ => False) { s with time := s.time + 1 } s.tickWake :=
    (hdogs.trans hsafs).trans (wakeTick_ticks fun _ => by decide)
  have hkept : s.tickWake.get pgShd F.SHD_VOLT_HUP = s.get pgShd F.SHD_VOLT_HUP := hwake.get (by decide) (by decide) rfl
  rw [tick_get (by decide) (by decide) (copyKeeps_pgShd _), ← hkept]
  exact hupRead_rises _

theorem tick_hs (s : State) (h : Half) : (tick s).hs h = s.tickHup.hs h := armTick_hs _ h

/-- A half whose safety cores are held has them running again, where `u` stands before them and the rest of the microsecond after them. -/
theorem tick_saf_of {h : Half} {u : State} (hbefore : u.hs h = s.hs h)
    (hafter : Ticks (fun p _ => p = pgSaf h) (fun k => k = h) (u.safTick h) s.tickHup)
    (hhold : (s.hs h).saf.hold = true) : ((tick s).hs h).saf.hold = false ∧ ((tick s).hs h).saf.tcm = (s.hs h).saf.tcm ∧
      (tick s).flag (pgSaf h) F.SAF_STATUS_RUN = true := by
  obtain ⟨hsaf, hrun⟩ := safTick_runs (h := h) (s := u) (by rw [hbefore]; exact hhold)
  have hget : (tick s).get (pgSaf h) F.SAF_STATUS_RUN = 1 := by
    rw [tick_get (pgSaf_code_lt h) (by decide) (copyKeeps_pgSaf h _), hafter.get (pgSaf_code_lt h) (by decide) rfl, hrun]
  rw [tick_hs, hafter.halves h rfl, hsaf, hbefore, State.flag, hget]
  exact ⟨rfl, rfl, rfl⟩

theorem tick_saf {h : Half} (hhold : (s.hs h).saf.hold = true) : ((tick s).hs h).saf.hold = false ∧
    ((tick s).hs h).saf.tcm = (s.hs h).saf.tcm ∧ (tick s).flag (pgSaf h) F.SAF_STATUS_RUN = true := by
  have hdogs := tickDogs_ticks (K := fun _ _ => False) (H := fun _ => True) (s := s) (fun _ hk => hk) fun _ hk => hk
  have hend (g : Half) : Ticks (fun p _ => p = pgSaf g) (fun k => k = g) ((s.tickDogs.safTick .A).safTick .B) s.tickHup :=
    tickHup_ticks (fun _ => (halfPg_ne_plinthPg g _ _).symm) (halfPg_ne_plinthPg g _ _).symm (halfPg_ne_plinthPg g _ _).symm
  cases h with
  | A =>
    refine tick_saf_of (u := s.tickDogs) (hdogs.halves .A trivial) ?_ hhold
    exact (safTick_ticks (fun _ => by decide) (by decide)).trans (hend .A)
  | B =>
    have hA : Ticks (fun _ _ => False) (fun k => k = .B) s.tickDogs (s.tickDogs.safTick .A) := safTick_ticks (fun _ hk => hk) (by decide)
    exact tick_saf_of (u := s.tickDogs.safTick .A) ((hA.halves .B rfl).trans (hdogs.halves .B trivial)) (hend .B) hhold

/-- A watchdog that counts loses one, where `u` stands before it and the rest of the microsecond after it. -/
theorem tick_dog_of {h : Half} {u : State} (hbefore : Ticks (fun p _ => p = pgWld h) (fun _ => True) { s with time := s.time + 1 } u)
    (hafter : Ticks (fun p o => p = pgWld h ∧ o = F.WLD_WDOG_REMAIN.off) (fun _ => False) (u.watchdogTick h) s.tickHup)
    (hrun : (s.hs h).stage = .running) (htime : 0 < s.get (pgWld h) F.WLD_WDCFG_TIMEOUT) (hinv : s.flag (pgWld h) F.WLD_DBG_TRU_INV = false) :
    (tick s).get (pgWld h) F.WLD_WDOG_REMAIN = s.get (pgWld h) F.WLD_WDOG_REMAIN - 1 := by
  have hget (f : Fld) (hf : f.off < 0x10000) : u.get (pgWld h) f = s.get (pgWld h) f := hbefore.get (pgWld_code_lt h) hf rfl
  have hhs : u.hs h = s.hs h := (hbefore.halves h trivial).trans (by cases h <;> rfl)
  rw [tick_get (pgWld_code_lt h) (by decide) (copyKeeps_remain h), hafter.get (pgWld_code_lt h) (by decide) ⟨rfl, rfl⟩,
    watchdogTick_counts (by rw [hhs, hrun]) (by rwa [hget _ (by decide)]) ((flag_congr (hget _ (by decide))).trans hinv), hget _ (by decide)]

theorem tick_dog {h : Half} (hrun : (s.hs h).stage = .running) (htime : 0 < s.get (pgWld h) F.WLD_WDCFG_TIMEOUT)
    (hinv : s.flag (pgWld h) F.WLD_DBG_TRU_INV = false) :
    (tick s).get (pgWld h) F.WLD_WDOG_REMAIN = s.get (pgWld h) F.WLD_WDOG_REMAIN - 1 := by
  have hrtc (g : Half) : Ticks (fun p _ => p = pgWld g) (fun _ => True) { s with time := s.time + 1 } s.tickRtc :=
    rtcTick_ticks fun _ => (halfPg_ne_plinthPg g _ _).symm
  have hend (g : Half) : Ticks (fun p o => p = pgWld g ∧ o = F.WLD_WDOG_REMAIN.off) (fun _ => False) s.tickDogs s.tickHup := by
    refine (safTicks_ticks (fun k _ hk => ?_) fun _ hh => hh).trans (tickHup_ticks (fun _ hk => halfPg_ne_plinthPg g _ _ hk.1.symm)
      (fun hk => halfPg_ne_plinthPg g _ _ hk.1.symm) fun hk => halfPg_ne_plinthPg g _ _ hk.1.symm)
    exact pgSaf_ne_pgWld k g hk.1
  cases h with
  | A =>
    refine tick_dog_of (u := s.tickRtc) (hrtc .A) ?_ hrun htime hinv
    exact (watchdogTick_ticks (by decide)).trans (hend .A)
  | B =>
    exact tick_dog_of (u := s.tickRtc.watchdogTick .A) ((hrtc .B).trans (watchdogTick_ticks (by decide))) (hend .B) hrun htime hinv

end

/-- Settles O2: the parts of a microsecond in turn, and the copy of the loader after them. That an empty queue lets a microsecond pass (log entry 9)
and that HUP does not fall (log entry 152) are the model's choices. -/
theorem idleStepCountsTime : Obligations.IdleStepCountsTime := by
  unfold Obligations.IdleStepCountsTime
  intro s hidle
  have hticks := tick_before_copy s
  obtain ⟨hmram, hdramA, hdramB, hspmA, hspmB⟩ := hticks.memEq
  have hcopy := (armTick_frame s.tickHup).1
  have hrest := hticks.rest
  refine ⟨tick s, ?_, ?_, ?_, ?_, ?_, ?_, ?_, fun harm => ?_, fun _ => tick_hup_rises s, fun h => tick_saf,
    fun h hrun htime hinv _ => tick_dog hrun htime hinv⟩
  · rw [step, hidle]
  · rw [tick_eq, hcopy, hrest]
  · rw [tick_eq, hcopy, hrest]
    exact hidle
  · rw [tick_eq, hcopy, hdramA]
  · rw [tick_eq, hcopy, hdramB]
  · rw [tick_eq, hcopy, hspmA]
  · rw [tick_eq, hcopy, hspmB]
  · have hnone : s.tickHup.arm = none := by
      rw [hrest]
      exact harm
    rw [tick_eq, armTick_of_none hnone]
    refine ⟨hmram, hticks.regs.mono fun p o hk ht => ?_⟩
    obtain ⟨hkal, hsvc, hsafA, hsafB, hdogA, hdogB, hshd⟩ := hk
    cases ht with
    | kal => exact hkal rfl
    | svc => exact hsvc rfl
    | saf h =>
      cases h with
      | A => exact hsafA rfl
      | B => exact hsafB rfl
    | dog h =>
      cases h with
      | A => exact hdogA ⟨rfl, rfl⟩
      | B => exact hdogB ⟨rfl, rfl⟩
    | hupOk => exact hshd ⟨rfl, .inl rfl⟩
    | hup => exact hshd ⟨rfl, .inr rfl⟩

end Sys2Proof.Machine
end

section
/-! SUPPORT. The life cycle and its operations (R228, R372 to R378, R391): what begins one, and what its end leaves. -/

namespace Sys2Proof.Machine

theorem exec_lcsProvision (rq : Requester) (s : State) : exec (.lcsProvision rq) s = execLcsProvision rq s := rfl
theorem exec_lcsService (rq : Requester) (s : State) : exec (.lcsService rq) s = execLcsService rq s := rfl
theorem exec_lcsRetire (rq : Requester) (c : Byte) (s : State) : exec (.lcsRetire rq c) s = execLcsRetire rq c s := rfl
theorem exec_lcsKeyUpdate (rq : Requester) (s : State) : exec (.lcsKeyUpdate rq) s = execLcsKeyUpdate rq s := rfl
theorem exec_lcsOperationDone (keys : List Byte) (s : State) : exec (.lcsOperationDone keys) s = execLcsOperationDone keys s := rfl
theorem exec_svcProvision (record : List Byte) (s : State) : exec (.svcProvision record) s = execSvcProvision record s := rfl

/-! ## The commands of the LCS page -/

section
variable {s : State}

/-- The answer to the access changes nothing of the record that it reads. -/
theorem ack_lcsRecord (s : State) (h : Half) :
    s.ack.lcsRecord h = s.bytesAt h tagTrusted .read (s.get pgLcs F.LCS_SRC_PAGE * 4096) 0x2000 := by
  have hreads : ReadsAlike h s s.ack := ⟨keepsAdmission_of rfl, ack_hs s h, by cases h <;> rfl, by cases h <;> rfl⟩
  exact bytesAt_congr hreads _ _

theorem lcsBegin_busy {op : Nat} {rec : List Byte} {svc conf : Bool} (hrun : s.lcs ≠ none) :
    s.lcsBegin op rec svc conf = (s.put pgLcs F.LCS_STATUS_DONE 1).put pgLcs F.LCS_STATUS_RESULT 1 :=
  if_pos (Option.isSome_iff_ne_none.mpr hrun)

theorem lcsBegin_wrongState {op : Nat} {rec : List Byte} {svc conf : Bool} (hidle : s.lcs = none) (hno : lcsAccepts s.lcState op = false) :
    s.lcsBegin op rec svc conf = s.lcsEnd 2 := by
  rw [State.lcsBegin, if_neg (by simp [hidle]), if_pos (by rw [hno]; rfl)]

theorem lcsBegin_notConfirmed {op : Nat} {rec : List Byte} {svc conf : Bool} (hidle : s.lcs = none) (hok : lcsAccepts s.lcState op = true)
    (hconf : conf = false) : s.lcsBegin op rec svc conf = s.lcsEnd 6 := by
  rw [State.lcsBegin, if_neg (by simp [hidle]), if_neg (by simp [hok]), if_pos (by rw [hconf]; rfl)]

theorem lcsBegin_badRecord {op r : Nat} {rec : List Byte} {svc conf : Bool} (hidle : s.lcs = none) (hok : lcsAccepts s.lcState op = true)
    (hconf : conf = true) (hop : op = 1 ∨ op = 4) (hbad : s.recordBad op rec = some r) : s.lcsBegin op rec svc conf = s.lcsEnd r := by
  rw [State.lcsBegin, if_neg (by simp [hidle]), if_neg (by simp [hok]), if_neg (by simp [hconf]), if_pos (by simpa using hop), hbad]

theorem lcsBegin_starts {op : Nat} {rec : List Byte} {svc conf : Bool} (hidle : s.lcs = none) (hok : lcsAccepts s.lcState op = true)
    (hconf : conf = true) (hgood : op = 1 ∨ op = 4 → s.recordBad op rec = none) :
    s.lcsBegin op rec svc conf = ({ s with lcs := some { op := op, record := rec, service := svc } }).put pgLcs F.LCS_STATUS_BUSY 1 := by
  have hnone : (if (op = 1 || op = 4) = true then s.recordBad op rec else none) = none := by
    split
    next hop => exact hgood (by simpa using hop)
    next => rfl
  rw [State.lcsBegin, if_neg (by simp [hidle]), if_neg (by simp [hok]), if_neg (by simp [hconf]), hnone]

/-! ## The Trusted debug enables (R225, R228) -/

/-- Outside Provisioned the Trusted debug enables of one half go, and their change is measured. -/
def State.dbgClosed (s : State) (h : Half) : State :=
  if s.get pgLcs F.LCS_STATUS_STATE = 1 || !(s.flag (pgWld h) F.WLD_DBG_TRU_NINV || s.flag (pgWld h) F.WLD_DBG_TRU_INV) then s
  else ((s.put (pgWld h) F.WLD_DBG_TRU_NINV 0).put (pgWld h) F.WLD_DBG_TRU_INV 0).dbgMeasure h

theorem dbgRefresh_eq (s : State) : s.dbgRefresh = (s.dbgClosed .A).dbgClosed .B := rfl

theorem onlyRegs_trans {t u : State} (hst : t = { s with regs := t.regs }) (htu : u = { t with regs := u.regs }) :
    u = { s with regs := u.regs } := by
  rw [hst] at htu
  exact htu

/-- `t` is `s` but for registers of the world controller of a half. -/
def OnlyWld (h : Half) (s t : State) : Prop := t = { s with regs := t.regs } ∧ KeepsRegs (fun p _ => p ≠ pgWld h) s t

theorem onlyWld_rfl (h : Half) (s : State) : OnlyWld h s s := ⟨rfl, keepsRegs_of rfl⟩

theorem OnlyWld.setReg {h : Half} {r : State} (hs : OnlyWld h r s) {o : Nat} (w : Word) (ho : o < 0x10000) :
    OnlyWld h r (s.setReg (pgWld h) o w) := by
  obtain ⟨heq, hregs⟩ := hs
  exact ⟨onlyRegs_trans heq rfl, hregs.trans (keepsRegs_setReg s w (pgWld_code_lt h) ho (not_not_intro rfl))⟩

/-- A measurement register is extended: WLD_DBG stays. -/
theorem dbgMeasure_frame (s : State) (h : Half) : OnlyWld h s (s.dbgMeasure h) ∧ (s.dbgMeasure h).reg (pgWld h) 0x30 = s.reg (pgWld h) 0x30 := by
  refine each_keeps (P := fun u => OnlyWld h s u ∧ u.reg (pgWld h) 0x30 = s.reg (pgWld h) 0x30) ⟨onlyWld_rfl h s, rfl⟩ fun w hw u hu => ?_
  have hlt := mem_upTo.mp hw
  exact ⟨hu.1.setReg _ (by omega), (reg_setReg_ne u _ (key_ne_of_off (by omega))).trans hu.2⟩

theorem dbgClosed_frame (s : State) (h : Half) : OnlyWld h s (s.dbgClosed h) := by
  unfold State.dbgClosed
  split
  · exact onlyWld_rfl h s
  · obtain ⟨⟨heq, hregs⟩, _⟩ := dbgMeasure_frame ((s.put (pgWld h) F.WLD_DBG_TRU_NINV 0).put (pgWld h) F.WLD_DBG_TRU_INV 0) h
    have hput : OnlyWld h s ((s.put (pgWld h) F.WLD_DBG_TRU_NINV 0).put (pgWld h) F.WLD_DBG_TRU_INV 0) :=
      ((onlyWld_rfl h s).setReg _ (by decide)).setReg _ (by decide)
    exact ⟨onlyRegs_trans hput.1 heq, hput.2.trans hregs⟩

theorem dbgClosed_closes {h : Half} (hstate : s.get pgLcs F.LCS_STATUS_STATE ≠ 1) :
    (s.dbgClosed h).flag (pgWld h) F.WLD_DBG_TRU_INV = false ∧ (s.dbgClosed h).flag (pgWld h) F.WLD_DBG_TRU_NINV = false := by
  unfold State.dbgClosed
  split
  next hclosed => simpa [hstate, and_comm] using hclosed
  next =>
    have hdbg (f : Fld) (hf : f.off = 0x30) (u : State) : (u.dbgMeasure h).flag (pgWld h) f = u.flag (pgWld h) f := by
      rw [State.flag, State.flag, State.get, State.get, hf, (dbgMeasure_frame u h).2]
    rw [hdbg _ rfl, hdbg _ rfl, flag_put_zero _ _ _ (by decide), flag_put_apart _ _ _ (by decide) (by decide), flag_put_zero _ _ _ (by decide)]
    exact ⟨rfl, rfl⟩

theorem dbgRefresh_frame (s : State) : s.dbgRefresh = { s with regs := s.dbgRefresh.regs } ∧
    KeepsRegs (fun p _ => p ≠ pgWld .A ∧ p ≠ pgWld .B) s s.dbgRefresh := by
  obtain ⟨heqA, hregsA⟩ := dbgClosed_frame s .A
  obtain ⟨heqB, hregsB⟩ := dbgClosed_frame (s.dbgClosed .A) .B
  exact ⟨onlyRegs_trans heqA heqB, (hregsA.mono fun _ _ hk => hk.1).trans (hregsB.mono fun _ _ hk => hk.2)⟩

theorem dbgRefresh_closes (hstate : s.get pgLcs F.LCS_STATUS_STATE ≠ 1) (h : Half) :
    s.dbgRefresh.flag (pgWld h) F.WLD_DBG_TRU_INV = false ∧ s.dbgRefresh.flag (pgWld h) F.WLD_DBG_TRU_NINV = false := by
  have hA := (dbgClosed_frame s .A).2
  have hB := (dbgClosed_frame (s.dbgClosed .A) .B).2
  rw [dbgRefresh_eq]
  cases h with
  | A =>
    have hne : pgWld .A ≠ pgWld .B := by decide
    have hdbg {f : Fld} (hf : f.off < 0x10000) : ((s.dbgClosed .A).dbgClosed .B).flag (pgWld .A) f = (s.dbgClosed .A).flag (pgWld .A) f :=
      flag_congr (congrArg f.ofWord (hB _ _ (by decide) hf hne))
    rw [hdbg (by decide), hdbg (by decide)]
    exact dbgClosed_closes hstate
  | B =>
    have hstate' : (s.dbgClosed .A).get pgLcs F.LCS_STATUS_STATE ≠ 1 := by
      rw [State.get, hA pgLcs _ (by decide) (by decide) (by decide)]
      exact hstate
    exact dbgClosed_closes hstate'

/-! ## The end of an operation (R373, R374, R378) -/

theorem writesAll_eq (ws : List (Nat × List Byte)) (s : State) :
    s.writesAll ws = { s with mram := ws.foldl (fun m w => memSetBytes m w.1 w.2) s.mram } := by
  induction ws generalizing s with
  | nil => rfl
  | cons w r ih => exact ih (s.setMram w.1 w.2)

/-- The state in force and the keys depend on MRAM and the latch alone. -/
theorem lcState_congr {t : State} (hmram : t.mram = s.mram) (hpw : t.pw = s.pw) : t.lcState = s.lcState := by
  simp only [State.lcState, State.mramNat, hmram, hpw]

theorem keyGenOf_congr {t : State} (hmram : t.mram = s.mram) (k : Nat) : t.keyGenOf k = s.keyGenOf k := by
  rw [State.keyGenOf, State.keyGenOf, State.mramNat, State.mramNat, hmram]

theorem keySlot_congr {t : State} (hmram : t.mram = s.mram) : t.keySlot = s.keySlot := by
  have hvalid (k : Nat) : t.keyValid k = s.keyValid k := by
    rw [State.keyValid, State.keyValid, State.mramBytes, State.mramBytes, State.mramNat, State.mramNat, hmram]
  rw [State.keySlot, State.keySlot, hvalid, hvalid, keyGenOf_congr hmram, keyGenOf_congr hmram]

theorem keyGen_congr {t : State} (hmram : t.mram = s.mram) : t.keyGen = s.keyGen := by
  rw [State.keyGen, State.keyGen, keySlot_congr hmram]
  cases s.keySlot with
  | none => rfl
  | some k => exact keyGenOf_congr hmram k

/-- LCS_STATUS shows the state and the keys in force, and its other fields stay. -/
theorem lcShow_state (s : State) : s.lcShow.get pgLcs F.LCS_STATUS_STATE = s.lcState % 4 := by
  rw [State.lcShow, get_put_apart _ _ _ (by decide) (by decide), get_put_apart _ _ _ (by decide) (by decide), get_put_same _ _ _ _ (by decide),
    show 2 ^ F.LCS_STATUS_STATE.width = 4 from rfl]

theorem lcShow_slot (s : State) : s.lcShow.get pgLcs F.LCS_STATUS_KSLOT = s.keySlot.getD 0 % 2 := by
  rw [State.lcShow, get_put_apart _ _ _ (by decide) (by decide), get_put_same _ _ _ _ (by decide), keySlot_congr (s := s) (put_mram _ _ _ _),
    show 2 ^ F.LCS_STATUS_KSLOT.width = 2 from rfl]

theorem lcShow_gen (s : State) : s.lcShow.get pgLcs F.LCS_STATUS_KEYGEN = s.keyGen % 65536 := by
  rw [State.lcShow, get_put_same _ _ _ _ (by decide), keyGen_congr (s := s) ((put_mram _ _ _ _).trans (put_mram _ _ _ _)),
    show 2 ^ F.LCS_STATUS_KEYGEN.width = 65536 from rfl]

theorem put_onlyRegs (s : State) (p : Pg) (f : Fld) (v : Nat) : s.put p f v = { s with regs := (s.put p f v).regs } := rfl

theorem lcShow_onlyRegs (s : State) : s.lcShow = { s with regs := s.lcShow.regs } :=
  onlyRegs_trans (onlyRegs_trans (put_onlyRegs _ _ _ _) (put_onlyRegs _ _ _ _)) (put_onlyRegs _ _ _ _)

theorem lcShow_apart (s : State) {f : Fld} (hstate : F.LCS_STATUS_STATE.apart f = true) (hslot : F.LCS_STATUS_KSLOT.apart f = true)
    (hgen : F.LCS_STATUS_KEYGEN.apart f = true) : s.lcShow.get pgLcs f = s.get pgLcs f := by
  rw [State.lcShow, get_put_apart _ _ _ (by decide) hgen, get_put_apart _ _ _ (by decide) hslot, get_put_apart _ _ _ (by decide) hstate]

theorem lcsEnd_onlyRegs (s : State) (result : Nat) : s.lcsEnd result = { s with regs := (s.lcsEnd result).regs, lcs := none } :=
  onlyRegs_trans (onlyRegs_trans (put_onlyRegs { s with lcs := none } _ _ _) (put_onlyRegs _ _ _ _)) (put_onlyRegs _ _ _ _)

theorem lcsEnd_get (s : State) (result : Nat) : (s.lcsEnd result).get pgLcs F.LCS_STATUS_BUSY = 0 ∧
    (s.lcsEnd result).get pgLcs F.LCS_STATUS_DONE = 1 ∧ (s.lcsEnd result).get pgLcs F.LCS_STATUS_RESULT = result % 256 := by
  refine ⟨?_, ?_, ?_⟩
  · rw [State.lcsEnd, get_put_apart _ _ _ (by decide) (by decide), get_put_apart _ _ _ (by decide) (by decide), get_put_same _ _ _ _ (by decide)]
    rfl
  · rw [State.lcsEnd, get_put_apart _ _ _ (by decide) (by decide), get_put_same _ _ _ _ (by decide)]
    rfl
  · exact get_put_same _ _ _ _ (by decide)

/-- The state after the writes of an operation, with the end of it shown. -/
def State.lcsDone (s : State) (o : LcsOp) (keys : List Byte) : State := (((s.writesAll (s.lcsWrites o keys)).lcsEnd 0).lcShow)

theorem lcsOperationDone_none {keys : List Byte} (hnone : s.lcs = none) : exec (.lcsOperationDone keys) s = .next s := by
  rw [exec_lcsOperationDone, execLcsOperationDone, hnone]

theorem lcsOperationDone_some {keys : List Byte} {o : LcsOp} (hsome : s.lcs = some o) :
    exec (.lcsOperationDone keys) s = .next (s.lcsDone o keys).dbgRefresh := by
  rw [exec_lcsOperationDone, execLcsOperationDone, hsome]
  rfl

/-- Writes of MRAM, an operation that goes, and registers that change, in turn. -/
theorem endedFrame {t u v : State} {m : List Host.Cell} (hu : u = { s with mram := m }) (hv : v = { u with regs := v.regs, lcs := none })
    (ht : t = { v with regs := t.regs }) : t = { s with regs := t.regs, lcs := none, mram := m } := by
  rw [hv, hu] at ht
  exact ht

/-- The end of an operation changes MRAM as its writes say, the operation, and the LCS page. -/
theorem lcsDone_frame (s : State) (o : LcsOp) (keys : List Byte) : s.lcsDone o keys =
    { s with regs := (s.lcsDone o keys).regs, lcs := none, mram := (s.lcsWrites o keys).foldl (fun m w => memSetBytes m w.1 w.2) s.mram } ∧
    KeepsRegs (fun p _ => p ≠ pgLcs) s (s.lcsDone o keys) := by
  have hput (f : Fld) (hf : f.off < 0x10000) (v : Nat) (u : State) : KeepsRegs (fun p _ => p ≠ pgLcs) u (u.put pgLcs f v) :=
    keepsRegs_put u v (by decide) hf (not_not_intro rfl)
  have hend (u : State) : KeepsRegs (fun p _ => p ≠ pgLcs) u (u.lcsEnd 0) :=
    (((keepsRegs_of rfl).trans (hput F.LCS_STATUS_BUSY (by decide) _ _)).trans (hput F.LCS_STATUS_DONE (by decide) _ _)).trans
      (hput F.LCS_STATUS_RESULT (by decide) _ _)
  have hshow (u : State) : KeepsRegs (fun p _ => p ≠ pgLcs) u u.lcShow :=
    ((hput F.LCS_STATUS_STATE (by decide) _ _).trans (hput F.LCS_STATUS_KSLOT (by decide) _ _)).trans (hput F.LCS_STATUS_KEYGEN (by decide) _ _)
  refine ⟨?_, ((keepsRegs_of ?_).trans (hend _)).trans (hshow _)⟩
  · exact endedFrame (writesAll_eq _ _) (lcsEnd_onlyRegs _ _) (lcShow_onlyRegs _)
  · rw [writesAll_eq]

theorem lcsDone_status (s : State) (o : LcsOp) (keys : List Byte) : (s.lcsDone o keys).get pgLcs F.LCS_STATUS_BUSY = 0 ∧
    (s.lcsDone o keys).get pgLcs F.LCS_STATUS_DONE = 1 ∧ (s.lcsDone o keys).get pgLcs F.LCS_STATUS_RESULT = 0 := by
  obtain ⟨hbusy, hdone, hresult⟩ := lcsEnd_get (s.writesAll (s.lcsWrites o keys)) 0
  rw [State.lcsDone, lcShow_apart _ (by decide) (by decide) (by decide), lcShow_apart _ (by decide) (by decide) (by decide),
    lcShow_apart _ (by decide) (by decide) (by decide)]
  exact ⟨hbusy, hdone, hresult⟩

/-- What LCS_STATUS shows is the state and the keys that are in force once the writes are done. -/
theorem lcsDone_shows (s : State) (o : LcsOp) (keys : List Byte) :
    (s.lcsDone o keys).get pgLcs F.LCS_STATUS_STATE = (s.lcsDone o keys).lcState % 4 ∧
    (s.lcsDone o keys).get pgLcs F.LCS_STATUS_KSLOT = (s.lcsDone o keys).keySlot.getD 0 % 2 ∧
    (s.lcsDone o keys).get pgLcs F.LCS_STATUS_KEYGEN = (s.lcsDone o keys).keyGen % 65536 := by
  have hmram : (s.lcsDone o keys).mram = ((s.writesAll (s.lcsWrites o keys)).lcsEnd 0).mram := by
    rw [State.lcsDone, lcShow_onlyRegs]
  have hpw : (s.lcsDone o keys).pw = ((s.writesAll (s.lcsWrites o keys)).lcsEnd 0).pw := by
    rw [State.lcsDone, lcShow_onlyRegs]
  rw [lcState_congr hmram hpw, keySlot_congr hmram, keyGen_congr hmram]
  exact ⟨lcShow_state _, lcShow_slot _, lcShow_gen _⟩

end

/-- Settles O41, clause by clause: the commands of the LCS page, the checks of an operation in the order that the model gives them,
its end, and the service port. -/
theorem lifeCycle : Obligations.LifeCycle := by
  unfold Obligations.LifeCycle
  refine ⟨fun rq s hadm => ⟨?_, ?_, ?_, fun c => ?_⟩, fun op rec svc conf s => ⟨lcsBegin_busy, lcsBegin_wrongState, lcsBegin_notConfirmed,
    fun r => lcsBegin_badRecord, lcsBegin_starts⟩, fun keys o s hsome => ?_, fun keys s => lcsOperationDone_none, fun rec s => ⟨?_, ?_⟩⟩
  · rw [exec_lcsProvision, execLcsProvision, hostWrite_admitted hadm, ack_lcsRecord]
  · rw [exec_lcsKeyUpdate, execLcsKeyUpdate, hostWrite_admitted hadm, ack_lcsRecord]
  · rw [exec_lcsService, execLcsService, hostWrite_admitted hadm]
  · rw [exec_lcsRetire, execLcsRetire, hostWrite_admitted hadm]
  · obtain ⟨hdone, hregs⟩ := lcsDone_frame s o keys
    obtain ⟨hbusy, hdoneBit, hresult⟩ := lcsDone_status s o keys
    obtain ⟨hstate, hslot, hgen⟩ := lcsDone_shows s o keys
    obtain ⟨hrefresh, hkept⟩ := dbgRefresh_frame (s.lcsDone o keys)
    have hlcs {f : Fld} (hf : f.off < 0x10000) : (s.lcsDone o keys).dbgRefresh.get pgLcs f = (s.lcsDone o keys).get pgLcs f :=
      congrArg f.ofWord (hkept pgLcs f.off (by decide) hf ⟨(halfPg_ne_plinthPg _ _ _).symm, (halfPg_ne_plinthPg _ _ _).symm⟩)
    have hmram : (s.lcsDone o keys).dbgRefresh.mram = (s.lcsDone o keys).mram := by rw [hrefresh]
    have hpw : (s.lcsDone o keys).dbgRefresh.pw = (s.lcsDone o keys).pw := by rw [hrefresh]
    refine ⟨_, lcsOperationDone_some hsome, ?_, ?_, ?_, ?_, ?_, ?_, ?_, ?_, ?_, ?_, ?_, ?_, ?_, fun hopen h => ?_⟩
    · rw [hmram, hdone]
    · rw [hrefresh, hdone]
    · rw [State.flag, hlcs (by decide), hbusy]
      rfl
    · rw [State.flag, hlcs (by decide), hdoneBit]
      rfl
    · rw [hlcs (by decide), hresult]
    · rw [hlcs (by decide), hstate, lcState_congr hmram hpw]
    · rw [hlcs (by decide), hslot, keySlot_congr hmram]
    · rw [hlcs (by decide), hgen, keyGen_congr hmram]
    · rw [hrefresh, hdone]
    · rw [hrefresh, hdone]
    · rw [hrefresh, hdone]
    · rw [hrefresh, hdone]
    · exact (hregs.mono fun p _ hk => hk.1).trans (hkept.mono fun p _ hk => hk.2)
    · refine dbgRefresh_closes ?_ h
      rwa [hstate, ← lcState_congr hmram hpw]
  · intro hmode htool hlive
    rw [exec_svcProvision, execSvcProvision, if_neg (by simp [hmode, mMaquette, htool, hlive, lcRetired])]
  · intro hno
    have hguard : (decide (s.mode ≠ mMaquette) || !(s.flag pgSvc F.SVC_STATUS_ATTACHED) || decide (s.lcState = lcRetired)) = true := by
      rcases hno with hno | hno | hno <;> simp [hno, mMaquette, lcRetired]
    rw [exec_svcProvision, execSvcProvision, if_pos hguard]

end Sys2Proof.Machine
end

section
/-! SUPPORT. The instances of the two hubs (R232 to R250): which registers and records the shared operations of the hub change, what they
show of INST_STATUS, and what they leave of the others. An INST is one of the 64 instances of a hub, as its page INST shows it. -/

namespace Sys2Proof.Machine

section
variable {h k : Half} {i j : Nat} {r s t : State}

/-! ## The pages of an INST -/

theorem pgInst_code_lt (hi : i < 64) : (pgInst h i).code < 0x10000 := show 0x400 + 2 * i < 0x10000 by omega

theorem pgInsq_code_lt (hi : i < 64) : (pgInsq h i).code < 0x10000 := show 0x401 + 2 * i < 0x10000 by omega

theorem pgIns_code_lt (h : Half) : (pgIns h).code < 0x10000 := show 0xB0 < 0x10000 by decide

theorem halfPg_ne {c d : Nat} (hcd : c ≠ d) : halfPg h c ≠ halfPg k d := fun he => hcd (congrArg Pg.code he)

theorem pgInst_ne (hij : i ≠ j) : pgInst h i ≠ pgInst k j := halfPg_ne (by omega)
theorem pgInst_ne_pgIns : pgInst h i ≠ pgIns k := halfPg_ne (by omega)
theorem pgInsq_ne_pgInst : pgInsq h i ≠ pgInst k j := halfPg_ne (by omega)
theorem pgInsq_ne_pgIns : pgInsq h i ≠ pgIns k := halfPg_ne (by omega)

/-- The offset of an INST's field of INS_STATE. -/
theorem insState_off_lt (hi : i < 64) : 4 * (i / 8) < 0x10000 := by omega

/-! ## The record of an INST -/

theorem inst_setInst_ne (s : State) (v : Inst) (hij : i ≠ j) : (s.setInst k j v).inst h i = s.inst h i := by
  have hother (g : Half) (u : Inst) : (s.setInst g j u).inst g i = s.inst g i := by
    simp only [State.inst, State.setInst, hs_setHs_same]
    exact tblGet_set_ne _ _ _ hij
  cases h <;> cases k
  · exact hother .A v
  · rfl
  · rfl
  · exact hother .B v

theorem inst_setInst_other (s : State) (v : Inst) : (s.setInst (Half.other h) j v).inst h i = s.inst h i := by cases h <;> rfl

@[simp] theorem setInst_regs (s : State) (v : Inst) : (s.setInst h i v).regs = s.regs := setHs_regs _ _ _
@[simp] theorem setInst_get (s : State) (v : Inst) (p : Pg) (f : Fld) : (s.setInst h i v).get p f = s.get p f := setHs_r_get _ _ _ _ _
@[simp] theorem setInst_flag (s : State) (v : Inst) (p : Pg) (f : Fld) : (s.setInst h i v).flag p f = s.flag p f := setHs_r_flag _ _ _ _ _
@[simp] theorem setInst_instState (s : State) (v : Inst) : (s.setInst h i v).instState k j = s.instState k j := setInst_get _ _ _ _
@[simp] theorem put_inst (s : State) (p : Pg) (f : Fld) (v : Nat) : (s.put p f v).inst h i = s.inst h i := by simp [State.inst]
@[simp] theorem raise_inst (s : State) (p : Pg) : (s.raise p).inst h i = s.inst h i := by simp [State.inst]

theorem memEq_raise (s : State) (p : Pg) : MemEq s (s.raise p) := ⟨rfl, rfl, rfl, rfl, rfl⟩

theorem memEq_setInst (s : State) (v : Inst) : MemEq s (s.setInst h i v) := memEq_setHs s h _

/-! ## The end of an operation (INST_STATUS) -/

theorem instDone_onlyPage (hi : i < 64) (s : State) (op result : Nat) : OnlyPage (pgInst h i) s (s.instDone h i op result) := by
  have hcode : (pgInst h i).code < 0x10000 := pgInst_code_lt hi
  exact (((((onlyPage_rfl _ s).put _ hcode (by decide)).put _ hcode (by decide)).put _ hcode (by decide)).put _ hcode (by decide)).raise _

@[simp] theorem instDone_inst (s : State) (op result : Nat) : (s.instDone k j op result).inst h i = s.inst h i := by simp [State.instDone]

theorem memEq_instDone (s : State) (op result : Nat) : MemEq s (s.instDone h i op result) :=
  ((((memEq_put s _ _ _).put _ _ _).put _ _ _).put _ _ _).trans (memEq_raise _ _)

/-- The end of an operation leaves the registers of the INST but INST_STATUS. -/
theorem instDone_reg_off (s : State) (op result : Nat) {o : Nat} (ho : o ≠ F.INST_STATUS_BUSY.off) :
    (s.instDone h i op result).reg (pgInst h i) o = s.reg (pgInst h i) o := by
  have hput (t : State) (f : Fld) (v : Nat) (hf : f.off = F.INST_STATUS_BUSY.off) : (t.put (pgInst h i) f v).reg (pgInst h i) o = t.reg (pgInst h i) o :=
    reg_setReg_ne t _ (key_ne_of_off (hf ▸ ho))
  simp only [State.instDone, raise_r_reg]
  rw [hput _ F.INST_STATUS_RESULT _ rfl, hput _ F.INST_STATUS_OP _ rfl, hput _ F.INST_STATUS_DONE _ rfl, hput _ F.INST_STATUS_BUSY _ rfl]

theorem instDone_get_off (s : State) (op result : Nat) {f : Fld} (hf : f.off ≠ F.INST_STATUS_BUSY.off) :
    (s.instDone h i op result).get (pgInst h i) f = s.get (pgInst h i) f := congrArg f.ofWord (instDone_reg_off s op result hf)

/-- INST_STATUS shows that no operation goes on, and the one that has ended with its result. -/
theorem instDone_status (s : State) (op result : Nat) :
    (s.instDone h i op result).flag (pgInst h i) F.INST_STATUS_DONE = true ∧ (s.instDone h i op result).flag (pgInst h i) F.INST_STATUS_BUSY = false ∧
    (s.instDone h i op result).get (pgInst h i) F.INST_STATUS_OP = op % 16 ∧
    (s.instDone h i op result).get (pgInst h i) F.INST_STATUS_RESULT = result % 256 := by
  simp only [State.instDone, raise_r_flag, raise_r_get]
  refine ⟨?_, ?_, ?_, get_put_same _ _ _ _ (by decide)⟩
  · rw [flag_put_apart _ _ _ (by decide) (by decide), flag_put_apart _ _ _ (by decide) (by decide), flag_put_one _ _ _ (by decide) (by decide)]
  · rw [flag_put_apart _ _ _ (by decide) (by decide), flag_put_apart _ _ _ (by decide) (by decide),
      flag_put_apart _ _ _ (by decide) (by decide), flag_put_zero _ _ _ (by decide)]
  · rw [get_put_apart _ _ _ (by decide) (by decide)]
    exact get_put_same _ _ _ _ (by decide)

/-! ## The next read of a mailbox on the PCIe bus -/

theorem busFetch_local (s : State) (hbus : s.mboxBus h i = false) : s.busFetch h i = s := by simp [State.busFetch, hbus]

/-- A fetch does nothing, or its read goes out with the next tag. -/
theorem busFetch_cases (s : State) (h : Half) (i : Nat) : s.busFetch h i = s ∨
    s.busFetch h i = s.setInst h i { s.inst h i with busReq := some (s.inst h i).busTag, busTag := (s.inst h i).busTag + 1 } := by
  unfold State.busFetch
  extract_lets t
  split
  · exact .inr rfl
  · exact .inl rfl

@[simp] theorem busFetch_regs (s : State) : (s.busFetch h i).regs = s.regs := by
  rcases busFetch_cases s h i with heq | heq
  · rw [heq]
  · rw [heq, setInst_regs]

@[simp] theorem busFetch_reg (s : State) (p : Pg) (o : Nat) : (s.busFetch h i).reg p o = s.reg p o := reg_congr (busFetch_regs s) p o
@[simp] theorem busFetch_get (s : State) (p : Pg) (f : Fld) : (s.busFetch h i).get p f = s.get p f := congrArg f.ofWord (busFetch_reg s p f.off)
@[simp] theorem busFetch_flag (s : State) (p : Pg) (f : Fld) : (s.busFetch h i).flag p f = s.flag p f := flag_congr (busFetch_get s p f)

/-- Of the record of the INST, only the read in flight and the count of tags follow. -/
theorem busFetch_inst (s : State) : ∃ req tag, (s.busFetch h i).inst h i = { s.inst h i with busReq := req, busTag := tag } := by
  rcases busFetch_cases s h i with heq | heq
  · exact ⟨_, _, by rw [heq]⟩
  · exact ⟨_, _, by rw [heq, inst_setInst_same]⟩

/-! ## The state of an INST -/

theorem setInstState_instState (hi : i < 64) (s : State) (v : Nat) : (s.setInstState h i v).instState h i = v % 16 := by
  have hins : (pgInst h i).key F.INST_STATE_STATE.off ≠ (pgIns h).key (4 * (i / 8)) :=
    key_ne_of_page (pgIns_code_lt h) (pgInst_code_lt hi) (insState_off_lt hi) (by decide) pgInst_ne_pgIns
  unfold State.instState State.setInstState
  rw [get_put_reg _ _ hins]
  exact get_put_same _ _ _ _ (by decide)

/-! ## What is of one INST -/

/-- `t` is `s` but for the INST pages of INST `i`, INS_STATE, and the records of the INST in the two hubs; no memory changes. -/
structure OnInstance (i : Nat) (s t : State) : Prop where
  regs : KeepsRegs (fun p _ => ∀ k, p ≠ pgInst k i ∧ p ≠ pgIns k) s t
  mem : MemEq s t
  others : ∀ k j, j ≠ i → t.inst k j = s.inst k j

theorem onInstance_rfl (i : Nat) (s : State) : OnInstance i s s := ⟨keepsRegs_of rfl, memEq_rfl s, fun _ _ _ => rfl⟩

theorem OnInstance.trans (hrs : OnInstance i r s) (hst : OnInstance i s t) : OnInstance i r t :=
  ⟨hrs.regs.trans hst.regs, hrs.mem.trans hst.mem, fun k j hj => (hst.others k j hj).trans (hrs.others k j hj)⟩

theorem onInstance_ite {c : Prop} [Decidable c] (hs : OnInstance i r s) (ht : OnInstance i r t) : OnInstance i r (if c then s else t) := by
  split <;> assumption

theorem OnInstance.whenB (hs : OnInstance i r s) {c : Bool} {f : State → State} (hf : OnInstance i r (f s)) : OnInstance i r (s.whenB c f) :=
  onInstance_ite hf hs

theorem OnInstance.setInst (hs : OnInstance i r s) (k : Half) (v : Inst) : OnInstance i r (s.setInst k i v) :=
  hs.trans ⟨keepsRegs_of (setInst_regs s v), memEq_setInst s v, fun _ _ hj => inst_setInst_ne s v hj⟩

theorem OnInstance.raise (hs : OnInstance i r s) (p : Pg) : OnInstance i r (s.raise p) :=
  hs.trans ⟨keepsRegs_of (raise_regs s p), memEq_raise s p, fun _ _ _ => raise_inst s p⟩

theorem OnInstance.put (hs : OnInstance i r s) (hi : i < 64) (k : Half) (f : Fld) (v : Nat) (hf : f.off < 0x10000) :
    OnInstance i r (s.put (pgInst k i) f v) :=
  hs.trans ⟨keepsRegs_put s v (pgInst_code_lt hi) hf fun hk => (hk k).1 rfl, memEq_put s _ _ _, fun _ _ _ => put_inst s _ f v⟩

theorem OnInstance.setInstState (hs : OnInstance i r s) (hi : i < 64) (k : Half) (v : Nat) : OnInstance i r (s.setInstState k i v) :=
  (hs.put hi k _ _ (by decide)).trans
    ⟨keepsRegs_put _ _ (pgIns_code_lt k) (insState_off_lt hi) fun hk => (hk k).2 rfl, memEq_put _ _ _ _, fun _ _ _ => put_inst _ _ _ _⟩

theorem OnInstance.instDone (hs : OnInstance i r s) (hi : i < 64) (k : Half) (op result : Nat) : OnInstance i r (s.instDone k i op result) :=
  hs.trans ⟨(instDone_onlyPage hi s op result).2.mono fun _ _ hk => (hk k).1, memEq_instDone s op result, fun _ _ _ => instDone_inst s op result⟩

theorem OnInstance.busFetch (hs : OnInstance i r s) (k : Half) : OnInstance i r (s.busFetch k i) := onInstance_ite (hs.setInst k _) hs

theorem OnInstance.thawed (hs : OnInstance i r s) (hi : i < 64) (k : Half) : OnInstance i r (s.thawed k i) := by
  unfold State.thawed
  extract_lets o s1
  have h1 : OnInstance i r s1 := onInstance_ite (hs.setInstState hi _ _) hs
  exact ((h1.setInstState hi k _).instDone hi k 2 0).busFetch k

theorem OnInstance.heldEnd (hs : OnInstance i r s) (hi : i < 64) (k : Half) : OnInstance i r (s.heldEnd k i) := by
  have hasked : OnInstance i r (s.askDone k i) := hs.setInst k _
  exact onInstance_ite (onInstance_ite hs (onInstance_ite (onInstance_ite (hasked.instDone hi k 2 1) (hasked.thawed hi k))
    (hasked.instDone hi k 2 1))) hs

theorem OnInstance.instFrozen (hs : OnInstance i r s) (hi : i < 64) (k : Half) (cause : Nat) : OnInstance i r (s.instFrozen k i cause) :=
  (hs.setInstState hi k _).put hi k _ _ (by decide)

/-! ## A command boundary -/

/-- The state after a FREEZE that waited for a command boundary, or the park of the half, has taken effect there. -/
def State.freezeTaken (s : State) (h : Half) (i : Nat) : State :=
  if s.instState h i ≠ stFreezing then s
  else if s.flag (pgInst h i) F.INST_STATUS_BUSY && s.get (pgInst h i) F.INST_STATUS_OP = 1 then (s.instFrozen h i 1).instDone h i 1 0
  else s.instFrozen h i 1

/-- The state after a FACE that waited for a command boundary has taken effect there. -/
def State.faceTaken (s : State) (h : Half) (i : Nat) (direct : Bool) : State :=
  ((s.setInst h i { s.inst h i with faceReq := none }).put (pgInst h i) F.INST_STATE_FACE (if direct then 1 else 0)).instDone h i 6 0

theorem freezeTaken_of_ne (s : State) (hst : s.instState h i ≠ 2) : s.freezeTaken h i = s := if_pos hst

/-- A command boundary takes a FREEZE, then a FACE, that waited, and the hub fetches the next command. -/
theorem hubBoundary_cases (s : State) (h : Half) (i : Nat) :
    ((s.freezeTaken h i).inst h i).faceReq = none ∧ s.hubBoundary h i = (s.freezeTaken h i).busFetch h i ∨
    ∃ d, ((s.freezeTaken h i).inst h i).faceReq = some d ∧ s.hubBoundary h i = ((s.freezeTaken h i).faceTaken h i d).busFetch h i := by
  have hdef : s.hubBoundary h i = (match ((s.freezeTaken h i).inst h i).faceReq with
      | none => (s.freezeTaken h i).busFetch h i
      | some d => ((s.freezeTaken h i).faceTaken h i d).busFetch h i) := rfl
  cases hreq : ((s.freezeTaken h i).inst h i).faceReq with
  | none => exact .inl ⟨rfl, by rw [hdef, hreq]⟩
  | some d => exact .inr ⟨d, rfl, by rw [hdef, hreq]⟩

theorem hubBoundary_face {d : Bool} (hst : s.instState h i ≠ 2) (hreq : (s.inst h i).faceReq = some d) :
    s.hubBoundary h i = (s.faceTaken h i d).busFetch h i := by
  rcases hubBoundary_cases s h i with ⟨hnone, _⟩ | ⟨e, hsome, heq⟩
  · rw [freezeTaken_of_ne s hst, hreq] at hnone
    cases hnone
  · rw [freezeTaken_of_ne s hst] at hsome heq
    rw [hreq] at hsome
    rw [heq, Option.some.inj hsome]

theorem OnInstance.hubBoundary (hs : OnInstance i r s) (hi : i < 64) (k : Half) : OnInstance i r (s.hubBoundary k i) := by
  have hfreeze : OnInstance i r (s.freezeTaken k i) :=
    onInstance_ite hs (onInstance_ite ((hs.instFrozen hi k 1).instDone hi k 1 0) (hs.instFrozen hi k 1))
  rcases hubBoundary_cases s k i with ⟨_, heq⟩ | ⟨d, _, heq⟩
  · rw [heq]
    exact hfreeze.busFetch k
  · rw [heq]
    exact (((hfreeze.setInst k _).put hi k _ _ (by decide)).instDone hi k 6 0).busFetch k

end
end Sys2Proof.Machine
end

section
/-! SUPPORT. The operations of INST_CTRL (R235, R247, R248, R250) and the answer of the other hub to a THAW of a Twin. -/

namespace Sys2Proof.Machine

theorem exec_instFreeze (rq : Requester) (i : Fin 64) (s : State) : exec (.instFreeze rq i) s = execInstFreeze rq i s := rfl
theorem exec_instThaw (rq : Requester) (i : Fin 64) (s : State) : exec (.instThaw rq i) s = execInstThaw rq i s := rfl
theorem exec_thawTwinQuery (h : Half) (i : Fin 64) (s : State) : exec (.thawTwinQuery h i) s = execThawTwinQuery h i s := rfl
theorem exec_instSave (rq : Requester) (i : Fin 64) (s : State) : exec (.instSave rq i) s = execInstSave rq i s := rfl
theorem exec_instRestore (rq : Requester) (i : Fin 64) (s : State) : exec (.instRestore rq i) s = execInstRestore rq i s := rfl
theorem exec_instReset (rq : Requester) (i : Fin 64) (s : State) : exec (.instReset rq i) s = execInstReset rq i s := rfl
theorem exec_instFace (rq : Requester) (i : Fin 64) (d : Bool) (s : State) : exec (.instFace rq i d) s = execInstFace rq i d s := rfl

/-! ## What the answer to the access leaves -/

@[simp] theorem ack_inst (s : State) (h : Half) (i : Nat) : s.ack.inst h i = s.inst h i := by simp [State.inst]
@[simp] theorem ack_instState (s : State) (h : Half) (i : Nat) : s.ack.instState h i = s.instState h i := rfl
@[simp] theorem ack_twinGone (s : State) (o : Half) : s.ack.twinGone o = s.twinGone o := by cases o <;> rfl
@[simp] theorem ack_twinRuns (s : State) (h : Half) (i : Nat) : s.ack.twinRuns h i = s.twinRuns h i := by cases h <;> rfl
@[simp] theorem ack_sblk (s : State) (h : Half) (i : Nat) : s.ack.sblk h i = s.sblk h i := rfl
@[simp] theorem ack_tagOf (s : State) (h : Half) (p : Pg) : s.ack.tagOf h p = s.tagOf h p := rfl
@[simp] theorem ack_mirFull (s : State) (h : Half) (a n : Nat) : s.ack.mirFull h a n = s.mirFull h a n := by cases h <;> rfl

theorem ack_stateBlock (s : State) (h : Half) (i : Nat) : s.ack.stateBlock h i = s.stateBlock h i := by cases h <;> rfl

theorem ack_bytesAt (s : State) (h : Half) (t : Tag) (k : AccKind) (a n : Nat) : s.ack.bytesAt h t k a n = s.bytesAt h t k a n := by
  cases h <;> rfl

section
variable {rq : Requester} {h : Half} {i : Fin 64} {s : State}

/-! ## FREEZE -/

theorem instFreeze_now (hadm : Admitted rq (pgInst rq.half i) s) (hst : s.instState rq.half i = 1) (hcur : (s.inst rq.half i).cur = none) :
    exec (.instFreeze rq i) s = .next ((s.ack.instFrozen rq.half i 1).instDone rq.half i 1 0) := by
  simp [exec_instFreeze, execInstFreeze, hostWrite_admitted hadm, stRunning, hst, hcur]

theorem instFreeze_waits (hadm : Admitted rq (pgInst rq.half i) s) (hst : s.instState rq.half i = 1) (hcur : (s.inst rq.half i).cur ≠ none) :
    exec (.instFreeze rq i) s = .next ((s.ack.setInstState rq.half i stFreezing).instBusy rq.half i 1) := by
  simp [exec_instFreeze, execInstFreeze, hostWrite_admitted hadm, stRunning, hst, hcur]

theorem instFreeze_wrongState (hadm : Admitted rq (pgInst rq.half i) s) (hst : s.instState rq.half i ≠ 1) :
    exec (.instFreeze rq i) s = .next (s.ack.instDone rq.half i 1 2) := by
  simp [exec_instFreeze, execInstFreeze, hostWrite_admitted hadm, stRunning, hst]

/-! ## THAW -/

/-- The state in which a THAW waits: for the answer of the other hub, or until that hub, which asks, has had its answer. -/
def State.thawWaits (s : State) (h : Half) (i : Nat) : State := (s.setInst h i { s.inst h i with asking := true }).instBusy h i 2

theorem instThaw_saving (hadm : Admitted rq (pgInst rq.half i) s) (hsave : (s.inst rq.half i).saving = true) :
    exec (.instThaw rq i) s = .next (s.ack.instDone rq.half i 2 1) := by
  simp [exec_instThaw, execInstThaw, hostWrite_admitted hadm, hsave]

section
variable (hadm : Admitted rq (pgInst rq.half i) s) (hsave : (s.inst rq.half i).saving = false)
include hadm hsave

/-- The THAW of a Frozen INST, unless the other hub asks. -/
theorem instThaw_frozen (hst : s.instState rq.half i = 3) (hfree : (s.inst (Half.other rq.half) i).asking = false ∨ s.twinGone (Half.other rq.half) = true) :
    exec (.instThaw rq i) s = .next (s.ack.thawFrozen rq.half i) := by
  rcases hfree with hask | hgone
  · simp [exec_instThaw, execInstThaw, hostWrite_admitted hadm, hsave, stFrozen, hst, hask]
  · simp [exec_instThaw, execInstThaw, hostWrite_admitted hadm, hsave, stFrozen, hst, hgone]

theorem instThaw_frozen_held (hst : s.instState rq.half i = 3) (hask : (s.inst (Half.other rq.half) i).asking = true)
    (hgone : s.twinGone (Half.other rq.half) = false) : exec (.instThaw rq i) s = .next (s.ack.thawWaits rq.half i) := by
  simp [exec_instThaw, execInstThaw, hostWrite_admitted hadm, hsave, stFrozen, hst, hask, hgone, State.thawWaits]

theorem instThaw_twin_gone (hst : s.instState rq.half i = 4) (hgone : s.twinGone (Half.other rq.half) = true) :
    exec (.instThaw rq i) s = .next (s.ack.thawed rq.half i) := by
  simp [exec_instThaw, execInstThaw, hostWrite_admitted hadm, hsave, stFrozen, stTwin, hst, hgone]

theorem instThaw_twin_noLink (hst : s.instState rq.half i = 4) (hgone : s.twinGone (Half.other rq.half) = false)
    (hlink : s.flag (pgTwn rq.half) F.TWN_STATUS_LINK = false) : exec (.instThaw rq i) s = .next (s.ack.instDone rq.half i 2 1) := by
  simp [exec_instThaw, execInstThaw, hostWrite_admitted hadm, hsave, stFrozen, stTwin, hst, hgone, hlink]

theorem instThaw_twin_asks (hst : s.instState rq.half i = 4) (hgone : s.twinGone (Half.other rq.half) = false)
    (hlink : s.flag (pgTwn rq.half) F.TWN_STATUS_LINK = true) : exec (.instThaw rq i) s = .next (s.ack.thawWaits rq.half i) := by
  simp [exec_instThaw, execInstThaw, hostWrite_admitted hadm, hsave, stFrozen, stTwin, hst, hgone, hlink, State.thawWaits]

theorem instThaw_wrongState (hfrozen : s.instState rq.half i ≠ 3) (htwin : s.instState rq.half i ≠ 4) :
    exec (.instThaw rq i) s = .next (s.ack.instDone rq.half i 2 2) := by
  simp [exec_instThaw, execInstThaw, hostWrite_admitted hadm, hsave, stFrozen, stTwin, hfrozen, htwin]

end

theorem thawFrozen_of_twinRuns {i : Nat} (hruns : s.twinRuns h i = true) : s.thawFrozen h i = s.instDone h i 2 1 := if_pos hruns

theorem thawFrozen_of_alone {i : Nat} (hruns : s.twinRuns h i = false) : s.thawFrozen h i = s.thawed h i := if_neg (by rw [hruns]; decide)

/-- A thawed INST runs, and its THAW has ended with OK. -/
theorem thawed_shows {i : Nat} (hi : i < 64) (s : State) (h : Half) : (s.thawed h i).instState h i = 1 ∧
    (s.thawed h i).flag (pgInst h i) F.INST_STATUS_DONE = true ∧ (s.thawed h i).flag (pgInst h i) F.INST_STATUS_BUSY = false ∧
    (s.thawed h i).get (pgInst h i) F.INST_STATUS_OP = 2 ∧ (s.thawed h i).get (pgInst h i) F.INST_STATUS_RESULT = 0 := by
  unfold State.thawed
  extract_lets o u
  have hstate : ((u.setInstState h i stRunning).instDone h i 2 0).instState h i = 1 :=
    (instDone_get_off _ 2 0 (by decide)).trans (setInstState_instState hi u stRunning)
  rw [State.instState, busFetch_flag, busFetch_flag, busFetch_get, busFetch_get, busFetch_get]
  exact ⟨hstate, instDone_status _ 2 0⟩

/-! ## The answer of the other hub (THAW_TWIN_QUERY) -/

theorem thawTwinQuery_idle (hno : (s.inst h i).asking = false ∨ s.instState h i ≠ 4) : exec (.thawTwinQuery h i) s = .next s := by
  have hnone : (!((s.inst h i).asking) || decide (s.instState h i ≠ stTwin)) = true := by
    rcases hno with hask | hst
    · rw [hask]
      rfl
    · rw [decide_eq_true (show s.instState h i ≠ stTwin from hst), Bool.or_true]
  rw [exec_thawTwinQuery, execThawTwinQuery, if_pos hnone]

section
variable (hask : (s.inst h i).asking = true) (hst : s.instState h i = 4)
include hask hst

theorem thawTwinQuery_gone (hgone : s.twinGone (Half.other h) = true) :
    exec (.thawTwinQuery h i) s = .next ((s.askDone h i).thawed h i) := by
  simp [exec_thawTwinQuery, execThawTwinQuery, hask, hst, stTwin, hgone]

theorem thawTwinQuery_noLink (hgone : s.twinGone (Half.other h) = false) (hlink : s.flag (pgTwn h) F.TWN_STATUS_LINK = false) :
    exec (.thawTwinQuery h i) s = .next (((s.askDone h i).instDone h i 2 1).heldThaw (Half.other h) i) := by
  simp [exec_thawTwinQuery, execThawTwinQuery, hask, hst, stTwin, hgone, hlink]

section
variable (hgone : s.twinGone (Half.other h) = false) (hlink : s.flag (pgTwn h) F.TWN_STATUS_LINK = true)
include hgone hlink

/-- Of two hubs that ask, Half A's THAW proceeds. -/
theorem thawTwinQuery_both (hostate : s.instState (Half.other h) i = 4) (hoask : (s.inst (Half.other h) i).asking = true) :
    exec (.thawTwinQuery h i) s = .next ((((s.askDone .A i).askDone .B i).instDone .B i 2 1).thawed .A i) := by
  simp [exec_thawTwinQuery, execThawTwinQuery, hask, hst, stTwin, hgone, hlink, hostate, hoask]

theorem thawTwinQuery_frozen (hostate : s.instState (Half.other h) i = 3) :
    exec (.thawTwinQuery h i) s = .next (((s.askDone h i).thawed h i).heldThaw (Half.other h) i) := by
  simp [exec_thawTwinQuery, execThawTwinQuery, hask, hst, stTwin, hgone, hlink, hostate, stRunning, stFreezing, stFrozen]

theorem thawTwinQuery_runs (hostate : s.instState (Half.other h) i = 1 ∨ s.instState (Half.other h) i = 2) :
    exec (.thawTwinQuery h i) s = .next ((s.askDone h i).instDone h i 2 1) := by
  rcases hostate with hostate | hostate <;>
    simp [exec_thawTwinQuery, execThawTwinQuery, hask, hst, stTwin, hgone, hlink, hostate, stRunning, stFreezing]

theorem thawTwinQuery_wrongState
    (hostate : s.instState (Half.other h) i = 0 ∨ s.instState (Half.other h) i = 4 ∧ (s.inst (Half.other h) i).asking = false) :
    exec (.thawTwinQuery h i) s = .next ((s.askDone h i).instDone h i 2 2) := by
  rcases hostate with hostate | ⟨hostate, hoask⟩
  · simp [exec_thawTwinQuery, execThawTwinQuery, hask, hst, stTwin, hgone, hlink, hostate, stRunning, stFreezing, stFrozen]
  · simp [exec_thawTwinQuery, execThawTwinQuery, hask, hst, stTwin, hgone, hlink, hostate, hoask, stRunning, stFreezing, stFrozen]

end
end

/-! ## SAVE and RESTORE -/

theorem instSave_now (hadm : Admitted rq (pgInst rq.half i) s) (hst : s.instState rq.half i = 3)
    (hroom : s.mirFull rq.half (s.sblk rq.half i) 0x5000 = false) : exec (.instSave rq i) s = .next (s.ack.saveNow rq.half i) := by
  simp [exec_instSave, execInstSave, hostWrite_admitted hadm, stFrozen, hst, hroom]

theorem instSave_waits (hadm : Admitted rq (pgInst rq.half i) s) (hst : s.instState rq.half i = 3)
    (hfull : s.mirFull rq.half (s.sblk rq.half i) 0x5000 = true) :
    exec (.instSave rq i) s = .next ((s.ack.setInst rq.half i { s.inst rq.half i with saving := true }).instBusy rq.half i 3) := by
  simp [exec_instSave, execInstSave, hostWrite_admitted hadm, stFrozen, hst, hfull]

theorem instSave_wrongState (hadm : Admitted rq (pgInst rq.half i) s) (hst : s.instState rq.half i ≠ 3) :
    exec (.instSave rq i) s = .next (s.ack.instDone rq.half i 3 2) := by
  simp [exec_instSave, execInstSave, hostWrite_admitted hadm, stFrozen, hst]

theorem ack_saveNow (s : State) (h : Half) (i : Nat) : s.ack.saveNow h i =
    ((s.ack.setInst h i { s.inst h i with saving := false }).writeAt h (s.tagOf h (pgInst h i)) (s.sblk h i) (s.stateBlock h i)).instDone h i 3 0 := by
  rw [State.saveNow, ack_inst, ack_tagOf, ack_sblk, ack_stateBlock]

theorem instRestore_takes (hadm : Admitted rq (pgInst rq.half i) s) (hst : s.instState rq.half i = 0 ∨ s.instState rq.half i = 3)
    (hidle : (s.inst rq.half i).restoring = none) (hsave : (s.inst rq.half i).saving = false) : exec (.instRestore rq i) s = .next
      ((s.ack.noteRead rq.half (s.tagOf rq.half (pgInst rq.half i)) .read (s.sblk rq.half i) 0x5000).restoreFrom rq.half i
        (s.bytesAt rq.half (s.tagOf rq.half (pgInst rq.half i)) .read (s.sblk rq.half i) 0x5000)) := by
  rcases hst with hst | hst <;>
    simp [exec_instRestore, execInstRestore, hostWrite_admitted hadm, stIdle, stFrozen, hst, hidle, hsave, ack_bytesAt]

theorem instRestore_wrongState (hadm : Admitted rq (pgInst rq.half i) s)
    (hno : (s.instState rq.half i ≠ 0 ∧ s.instState rq.half i ≠ 3) ∨ (s.inst rq.half i).restoring ≠ none ∨ (s.inst rq.half i).saving = true) :
    exec (.instRestore rq i) s = .next (s.ack.instDone rq.half i 4 2) := by
  rcases hno with ⟨hidle, hfrozen⟩ | hrestoring | hsave
  · simp [exec_instRestore, execInstRestore, hostWrite_admitted hadm, stIdle, stFrozen, hidle, hfrozen]
  · simp [exec_instRestore, execInstRestore, hostWrite_admitted hadm, Option.isSome_iff_ne_none.mpr hrestoring]
  · simp [exec_instRestore, execInstRestore, hostWrite_admitted hadm, hsave]

/-! ## RESET and FACE -/

theorem instReset_now (hadm : Admitted rq (pgInst rq.half i) s) : exec (.instReset rq i) s =
    .next (((s.ack.forward rq.half i .reset).hubReset rq.half i).instDone rq.half i 5 0) := by
  rw [exec_instReset, execInstReset, hostWrite_admitted hadm]

/-- The state in which a FACE is asked for. -/
def State.faceAsked (s : State) (h : Half) (i : Nat) (direct : Bool) : State := s.setInst h i { s.inst h i with faceReq := some direct }

theorem instFace_waits (hadm : Admitted rq (pgInst rq.half i) s) (d : Bool) (hcur : (s.inst rq.half i).cur ≠ none) :
    exec (.instFace rq i d) s = .next ((s.ack.setInst rq.half i { s.inst rq.half i with faceReq := some d }).instBusy rq.half i 6) := by
  simp [exec_instFace, execInstFace, hostWrite_admitted hadm, hcur]

theorem instFace_now (hadm : Admitted rq (pgInst rq.half i) s) (d : Bool) (hcur : (s.inst rq.half i).cur = none) (hst : s.instState rq.half i ≠ 2) :
    exec (.instFace rq i d) s = .next (((s.ack.faceAsked rq.half i d).faceTaken rq.half i d).busFetch rq.half i) := by
  have hasked : ((s.ack.faceAsked rq.half i d).inst rq.half i).faceReq = some d := by rw [State.faceAsked, inst_setInst_same]
  have hstate : (s.ack.faceAsked rq.half i d).instState rq.half i ≠ 2 := by rwa [State.faceAsked, setInst_instState, ack_instState]
  rw [← hubBoundary_face hstate hasked]
  simp [exec_instFace, execInstFace, hostWrite_admitted hadm, hcur, State.faceAsked]

end

/-! ## A FACE that takes effect -/

section
variable {h : Half} {i : Nat} {d : Bool} {s : State}

theorem faceTaken_face (s : State) (h : Half) (i : Nat) (d : Bool) :
    (s.faceTaken h i d).get (pgInst h i) F.INST_STATE_FACE = if d then 1 else 0 := by
  rw [State.faceTaken, instDone_get_off _ _ _ (by decide), get_put_same _ _ _ _ (by decide)]
  cases d <;> rfl

theorem faceTaken_inst (s : State) (h : Half) (i : Nat) (d : Bool) :
    (s.faceTaken h i d).inst h i = { s.inst h i with faceReq := none } := by
  rw [State.faceTaken, instDone_inst, put_inst, inst_setInst_same]

theorem faceTaken_keepsRegs (hi : i < 64) : KeepsRegs (fun p _ => p ≠ pgInst h i) s (s.faceTaken h i d) := by
  have hset : KeepsRegs (fun p _ => p ≠ pgInst h i) s (s.setInst h i { s.inst h i with faceReq := none }) := keepsRegs_of (setInst_regs _ _)
  exact (hset.trans (keepsRegs_put _ _ (pgInst_code_lt hi) (by decide) fun hk => hk rfl)).trans (instDone_onlyPage hi _ 6 0).2

theorem memEq_faceTaken : MemEq s (s.faceTaken h i d) := ((memEq_setInst s _).put _ _ _).trans (memEq_instDone _ 6 0)

theorem faceTaken_mboxBus (hi : i < 64) : (s.faceTaken h i d).mboxBus h i = s.mboxBus h i :=
  flag_congr (congrArg F.INSQ_MBOX_HI_BUS.ofWord
    (faceTaken_keepsRegs hi _ _ (pgInsq_code_lt hi) (by decide) pgInsq_ne_pgInst))

theorem memEq_busFetch (s : State) : MemEq s (s.busFetch h i) := by
  rcases busFetch_cases s h i with heq | heq
  · rw [heq]
    exact memEq_rfl s
  · rw [heq]
    exact memEq_setInst s _

end

/-- A FACE between commands shows the new face and its end, and changes no other page and no memory; of the record of the INST, only a
read from a mailbox on the PCIe bus may follow it. -/
theorem instFace_does {rq : Requester} {i : Fin 64} {s : State} (hadm : Admitted rq (pgInst rq.half i) s) (d : Bool)
    (hcur : (s.inst rq.half i).cur = none) (hst : s.instState rq.half i ≠ 2) : Does (.instFace rq i d) s fun t =>
      t.get (pgInst rq.half i) F.INST_STATE_FACE = (if d then 1 else 0) ∧ t.flag (pgInst rq.half i) F.INST_STATUS_BUSY = false ∧
      t.flag (pgInst rq.half i) F.INST_STATUS_DONE = true ∧ t.get (pgInst rq.half i) F.INST_STATUS_OP = 6 ∧
      t.get (pgInst rq.half i) F.INST_STATUS_RESULT = 0 ∧ (t.inst rq.half i).faceReq = none ∧
      (s.mboxBus rq.half i = false → t.inst rq.half i = { s.inst rq.half i with faceReq := none }) ∧
      SameMem s t ∧ KeepsRegs (fun p _ => p ≠ pgInst rq.half i) s t := by
  refine ⟨_, instFace_now hadm d hcur hst, ?_⟩
  have hasked : (s.ack.faceAsked rq.half i d).inst rq.half i = { s.inst rq.half i with faceReq := some d } := by
    rw [State.faceAsked, inst_setInst_same, ack_inst]
  have hregs : KeepsRegs (fun p _ => p ≠ pgInst rq.half i) s (s.ack.faceAsked rq.half i d) := keepsRegs_of (setInst_regs s.ack _)
  have hmem : SameMem s (s.ack.faceAsked rq.half i d) := (ack_sameMem s).trans (memEq_setInst s.ack _).sameMem
  have hbus : (s.ack.faceAsked rq.half i d).mboxBus rq.half i = s.mboxBus rq.half i := setInst_flag s.ack _ _ _
  generalize s.ack.faceAsked rq.half i d = u at hasked hregs hmem hbus
  obtain ⟨hdone, hbusy, hop, hresult⟩ :=
    instDone_status (h := rq.half) (i := i)
      ((u.setInst rq.half i { u.inst rq.half i with faceReq := none }).put (pgInst rq.half i) F.INST_STATE_FACE (if d then 1 else 0)) 6 0
  have hinst : (u.faceTaken rq.half i d).inst rq.half i = { s.inst rq.half i with faceReq := none } := by rw [faceTaken_inst, hasked]
  refine ⟨?_, ?_, ?_, ?_, ?_, ?_, fun hlocal => ?_, ?_, ?_⟩
  · rw [busFetch_get, faceTaken_face]
  · rw [busFetch_flag]
    exact hbusy
  · rw [busFetch_flag]
    exact hdone
  · rw [busFetch_get]
    exact hop
  · rw [busFetch_get]
    exact hresult
  · obtain ⟨req, tag, hfetch⟩ := busFetch_inst (h := rq.half) (i := i) (u.faceTaken rq.half i d)
    rw [hfetch, hinst]
  · rw [busFetch_local _ (by rw [faceTaken_mboxBus i.isLt, hbus, hlocal]), hinst]
  · exact hmem.trans (memEq_faceTaken.trans (memEq_busFetch _)).sameMem
  · exact (hregs.trans (faceTaken_keepsRegs i.isLt)).trans (keepsRegs_of (busFetch_regs _))

/-- Settles O22, operation by operation. That a THAW of a Frozen INST waits while the other hub asks, and ends with BUSY where its twin runs
(log entry 63), and that a SAVE waits whole for the twin-link queue (log entry 86), are the model's choices. -/
theorem instanceControl : Obligations.InstanceControl := by
  unfold Obligations.InstanceControl
  refine ⟨fun rq i s hadm => ⟨instFreeze_now hadm, instFreeze_waits hadm, instFreeze_wrongState hadm⟩,
    fun rq i s hadm => ⟨instThaw_saving hadm, fun hsave => ⟨fun hst hfree hruns => ?_, fun hst hfree hruns => ?_, instThaw_frozen_held hadm hsave,
      instThaw_twin_gone hadm hsave, instThaw_twin_noLink hadm hsave, instThaw_twin_asks hadm hsave, instThaw_wrongState hadm hsave⟩⟩,
    fun h i s => ?_,
    fun h i s => ⟨thawTwinQuery_idle, thawTwinQuery_gone, thawTwinQuery_noLink, fun hask hst hgone hlink =>
      ⟨thawTwinQuery_wrongState hask hst hgone hlink, thawTwinQuery_frozen hask hst hgone hlink, thawTwinQuery_runs hask hst hgone hlink,
        thawTwinQuery_both hask hst hgone hlink⟩⟩,
    fun rq i s hadm => ⟨fun hst hroom => ?_, instSave_waits hadm, instSave_wrongState hadm, instRestore_takes hadm, instRestore_wrongState hadm⟩,
    fun rq i s hadm => instReset_now hadm,
    fun rq i d s hadm => ⟨instFace_does hadm d, instFace_waits hadm d⟩⟩
  · rw [instThaw_frozen hadm hsave hst hfree, thawFrozen_of_alone (by rwa [ack_twinRuns])]
  · rw [instThaw_frozen hadm hsave hst hfree, thawFrozen_of_twinRuns (by rwa [ack_twinRuns])]
  · obtain ⟨hstate, hdone, hbusy, hop, hresult⟩ := thawed_shows i.isLt s h
    exact ⟨hstate, hdone, hbusy, hop, hresult, ((onInstance_rfl i s).thawed i.isLt h).mem.sameMem⟩
  · rw [instSave_now hadm hst hroom, ack_saveNow]

end Sys2Proof.Machine
end

section
/-! SUPPORT. The end of a mailbox command (R240 to R243): what the completion and the command boundary after it leave. -/

namespace Sys2Proof.Machine

section
variable {h : Half} {i : Nat}

/-! ## Writes to the mailbox -/

theorem mboxWrite_keepsRegs (s : State) (off : Nat) (bs : List Byte) : KeepsRegs (flushKeeps h) s (s.mboxWrite h i off bs) := by
  unfold State.mboxWrite
  extract_lets t
  exact keepsRegs_ite (keepsRegs_of (setInst_regs s _)) ((keepsHarts_rfl h s).writeAt _ _ bs).regs

theorem cplWrite_keepsRegs (s : State) (c : Completion) : KeepsRegs (flushKeeps h) s (s.cplWrite h i c) :=
  ((mboxWrite_keepsRegs s _ _).trans (mboxWrite_keepsRegs _ _ _)).trans (keepsRegs_of (setInst_regs _ _))

/-- A register of a queue page shows nothing of the half's writes to memory. -/
theorem flushKeeps_pgInsq {o : Nat} : flushKeeps h (pgInsq h i) o :=
  ⟨halfPg_ne (by omega), halfPg_ne_plinthPg _ _ _, fun he => halfPg_ne (by omega) he.1⟩

/-! ## The command boundary -/

@[simp] theorem instFrozen_inst (s : State) (k : Half) (j cause : Nat) : (s.instFrozen k j cause).inst h i = s.inst h i := by
  simp [State.instFrozen, State.setInstState]

theorem freezeTaken_inst (s : State) : (s.freezeTaken h i).inst h i = s.inst h i := by
  unfold State.freezeTaken
  split
  · rfl
  · split
    · rw [instDone_inst, instFrozen_inst]
    · rw [instFrozen_inst]

/-- A command boundary takes no command. -/
theorem hubBoundary_cur (s : State) : ((s.hubBoundary h i).inst h i).cur = (s.inst h i).cur := by
  rcases hubBoundary_cases s h i with ⟨_, heq⟩ | ⟨d, _, heq⟩
  · obtain ⟨req, tag, hfetch⟩ := busFetch_inst (h := h) (i := i) (s.freezeTaken h i)
    rw [heq, hfetch, freezeTaken_inst]
  · obtain ⟨req, tag, hfetch⟩ := busFetch_inst (h := h) (i := i) ((s.freezeTaken h i).faceTaken h i d)
    rw [heq, hfetch, faceTaken_inst, freezeTaken_inst]

/-! ## The command is over -/

/-- The state after the completion record of the command in hand is written, and the command is over. -/
def State.cplWritten (s : State) (h : Half) (i : Nat) (c : Completion) (irq : Bool) : State :=
  ((s.cplWrite h i c).setInst h i { (s.cplWrite h i c).inst h i with cur := none }).whenB irq fun s => s.raise (pgInst h i)

theorem hubFinish_eq (s : State) (c : Completion) (irq : Bool) : s.hubFinish h i c irq = (s.cplWritten h i c irq).hubBoundary h i := rfl

theorem cplWritten_cur (s : State) (c : Completion) (irq : Bool) : ((s.cplWritten h i c irq).inst h i).cur = none := by
  cases irq
  · exact congrArg Inst.cur (inst_setInst_same _ h i _)
  · exact congrArg Inst.cur ((raise_inst _ _).trans (inst_setInst_same _ h i _))

theorem cplWritten_keepsRegs (s : State) (c : Completion) (irq : Bool) : KeepsRegs (flushKeeps h) s (s.cplWritten h i c irq) := by
  have hset (v : Inst) : KeepsRegs (flushKeeps h) s ((s.cplWrite h i c).setInst h i v) :=
    (cplWrite_keepsRegs s c).trans (keepsRegs_of (setInst_regs _ v))
  exact keepsRegs_whenB (hset _) ((hset _).trans (keepsRegs_of (raise_regs _ _)))

/-- After a completion no command is in hand. -/
theorem hubFinish_cur (s : State) (c : Completion) (irq : Bool) : ((s.hubFinish h i c irq).inst h i).cur = none := by
  rw [hubFinish_eq, hubBoundary_cur, cplWritten_cur]

/-- A completion leaves the registers of the queue page. -/
theorem hubFinish_insq (hi : i < 64) (s : State) (c : Completion) (irq : Bool) {o : Nat} (ho : o < 0x10000) :
    (s.hubFinish h i c irq).reg (pgInsq h i) o = s.reg (pgInsq h i) o := by
  have hboundary := ((onInstance_rfl i (s.cplWritten h i c irq)).hubBoundary hi h).regs
  rw [hubFinish_eq, hboundary _ _ (pgInsq_code_lt hi) ho fun _ => ⟨pgInsq_ne_pgInst, pgInsq_ne_pgIns⟩,
    cplWritten_keepsRegs s c irq _ _ (pgInsq_code_lt hi) ho flushKeeps_pgInsq]

/-- CMD_HEAD after the hub has written it to the mailbox. -/
theorem mboxWrite_insq (hi : i < 64) (s : State) (off : Nat) (bs : List Byte) {o : Nat} (ho : o < 0x10000) :
    (s.mboxWrite h i off bs).reg (pgInsq h i) o = s.reg (pgInsq h i) o :=
  mboxWrite_keepsRegs s off bs _ _ (pgInsq_code_lt hi) ho flushKeeps_pgInsq

end
end Sys2Proof.Machine
end

section
/-! SUPPORT. A host that is gone (R244): what its loss makes of an INST of its virtual functions, and what it leaves of every other one. -/

namespace Sys2Proof.Machine

section
variable {h : Half} {i j : Nat} {r s t : State}

/-! ## The STATE of an INST and what the other hub does -/

theorem pgInst_other_ne : pgInst h i ≠ pgInst (Half.other h) j := by cases h <;> simp [pgInst, halfPg, Half.other, Half.die]

/-- A change of the state of an INST leaves the other fields of its page. -/
theorem setInstState_get_apart (hi : i < 64) (s : State) (v : Nat) {f : Fld} (hf : f.off < 0x10000) (hapart : F.INST_STATE_STATE.apart f = true) :
    (s.setInstState h i v).get (pgInst h i) f = s.get (pgInst h i) f := by
  rw [State.setInstState, get_put_reg _ _ (key_ne_of_page (pgIns_code_lt h) (pgInst_code_lt hi) (insState_off_lt hi) hf pgInst_ne_pgIns),
    get_put_apart _ _ _ (by decide) hapart]

/-- A change of the state of its twin leaves the page of an INST. -/
theorem setInstState_other_keepsRegs (hi : i < 64) (s : State) (v : Nat) :
    KeepsRegs (fun p _ => p = pgInst h i) s (s.setInstState (Half.other h) i v) :=
  (keepsRegs_put s _ (pgInst_code_lt hi) (by decide) (Ne.symm pgInst_other_ne)).trans
    (keepsRegs_put _ _ (pgIns_code_lt _) (insState_off_lt hi) (Ne.symm pgInst_ne_pgIns))

@[simp] theorem setInstState_inst (s : State) (k l : Half) (v : Nat) : (s.setInstState k j v).inst l i = s.inst l i := by
  simp [State.setInstState]

/-! ## What leaves a freeze as it is -/

/-- Whether a command is in hand, and the cause of a freeze, are in `t` as in `s`, and so is the state of the INST, unless it is Twin now. -/
structure KeepsFreeze (h : Half) (i : Nat) (s t : State) : Prop where
  cur : (t.inst h i).cur = (s.inst h i).cur
  cause : t.get (pgInst h i) F.INST_STATE_CAUSE = s.get (pgInst h i) F.INST_STATE_CAUSE
  state : t.instState h i = s.instState h i ∨ t.instState h i = 4

theorem keepsFreeze_rfl (s : State) : KeepsFreeze h i s s := ⟨rfl, rfl, .inl rfl⟩

theorem KeepsFreeze.trans (hrs : KeepsFreeze h i r s) (hst : KeepsFreeze h i s t) : KeepsFreeze h i r t := by
  refine ⟨hst.cur.trans hrs.cur, hst.cause.trans hrs.cause, ?_⟩
  rcases hst.state with hsame | htwin
  · rw [hsame]
    exact hrs.state
  · exact .inr htwin

theorem keepsFreeze_ite {c : Prop} [Decidable c] (hs : KeepsFreeze h i r s) (ht : KeepsFreeze h i r t) : KeepsFreeze h i r (if c then s else t) := by
  split <;> assumption

/-- What leaves the page of the INST and the command in its hand leaves its freeze. -/
theorem KeepsFreeze.of (hs : KeepsFreeze h i r s) (hi : i < 64) (hcur : (t.inst h i).cur = (s.inst h i).cur)
    (hregs : KeepsRegs (fun p _ => p = pgInst h i) s t) : KeepsFreeze h i r t := by
  have hget (f : Fld) (hf : f.off < 0x10000) : t.get (pgInst h i) f = s.get (pgInst h i) f :=
    congrArg f.ofWord (hregs _ _ (pgInst_code_lt hi) hf rfl)
  exact hs.trans ⟨hcur, hget _ (by decide), .inl (hget _ (by decide))⟩

/-- The end of an operation of the INST. -/
theorem KeepsFreeze.instDone (hs : KeepsFreeze h i r s) (op result : Nat) : KeepsFreeze h i r (s.instDone h i op result) :=
  hs.trans ⟨congrArg Inst.cur (instDone_inst s op result), instDone_get_off s op result (by decide), .inl (instDone_get_off s op result (by decide))⟩

theorem KeepsFreeze.setTwin (hs : KeepsFreeze h i r s) (hi : i < 64) : KeepsFreeze h i r (s.setInstState h i stTwin) :=
  hs.trans ⟨congrArg Inst.cur (setInstState_inst s h h stTwin), setInstState_get_apart hi s _ (by decide) (by decide), .inr (setInstState_instState hi s _)⟩

/-! ### Operations of the twin, in the other hub -/

theorem KeepsFreeze.otherDone (hs : KeepsFreeze h i r s) (hi : i < 64) (op result : Nat) : KeepsFreeze h i r (s.instDone (Half.other h) i op result) :=
  hs.of hi (congrArg Inst.cur (instDone_inst s op result)) ((instDone_onlyPage hi s op result).2.mono fun _ _ hp => by rw [hp]; exact pgInst_other_ne)

theorem KeepsFreeze.otherAskDone (hs : KeepsFreeze h i r s) (hi : i < 64) : KeepsFreeze h i r (s.askDone (Half.other h) i) :=
  hs.of hi (congrArg Inst.cur (inst_setInst_other s _)) (keepsRegs_of (setInst_regs s _))

theorem KeepsFreeze.otherFetch (hs : KeepsFreeze h i r s) (hi : i < 64) : KeepsFreeze h i r (s.busFetch (Half.other h) i) := by
  rcases busFetch_cases s (Half.other h) i with heq | heq
  · rwa [heq]
  · rw [heq]
    exact hs.of hi (congrArg Inst.cur (inst_setInst_other s _)) (keepsRegs_of (setInst_regs s _))

/-- The THAW of the twin makes a Frozen INST Twin (R247). -/
theorem KeepsFreeze.otherThawed (hs : KeepsFreeze h i r s) (hi : i < 64) : KeepsFreeze h i r (s.thawed (Half.other h) i) := by
  unfold State.thawed
  extract_lets o u
  have ho : o = h := other_other h
  have hu : KeepsFreeze h i r u := keepsFreeze_ite (ho ▸ hs.setTwin hi) hs
  have hrun : KeepsFreeze h i r (u.setInstState (Half.other h) i stRunning) :=
    hu.of hi (congrArg Inst.cur (setInstState_inst u _ _ _)) (setInstState_other_keepsRegs hi u _)
  exact (hrun.otherDone hi 2 0).otherFetch hi

theorem KeepsFreeze.otherHeldEnd (hs : KeepsFreeze h i r s) (hi : i < 64) : KeepsFreeze h i r (s.heldEnd (Half.other h) i) := by
  have hasked : KeepsFreeze h i r (s.askDone (Half.other h) i) := hs.otherAskDone hi
  exact keepsFreeze_ite (keepsFreeze_ite hs (keepsFreeze_ite (keepsFreeze_ite (hasked.otherDone hi 2 1) (hasked.otherThawed hi))
    (hasked.otherDone hi 2 1))) hs

/-- A command boundary of an INST that is not Freezing. -/
theorem KeepsFreeze.hubBoundary (hs : KeepsFreeze h i r s) (hst : s.instState h i ≠ 2) :
    KeepsFreeze h i r (s.hubBoundary h i) ∧ (s.hubBoundary h i).instState h i = s.instState h i := by
  have hkept {f : Fld} (hoff : f.off ≠ F.INST_STATUS_BUSY.off) (hapart : F.INST_STATE_FACE.apart f = true) :
      (s.hubBoundary h i).get (pgInst h i) f = s.get (pgInst h i) f := by
    rcases hubBoundary_cases s h i with ⟨_, heq⟩ | ⟨d, _, heq⟩
    · rw [heq, busFetch_get, freezeTaken_of_ne s hst]
    · rw [heq, busFetch_get, freezeTaken_of_ne s hst, State.faceTaken, instDone_get_off _ _ _ hoff, get_put_apart _ _ _ (by decide) hapart, setInst_get]
  have hstate := hkept (f := F.INST_STATE_STATE) (by decide) (by decide)
  exact ⟨hs.trans ⟨hubBoundary_cur s, hkept (by decide) (by decide), .inl hstate⟩, hstate⟩

/-! ## One INST of a lost host -/

/-- What the loss of its host makes of an INST: the pass of HOST_GONE. -/
def State.hostLost (s : State) (h : Half) (i : Nat) : State :=
  if s.get (pgInst h i) F.INST_CFG_VF = 0 || s.instState h i = stFrozen then s
  else
    let u := (s.setInst h i { s.inst h i with cur := none, busReq := none, busOut := [] }).instFrozen h i 2
    let v := u.whenB (s.inst h i).asking fun u => ((u.askDone h i).instDone h i 2 1).heldEnd (Half.other h) i
    let w := v.whenB (s.instState h i = stFreezing) fun v => v.instDone h i 1 0
    w.hubBoundary h i

theorem exec_hostGone (h : Half) (s : State) : exec (.hostGone h) s = .next (s.each (upTo 64) fun i s => s.hostLost h i) := rfl

theorem hostLost_spared (hno : s.get (pgInst h i) F.INST_CFG_VF = 0 ∨ s.instState h i = 3) : s.hostLost h i = s := by
  have hskip : (decide (s.get (pgInst h i) F.INST_CFG_VF = 0) || decide (s.instState h i = stFrozen)) = true := by
    rw [Bool.or_eq_true, decide_eq_true_eq, decide_eq_true_eq]
    exact hno
  exact if_pos hskip

theorem hostLost_onInstance (hi : i < 64) (s : State) : OnInstance i s (s.hostLost h i) := by
  unfold State.hostLost
  refine onInstance_ite (onInstance_rfl i s) ?_
  extract_lets x u v w
  have hu : OnInstance i s u := ((onInstance_rfl i s).setInst h _).instFrozen hi h 2
  have hv : OnInstance i s v := hu.whenB (((hu.setInst h _).instDone hi h 2 1).heldEnd hi (Half.other h))
  exact (hv.whenB (hv.instDone hi h 1 0)).hubBoundary hi h

/-- The INST has no command in hand and shows the cause of its freeze; it is Frozen, unless its THAW waited for the other hub. -/
theorem hostLost_freezes (hi : i < 64) (hvf : s.get (pgInst h i) F.INST_CFG_VF ≠ 0) (hst : s.instState h i ≠ 3) :
    ((s.hostLost h i).inst h i).cur = none ∧ (s.hostLost h i).get (pgInst h i) F.INST_STATE_CAUSE = 2 ∧
    ((s.inst h i).asking = false → (s.hostLost h i).instState h i = 3) := by
  have hgo : ¬(decide (s.get (pgInst h i) F.INST_CFG_VF = 0) || decide (s.instState h i = stFrozen)) = true := by
    rw [Bool.or_eq_true, decide_eq_true_eq, decide_eq_true_eq]
    exact not_or.mpr ⟨hvf, hst⟩
  rw [State.hostLost, if_neg hgo]
  extract_lets x u v w
  have hcur : (u.inst h i).cur = none := by simp [u]
  have hcause : u.get (pgInst h i) F.INST_STATE_CAUSE = 2 := get_put_same _ _ _ _ (by decide)
  have hstate : u.instState h i = 3 := (get_put_apart _ _ _ (by decide) (by decide)).trans (setInstState_instState hi _ _)
  have hasked : KeepsFreeze h i u (u.askDone h i) :=
    (keepsFreeze_rfl u).of hi (by rw [State.askDone, inst_setInst_same]) (keepsRegs_of (setInst_regs u _))
  have hv : KeepsFreeze h i u v := keepsFreeze_ite ((hasked.instDone 2 1).otherHeldEnd hi) (keepsFreeze_rfl u)
  have hended : KeepsFreeze h i u w := keepsFreeze_ite (hv.instDone 1 0) hv
  have hsame : w.instState h i = v.instState h i := by
    simp only [w, State.whenB]
    split
    · exact instDone_get_off v 1 0 (by decide)
    · rfl
  have hnot : w.instState h i ≠ 2 := by
    rcases hended.state with heq | heq
    · rw [heq, hstate]
      decide
    · rw [heq]
      decide
  obtain ⟨hend, hlast⟩ := hended.hubBoundary hnot
  refine ⟨hend.cur.trans hcur, hend.cause.trans hcause, fun hask => ?_⟩
  have hvu : v = u := if_neg (by rw [hask]; decide)
  rw [hlast, hsame, hvu, hstate]

/-! ## Every INST of the half -/

/-- The record and the page of an INST are in `t` those of `s`. -/
structure KeepsInstance (h : Half) (i : Nat) (s t : State) : Prop where
  inst : t.inst h i = s.inst h i
  regs : KeepsRegs (fun p _ => p = pgInst h i) s t

theorem keepsInstance_rfl (s : State) : KeepsInstance h i s s := ⟨rfl, keepsRegs_of rfl⟩

theorem KeepsInstance.trans (hrs : KeepsInstance h i r s) (hst : KeepsInstance h i s t) : KeepsInstance h i r t :=
  ⟨hst.inst.trans hrs.inst, hrs.regs.trans hst.regs⟩

theorem KeepsInstance.get (hst : KeepsInstance h i s t) (hi : i < 64) (f : Fld) (hf : f.off < 0x10000) :
    t.get (pgInst h i) f = s.get (pgInst h i) f := congrArg f.ofWord (hst.regs _ _ (pgInst_code_lt hi) hf rfl)

theorem OnInstance.keepsInstance (hst : OnInstance j s t) (hij : i ≠ j) : KeepsInstance h i s t :=
  ⟨hst.others h i hij, hst.regs.mono fun p _ hp k => by rw [hp]; exact ⟨pgInst_ne hij, pgInst_ne_pgIns⟩⟩

theorem hostGone_spared (hno : ∀ i, i < 64 → s.get (pgInst h i) F.INST_CFG_VF = 0 ∨ s.instState h i = 3) : exec (.hostGone h) s = .next s := by
  rw [exec_hostGone, each_eq_self fun i hi => hostLost_spared (hno i (mem_upTo.mp hi))]

theorem hostGone_memEq (s : State) : MemEq s (s.each (upTo 64) fun i s => s.hostLost h i) :=
  each_keeps (P := MemEq s) (memEq_rfl s) fun _ hi t ht => ht.trans (hostLost_onInstance (mem_upTo.mp hi) t).mem

/-- Each INST of the half meets the loss of the host once, and the others leave it as it is before and after. -/
theorem hostGone_passes (hi : i < 64) (s : State) :
    ∃ u, KeepsInstance h i s u ∧ KeepsInstance h i (u.hostLost h i) (s.each (upTo 64) fun i s => s.hostLost h i) :=
  each_at keepsInstance_rfl KeepsInstance.trans (upTo_nodup 64) (mem_upTo.mpr hi)
    (fun _ hj hji t => (hostLost_onInstance (mem_upTo.mp hj) t).keepsInstance (Ne.symm hji)) s

theorem hostGone_freezes (hi : i < 64) (hvf : s.get (pgInst h i) F.INST_CFG_VF ≠ 0) :
    let t := s.each (upTo 64) fun i s => s.hostLost h i
    ((s.inst h i).asking = false → t.instState h i = 3) ∧
    (s.instState h i ≠ 3 → (t.inst h i).cur = none ∧ t.get (pgInst h i) F.INST_STATE_CAUSE = 2) := by
  intro t
  obtain ⟨u, hbefore, hafter⟩ := hostGone_passes (h := h) hi s
  have hstate : u.instState h i = s.instState h i := hbefore.get hi _ (by decide)
  have hvfs : u.get (pgInst h i) F.INST_CFG_VF = s.get (pgInst h i) F.INST_CFG_VF := hbefore.get hi _ (by decide)
  have hend : t.instState h i = (u.hostLost h i).instState h i := hafter.get hi _ (by decide)
  by_cases hst : s.instState h i = 3
  · refine ⟨fun _ => ?_, fun hne => absurd hst hne⟩
    rw [hend, hostLost_spared (.inr (hstate.trans hst)), hstate, hst]
  · obtain ⟨hcur, hcause, hfrozen⟩ := hostLost_freezes (s := u) hi (hvfs ▸ hvf) (hstate ▸ hst)
    refine ⟨fun hask => ?_, fun _ => ⟨?_, ?_⟩⟩
    · rw [hend, hfrozen (by rw [hbefore.inst, hask])]
    · rw [hafter.inst, hcur]
    · rw [hafter.get hi _ (by decide), hcause]

end
end Sys2Proof.Machine
end

section
/-! SUPPORT. The events of an INST (R240, R242 to R246): a COMMIT that copies and completes, a timeout, a lost host, and the effects of a twin. -/

namespace Sys2Proof.Machine

theorem exec_hubCommitCopy (h : Half) (i : Fin 64) (s : State) : exec (.hubCommitCopy h i) s = execHubCommitCopy h i s := rfl
theorem exec_hubCommitComplete (h : Half) (i : Fin 64) (s : State) : exec (.hubCommitComplete h i) s = execHubCommitComplete h i s := rfl
theorem exec_instanceTimeout (h : Half) (i : Fin 64) (s : State) : exec (.instanceTimeout h i) s = execInstanceTimeout h i s := rfl
theorem exec_twinEffect (h : Half) (i : Fin 64) (s : State) : exec (.twinEffect h i) s = execTwinEffect h i s := rfl
theorem exec_twinEffectAck (h : Half) (i : Fin 64) (s : State) : exec (.twinEffectAck h i) s = execTwinEffectAck h i s := rfl

section
variable {h : Half} {i : Fin 64} {s : State}

/-! ## A COMMIT -/

theorem hubCommitCopy_none (hcur : (s.inst h i).cur = none) : exec (.hubCommitCopy h i) s = .next s := by
  rw [exec_hubCommitCopy, execHubCommitCopy, hcur]

theorem hubCommitCopy_copies {c : HubCmd} (hcur : (s.inst h i).cur = some c) (hop : c.opcode = 3) (hwaits : c.copied = false) :
    exec (.hubCommitCopy h i) s = .next (s.commitCopy h i c) := by
  simp [exec_hubCommitCopy, execHubCommitCopy, hcur, hop, hwaits]

theorem hubCommitComplete_none (hcur : (s.inst h i).cur = none) (hrestore : (s.inst h i).restoring ≠ some []) :
    exec (.hubCommitComplete h i) s = .next s := by
  simp [exec_hubCommitComplete, execHubCommitComplete, hrestore, hcur]

theorem hubCommitComplete_completes {c : HubCmd} (hcur : (s.inst h i).cur = some c) (hrestore : (s.inst h i).restoring = none) (hop : c.opcode = 3)
    (hcopied : c.copied = true) (hlatched : c.waitPipes = []) (hawait : c.await = none) (hroom : s.hubWaits h i = false) :
    exec (.hubCommitComplete h i) s = .next (s.hubComplete h i { seq := c.seq, status := 0, opcode := 3, frame := c.frame, time := s.time % 2 ^ 32 } c.irq) := by
  simp [exec_hubCommitComplete, execHubCommitComplete, hrestore, hcur, hop, hcopied, hlatched, hawait, hroom]

/-! ## A timeout -/

theorem instanceTimeout_full (hfull : s.hubWaits h i = true) : exec (.instanceTimeout h i) s = .next s := by
  rw [exec_instanceTimeout, execInstanceTimeout, if_pos hfull]

theorem instanceTimeout_none (hcur : (s.inst h i).cur = none) (hbus : (s.inst h i).busReq = none) : exec (.instanceTimeout h i) s = .next s := by
  simp [exec_instanceTimeout, execInstanceTimeout, hcur, hbus]

/-- The INST whose read over PCIe does not come back: two free values were taken, its requests are cancelled, and CMD_HEAD counts the command. -/
def State.readCancelled (s : State) (h : Half) (i : Nat) : State :=
  let u := s.takeFree.2.takeFree.2
  let n := (u.reg (pgInsq h i) 0xC).toNat + 1
  ((u.setInst h i { u.inst h i with busReq := none, busTag := (u.inst h i).busTag + 1, busOut := [] }).setReg (pgInsq h i) 0xC
    (BitVec.ofNat 32 n)).mboxWrite h i 0xC (b4 (n % 2 ^ 32))

theorem instanceTimeout_read (hcur : (s.inst h i).cur = none) (hbus : (s.inst h i).busReq ≠ none) (hroom : s.hubWaits h i = false) :
    ∃ c, exec (.instanceTimeout h i) s = .next ((s.readCancelled h i).hubFinish h i c false) := by
  have hsome : ¬(s.inst h i).busReq.isNone = true := by rwa [Option.isNone_iff_eq_none]
  rw [exec_instanceTimeout, execInstanceTimeout, if_neg (by rw [hroom]; decide), hcur]
  exact ⟨_, if_neg hsome⟩

theorem readCancelled_head (s : State) (h : Half) (i : Fin 64) : (s.readCancelled h i).reg (pgInsq h i) 0xC = s.reg (pgInsq h i) 0xC + 1 := by
  unfold State.readCancelled
  extract_lets u n
  have hu : u.reg (pgInsq h i) 0xC = s.reg (pgInsq h i) 0xC := rfl
  rw [mboxWrite_insq i.isLt _ _ _ (by decide), reg_setReg_same, show n = (u.reg (pgInsq h i) 0xC).toNat + 1 from rfl, hu]
  simp [BitVec.ofNat_add]

/-- A command whose read had not come back is over too. -/
theorem instanceTimeout_reads (hcur : (s.inst h i).cur = none) (hbus : (s.inst h i).busReq ≠ none) (hroom : s.hubWaits h i = false) :
    Does (.instanceTimeout h i) s fun t => (t.inst h i).cur = none ∧ t.reg (pgInsq h i) 0xC = s.reg (pgInsq h i) 0xC + 1 := by
  obtain ⟨c, hexec⟩ := instanceTimeout_read hcur hbus hroom
  exact ⟨_, hexec, hubFinish_cur _ c false, (hubFinish_insq i.isLt _ c false (by decide)).trans (readCancelled_head s h i)⟩

/-- The completion record of a command in hand that runs out of time (R242). -/
def State.timeoutRecord (s : State) (c : HubCmd) : Completion := { seq := c.seq, status := 3, opcode := c.opcode, frame := 0, time := s.time % 2 ^ 32 }

section
variable {c : HubCmd} (hcur : (s.inst h i).cur = some c) (hroom : s.hubWaits h i = false)
include hcur hroom

theorem instanceTimeout_ends (hawait : c.await = none) : exec (.instanceTimeout h i) s = .next
    ((((s.setInst h i { s.inst h i with busOut := [] }).windowPut h i (s.timeoutRecord c)).forward h i (.done (s.timeoutRecord c))).hubFinish h i
      (s.timeoutRecord c) c.irq) := by
  simp [exec_instanceTimeout, execInstanceTimeout, hcur, hroom, hawait, State.timeoutRecord]

/-- A command that has been executed, and waits for the twin link. -/
theorem instanceTimeout_executed (hawait : c.await ≠ none) : exec (.instanceTimeout h i) s =
    .next ((s.setInst h i { s.inst h i with busOut := [] }).hubFinish h i (s.timeoutRecord c) c.irq) := by
  obtain ⟨r, hsome⟩ := Option.ne_none_iff_exists'.mp hawait
  simp [exec_instanceTimeout, execInstanceTimeout, hcur, hroom, hsome, State.timeoutRecord]

end

/-! ## Twin effects -/

theorem twinEffect_applies {x : TwinFx} {r : List TwinFx} (hfx : (s.inst h i).fx = x :: r) : exec (.twinEffect h i) s = .next
    ((s.setInst h i { s.inst h i with fx := r, fxSent := (s.inst h i).fxSent + 1 }).applyFx (Half.other h) i x) := by
  simp [exec_twinEffect, execTwinEffect, hfx]

theorem twinEffect_none (hfx : (s.inst h i).fx = []) : exec (.twinEffect h i) s = .next s := by
  simp [exec_twinEffect, execTwinEffect, hfx]

theorem twinEffectAck_none (hno : (s.inst h i).fxSent = 0 ∨ s.hubWaits h i = true) : exec (.twinEffectAck h i) s = .next s := by
  rcases hno with hsent | hfull
  · simp [exec_twinEffectAck, execTwinEffectAck, hsent]
  · simp [exec_twinEffectAck, execTwinEffectAck, hfull]

theorem twinEffectAck_counts (hsent : 1 < (s.inst h i).fxSent) (hroom : s.hubWaits h i = false) : exec (.twinEffectAck h i) s =
    .next (s.setInst h i { s.inst h i with fxSent := (s.inst h i).fxSent - 1 }) := by
  have hnone : (s.inst h i).fxSent ≠ 0 := by omega
  have hlast : (s.inst h i).fxSent ≠ 1 := by omega
  simp [exec_twinEffectAck, execTwinEffectAck, hroom, hnone, hlast]

/-- The last acknowledgement. -/
theorem twinEffectAck_completes {c : HubCmd} {r : Completion} (hsent : (s.inst h i).fxSent = 1) (hroom : s.hubWaits h i = false)
    (hfx : (s.inst h i).fx = []) (hwhole : (s.inst h i).wholeSent = false) (hcur : (s.inst h i).cur = some c) (hawait : c.await = some r) :
    exec (.twinEffectAck h i) s = .next ((s.setInst h i { s.inst h i with fxSent := 0 }).hubFinish h i r c.irq) := by
  simp [exec_twinEffectAck, execTwinEffectAck, hroom, hsent, hfx, hwhole, hcur, hawait]

end

/-- Settles O24, event by event. Which instances a lost host freezes (log entry 64), and that a THAW that waited for the other hub then ends while
that hub's own goes on (log entry 141), are the model's choices. -/
theorem instanceEvents : Obligations.InstanceEvents := by
  unfold Obligations.InstanceEvents
  exact ⟨fun h i s hcur => ⟨hubCommitCopy_none hcur, instanceTimeout_none hcur, hubCommitComplete_none hcur, instanceTimeout_reads hcur⟩,
    fun h i c s => hubCommitCopy_copies,
    fun h i c s => hubCommitComplete_completes,
    fun h i c s hcur => ⟨instanceTimeout_full, instanceTimeout_ends hcur, instanceTimeout_executed hcur⟩,
    fun h s => hostGone_spared,
    fun h s => ⟨_, exec_hostGone h s, (hostGone_memEq s).sameMem, fun i hi hvf => hostGone_freezes hi hvf⟩,
    fun h i x r s => twinEffect_applies,
    fun h i s => twinEffect_none,
    fun h i s => ⟨twinEffectAck_none, twinEffectAck_counts, fun c r => twinEffectAck_completes⟩⟩

end Sys2Proof.Machine
end

section
/-! SUPPORT. What a granted slot leaves of the slot counters (R264, R266): nothing that a burst does to the halves moves them. -/

namespace Sys2Proof.Machine

/-- The slot counters of the channels of both halves are in `t` those of `s`. -/
def KeepsSlots (s t : State) : Prop := ∀ k, (t.hs k).dram.slots = (s.hs k).dram.slots

theorem keepsSlots_rfl (s : State) : KeepsSlots s s := fun _ => rfl

section
variable {h : Half} {r s t : State}

theorem KeepsSlots.trans (hrs : KeepsSlots r s) (hst : KeepsSlots s t) : KeepsSlots r t := fun k => (hst k).trans (hrs k)

theorem KeepsSlots.of (hrs : KeepsSlots r s) (hhs : ∀ k, t.hs k = s.hs k) : KeepsSlots r t := fun k => by rw [hhs, hrs]

theorem KeepsSlots.setHs (hrs : KeepsSlots r s) {k : Half} {v : HalfSt} (hv : v.dram.slots = (s.hs k).dram.slots) : KeepsSlots r (s.setHs k v) :=
  fun x => by
    by_cases hx : x = k
    · rw [hx, hs_setHs_same, hv, hrs]
    · rw [hs_setHs_ne _ _ hx, hrs]

theorem KeepsSlots.put (hrs : KeepsSlots r s) (p : Pg) (f : Fld) (v : Nat) : KeepsSlots r (s.put p f v) := hrs.of (put_r_hs s p f v)

theorem keepsSlots_ite {c : Prop} [Decidable c] {u : State} (ht : KeepsSlots r t) (hu : KeepsSlots r u) : KeepsSlots r (if c then t else u) := by
  split <;> assumption

theorem KeepsSlots.whenB (hrs : KeepsSlots r s) {c : Bool} {f : State → State} (hf : KeepsSlots r (f s)) : KeepsSlots r (s.whenB c f) :=
  keepsSlots_ite hf hrs

theorem KeepsSlots.each (hrs : KeepsSlots r s) {α : Type} {xs : List α} {f : α → State → State} (hf : ∀ x t, KeepsSlots r t → KeepsSlots r (f x t)) :
    KeepsSlots r (s.each xs f) := each_keeps hrs fun x _ t ht => hf x t ht

theorem KeepsSlots.onlyPat (hrs : KeepsSlots r s) (ht : OnlyPat s t) : KeepsSlots r t := hrs.of fun k => by rw [ht.1]; cases k <;> rfl

/-! ## Writes to memory (R196 to R198, R215) -/

theorem KeepsSlots.refuse (hrs : KeepsSlots r s) (k : Half) (tag : Tag) (acc : AccKind) (b : Nat) : KeepsSlots r (s.refuse k tag acc b) :=
  hrs.of (refuse_hs k s tag acc b)

theorem KeepsSlots.noteRefusals (hrs : KeepsSlots r s) (k : Half) (tag : Tag) (acc : AccKind) (a n : Nat) :
    KeepsSlots r (s.noteRefusals k tag acc a n) := hrs.each fun _ _ ht => ht.refuse _ _ _ _

theorem KeepsSlots.setDirty (hrs : KeepsSlots r s) (k : Half) (l : List Nat) : KeepsSlots r (s.setDirty k l) := by
  have hset : KeepsSlots r (s.setHs k { s.hs k with dirty := l }) := hrs.setHs rfl
  exact hset.put _ _ _

theorem KeepsSlots.markDirty (hrs : KeepsSlots r s) (k : Half) (a n : Nat) : KeepsSlots r (s.markDirty k a n) := by
  unfold State.markDirty
  extract_lets gs v again s1
  have h1 : KeepsSlots r s1 := hrs.setHs rfl
  exact h1.setDirty _ _

theorem KeepsSlots.mirrorOut (hrs : KeepsSlots r s) (k : Half) (a : Nat) (bs : List Byte) : KeepsSlots r (s.mirrorOut k a bs) := by
  unfold State.mirrorOut
  split
  · exact hrs
  · refine keepsSlots_ite hrs (keepsSlots_ite (KeepsSlots.setHs ?_ rfl) (hrs.markDirty _ _ _))
    split
    · exact hrs.whenB (hrs.setHs rfl)
    · exact hrs

theorem KeepsSlots.storeBlock (hrs : KeepsSlots r s) (k : Half) (a : Nat) (bs : List Byte) : KeepsSlots r (s.storeBlock k a bs) := by
  have hspm (m : List Host.Cell) : KeepsSlots r (s.setSpm k m) := hrs.of (setSpm_r_hs s k m)
  exact keepsSlots_ite ((hrs.of (setDram_r_hs s k _)).mirrorOut _ _ _) ((hspm _).setHs rfl)

theorem KeepsSlots.writeAt (hrs : KeepsSlots r s) (k : Half) (tag : Tag) (a : Nat) (bs : List Byte) : KeepsSlots r (s.writeAt k tag a bs) :=
  hrs.each fun _ _ ht => keepsSlots_ite (ht.storeBlock _ _ _) (ht.refuse _ _ _ _)

/-! ## The caches of a hart (R220) -/

/-- A dirty line that waits for the twin link waits in the queue of the DRAM. -/
theorem KeepsSlots.l2Evict (hrs : KeepsSlots r s) (k : Half) (key : Nat) : KeepsSlots r (s.l2Evict k key) := by
  unfold State.l2Evict
  split
  · exact hrs
  · extract_lets tag v s1 d
    have h1 : KeepsSlots r s1 := hrs.setHs rfl
    exact keepsSlots_ite h1 (keepsSlots_ite (h1.setHs rfl) (h1.writeAt _ _ _ _))

theorem KeepsSlots.l2Fill (hrs : KeepsSlots r s) (k : Half) (cluster : Nat) (tag : Tag) (addr : Nat) (bytes : List Byte) (dirty : Bool) :
    KeepsSlots r (s.l2Fill k cluster tag addr bytes dirty) := by
  have hfree : KeepsSlots r s.takeFree.2 := hrs.of fun x => by cases x <;> rfl
  unfold State.l2Fill
  refine keepsSlots_ite hrs ?_
  cases s.l2Find k cluster tag.world addr with
  | some key => exact hrs.setHs rfl
  | none => exact (hfree.l2Evict _ _).setHs rfl

theorem KeepsSlots.hartFill (hrs : KeepsSlots r s) (k : Half) (n : Nat) (tag : Tag) (fetch : Bool) (addr : Nat) (bytes : List Byte) :
    KeepsSlots r (s.hartFill k n tag fetch addr bytes) := (hrs.l2Fill k _ tag addr bytes false).setHs rfl

theorem KeepsSlots.hartStored (hrs : KeepsSlots r s) (k : Half) (n : Nat) (tag : Tag) (addr : Nat) (bytes : List Byte) :
    KeepsSlots r (s.hartStored k n tag addr bytes) := by
  unfold State.hartStored
  split
  · exact hrs
  · exact hrs.setHs rfl

/-! ## The twin link and the supervisor -/

theorem KeepsSlots.supervises (hrs : KeepsSlots r s) (ht : Supervises s t) : KeepsSlots r t := fun k => by
  obtain ⟨stage, restart, irq, hk, -⟩ := ht.halves k
  rw [hk]
  exact hrs k

theorem KeepsSlots.saveNow (hrs : KeepsSlots r s) (k : Half) (i : Nat) : KeepsSlots r (s.saveNow k i) := by
  have hwrite := (hrs.setHs (v := { s.hs k with inst := tblSet (fun _ => {}) (s.hs k).inst i { s.inst k i with saving := false } }) rfl).writeAt k
    (s.tagOf k (pgInst k i)) (s.sblk k i) (s.stateBlock k i)
  exact ((((hwrite.put _ _ _).put _ _ _).put _ _ _).put _ _ _).of (raise_r_hs _ _)

theorem KeepsSlots.savesGo (hrs : KeepsSlots r s) (k : Half) : KeepsSlots r (s.savesGo k) :=
  hrs.each fun _ _ ht => keepsSlots_ite (ht.saveNow _ _) ht

theorem KeepsSlots.mirrorStore (hrs : KeepsSlots r s) (k : Half) (q : DReq) : KeepsSlots r (s.mirrorStore k q) :=
  keepsSlots_ite (hrs.writeAt _ _ _ _) (hrs.refuse _ _ _ _)

/-! ## The scans of the check-value units (R271) -/

theorem KeepsSlots.spmPort (hrs : KeepsSlots r s) (k : Half) (n : Nat) (port : Bool) (p : SpmPort) (errs : List SpmErr) :
    KeepsSlots r (s.spmPort k n port p errs) := by
  unfold State.spmPort
  extract_lets bad fixed data s1 unit s2 s3
  have h2 : KeepsSlots r s2 := (hrs.noteRefusals _ _ _ _ _).setHs rfl
  have h3 : KeepsSlots r s3 := h2.each fun _ _ ht => ht.put _ _ _
  exact keepsSlots_ite hrs (h3.each fun _ _ ht => (ht.put _ _ _).onlyPat (event_only _ _ _ _ _ _))

theorem spmCycle_portE_hs (s : State) (k : Half) (n : Nat) (p : SpmPort) (hread : p.write = none) (x : Half) :
    (s.spmCycle k n none (some p) []).hs x = (s.spmPort k n true p []).hs x := by
  have hstore (u : State) : u.spmStore k n p = u := by rw [State.spmStore, hread]
  cases x <;> simp only [State.spmCycle, State.spmShared, hstore] <;> rfl

/-- An engine reads at port E. -/
theorem KeepsSlots.spmEngine_read (hrs : KeepsSlots r s) (k : Half) (code a n : Nat) : KeepsSlots r (s.spmEngine k code a n none) :=
  (hrs.spmPort k _ true _ _).of (spmCycle_portE_hs s k _ _ rfl)

theorem KeepsSlots.cvuTaken (hrs : KeepsSlots r s) (k : Half) (n : Nat) (tag : Tag) (a crc : Nat) (c : Scan) :
    KeepsSlots r (s.cvuTaken k n tag a crc c) := by
  unfold State.cvuTaken
  extract_lets p refused s1 s2 s3
  have hread := keepsSlots_ite (c := (decide (dramSize ≤ a) && !refused) = true) (hrs.spmEngine_read k (0x50 + n) a 64)
    (hrs.noteRefusals k tag .read a 64)
  have h1 : KeepsSlots r s1 := hread.whenB (hread.put _ _ _)
  have h2 : KeepsSlots r s2 := h1.setHs rfl
  have h3 : KeepsSlots r s3 := (h2.put _ _ _).put _ _ _
  exact keepsSlots_ite ((h3.put _ _ _).setHs rfl) h3

/-! ## A granted slot -/

theorem dramTake_keepsSlots (s : State) (h : Half) (q : DReq) : KeepsSlots s (s.dramTake h q) := (keepsSlots_rfl s).setHs rfl

/-- The tag that a waiting request carries (R210). -/
def DReq.tag (q : DReq) : Tag := ⟨q.world, q.part, q.m, q.mirror⟩

/-- The state in which a waiting request has left the queue for its slot. -/
def State.unqueue (s : State) (h : Half) (q : DReq) : State :=
  (s.dramTake h q).setHs h { (s.dramTake h q).hs h with
    dram := { ((s.dramTake h q).hs h).dram with queue := ((s.dramTake h q).hs h).dram.queue.erase q } }

/-- The state in which a read of 64 bytes has come back. -/
def State.readBack (s : State) (h : Half) (bytes : List Byte) : State := s.setHs h { s.hs h with dram := { (s.hs h).dram with lastRead := bytes } }

section
variable {q : DReq}

theorem serve_pipe {p : Nat} (hpipe : q.pipe = some p) : s.serve h q = (s.unqueue h q).setPipe h p { (s.unqueue h q).pipe h p with
    granted := ((s.unqueue h q).pipe h p).granted ++ [{ q.chunk with bytes := (s.unqueue h q).bytesAt h q.tag .read q.addr 64 }] } := by
  simp only [State.serve, hpipe]
  rfl

theorem serve_write {bs : List Byte} (hpipe : q.pipe = none) (hwrite : q.write = some bs) : s.serve h q = match q.hart with
    | none => (s.unqueue h q).writeAt h q.tag q.addr bs
    | some n => ((s.unqueue h q).writeAt h q.tag q.addr bs).hartStored h n q.tag q.addr bs := by
  simp only [State.serve, hpipe, hwrite]
  rfl

theorem serve_read (hpipe : q.pipe = none) (hwrite : q.write = none) :
    ∃ bytes burst, (q.fetch = false → bytes = (s.unqueue h q).bytesAt h q.tag .read (q.addr / 64 * 64) 64) ∧ s.serve h q = match q.hart with
      | none => (s.unqueue h q).readBack h bytes
      | some n => ((s.unqueue h q).readBack h bytes).hartFill h n q.tag q.fetch q.addr burst := by
  simp only [State.serve, hpipe, hwrite]
  refine ⟨_, _, fun hfetch => ?_, rfl⟩
  rw [hfetch]
  cases q.hart <;> rfl

theorem unqueue_keepsSlots (s : State) (h : Half) (q : DReq) : KeepsSlots s (s.unqueue h q) := (dramTake_keepsSlots s h q).setHs rfl

theorem serve_keepsSlots (s : State) (h : Half) (q : DReq) : KeepsSlots s (s.serve h q) := by
  have htaken := unqueue_keepsSlots s h q
  cases hpipe : q.pipe with
  | some p =>
    rw [serve_pipe hpipe]
    exact htaken.setHs rfl
  | none =>
    cases hwrite : q.write with
    | some bs =>
      have hput := htaken.writeAt h q.tag q.addr bs
      rw [serve_write hpipe hwrite]
      cases q.hart with
      | none => exact hput
      | some n => exact hput.hartStored _ _ _ _ _
    | none =>
      obtain ⟨bytes, burst, -, hserve⟩ := serve_read (s := s) (h := h) hpipe hwrite
      have hback : KeepsSlots s ((s.unqueue h q).readBack h bytes) := htaken.setHs rfl
      rw [hserve]
      cases q.hart with
      | none => exact hback
      | some n => exact hback.hartFill _ _ _ _ _ _

end

theorem mirrorApply_keepsSlots (s : State) (h : Half) (q : DReq) : KeepsSlots s (s.mirrorApply h q) := by
  unfold State.mirrorApply
  extract_lets o s1 v s2
  have h1 : KeepsSlots s s1 := (dramTake_keepsSlots s h q).mirrorStore h q
  have h2 : KeepsSlots s s2 := h1.setHs rfl
  exact (h2.savesGo o).supervises (supervises_rfl _).syncCheck

/-- Whatever the grant serves, the slot counters stay where they are. -/
theorem slotGrant_keepsSlots (s : State) (h : Half) (q : DReq) : KeepsSlots s (s.slotGrant h q) := by
  have htake := dramTake_keepsSlots s h q
  unfold State.slotGrant
  extract_lets o
  split
  · exact serve_keepsSlots s h q
  · exact mirrorApply_keepsSlots s h q
  · exact htake.setHs rfl
  · exact (htake.mirrorStore h q).setHs rfl
  · exact htake.setHs rfl
  · exact htake.cvuTaken _ _ _ _ _ _

end
end Sys2Proof.Machine
end

section
/-! SUPPORT. A write that reaches DRAM whole (R196, R215): where every block is admitted, its bytes stand in DRAM and no other byte changes. -/

namespace Sys2Proof.Machine

section
variable {h : Half} {r s t : State} {a n : Nat} {bs : List Byte}

/-! ## What a block is admitted by -/

/-- A block is admitted in `t` as it is in `s`. -/
def AdmitsAlike (h : Half) (s t : State) : Prop := ∀ tag k b, t.admitBlock h tag k b = s.admitBlock h tag k b

theorem AdmitsAlike.trans (hrs : AdmitsAlike h r s) (hst : AdmitsAlike h s t) : AdmitsAlike h r t := fun tag k b => (hst tag k b).trans (hrs tag k b)

theorem admitsAlike_setHs (s : State) (v : HalfSt) : AdmitsAlike h s (s.setHs h v) := setHs_admitBlock s h v h

theorem admitsAlike_setDram (s : State) (m : List Host.Cell) : AdmitsAlike h s (s.setDram h m) := fun _ _ _ => by cases h <;> rfl

theorem admitsAlike_ite {c : Prop} [Decidable c] {u : State} (ht : AdmitsAlike h s t) (hu : AdmitsAlike h s u) :
    AdmitsAlike h s (if c then t else u) := by split <;> assumption

/-- TWN_STATUS admits no block: the regions, their sources, the region entries and the states of the scratchpads stand in other registers. -/
theorem admitsAlike_putDirty (s : State) (v : Nat) : AdmitsAlike h s (s.put (pgTwn h) F.TWN_STATUS_DIRTY v) := by
  intro tag k b
  have htwn (f : Fld) (hf : f.off ≠ 0) : (s.put (pgTwn h) F.TWN_STATUS_DIRTY v).get (pgTwn h) f = s.get (pgTwn h) f := get_put_off s _ v hf
  have hrgn (i w : Nat) : (s.put (pgTwn h) F.TWN_STATUS_DIRTY v).rgn h i w = s.rgn h i w := by
    refine reg_setReg_ne _ _ ?_
    simp only [Pg.key, pgWld, pgTwn, halfPg, F.TWN_STATUS_DIRTY]
    omega
  have hspm (m : Nat) : (s.put (pgTwn h) F.TWN_STATUS_DIRTY v).get (pgSpm h m) F.SPM_STATUS_STATE = s.get (pgSpm h m) F.SPM_STATUS_STATE := by
    refine get_put_reg s v ?_
    simp only [Pg.key, pgSpm, pgTwn, halfPg, F.TWN_STATUS_DIRTY, F.SPM_STATUS_STATE]
    omega
  have hregion : (s.put (pgTwn h) F.TWN_STATUS_DIRTY v).inMirror h b = s.inMirror h b := funext fun m => by
    have hlow (f : Fld) (hf : 0 < f.off) : (s.put (pgTwn h) F.TWN_STATUS_DIRTY v).get (pgTwn h) (f.at (8 * m)) = s.get (pgTwn h) (f.at (8 * m)) :=
      htwn _ (show f.off + 8 * m ≠ 0 by omega)
    have hbase : twnBase (s.put (pgTwn h) F.TWN_STATUS_DIRTY v) h m = twnBase s h m := by
      simp only [twnBase, hlow F.TWN_MREG_BASE_LO (by decide), hlow F.TWN_MREG_BASE_HI (by decide)]
    simp only [State.inMirror, hbase, flag_congr (hlow F.TWN_MREG_SZ_VALID (by decide)), hlow F.TWN_MREG_SZ_SIZE (by decide)]
  have hcovers : (s.put (pgTwn h) F.TWN_STATUS_DIRTY v).rgnCovers h b = s.rgnCovers h b := funext fun i => by simp only [State.rgnCovers, hrgn]
  have hentry : (s.put (pgTwn h) F.TWN_STATUS_DIRTY v).rgnAdmits h tag k = s.rgnAdmits h tag k := funext fun i => by simp only [State.rgnAdmits, hrgn]
  simp only [State.admitBlock, State.mirrorOf, State.mirrorSrc, hregion, hcovers, hentry, hspm, htwn F.TWN_MIR_SRC_SRC (by decide)]

theorem admitsAlike_mirrorOut (s : State) (a : Nat) (bs : List Byte) : AdmitsAlike h s (s.mirrorOut h a bs) := by
  have hrfl : AdmitsAlike h s s := fun _ _ _ => rfl
  unfold State.mirrorOut
  split
  · exact hrfl
  · refine admitsAlike_ite hrfl (admitsAlike_ite (AdmitsAlike.trans ?_ (admitsAlike_setHs _ _)) ?_)
    · split
      · exact admitsAlike_ite (admitsAlike_setHs _ _) hrfl
      · exact hrfl
    · exact ((admitsAlike_setHs _ _).trans (admitsAlike_setHs _ _)).trans (admitsAlike_putDirty _ _)

/-! ## The blocks of a write -/

theorem mem_blocksOf {b : Nat} : b ∈ blocksOf a n ↔ b % 64 = 0 ∧ a < b + 64 ∧ b < a + n ∧ 0 < n := by
  unfold blocksOf
  split
  next hn => simp [hn]
  next hn =>
    simp only [List.mem_map, List.mem_range]
    constructor
    · rintro ⟨i, hi, rfl⟩
      omega
    · rintro ⟨hmod, hlow, hhigh, hpos⟩
      exact ⟨b / 64 - a / 64, by omega, by omega⟩

/-- One block of a write takes the bytes of the write that lie in it. -/
theorem memByte_blockPart (m : List Host.Cell) {b : Nat} (hlow : a < b + 64) (hhigh : b < a + bs.length) (i : Nat) :
    memByte (memSetBytes m (blockPart a bs b).1 (blockPart a bs b).2) i =
      if (b ≤ i ∧ i < b + 64) ∧ a ≤ i ∧ i < a + bs.length then bs.getD (i - a) 0 else memByte m i := by
  have hlen : ((bs.drop (max a b - a)).take (min (a + bs.length) (b + 64) - max a b)).length = min (a + bs.length) (b + 64) - max a b := by
    rw [List.length_take, List.length_drop]
    omega
  show memByte (memSetBytes m (max a b) ((bs.drop (max a b - a)).take (min (a + bs.length) (b + 64) - max a b))) i = _
  rw [memByte_setBytes, hlen]
  by_cases hin : (b ≤ i ∧ i < b + 64) ∧ a ≤ i ∧ i < a + bs.length
  · have hplace : max a b - a + (i - max a b) = i - a := by omega
    rw [if_pos hin, if_pos (by omega), List.getD_eq_getElem?_getD, List.getElem?_take_of_lt (by omega), List.getElem?_drop, hplace,
      List.getD_eq_getElem?_getD]
  · rw [if_neg hin, if_neg (by omega)]

theorem storeBlock_dram {b : Nat} (hb : b < dramSize) (s : State) (bs : List Byte) :
    (s.storeBlock h b bs).dram h = memSetBytes (s.dram h) b bs ∧ AdmitsAlike h s (s.storeBlock h b bs) := by
  have hstore : s.storeBlock h b bs = (s.setDram h (memSetBytes (s.dram h) b bs)).mirrorOut h b bs := if_pos hb
  rw [hstore]
  refine ⟨?_, (admitsAlike_setDram s _).trans (admitsAlike_mirrorOut _ b bs)⟩
  rw [(mirrorOut_keepsOther h _ b bs).1.dram, dram_setDram_same]

/-- Blocks of a write, all admitted, in turn. -/
theorem each_storeBlock_dram (hfit : a + bs.length ≤ dramSize) {tag : Tag} {l : List Nat} (hl : ∀ b ∈ l, b ∈ blocksOf a bs.length) (s : State)
    (hadm : ∀ b ∈ l, s.admitBlock h tag .write b = true) (i : Nat) :
    memByte ((s.each l fun b s => if s.admitBlock h tag .write b then s.storeBlock h (blockPart a bs b).1 (blockPart a bs b).2
      else s.refuse h tag .write b).dram h) i =
      if (∃ b ∈ l, b ≤ i ∧ i < b + 64) ∧ a ≤ i ∧ i < a + bs.length then bs.getD (i - a) 0 else memByte (s.dram h) i := by
  induction l generalizing s with
  | nil => simp [State.each]
  | cons b l ih =>
    obtain ⟨-, hlow, hhigh, hpos⟩ := mem_blocksOf.mp (hl b List.mem_cons_self)
    have hlo : max a b < dramSize := by omega
    obtain ⟨hdram, halike⟩ := storeBlock_dram (h := h) hlo s (blockPart a bs b).2
    have hpart := memByte_blockPart (s.dram h) hlow hhigh i
    rw [State.each, List.foldl_cons, if_pos (hadm b List.mem_cons_self)]
    refine (ih (fun c hc => hl c (List.mem_cons_of_mem _ hc)) _ fun c hc => (halike tag .write c).trans (hadm c (List.mem_cons_of_mem _ hc))).trans ?_
    rw [hdram, show max a b = (blockPart a bs b).1 from rfl, hpart]
    by_cases hin : a ≤ i ∧ i < a + bs.length
    · simp only [hin, and_true, List.mem_cons, exists_eq_or_imp]
      by_cases hb : b ≤ i ∧ i < b + 64 <;> simp [hb]
    · simp only [hin, and_false, if_false]

/-- A write to DRAM that nothing refuses. -/
theorem writeAt_dram {tag : Tag} (hfit : a + bs.length ≤ dramSize) (hadm : s.refusals h tag .write a bs.length = []) (i : Nat) :
    memByte ((s.writeAt h tag a bs).dram h) i = if a ≤ i ∧ i < a + bs.length then bs.getD (i - a) 0 else memByte (s.dram h) i := by
  have hall : ∀ b ∈ blocksOf a bs.length, s.admitBlock h tag .write b = true := fun b hb => by
    simpa using List.filter_eq_nil_iff.mp hadm b hb
  rw [State.writeAt, each_storeBlock_dram hfit (fun _ => id) s hall]
  have hcover : a ≤ i ∧ i < a + bs.length → ∃ b ∈ blocksOf a bs.length, b ≤ i ∧ i < b + 64 := fun ⟨hlow, hhigh⟩ =>
    ⟨i / 64 * 64, mem_blocksOf.mpr (by omega), by omega, by omega⟩
  by_cases hin : a ≤ i ∧ i < a + bs.length
  · rw [if_pos ⟨hcover hin, hin⟩, if_pos hin]
  · rw [if_neg fun hand => hin hand.2, if_neg hin]

theorem writeAt_dram_bytes {tag : Tag} (hfit : a + bs.length ≤ dramSize) (hadm : s.refusals h tag .write a bs.length = []) :
    memBytes ((s.writeAt h tag a bs).dram h) a bs.length = bs := by
  refine (memBytes_congr (m' := memSetBytes (s.dram h) a bs) fun i _ _ => ?_).trans (memBytes_setBytes _ a bs)
  rw [writeAt_dram hfit hadm, memByte_setBytes]

end
end Sys2Proof.Machine
end

section
/-! SUPPORT. A half that goes on after its training or zero-fill (R387): no byte of any memory and nothing of the DRAM of either half changes. -/

namespace Sys2Proof.Machine

/-- Every memory and what the DRAM controllers of both halves hold are in `t` those of `s`. -/
structure KeepsDram (s t : State) : Prop where
  mem : MemEq s t
  units : ∀ k, (t.hs k).dram = (s.hs k).dram

theorem keepsDram_rfl (s : State) : KeepsDram s s := ⟨memEq_rfl s, fun _ => rfl⟩

section
variable {h : Half} {r s t : State}

theorem KeepsDram.trans (hrs : KeepsDram r s) (hst : KeepsDram s t) : KeepsDram r t :=
  ⟨hrs.mem.trans hst.mem, fun k => (hst.units k).trans (hrs.units k)⟩

theorem KeepsDram.of (hrs : KeepsDram r s) (hmem : MemEq s t) (hhs : ∀ k, t.hs k = s.hs k) : KeepsDram r t :=
  hrs.trans ⟨hmem, fun k => by rw [hhs]⟩

theorem KeepsDram.setHs (hrs : KeepsDram r s) {k : Half} {v : HalfSt} (hv : v.dram = (s.hs k).dram) : KeepsDram r (s.setHs k v) := by
  refine hrs.trans ⟨memEq_setHs s k v, fun x => ?_⟩
  by_cases hx : x = k
  · rw [hx, hs_setHs_same, hv]
  · rw [hs_setHs_ne _ _ hx]

theorem KeepsDram.put (hrs : KeepsDram r s) (p : Pg) (f : Fld) (v : Nat) : KeepsDram r (s.put p f v) := hrs.of (memEq_put s p f v) (put_r_hs s p f v)

theorem keepsDram_ite {c : Prop} [Decidable c] {u : State} (ht : KeepsDram r t) (hu : KeepsDram r u) : KeepsDram r (if c then t else u) := by
  split <;> assumption

theorem KeepsDram.supervises (hrs : KeepsDram r s) (ht : Supervises s t) : KeepsDram r t := by
  refine hrs.trans ⟨ht.mem, fun k => ?_⟩
  obtain ⟨stage, restart, irq, hk, -⟩ := ht.halves k
  rw [hk]

theorem KeepsDram.setHalfState (hrs : KeepsDram r s) (k : Half) (v : Nat) (why : ModeTrigger) : KeepsDram r (s.setHalfState k v why) := by
  have hput (f : Fld) : KeepsDram r ((s.put pgPair f v).refreshPairing why) := (hrs.put pgPair f v).supervises ((supervises_rfl _).refreshPairing why)
  cases k
  · exact hput F.PAIR_STATUS_A_STATE
  · exact hput F.PAIR_STATUS_B_STATE

theorem KeepsDram.catchupStart (hrs : KeepsDram r s) (k : Half) : KeepsDram r (s.catchupStart k) := by
  refine keepsDram_ite hrs ?_
  split
  · exact hrs
  · exact hrs.setHs rfl

theorem KeepsDram.twinSync (hrs : KeepsDram r s) (k : Half) : KeepsDram r (s.twinSync k) :=
  each_keeps hrs fun _ _ _ ht => keepsDram_ite (ht.setHs rfl) ht

theorem halfStarting_keepsDram (s : State) (h : Half) : KeepsDram s (s.halfStarting h) := by
  unfold State.halfStarting
  extract_lets o s1 s2 s3 v s4
  have h1 : KeepsDram s s1 := each_keeps (keepsDram_rfl s) fun p _ t ht => ht.of (memEq_rfl t) fun _ => rfl
  have h3 : KeepsDram s s3 := (h1.put _ _ _).setHalfState _ _ _
  have hasked : KeepsDram s (s3.setHs h { s3.hs h with armIrq := false }) := h3.setHs rfl
  have h4 : KeepsDram s s4 := keepsDram_ite (hasked.of (memEq_raise _ _) (raise_r_hs _ _)) h3
  exact (((h4.catchupStart h).catchupStart o).twinSync o).supervises (supervises_rfl _).syncCheck

theorem halfRelease_keepsDram (s : State) (h : Half) : KeepsDram s (s.halfRelease h) := by
  have hstart : KeepsDram s (s.setHs h { s.hs h with stage := .running, harts := (upTo 8).map fun n => (n, s.hartStart h) }) :=
    (keepsDram_rfl s).setHs rfl
  exact ((hstart.put _ _ _).put _ _ _).trans (halfStarting_keepsDram _ h)

theorem halfGo_keepsDram (s : State) (h : Half) : KeepsDram s (s.halfGo h) := by
  unfold State.halfGo
  extract_lets v s1
  have h1 : KeepsDram s s1 := keepsDram_ite ((keepsDram_rfl s).setHs rfl) (keepsDram_rfl s)
  exact keepsDram_ite (keepsDram_ite (h1.trans (halfRelease_keepsDram s1 h)) (h1.setHs rfl)) h1

/-- A half that neither trains nor fills does not go on. -/
theorem halfGo_elsewhere (htrain : (s.hs h).stage ≠ .training) (hfill : (s.hs h).stage ≠ .filling) : s.halfGo h = s := by
  simp [State.halfGo, htrain, hfill]

/-- A half whose fill is owed comes to the fill at most. -/
theorem halfGo_unfilled (hzero : (s.hs h).dram.zeroDone = false) : ∃ stage, s.halfGo h = s.setHs h { s.hs h with stage := stage } := by
  have hself : s = s.setHs h { s.hs h with stage := (s.hs h).stage } := by cases h <;> rfl
  by_cases htrain : (s.hs h).stage = .training ∧ (s.hs h).dram.trained = true
  · exact ⟨.filling, by simp [State.halfGo, htrain, hzero]⟩
  · refine ⟨(s.hs h).stage, Eq.trans ?_ hself⟩
    rw [not_and_or] at htrain
    rcases htrain with hno | hno <;> simp [State.halfGo, hno, hzero]

end
end Sys2Proof.Machine
end

section
/-! SUPPORT. The slots of a channel (R264 to R266) and its pages and refreshes (R260, R262). -/

namespace Sys2Proof.Machine

theorem exec_dramSlot (h : Half) (c : Fin 8) (busy : BitVec 16) (s : State) : exec (.dramSlot h c [] busy) s = execDramSlot h c [] busy s := rfl
theorem exec_bankIdleClose (h : Half) (c : Fin 8) (b : Fin 16) (s : State) : exec (.bankIdleClose h c b) s = execBankIdleClose h c b s := rfl
theorem exec_refreshDue (h : Half) (c : Fin 8) (b : Fin 16) (x : Bool) (s : State) : exec (.refreshDue h c b x) s = execRefreshDue h c b x s := rfl

theorem pgDmc_code_lt (h : Half) {k : Nat} (hk : k < 2) : (pgDmc h k).code < 0x10000 := show 0x60 + k < 0x10000 by omega

section
variable {h : Half} {c : Fin 8} {busy : BitVec 16} {s t : State}

/-! ## One slot -/

theorem slotNext_slots (s : State) (h : Half) (c : Nat) :
    tblGet (fun _ => 0) ((s.slotNext h c).hs h).dram.slots c = (tblGet (fun _ => 0) (s.hs h).dram.slots c + 1) % 1024 := by
  rw [State.slotNext, hs_setHs_same]
  exact tblGet_set_same _ _ _ _

/-- What a grant does to the slot counters is to move that of its channel by one. -/
theorem KeepsSlots.counter {u : State} {c : Nat} (ht : KeepsSlots (u.slotNext h c) t) :
    tblGet (fun _ => 0) (t.hs h).dram.slots c = (tblGet (fun _ => 0) (u.hs h).dram.slots c + 1) % 1024 := by
  rw [ht h, slotNext_slots]

theorem dramSlot_down (hdown : (s.hs h).dram.trained = false ∨ s.flag (pgDmc h (c / 4)) F.DMC_STATUS_SR = true) :
    exec (.dramSlot h c [] busy) s = .next s := by
  have hup : s.dramUp h c = false := by
    rcases hdown with htrained | hsr
    · simp [State.dramUp, htrained]
    · simp [State.dramUp, hsr]
  rw [exec_dramSlot, execDramSlot]
  exact if_pos (by rw [Bool.not_eq_true']; exact hup)

/-- The state after a refresh has been granted. -/
def State.refreshed (s : State) (h : Half) (k : Nat) (extra : Bool) : State :=
  let d := (s.hs h).dram
  s.setHs h { s.hs h with dram := { d with
    due := if extra then d.due else d.due.erase k, extra := if extra then d.extra.erase k else d.extra, openRows := tblErase k d.openRows } }

/-- The state after a piece of periodic training has been granted. -/
def State.retrained (s : State) (h : Half) (k : Nat) : State :=
  let u := s.setHs h { s.hs h with dram := { (s.hs h).dram with due := (s.hs h).dram.due.erase k } }
  if k < 136 then u else (u.put (pgDmc h (dueChan k / 4)) F.DMC_STATUS_DRIFT 1).alert

/-- What a channel does in a slot. -/
def State.slotDone (s : State) (h : Half) : Grant → State
  | .nothing => s
  | .refresh k extra => s.refreshed h k extra
  | .training k => s.retrained h k
  | .request q => s.slotGrant h q

theorem dramSlot_up (htrained : (s.hs h).dram.trained = true) (hsr : s.flag (pgDmc h (c / 4)) F.DMC_STATUS_SR = false) :
    exec (.dramSlot h c [] busy) s = .next ((s.slotNext h c).slotDone h (s.grant h c busy)) := by
  have hup : s.dramUp h c = true := by simp [State.dramUp, htrained, hsr]
  rw [exec_dramSlot, execDramSlot]
  simp only [State.each, List.foldl_nil, hup, Bool.not_true, Bool.false_eq_true, if_false]
  cases s.grant h c busy <;> rfl

/-! ### What each grant leaves -/

theorem slotNext_memEq (s : State) (h : Half) (c : Nat) : MemEq s (s.slotNext h c) := memEq_setHs s h _

theorem retrained_keepsSlots (s : State) (h : Half) (k : Nat) : KeepsSlots s (s.retrained h k) := by
  unfold State.retrained
  extract_lets v d u
  have hu : KeepsSlots s u := (keepsSlots_rfl s).setHs rfl
  have hput := hu.put (pgDmc h (dueChan k / 4)) F.DMC_STATUS_DRIFT 1
  exact keepsSlots_ite hu (hput.of fun x => by cases x <;> rfl)

theorem slotDone_keepsSlots (s : State) (h : Half) (g : Grant) : KeepsSlots s (s.slotDone h g) := by
  cases g with
  | nothing => exact keepsSlots_rfl s
  | refresh k extra => exact (keepsSlots_rfl s).setHs rfl
  | training k => exact retrained_keepsSlots s h k
  | request q => exact slotGrant_keepsSlots s h q

theorem retrained_due (s : State) (h : Half) (k : Nat) : ((s.retrained h k).hs h).dram.due = (s.hs h).dram.due.erase k := by
  unfold State.retrained
  extract_lets v d u
  have hu : (u.hs h).dram.due = (s.hs h).dram.due.erase k := by simp [u]
  split
  · exact hu
  · cases h <;> exact hu

theorem retrained_memEq (s : State) (h : Half) (k : Nat) : MemEq s (s.retrained h k) := by
  unfold State.retrained
  extract_lets v d u
  have hu : MemEq s u := memEq_setHs s h _
  split
  · exact hu
  · exact hu

/-- A drift that the training of the last channel cannot correct. -/
theorem retrained_drift {k : Nat} (hk : 136 ≤ k) (s : State) : (s.retrained h k).flag (pgDmc h (dueChan k / 4)) F.DMC_STATUS_DRIFT = true := by
  have hdmc : dueChan k / 4 < 2 := by
    rw [dueChan, if_neg (by omega)]
    omega
  unfold State.retrained
  extract_lets v d u
  rw [if_neg (by omega)]
  have halert (v : State) : v.alert.flag (pgDmc h (dueChan k / 4)) F.DMC_STATUS_DRIFT = v.flag (pgDmc h (dueChan k / 4)) F.DMC_STATUS_DRIFT := by
    have hput (v : State) (g : Fld) (x : Nat) (hg : g.off < 0x10000) :
        (v.put pgSvc g x).get (pgDmc h (dueChan k / 4)) F.DMC_STATUS_DRIFT = v.get (pgDmc h (dueChan k / 4)) F.DMC_STATUS_DRIFT :=
      get_put_page v x (by decide) (pgDmc_code_lt h hdmc) hg (by decide) (halfPg_ne_plinthPg _ _ _)
    exact flag_congr ((hput _ _ _ (by decide)).trans ((hput _ _ _ (by decide)).trans (hput _ _ _ (by decide))))
  rw [halert, flag_put_one _ _ _ (by decide) (by decide)]

/-! ### A request from the queue -/

/-- A request leaves the queue: nothing of the half changes but what its DRAM holds. -/
theorem unqueue_slotNext (s : State) (h : Half) (c : Nat) (q : DReq) :
    ∃ d, (s.slotNext h c).unqueue h q = s.setHs h { s.hs h with dram := d } := by
  refine ⟨(((s.slotNext h c).unqueue h q).hs h).dram, ?_⟩
  cases h <;> rfl

/-- What stands in the DRAM unit of a half changes no read and no admission. -/
theorem setHs_dram_bytesAt (s : State) (h : Half) (d : Dram) (tag : Tag) (k : AccKind) (a n : Nat) :
    (s.setHs h { s.hs h with dram := d }).bytesAt h tag k a n = s.bytesAt h tag k a n := by
  have hue (x : Nat) : (s.setHs h { s.hs h with dram := d }).spmUe h x = s.spmUe h x := by cases h <;> rfl
  simp only [State.bytesAt, State.byteAt, setHs_admitBlock, hue, setHs_r_dram, setHs_r_spm]

theorem setHs_refusals (s : State) (h : Half) (v : HalfSt) (tag : Tag) (k : AccKind) (a n : Nat) :
    (s.setHs h v).refusals h tag k a n = s.refusals h tag k a n := by simp only [State.refusals, setHs_admitBlock]

variable {q : DReq}

theorem slotGrant_queue (hsrc : q.source = .queue) : s.slotGrant h q = s.serve h q := by simp only [State.slotGrant, hsrc]

/-- A read that no hart waits for. -/
theorem slotGrant_read (c : Nat) (hsrc : q.source = .queue) (hpipe : q.pipe = none) (hwrite : q.write = none) (hhart : q.hart = none) (hfetch : q.fetch = false) :
    ∃ v, (s.slotNext h c).slotGrant h q = s.setHs h v ∧ v.dram.lastRead = s.bytesAt h q.tag .read (q.addr / 64 * 64) 64 := by
  obtain ⟨bytes, burst, hbytes, hserve⟩ := serve_read (s := s.slotNext h c) (h := h) hpipe hwrite
  obtain ⟨d, hd⟩ := unqueue_slotNext s h c q
  rw [hd, setHs_dram_bytesAt] at hbytes
  rw [slotGrant_queue hsrc, hserve, hhart, hd, hbytes hfetch]
  exact ⟨_, setHs_setHs _ _ _ _, rfl⟩

/-- A write that no hart issued. -/
theorem slotGrant_write (c : Nat) {bs : List Byte} (hsrc : q.source = .queue) (hpipe : q.pipe = none) (hwrite : q.write = some bs) (hhart : q.hart = none) :
    ∃ v, (s.slotNext h c).slotGrant h q = (s.setHs h v).writeAt h q.tag q.addr bs := by
  obtain ⟨d, hd⟩ := unqueue_slotNext s h c q
  rw [slotGrant_queue hsrc, serve_write hpipe hwrite, hhart, hd]
  exact ⟨_, rfl⟩

theorem slotGrant_stores (c : Nat) {bs : List Byte} (hsrc : q.source = .queue) (hpipe : q.pipe = none) (hwrite : q.write = some bs) (hhart : q.hart = none)
    (hfit : q.addr + bs.length ≤ dramSize) (hadm : s.refusals h q.tag .write q.addr bs.length = []) :
    memBytes (((s.slotNext h c).slotGrant h q).dram h) q.addr bs.length = bs ∧
      ∀ a, a < q.addr ∨ q.addr + bs.length ≤ a → memByte (((s.slotNext h c).slotGrant h q).dram h) a = memByte (s.dram h) a := by
  obtain ⟨v, hv⟩ := slotGrant_write (s := s) (h := h) c hsrc hpipe hwrite hhart
  have hadm' : (s.setHs h v).refusals h q.tag .write q.addr bs.length = [] := (setHs_refusals s h v _ _ _ _).trans hadm
  rw [hv]
  refine ⟨writeAt_dram_bytes hfit hadm', fun a ha => ?_⟩
  rw [writeAt_dram hfit hadm', if_neg (by omega), setHs_r_dram]

/-- A slot of a channel that is up. -/
theorem dramSlot_passes (htrained : (s.hs h).dram.trained = true) (hsr : s.flag (pgDmc h (c / 4)) F.DMC_STATUS_SR = false) :
    Does (.dramSlot h c [] busy) s fun t =>
      tblGet (fun _ => 0) (t.hs h).dram.slots c = (tblGet (fun _ => 0) (s.hs h).dram.slots c + 1) % 1024 ∧
      (s.grant h c busy = .nothing → SameMem s t ∧ t.regs = s.regs ∧ (t.hs h).dram.queue = (s.hs h).dram.queue) ∧
      (∀ k, s.grant h c busy = .training k → (136 ≤ k → t.flag (pgDmc h (dueChan k / 4)) F.DMC_STATUS_DRIFT = true) ∧
        (t.hs h).dram.due = (s.hs h).dram.due.erase k ∧ SameMem s t) ∧
      (∀ r, s.grant h c busy = .request r → r.source = .queue → r.pipe = none → r.write = none → r.hart = none → r.fetch = false → SameMem s t ∧
        t.regs = s.regs ∧ (t.hs h).dram.lastRead = s.bytesAt h r.tag .read (r.addr / 64 * 64) 64) ∧
      (∀ r bs, s.grant h c busy = .request r → r.source = .queue → r.pipe = none → r.write = some bs → r.hart = none → r.mirror = false →
        r.addr + bs.length ≤ dramSize → s.refusals h r.tag .write r.addr bs.length = [] →
        memBytes (t.dram h) r.addr bs.length = bs ∧ ∀ a, a < r.addr ∨ r.addr + bs.length ≤ a → memByte (t.dram h) a = memByte (s.dram h) a) := by
  refine ⟨_, dramSlot_up htrained hsr, (slotDone_keepsSlots _ h _).counter, fun hg => ?_, fun k hg => ?_, fun r hg hsrc hpipe hwrite hhart hfetch => ?_,
    fun r bs hg hsrc hpipe hwrite hhart _ hfit hadm => ?_⟩ <;> rw [hg]
  · refine ⟨(slotNext_memEq s h c).sameMem, setHs_regs _ _ _, ?_⟩
    show ((s.slotNext h c).hs h).dram.queue = _
    rw [State.slotNext, hs_setHs_same]
  · refine ⟨fun hk => retrained_drift hk _, (retrained_due _ h k).trans ?_, ((slotNext_memEq s h c).trans (retrained_memEq _ h k)).sameMem⟩
    rw [State.slotNext, hs_setHs_same]
  · obtain ⟨v, hv, hread⟩ := slotGrant_read (s := s) (h := h) c hsrc hpipe hwrite hhart hfetch
    show SameMem s ((s.slotNext h c).slotGrant h r) ∧ ((s.slotNext h c).slotGrant h r).regs = s.regs ∧ (((s.slotNext h c).slotGrant h r).hs h).dram.lastRead = _
    rw [hv, hs_setHs_same]
    exact ⟨(memEq_setHs s h v).sameMem, setHs_regs _ _ _, hread⟩
  · exact slotGrant_stores c hsrc hpipe hwrite hhart hfit hadm

/-! ## Pages and refreshes -/

theorem bankIdleClose_closes (b : Fin 16) (s : State) : Does (.bankIdleClose h c b) s fun t => t.regs = s.regs ∧ SameMem s t ∧
    (t.hs h).dram.openRows = tblErase (c.val * 16 + b.val) (s.hs h).dram.openRows ∧ (t.hs h).dram.queue = (s.hs h).dram.queue := by
  refine ⟨_, exec_bankIdleClose h c b s, setHs_regs _ _ _, (memEq_setHs _ _ _).sameMem, ?_, ?_⟩ <;> rw [hs_setHs_same]

/-- The banks that have asked for extra refresh since their last base refresh. -/
def hotAfter (hot : List Nat) (k : Nat) (x : Bool) : List Nat := if x then (if hot.contains k then hot else k :: hot) else hot.erase k

/-- The state in which a refresh is due of bank `k`, but for what HOT shows. -/
def State.refreshAsked (s : State) (h : Half) (k : Nat) (x : Bool) : State :=
  let d := (s.hs h).dram
  s.setHs h { s.hs h with dram := { d with
    openRows := tblErase k d.openRows,
    due := if x then d.due else d.due ++ [k],
    extra := if x then d.extra ++ [k] else d.extra,
    hot := hotAfter d.hot k x } }

theorem execRefreshDue_extra (b : Fin 16) (s : State) : execRefreshDue h c b true s =
    .next ((s.refreshAsked h (c.val * 16 + b.val) true).put (pgDmc h (c / 4)) F.DMC_STATUS_HOT 1) := rfl

theorem execRefreshDue_base (b : Fin 16) (s : State) : execRefreshDue h c b false s =
    .next (if !((s.hs h).dram.hot.contains (c.val * 16 + b.val)) &&
        !((hotAfter (s.hs h).dram.hot (c.val * 16 + b.val) false).any fun x => x / 64 = (c.val * 16 + b.val) / 64) then
      (s.refreshAsked h (c.val * 16 + b.val) false).put (pgDmc h (c / 4)) F.DMC_STATUS_HOT 0
    else s.refreshAsked h (c.val * 16 + b.val) false) := rfl

/-- The base refresh of a bank that did not ask for more ends HOT where no bank of the DMC still does (log entry 139). -/
theorem refreshDue_shows (b : Fin 16) (x : Bool) (s : State) : ∃ t, exec (.refreshDue h c b x) s = .next t ∧
    t.flag (pgDmc h (c / 4)) F.DMC_STATUS_HOT = (x || (s.flag (pgDmc h (c / 4)) F.DMC_STATUS_HOT && ((s.hs h).dram.hot.contains (c.val * 16 + b.val) ||
      ((s.hs h).dram.hot.erase (c.val * 16 + b.val)).any fun y => y / 64 = (c.val * 16 + b.val) / 64))) ∧
    t.hs h = (s.refreshAsked h (c.val * 16 + b.val) x).hs h ∧ SameMem s t := by
  have hmem : MemEq s (s.refreshAsked h (c.val * 16 + b.val) x) := memEq_setHs s h _
  cases x with
  | true => exact ⟨_, execRefreshDue_extra b s, flag_put_one _ _ _ (by decide) (by decide), put_r_hs _ _ _ _ _, (hmem.put _ _ _).sameMem⟩
  | false =>
    rw [exec_refreshDue, execRefreshDue_base]
    cases hcools : !((s.hs h).dram.hot.contains (c.val * 16 + b.val)) &&
        !((hotAfter (s.hs h).dram.hot (c.val * 16 + b.val) false).any fun x => x / 64 = (c.val * 16 + b.val) / 64)
    case' true => refine ⟨_, rfl, (flag_put_zero _ _ _ (by decide)).trans ?_, put_r_hs _ _ _ _ _, (hmem.put _ _ _).sameMem⟩
    case' false => refine ⟨_, rfl, (setHs_r_flag _ _ _ _ _).trans ?_, rfl, hmem.sameMem⟩
    all_goals
      rw [← Bool.not_or] at hcools
      simp only [hotAfter, Bool.false_eq_true, if_false] at hcools
      simp only [Bool.false_or]
    · rw [Bool.not_eq_false'] at hcools
      rw [hcools, Bool.and_true]
    · rw [Bool.not_eq_true'] at hcools
      rw [hcools, Bool.and_false]

end
end Sys2Proof.Machine
end

section
/-! SUPPORT. Training, zero-fill, table and priorities of the DRAM of a half (R261, R263, R267, R268). -/

namespace Sys2Proof.Machine

theorem exec_dramTrainingDone (h : Half) (failed : BitVec 8) (s : State) : exec (.dramTrainingDone h failed) s = execDramTrainingDone h failed s := rfl
theorem exec_periodicTraining (h : Half) (k : Fin 2) (x : Bool) (s : State) : exec (.periodicTraining h k x) s = execPeriodicTraining h k x s := rfl
theorem exec_dramZeroFillDone (h : Half) (g : Option (Fin 8)) (s : State) : exec (.dramZeroFillDone h g) s = execDramZeroFillDone h g s := rfl
theorem exec_slotTableSwitch (h : Half) (s : State) : exec (.slotTableSwitch h) s = execSlotTableSwitch h s := rfl
theorem exec_dmcBeWrite (rq : Requester) (n : Fin 2) (v : Word) (s : State) : exec (.dmcBeWrite rq n v) s = execDmcBeWrite rq n v s := rfl

section
variable {h : Half} {r s t : State}

/-! ## Fields of both DMCs -/

theorem pgDmc_key_ne (h : Half) {j k : Nat} (hj : j < 2) (hk : k < 2) (hjk : j ≠ k) (f g : Fld) (hf : f.off < 0x10000) (hg : g.off < 0x10000) :
    (pgDmc h j).key f.off ≠ (pgDmc h k).key g.off :=
  key_ne_of_page (pgDmc_code_lt h hk) (pgDmc_code_lt h hj) hg hf (halfPg_ne (by omega))

theorem putDmc_get_same (s : State) (h : Half) {f : Fld} (v : Nat) {k : Nat} (hk : k < 2) (hf : f.off < 0x10000) (hbits : f.lsb + f.width ≤ 32) :
    (s.putDmc h f v).get (pgDmc h k) f = v % 2 ^ f.width := by
  obtain rfl | rfl : k = 0 ∨ k = 1 := by omega
  · rw [State.putDmc, get_put_reg _ _ (pgDmc_key_ne h (by decide) (by decide) (by decide) f f hf hf), get_put_same _ _ _ _ hbits]
  · exact get_put_same _ _ _ _ hbits

theorem putDmc_get_apart (s : State) (h : Half) {f g : Fld} (v : Nat) {k : Nat} (hk : k < 2) (hf : f.off < 0x10000) (hg : g.off < 0x10000)
    (hbits : f.lsb + f.width ≤ 32) (hapart : f.apart g = true) : (s.putDmc h f v).get (pgDmc h k) g = s.get (pgDmc h k) g := by
  have hne {i j : Nat} (hi : i < 2) (hj : j < 2) (hij : i ≠ j) := pgDmc_key_ne h hi hj hij g f hg hf
  obtain rfl | rfl : k = 0 ∨ k = 1 := by omega
  · rw [State.putDmc, get_put_reg _ _ (hne (by decide) (by decide) (by decide)), get_put_apart _ _ _ hbits hapart]
  · rw [State.putDmc, get_put_apart _ _ _ hbits hapart, get_put_reg _ _ (hne (by decide) (by decide) (by decide))]

theorem putDmc_memEq (s : State) (h : Half) (f : Fld) (v : Nat) : MemEq s (s.putDmc h f v) := ((memEq_rfl s).put _ _ _).put _ _ _
@[simp] theorem putDmc_hs (s : State) (h : Half) (f : Fld) (v : Nat) (k : Half) : (s.putDmc h f v).hs k = s.hs k := by simp [State.putDmc]

/-! ## Training (R261) -/

/-- Does the half await the end of a training? -/
def State.trains (s : State) (h : Half) : Bool :=
  (!(s.hs h).dram.trained && (s.hs h).stage ≠ .held && (s.hs h).stage ≠ .reset && (s.hs h).stage ≠ .stopping) || (s.hs h).dram.retrain

theorem trains_iff : s.trains h = true ↔ ((s.hs h).dram.trained = false ∧ (s.hs h).stage ≠ .held ∧ (s.hs h).stage ≠ .reset ∧ (s.hs h).stage ≠ .stopping) ∨
    (s.hs h).dram.retrain = true := by
  simp only [State.trains, Bool.or_eq_true, Bool.and_eq_true, Bool.not_eq_true', decide_eq_true_eq, and_assoc]

/-- The state in which a training has succeeded, before the half goes on. -/
def State.trainedNow (s : State) (h : Half) : State :=
  let u := (s.setHs h { s.hs h with dram := { (s.hs h).dram with trained := true, retrain := false } }).putDmc h F.DMC_STATUS_SR 0
  let filling := !(s.hs h).dram.zeroDone || !(s.hs h).dram.unfilled.isEmpty
  (u.putDmc h F.DMC_STATUS_FILLING (if filling then 1 else 0)).putDmc h F.DMC_STATUS_READY (if filling then 0 else 1)

theorem dramTrainingDone_eq (failed : BitVec 8) (s : State) : exec (.dramTrainingDone h failed) s =
    .next (if s.trains h then (if failed ≠ 0 then s.trainFailed h failed else (s.trainedNow h).halfGo h) else s) := by
  rw [exec_dramTrainingDone, execDramTrainingDone]
  refine Eq.trans (if_congr (Bool.coe_iff_coe.mpr (Bool.not_or _ _).symm) rfl rfl) (b := if (!(s.trains h)) = true then .next s else
    if failed ≠ 0 then .next (s.trainFailed h failed) else .next ((s.trainedNow h).halfGo h)) ?_
  cases s.trains h with
  | false => rfl
  | true =>
    by_cases hfailed : failed = 0
    · rw [if_neg (by decide), if_neg (not_not_intro hfailed), if_pos rfl, if_neg (not_not_intro hfailed)]
    · rw [if_neg (by decide), if_pos hfailed, if_pos rfl, if_pos hfailed]

/-- One DMC takes note of the channels that failed. -/
def State.failShow (s : State) (h : Half) (k bits : Nat) : State :=
  if bits = 0 then s else (s.put (pgDmc h k) F.DMC_STATUS_TRAIN_FAIL bits).funcEvent (pgDmc h k) 0x03 (b1 bits)

theorem trainFailed_eq (s : State) (h : Half) (failed : BitVec 8) :
    s.trainFailed h failed = (s.failShow h 0 (failed.toNat % 16)).failShow h 1 (failed.toNat / 16) := by
  have hlast : failed.toNat / 16 ^ 1 % 16 = failed.toNat / 16 := by omega
  have hfirst : failed.toNat / 16 ^ 0 % 16 = failed.toNat % 16 := by omega
  rw [← hlast, ← hfirst]
  rfl

theorem failShow_memEq (s : State) (h : Half) (k bits : Nat) : MemEq s (s.failShow h k bits) := by
  unfold State.failShow
  split
  · exact memEq_rfl s
  · exact (memEq_put s _ _ _).trans (memEq_of_onlyPat (event_only _ _ _ _ _ _))

theorem failShow_hs (s : State) (h : Half) (k bits : Nat) (x : Half) : (s.failShow h k bits).hs x = s.hs x := by
  unfold State.failShow
  split
  · rfl
  · rw [State.funcEvent, (event_only _ _ _ _ _ _).1]
    cases x <;> rfl

theorem failShow_get_same (s : State) (h : Half) {k bits : Nat} (hk : k < 2) (hbits : bits ≠ 0) (hlt : bits < 16) :
    (s.failShow h k bits).get (pgDmc h k) F.DMC_STATUS_TRAIN_FAIL = bits := by
  rw [State.failShow, if_neg hbits, State.funcEvent, (event_only _ _ _ _ _ _).get (pgDmc_code_lt h hk) (by decide) (halfPg_ne_plinthPg _ _ _),
    get_put_same _ _ _ _ (by decide)]
  exact Nat.mod_eq_of_lt hlt

theorem failShow_get_other (s : State) (h : Half) {j k : Nat} (bits : Nat) (hj : j < 2) (hk : k < 2) (hjk : j ≠ k) :
    (s.failShow h k bits).get (pgDmc h j) F.DMC_STATUS_TRAIN_FAIL = s.get (pgDmc h j) F.DMC_STATUS_TRAIN_FAIL := by
  unfold State.failShow
  split
  · rfl
  · rw [State.funcEvent, (event_only _ _ _ _ _ _).get (pgDmc_code_lt h hj) (by decide) (halfPg_ne_plinthPg _ _ _),
      get_put_reg _ _ (pgDmc_key_ne h hj hk hjk _ _ (by decide) (by decide))]

theorem dramTrainingDone_not (failed : BitVec 8) (hno : s.trains h = false) : exec (.dramTrainingDone h failed) s = .next s := by
  rw [dramTrainingDone_eq, hno]
  rfl

theorem dramTrainingDone_fails {failed : BitVec 8} (htrains : s.trains h = true) (hfailed : failed ≠ 0) : Does (.dramTrainingDone h failed) s fun t =>
    (failed.toNat % 16 ≠ 0 → t.get (pgDmc h 0) F.DMC_STATUS_TRAIN_FAIL = failed.toNat % 16) ∧
    (failed.toNat / 16 ≠ 0 → t.get (pgDmc h 1) F.DMC_STATUS_TRAIN_FAIL = failed.toNat / 16) ∧ t.hs h = s.hs h ∧ SameMem s t := by
  refine ⟨s.trainFailed h failed, by rw [dramTrainingDone_eq, htrains, if_pos rfl, if_pos hfailed], ?_⟩
  rw [trainFailed_eq]
  refine ⟨fun hbits => ?_, fun hbits => failShow_get_same _ h (by decide) hbits (by omega), by rw [failShow_hs, failShow_hs],
    ((failShow_memEq s h _ _).trans (failShow_memEq _ h _ _)).sameMem⟩
  rw [failShow_get_other _ h _ (by decide) (by decide) (by decide), failShow_get_same _ h (by decide) hbits (by omega)]

theorem trainedNow_hs (s : State) (h : Half) : (s.trainedNow h).hs h = { s.hs h with dram := { (s.hs h).dram with trained := true, retrain := false } } := by
  simp [State.trainedNow]

theorem trainedNow_memEq (s : State) (h : Half) : MemEq s (s.trainedNow h) :=
  (((memEq_setHs s h _).trans (putDmc_memEq _ _ _ _)).trans (putDmc_memEq _ _ _ _)).trans (putDmc_memEq _ _ _ _)

/-- A half whose fill is owed shows it on both DMCs. -/
theorem trainedNow_shows (hzero : (s.hs h).dram.zeroDone = false) {k : Nat} (hk : k < 2) : (s.trainedNow h).flag (pgDmc h k) F.DMC_STATUS_SR = false ∧
    (s.trainedNow h).flag (pgDmc h k) F.DMC_STATUS_FILLING = true ∧ (s.trainedNow h).flag (pgDmc h k) F.DMC_STATUS_READY = false := by
  simp only [State.flag, State.trainedNow, hzero, Bool.not_false, Bool.true_or, if_true]
  refine ⟨?_, ?_, ?_⟩
  · rw [putDmc_get_apart _ h _ hk (by decide) (by decide) (by decide) (by decide), putDmc_get_apart _ h _ hk (by decide) (by decide) (by decide) (by decide),
      putDmc_get_same _ h _ hk (by decide) (by decide)]
    rfl
  · rw [putDmc_get_apart _ h _ hk (by decide) (by decide) (by decide) (by decide), putDmc_get_same _ h _ hk (by decide) (by decide)]
    rfl
  · rw [putDmc_get_same _ h _ hk (by decide) (by decide)]
    rfl

theorem dramTrainingDone_succeeds {failed : BitVec 8} (htrains : s.trains h = true) (hnone : failed = 0) (hzero : (s.hs h).dram.zeroDone = false) :
    Does (.dramTrainingDone h failed) s fun t =>
      t.flag (pgDmc h 0) F.DMC_STATUS_SR = false ∧ t.flag (pgDmc h 1) F.DMC_STATUS_SR = false ∧ t.flag (pgDmc h 0) F.DMC_STATUS_FILLING = true ∧
      t.flag (pgDmc h 1) F.DMC_STATUS_READY = false ∧ (t.hs h).dram.trained = true ∧ (t.hs h).dram.retrain = false ∧ SameMem s t := by
  obtain ⟨stage, hgo⟩ := halfGo_unfilled (s := s.trainedNow h) (h := h) (by rw [trainedNow_hs]; exact hzero)
  obtain ⟨hsr0, hfilling0, -⟩ := trainedNow_shows hzero (show 0 < 2 by decide)
  obtain ⟨hsr1, -, hready1⟩ := trainedNow_shows hzero (show 1 < 2 by decide)
  refine ⟨(s.trainedNow h).halfGo h, by rw [dramTrainingDone_eq, htrains, if_pos rfl, if_neg (not_not_intro hnone)], ?_⟩
  have hmem : SameMem s ((s.trainedNow h).halfGo h) := ((trainedNow_memEq s h).trans (halfGo_keepsDram _ h).mem).sameMem
  rw [hgo] at hmem ⊢
  refine ⟨(setHs_r_flag _ _ _ _ _).trans hsr0, (setHs_r_flag _ _ _ _ _).trans hsr1, (setHs_r_flag _ _ _ _ _).trans hfilling0,
    (setHs_r_flag _ _ _ _ _).trans hready1, ?_, ?_, hmem⟩ <;> simp only [hs_setHs_same, trainedNow_hs]

/-! ## Zero-fill (R263, R384) -/

theorem dramZeroFillDone_not (hno : (s.hs h).dram.zeroDone = true ∨ (s.hs h).dram.trained = false) : exec (.dramZeroFillDone h none) s = .next s := by
  rw [exec_dramZeroFillDone, execDramZeroFillDone]
  exact if_pos (by simpa using hno)

/-- Both DMCs show that nothing is left to fill. -/
def State.fillShown (s : State) (h : Half) : State := (s.putDmc h F.DMC_STATUS_FILLING 0).putDmc h F.DMC_STATUS_READY 1

theorem fillShown_memEq (s : State) (h : Half) : MemEq s (s.fillShown h) := (putDmc_memEq _ _ _ _).trans (putDmc_memEq _ _ _ _)
theorem fillShown_hs (s : State) (h k : Half) : (s.fillShown h).hs k = s.hs k := by simp [State.fillShown]

theorem fillShown_shows (s : State) (h : Half) {k : Nat} (hk : k < 2) : (s.fillShown h).flag (pgDmc h k) F.DMC_STATUS_READY = true ∧
    (s.fillShown h).flag (pgDmc h k) F.DMC_STATUS_FILLING = false := by
  have hready : (s.fillShown h).get (pgDmc h k) F.DMC_STATUS_READY = 1 := putDmc_get_same _ h 1 hk (by decide) (by decide)
  have hfilling : (s.fillShown h).get (pgDmc h k) F.DMC_STATUS_FILLING = 0 :=
    (putDmc_get_apart _ h _ hk (by decide) (by decide) (by decide) (by decide)).trans (putDmc_get_same _ h 0 hk (by decide) (by decide))
  simp [State.flag, hready, hfilling]

/-- The state in which the fill of all is done, before the half goes on. -/
def State.allFilled (s : State) (h : Half) : State :=
  ((s.setDram h []).setHs h { s.hs h with dram := { (s.hs h).dram with zeroDone := true, unfilled := [] } }).fillShown h

theorem allFilled_hs (s : State) (h : Half) : (s.allFilled h).hs h = { s.hs h with dram := { (s.hs h).dram with zeroDone := true, unfilled := [] } } := by
  rw [State.allFilled, fillShown_hs, hs_setHs_same]

theorem allFilled_dram (s : State) (h : Half) : (s.allFilled h).dram h = [] ∧ (s.allFilled h).dram (Half.other h) = s.dram (Half.other h) := by
  have hmem : MemEq (s.setDram h []) (s.allFilled h) := (memEq_setHs _ h _).trans (fillShown_memEq _ h)
  rw [hmem.dram, hmem.dram, dram_setDram_same]
  exact ⟨rfl, by cases h <;> rfl⟩

theorem dramZeroFillDone_fills (hzero : (s.hs h).dram.zeroDone = false) (htrained : (s.hs h).dram.trained = true) :
    Does (.dramZeroFillDone h none) s fun t => (∀ a, memByte (t.dram h) a = 0) ∧ t.dram (Half.other h) = s.dram (Half.other h) ∧
      (t.hs h).dram.zeroDone = true ∧ ((s.hs h).stage ≠ .training → (s.hs h).stage ≠ .filling →
        t.flag (pgDmc h 0) F.DMC_STATUS_READY = true ∧ t.flag (pgDmc h 0) F.DMC_STATUS_FILLING = false) := by
  obtain ⟨hmem, hunits⟩ := halfGo_keepsDram (s.allFilled h) h
  obtain ⟨hown, hother⟩ := allFilled_dram s h
  refine ⟨(s.allFilled h).halfGo h, ?_, fun a => ?_, (hmem.dram _).trans hother, ?_, fun htrain hfill => ?_⟩
  · rw [exec_dramZeroFillDone, execDramZeroFillDone]
    exact if_neg (by simp [hzero, htrained])
  · rw [hmem.dram, hown]
    rfl
  · rw [hunits, allFilled_hs]
  · rw [halfGo_elsewhere (by rw [allFilled_hs]; exact htrain) (by rw [allFilled_hs]; exact hfill)]
    exact fillShown_shows _ h (by decide)

theorem dramZeroFillDone_notSegment {g : Fin 8} (hno : (∀ m, (s.hs h).dram.unfilled.head? ≠ some (g.val, m)) ∨ (s.hs h).dram.trained = false ∨
    s.flag (pgDmc h 0) F.DMC_STATUS_SR = true) : exec (.dramZeroFillDone h (some g)) s = .next s := by
  rw [exec_dramZeroFillDone, execDramZeroFillDone]
  cases hlist : (s.hs h).dram.unfilled with
  | nil => rfl
  | cons x l =>
    have hwaits : x.1 ≠ g.val ∨ (s.hs h).dram.trained = false ∨ s.flag (pgDmc h 0) F.DMC_STATUS_SR = true :=
      hno.imp_left fun hhead hx => hhead x.2 (by rw [hlist, ← hx]; rfl)
    exact if_pos (by simpa [or_assoc] using hwaits)

theorem inSegment_iff {g mask a : Nat} : inSegment g mask a = true ↔ a / 2 ^ 31 % 8 = g ∧ mask.testBit (dramChan a / 4) = true := by
  rw [inSegment, Bool.and_eq_true, decide_eq_true_eq, dramSeg]

/-- The state in which a segment is filled, but for what the DMCs show. -/
def State.segFilled (s : State) (h : Half) (g mask : Nat) (rest : List (Nat × Nat)) : State :=
  (s.segClear h g mask).setHs h { s.hs h with dram := { (s.hs h).dram with unfilled := rest } }

theorem segFilled_byte (s : State) (h : Half) (g mask : Nat) (rest : List (Nat × Nat)) (a : Nat) :
    memByte ((s.segFilled h g mask rest).dram h) a = if inSegment g mask a then 0 else memByte (s.dram h) a := by
  rw [State.segFilled, setHs_r_dram, State.segClear, dram_setDram_same, memByte, tblGet, tblFind_keep]
  cases inSegment g mask a <;> rfl

theorem dramZeroFillDone_segment {g : Fin 8} {m : Nat} {rest : List (Nat × Nat)} (hlist : (s.hs h).dram.unfilled = (g.val, m) :: rest)
    (htrained : (s.hs h).dram.trained = true) (hsr : s.flag (pgDmc h 0) F.DMC_STATUS_SR = false) : exec (.dramZeroFillDone h (some g)) s =
      .next (if rest.isEmpty then (s.segFilled h g m rest).fillShown h else s.segFilled h g m rest) := by
  rw [exec_dramZeroFillDone, execDramZeroFillDone]
  simp only [hlist]
  exact if_neg (by simp [htrained, hsr])

theorem dramZeroFillDone_fillsSegment {g : Fin 8} {m : Nat} (hhead : (s.hs h).dram.unfilled.head? = some (g.val, m))
    (htrained : (s.hs h).dram.trained = true) (hsr : s.flag (pgDmc h 0) F.DMC_STATUS_SR = false) : Does (.dramZeroFillDone h (some g)) s fun t =>
      (∀ a, a / 2 ^ 31 % 8 = g.val → m.testBit (dramChan a / 4) = true → memByte (t.dram h) a = 0) ∧
      (∀ a, a / 2 ^ 31 % 8 ≠ g.val ∨ m.testBit (dramChan a / 4) = false → memByte (t.dram h) a = memByte (s.dram h) a) ∧
      (t.hs h).dram.unfilled = (s.hs h).dram.unfilled.tail := by
  obtain ⟨rest, hlist⟩ := List.head?_eq_some_iff.mp hhead
  have hshown : ∃ t, exec (.dramZeroFillDone h (some g)) s = .next t ∧ t.dram h = (s.segFilled h g m rest).dram h ∧ t.hs h = (s.segFilled h g m rest).hs h := by
    rw [dramZeroFillDone_segment hlist htrained hsr]
    split
    · exact ⟨_, rfl, (fillShown_memEq _ h).dram h, fillShown_hs _ h h⟩
    · exact ⟨_, rfl, rfl, rfl⟩
  obtain ⟨t, hexec, hdram, hhs⟩ := hshown
  refine ⟨t, hexec, fun a hseg hbit => ?_, fun a hout => ?_, ?_⟩
  · rw [hdram, segFilled_byte, if_pos (inSegment_iff.mpr ⟨hseg, hbit⟩)]
  · rw [hdram, segFilled_byte, if_neg]
    rw [inSegment_iff, not_and_or, Bool.not_eq_true]
    exact hout
  · rw [hhs, State.segFilled, hs_setHs_same, hlist]
    rfl

/-! ## The slot table and the best-effort priorities (R267, R268) -/

theorem slotTableSwitch_not (hslots : (s.hs h).dram.slots ≠ []) : exec (.slotTableSwitch h) s = .next s := by
  rw [exec_slotTableSwitch, execSlotTableSwitch, if_pos (by simpa using hslots)]

theorem slotTableSwitch_switches (hslots : (s.hs h).dram.slots = []) : Does (.slotTableSwitch h) s fun t =>
    (∀ k : Fin 2, t.get (pgDmc h k) F.DMC_STATUS_TABLE = (2 * s.tier + if s.inService .A ∧ s.inService .B then 0 else 1) % 16) ∧ SameMem s t := by
  refine ⟨s.putDmc h F.DMC_STATUS_TABLE s.tableFor, ?_, fun k => ?_, (putDmc_memEq _ _ _ _).sameMem⟩
  · rw [exec_slotTableSwitch, execSlotTableSwitch, hslots]
    rfl
  · rw [putDmc_get_same _ h _ k.isLt (by decide) (by decide), State.tableFor]
    simp only [Bool.and_eq_true]
    rfl

end

section
variable {rq : Requester} {n : Fin 2} {v : Word} {s : State} (hadm : Admitted rq (pgDmc rq.half 0) s)
include hadm

theorem dmcBeWrite_admitted : exec (.dmcBeWrite rq n v) s = .next (if n.val = 1 && 16 ≤ v.toNat then s.ack.unpredictable (pgDmc rq.half 0) 0x14
    else s.ack.setReg (pgDmc rq.half 0) (0x10 + 4 * n) v) := by
  rw [exec_dmcBeWrite, execDmcBeWrite, hostWrite_admitted hadm]
  split <;> rfl

theorem dmcBeWrite_reserved (hn : n.val = 1) (hv : 16 ≤ v.toNat) : exec (.dmcBeWrite rq n v) s = .next (s.ack.unpredictable (pgDmc rq.half 0) 0x14) := by
  rw [dmcBeWrite_admitted hadm, if_pos (by simp [hn, hv])]

theorem dmcBeWrite_takes (hv : n.val = 0 ∨ v.toNat < 16) :
    exec (.dmcBeWrite rq n v) s = .next (s.ack.setReg (pgDmc rq.half 0) (0x10 + 4 * n) v) := by
  rw [dmcBeWrite_admitted hadm, if_neg]
  simp only [Bool.and_eq_true, decide_eq_true_eq]
  omega

end

/-- Settles O27, command by command. The slot counter of each channel (log entry 35) and the end of HOT (log entry 139) are the model's choices. -/
theorem dramCommands : Obligations.DramCommands := by
  unfold Obligations.DramCommands
  refine ⟨fun h c busy s => ⟨dramSlot_down, dramSlot_passes⟩, fun h c b s => ⟨bankIdleClose_closes b s, fun x => ?_⟩, fun h failed s => ?_, fun h k x s => ?_,
    fun h s => ⟨dramZeroFillDone_not, dramZeroFillDone_fills, fun g => dramZeroFillDone_notSegment, fun g m => dramZeroFillDone_fillsSegment,
      slotTableSwitch_not, slotTableSwitch_switches⟩, fun rq n v s hadm => ⟨dmcBeWrite_reserved hadm, dmcBeWrite_takes hadm⟩⟩
  · obtain ⟨t, hexec, hhot, hhs, hmem⟩ := refreshDue_shows (h := h) (c := c) b x s
    refine ⟨t, hexec, hhot, ?_, ?_, ?_, ?_, hmem⟩ <;> rw [hhs, State.refreshAsked, hs_setHs_same]
    rfl
  · refine ⟨fun hfirst hretrain => dramTrainingDone_not failed ?_, fun htrains => dramTrainingDone_fails (trains_iff.mpr htrains),
      fun htrains => dramTrainingDone_succeeds (trains_iff.mpr htrains)⟩
    rw [Bool.eq_false_iff, ne_eq, trains_iff, hretrain]
    simpa using hfirst
  · refine ⟨fun htrained => ?_, fun htrained => ?_⟩ <;> simp only [exec_periodicTraining, execPeriodicTraining, htrained] <;> rfl

end Sys2Proof.Machine
end

section
/-! SUPPORT. A scratchpad memory whose first byte is nonzero while it is cleared on its way off (R255). -/

namespace Sys2Proof.Machine

theorem exec_spmOffClearDone (h : Half) (n : Fin 4) (s : State) : exec (.spmOffClearDone h n) s = execSpmOffClearDone h n s := rfl

/-- SPM0 of half A is in Clearing, and its byte 0 holds 1. -/
def clearingSpm : State := (State.reset.setSpm .A [(0, 1)]).setSpmState .A 0 spClearing

/-- The model clears that byte, as R255 says. -/
theorem clearingSpm_cleared : exec (.spmOffClearDone .A 0) clearingSpm = .next ((clearingSpm.setSpm .A []).setSpmState .A 0 spOff) := by
  have hstate : ¬clearingSpm.spmState .A (0 : Fin 4) ≠ spClearing := by decide
  have hbytes : memClear (clearingSpm.spm .A) ((0 : Fin 4) * spmBank) spmBank = [] := by decide
  rw [exec_spmOffClearDone, execSpmOffClearDone, if_neg hstate, hbytes]
  rfl

/-- Refutes O25: in the clauses that frame the other bytes of a scratchpad, `a` stands beside `n : Fin 4` alone and so is a `Fin 4` itself, and its
bounds are taken modulo 4, where 0x400000 is 0. They ask that bytes 0 to 3 stay whichever SPM is cleared, also SPM0, whose bytes they are: the end of
its clearing in `clearingSpm` takes byte 0 from 1 to 0. (Where `a` is a `Nat` the clauses are the words of the statement.) -/
theorem not_scratchpadMarches : ¬ Obligations.ScratchpadMarches := by
  rintro ⟨-, -, -, -, hclear⟩
  obtain ⟨t, hexec, -, -, hframe, -⟩ := (hclear .A 0 clearingSpm).2 (by decide)
  obtain rfl := Host.Outcome.next.inj (clearingSpm_cleared.symm.trans hexec)
  have hkept := hframe 0 (.inr (by decide))
  exact absurd hkept (by decide)

end Sys2Proof.Machine
end
